-- ==== Sys2Proof/Word.lean ====
section
/-! DEFINITION. The word types. Every register and general register is 64 bits wide (05_control_space.md, R143;
03_wygel_machine.md, R63); bytes are numbered from the least significant end (00_scope.md, R5). -/

namespace Sys2Proof

/-- A register's or a general register's 64 bits. -/
abbrev Word := BitVec 64

/-- One byte. -/
abbrev Byte := BitVec 8

end Sys2Proof
end

