-- ==== Sys2Proof/Syntax.lean ====
section
/-! DEFINITION. The commands of the block, one constructor a row of the opcode table (95_what_each_step_holds.md), with the types of
their operands. A Wygel instruction carries its thread and its fields; an event carries what came from outside. -/

namespace Sys2Proof

/-- The CXL channels (R312). -/
inductive Chan where
  | io | cache | mem
  deriving DecidableEq, Repr

/-- The meta value of a CXL.mem request (R407). -/
inductive Meta where
  | none | i | s | a | e
  deriving DecidableEq, Repr

/-- What a request asks for: the CXL.mem requests of R407 with their meta value and whether the snoop type is no-op; the
CXL.io requests of R320 and R502; the CXL.cache requests of a pass-through device. -/
inductive ReqOp where
  | memRdData
  | memRd (mv : Meta) (noSnoop : Bool)
  | memInv
  | memWr (mv : Meta)
  | memWrPtl
  | memClnEvct
  | ioRead
  | ioNonPosted
  | ioAtomic
  | ioPosted
  | cacheRead
  | cacheWrite
  deriving DecidableEq, Repr

/-- A request as it arrives on a port: channel and kind, address, length in bytes, the sender's tag, the data with its
poison; for CXL.io from a host the virtual bridge its address routes to, for CXL.cache the device's CacheID (R229), and from a
device behind a downstream port its logical device; and the bytes of a TLP's header, prefixes and OHC beyond the first 16
(R303). -/
structure HostReq where
  op : ReqOp
  addr : Nat
  len : Nat
  tag : Nat
  data : Nat
  poison : Bool
  vb : Nat
  extra : Nat
  deriving DecidableEq, Repr

/-- A message that arrives on a port (R24): a request, the response to a request this device sent (its own tag, and for a
CXL.io completion its header's bytes beyond the first 16), a CXL.io completion with status Unsupported Request, or the host's configuration write that enables or disables back-invalidate on
its pool device (R405) or downstream port containment of a virtual bridge (R246); viral from a logical device behind a downstream
port (R225); the host's reads of the pool device's CDAT (R237), of its dynamic capacity configuration (R231), of the slot
capability of a virtual bridge (R249), of the Service Function's configuration (R438), and of a fold's BAR0 (R441). -/
inductive PortMsg where
  | request (r : HostReq)
  | response (tag : Nat) (data : Nat) (poison : Bool) (extra : Nat)
  | unsupported (tag : Nat)
  | biEnable (on : Bool)
  | dpcEnable (vb : Nat) (on : Bool)
  /-- A directory-coordination or migration message of a reserved type (R380, R432). -/
  | reserved (typ : Nat)
  | viral (ld : Nat)
  | cdatRead
  | dcConfiguration
  | slotCapability (vb : Nat)
  | serviceFunction
  | vfRead (fold off : Nat) (quad : Bool)
  deriving DecidableEq, Repr

/-- The answer of a host to a back-invalidate snoop (R411). -/
inductive BIRsp where
  | i | s | e
  deriving DecidableEq, Repr

/-- What a message's words read as when they leave the buffer: whole, with `n` uncorrectable data words, or with an
uncorrectable header or tag word (R323, R324). -/
inductive CellState where
  | whole
  | words (n : Nat)
  | header
  deriving DecidableEq, Repr

/-- How a stored word reads (R522, R528, R530): good, corrected (the bit, or 0xFF for two bits), or uncorrectable. -/
inductive WordRead where
  | good
  | corrected (bit : Nat)
  | uncorrectable
  deriving DecidableEq, Repr

/-- A stored word that an access reads: a way of the line's directory set, the field's table word, or the sward's. -/
inductive TableWord where
  | dirWay (w : Fin 16)
  | field
  | sward
  deriving DecidableEq, Repr

/-- An error a message meets on its way: of a table word it reads (R528, R530), of a word of the fabric die's datapath found
by a unit at a stage (R524), or a second retry of one flit on a die-to-die crossing (R13). -/
inductive PathErr where
  | table (t : TableWord) (r : WordRead)
  | datapath (unit : Fin 412) (stage : Nat)
  | retry (die : Fin 8)
  deriving DecidableEq, Repr


/-- The link header of a Thatchlink flit (R268); its bits [47:45] are zero. -/
structure TlkHeader where
  kind : BitVec 3
  replay : Bool
  vc : BitVec 3
  pool : Bool
  seq : BitVec 10
  ack : BitVec 10
  ackV : Bool
  xoff : BitVec 8
  notice : BitVec 3
  countdown : BitVec 4
  cont : Bool
  deriving DecidableEq, Repr

/-- A piece of a message in a DATA payload (R271, R272): TYPE, LEN and POISON of its prefix, the first byte of the body it
carries and how many; a piece from byte 0 on carries the prefix. -/
structure TlkPart where
  typ : Nat
  len : Nat
  poison : Bool
  first : Nat
  count : Nat
  deriving DecidableEq, Repr

/-- A record of a CONTROL flit (R273). -/
inductive TlkRecord where
  | nak (seq : Nat)
  | credit (vc limit ack : Nat) (ackV : Bool)
  | ping (id tag : Nat)
  | pong (id tag : Nat)
  | init (version pool : Nat) (strict : Bool)
  | resume (seq : Nat)
  deriving DecidableEq, Repr

/-- What a link partner asks of a port's power state (R203): L0p at a width, ASPM L1, or PCI-PM L1. -/
inductive LinkPm where
  | l0p (width : Nat)
  | aspmL1
  | pciPmL1
  deriving DecidableEq, Repr

/-- A sample of a slot channel (R568): current in mA, signed; V_OUT, the two feeds and V_BUS in mV; the mean power of
the last 200 samples in mW (R592); and whether its report needed a second retry on the slot power die's interface (R13). -/
structure SlotSample where
  ma : BitVec 16
  vout : BitVec 16
  va : BitVec 16
  vb : BitVec 16
  vbus : BitVec 16
  power : BitVec 32
  retried : Bool
  deriving DecidableEq, Repr

/-- An extent as a host or the manager names it: its first GiB of device physical address, and its length in GiB. -/
structure ExtentRef where
  dpaGib : BitVec 20
  len : BitVec 20
  deriving DecidableEq, Repr

/-- For what a migration starts (R388, R385, R392, R461): the front candidate of tiering, the GATHER under way, the drain of a
device, or a manager's MIGRATE job. -/
inductive MigrFor where
  | tier | gather
  | drain (v : Fin 256)
  | job (id : Nat)
  deriving DecidableEq, Repr

/-- What bring-up finds on a port's lanes (R175 to R177): the physical lanes (from the port's lowest) that train, reversal, the
lane-to-lane skew in ns, and the lanes with inverted polarity. -/
structure LaneTraining where
  lanes : BitVec 16
  reversed : Bool
  skew : Nat
  polInv : BitVec 16
  deriving DecidableEq, Repr

/-- What it finds of rates and equalisation (R174, R179 to R181): the partner's highest rate code, whether the partner advertises
equalisation bypass and agrees to reuse coefficients, each failed equalisation attempt by its rate code, and the lanes whose
figure of merit stayed low. -/
structure EqTraining where
  rate : BitVec 3
  bypass : Bool
  reuse : Bool
  eqFailed : List (BitVec 3)
  lowMerit : BitVec 16
  deriving DecidableEq, Repr

/-- What the partner is (the codes of CXP_LINK_STAT.PARTNER), and whether it offers latency-optimised flits and uses CXL.cache
(R219 to R224). -/
structure PartnerKind where
  partner : BitVec 3
  lo : Bool
  cache : Bool
  deriving DecidableEq, Repr

/-- What the partner offers in alternate protocol negotiation (R264): vendor ID, protocol and version. -/
structure AltProtocol where
  vendor : BitVec 16
  protocol : BitVec 8
  version : BitVec 4
  deriving DecidableEq, Repr

/-- What bring-up hears from the partner. -/
structure LinkOffer extends PartnerKind, AltProtocol
  deriving DecidableEq, Repr

/-- What bring-up finds on a port's lanes and hears from its partner. -/
structure LinkTraining extends LaneTraining, EqTraining, LinkOffer
  deriving DecidableEq, Repr

/-- A flit slot of a CXL port: whether the link's credits block non-posted CXL.io requests (R316), and whether the flit crossed to
its Eave die only with a second retry (R13). -/
structure SlotLink where
  npBlocked : Bool
  retried : Bool
  deriving DecidableEq, Repr

/-- An Ethernet line (R605): up or down, the partner's rate by its SPEED code, and the uncorrectable codewords counted since the
last report. -/
structure EthLine where
  up : Bool
  rate : Fin 3
  fec : BitVec 16
  deriving DecidableEq, Repr

/-- A supply feed of a slot. -/
inductive Feed where
  | a | b
  deriving DecidableEq, Repr

/-- The frame and packet a message comes in (R605, R606): its 802.1Q tag's VLAN identifier if it has a tag, the MAC address it
goes to (most significant byte first), the IPv6 address it goes to (byte 0 in bits 7:0, as R634 holds addresses), and whether
it is a fragment. -/
structure EthFrame where
  vlan : Option (BitVec 12)
  mac : BitVec 48
  dest : BitVec 128
  fragment : Bool
  deriving DecidableEq, Repr

/-- How a Fabric Control Protocol message arrives (R605, R608): on which Ethernet port, whether in the port's secured
channel, whether a flit of it needed a second retry on the gable die's interface (R13), and in what frame. -/
structure FcpFrom where
  port : Fin 2
  secured : Bool
  retried : Bool
  frame : EthFrame
  deriving DecidableEq, Repr

/-- Who writes a register (R143, R441): a manager thread, or the host of a fold through its BAR0. -/
inductive RegFrom where
  | manager (t : Fin 64)
  | host (f : Fin 256)
  deriving DecidableEq, Repr

/-- The data-mover work a chunk belongs to: a descriptor's entry by its number (R455), the migration of a slot (R389), or the
zero-fill of a frame, or sward frame, of a device (R382). -/
inductive ChunkOf where
  | entry (id : Nat)
  | copy (k : Fin 64)
  | fill (v : Fin 256) (sward : Bool) (n : BitVec 33)
  deriving DecidableEq, Repr

/-- The commands, in the order of the opcode table but for the instructions of the Wygel machine, which come last. -/
inductive Instr where
  /-- TIME_OF_DAY (R29): Fabric Control Protocol message naming the TAI second of a coming RT_PPS edge; accepted or refused,
  possibly setting TOD_ERR. -/
  | timeOfDay (via : FcpFrom) (session seq : BitVec 32) (second lead : Word)
  /-- RT_PPS_EDGE (R29): Rising edge of RT_PPS marks a whole TAI second and advances the device's held count of seconds. -/
  | rtPpsEdge
  /-- SOURCE_UPDATE (R32): A source update (PTP exchange or pin edge) gives a measured offset used by the lock test and
  frequency correction. -/
  | sourceUpdate (offset : BitVec 64)
  /-- LOCK_TEST_PASS (R32): LOCK_COUNT consecutive steady updates pass the lock test, taking ACQUIRING or HOLDOVER to LOCKED
  or LOST. -/
  | lockTestPass
  /-- TIME_SOURCE_LOST (R30): Announce timeout, a missing or misplaced RT_PPS edge, or a stopped RT_REF makes the source lost
  and LOCKED enter HOLDOVER. -/
  | timeSourceLost
  /-- SOURCE_PRESENT (R31): In LOST, the source becomes present and acquisition starts. -/
  | sourcePresent
  /-- HOLDOVER_LIMIT (R31): The holdover count reaches HOLDOVER_LIMIT; pending commits are cancelled with NOTIME and the time
  unit enters LOST. -/
  | holdoverLimit
  /-- SRC_WRITE (R31): A write of TIM_CTRL.SRC starts, restarts or abandons acquisition, or returns the time unit to UNSET.
  -/
  | srcWrite (v : BitVec 2)
  /-- COMMIT_LOAD (R43): Loads the writes of every commit at T into the inactive copies, once the previous instant's resync
  has ended. -/
  | commitLoad
  /-- COMMIT_INSTANT (R43): At instant T the epoch bit flips and the inactive copies become active. -/
  | commitInstant
  /-- EPOCH_DRAINED (R43): The count of old-epoch requests reaches zero and resync of the now-inactive copies starts. -/
  | epochDrained
  /-- RESYNC_END (R43): Resync ends and each set at T becomes FREE with status APPLIED. -/
  | resyncEnd
  /-- EPOCH_DRAIN (R44): An old-epoch request still outstanding 32 swaths after T is completed and a UC-C EPOCH_DRAIN fault
  raised. -/
  | epochDrain (tag : Nat)
  /-- COMMIT_CANCEL (R42): A manager write of TIM_COMMIT_STAT.CANCEL withdraws the latest pending commit if at least 2 swaths
  remain. -/
  | commitCancel (n : Fin 16)
  /-- THREAD_WAKE (R61): The condition a WAIT thread awaits (event, message, access answer) is met and it returns to RUN. -/
  | threadWake (t : Fin 64)
  /-- WAT_EXPIRE (R123): The instant of a WAT arrives and the thread resumes with g[rd] = NOW. -/
  | watExpire (t : Fin 64)
  /-- EVW_DEADLINE (R121): An EVW deadline passes with no enabled event; the thread resumes with C = 1. -/
  | evwDeadline (t : Fin 64)
  /-- CSBUS_TIMEOUT (R73): A control-space access unanswered for 10 µs raises CSBUS. -/
  | csbusTimeout (t : Fin 64)
  /-- POOL_ACCESS_TIMEOUT (R74): A pool aperture read not completed within 32 µs raises POISON. -/
  | poolAccessTimeout (tag : Nat)
  /-- LIMIT (R76): A fold thread runs past FOLD_RUN_LIMIT and takes exception LIMIT. -/
  | limit (t : Fin 64)
  /-- KILL (R62): A write of WGL_THR_CTRL.KILL ends a thread at its next instruction boundary. -/
  | kill (t : Fin 64)
  /-- UPDATE_TIMEOUT (R93): A hot update not fully parked within UPDATE_LIMIT aborts with TIMEOUT. -/
  | updateTimeout
  /-- IMAGE_DATA (R613): A segment of an image load arrives over the Fabric Control Protocol. -/
  | imageData (via : FcpFrom) (session seq offset total : BitVec 32) (bytes : List Byte)
  /-- IMAGE_LOAD (R87): A received image is checked, verified, allocated and started, with the load status replied. -/
  | imageLoad
  /-- IMAGE_UNLOAD (R89): Unloads a manager image with no live thread and frees its pages. -/
  | imageUnload (via : FcpFrom) (session seq imageId : BitVec 32)
  /-- FOLD_PROG_START (R466): A host write of START asks to load and run a fold program. -/
  | foldProgStart (f : Fin 256)
  /-- FOLD_IMAGE_FETCHED (R90): The fold image fetched from host memory arrives and is loaded with the fold key. -/
  | foldImageFetched (f : Fin 256) (bytes : Option (List Byte))
  /-- ENGINE_DRAIN (R94): A write of DRAIN puts an engine into DRAINING, or a RESERVE engine OUT. -/
  | engineDrain (e : Fin 16)
  /-- THREAD_MOVE (R94): A thread on a draining engine moves to a free context at a boundary with nothing outstanding. -/
  | threadMove (t : Fin 64)
  /-- ENGINE_FAULT (R96): An uncorrectable engine core fault faults its threads, makes it OUT and promotes a reserve engine.
  -/
  | engineFault (e : Fin 16)
  /-- ENGINE_RETURN (R96): A write of RETURN starts the self-test of an OUT engine. -/
  | engineReturn (e : Fin 16)
  /-- SELF_TEST_DONE (R96): The engine self-test ends, returning it to RESERVE or setting RETURN_FAIL. -/
  | selfTestDone (e : Fin 16) (pass : Bool)
  /-- MBOX (R614): A mailbox message to a loaded image is queued for MRCV and raises event MBOX. -/
  | mbox (via : FcpFrom) (session seq imageId : BitVec 32) (channel : BitVec 8) (bytes : List Byte)
  /-- MBOX_ACK (R614): The manager acknowledges a device MBOX, removing it from the transmit queue. -/
  | mboxAck (via : FcpFrom) (session seq ackSeq : BitVec 32)
  /-- MBOX_RESEND (R614): An unacknowledged device MBOX is resent every 1 ms, and dropped after four. -/
  | mboxResend (mailSeq : BitVec 32)
  /-- REGISTER_WRITE (R143): A write to a register that has no row of its own, obeying access codes, locks and staging. -/
  | registerWrite (from_ : RegFrom) (log : Fin 4) (addr : BitVec 48) (value : Word)
  /-- REFCLK_LOSS (R173): A lane reference pair stops for 1 µs; its quadrant's up ports go down with cause REFCLK. -/
  | refclkLoss (q : Fin 32)
  /-- REFCLK_RESTORED (R173): The reference pair runs 1 ms without a gap and bring-up may restart. -/
  | refclkRestored (q : Fin 32)
  /-- RECEIVER_DETECTION (R245): Receiver detection is repeated on a TRAINING port until a receiver is found. -/
  | receiverDetection (p : Fin 128)
  /-- TRAINING_DONE (R178): Bring-up completes, the link layer comes up and the port becomes UP. -/
  | trainingDone (p : Fin 128) (lane : LaneTraining) (rate : BitVec 3) (bypass reuse : Bool) (eqFailed : List (BitVec 3))
      (lowMerit : BitVec 16) (kind : PartnerKind) (alt : AltProtocol)
  /-- TRAINING_FAILED (R245): Bring-up fails after detection, or width, protocol or rate rules forbid the link; the port goes
  DOWN. -/
  | trainingFailed (p : Fin 128) (x : LinkTraining)
  /-- COEFF_REQUEST (R183): The partner requests transmit coefficients, accepted or rejected by range and LF tests. -/
  | coeffRequest (l : Fin 512) (rate : BitVec 3) (pre post : BitVec 6)
  /-- ADAPT_VISIT (R186): The quadrant adapter visits a lane for 50 µs and moves new receiver settings. -/
  | adaptVisit (l : Fin 512) (eye : BitVec 16)
  /-- MARGIN_START (R191): A write of LAN_MARGIN_CTRL.START begins a local margining run. -/
  | marginStart (l : Fin 512)
  /-- MARGIN_END (R189): A margining run ends at DWELL or ERR_LIMIT, or aborts. -/
  | marginEnd (l : Fin 512) (errors : Nat)
  /-- REMOTE_MARGIN (R190): The partner's margining command takes a receiver, aborting any local run. -/
  | remoteMargin (l : Fin 512) (hold : Bool)
  /-- PRBS_CHK_ENABLE (R194): Setting CHK_EN from 0 to 1 clears the checker counters and seeds it. -/
  | prbsChkEnable (l : Fin 512)
  /-- CHECKER_LOCK (R194): 64 consecutive error-free bits lock the PRBS checker. `n` is the bits and errors counted since the
  checker last reported. -/
  | checkerLock (l : Fin 512) (n : Nat × Nat) (seen : List (Fin 4))
  /-- CHECKER_LOCK_LOSS (R194): More than 256 of 1,024 bits in error drop lock, count LOCK_LOSS and reseed. -/
  | checkerLockLoss (l : Fin 512) (bits errors : Nat)
  /-- INJECT_GO (R195): A write of GO injects one bit or burst error in a once mode. -/
  | injectGo (l : Fin 512)
  /-- INJECT_PERIODIC (R195): A periodic injection fires every 2^PERIOD_LOG2 transmitted bits: the lane, and
  the bits it has sent since the last. -/
  | injectPeriodic (x : Fin 512 × Nat)
  /-- FALLOW_WINDOW_END (R197): A fallow window ends and the direction sheds, stays or starts waking by utilisation. -/
  | fallowWindowEnd (p : Fin 128)
  /-- FALLOW_IDLE (R197): No flit for IDLE swaths sends a notice and puts the direction to SLEEP. -/
  | fallowIdle (p : Fin 128)
  /-- FALLOW_WAKE (R197): A flit ready in SLEEP wakes the lanes. -/
  | fallowWake (p : Fin 128)
  /-- LANES_READY (R197): Woken lanes are ready and traffic widens or resumes. -/
  | lanesReady (p : Fin 128)
  /-- NOTICE_EFFECT (R270): A fallow notice's countdown ends and the lane change takes effect at the next flit slot. -/
  | noticeEffect (p : Fin 128) (partner : Bool)
  /-- L0P_REQUEST (R204): The partner requests L0p narrowing or ASPM L1, refused on ports with Ridge reservations. -/
  | l0pRequest (p : Fin 128) (what : LinkPm)
  /-- ASPM_L1_ENTRY (R203): An upstream port idle for L1_IDLE + 1 µs requests ASPM L1. -/
  | aspmL1Entry (p : Fin 128) (hostEnabled : Bool)
  /-- L1_EXIT (R203): A port leaves L1 and returns to L0. -/
  | l1Exit (p : Fin 128)
  /-- HDM_DECODER_COMMIT (R230): The host commits a pool device HDM decoder; more than one way fails. -/
  | hdmDecoderCommit (v : Fin 64) (n : Fin 2) (hpaGib : BitVec 22) (sizeGib dpaGib : BitVec 20) (ways : BitVec 5)
  /-- REQUEST_CAPACITY (R231): The host's Request Capacity command asks for capacity in a private region. -/
  | requestCapacity (v : Fin 64) (region : BitVec 8) (pad : BitVec 24) (lo want : BitVec 32)
  /-- ADD_DYNAMIC_CAPACITY_RESPONSE (R233): The host accepts extents; their binding entries are written and the rest
  returned. -/
  | addDynamicCapacityResponse (v : Fin 64) (accepted : List ExtentRef)
  /-- OFFER_TIMEOUT (R233): An offer unanswered for OFFER_TIMEOUT courses is withdrawn. -/
  | offerTimeout (v : Fin 64)
  /-- RELEASE_DYNAMIC_CAPACITY (R234): The host releases extents; their binding entries are cleared. -/
  | releaseDynamicCapacity (v : Fin 64) (extents : List ExtentRef)
  /-- RELEASE_DRAINED (R234): Requests to released windows have completed; the command completes and fields are zero-filled.
  -/
  | releaseDrained (v : Fin 64)
  /-- GET_DYNAMIC_CAPACITY_EXTENT_LIST (R236): The host reads its accepted extents. -/
  | getDynamicCapacityExtentList (v : Fin 64)
  /-- PBR_MESSAGE (R239): A message on an inter-switch link or Thatchlink is routed by destination PID. -/
  | pbrMessage (p : Fin 128) (vc : Fin 8) (dpid : BitVec 12) (m : PortMsg) (errs : List PathErr)
  /-- IDE_KM (R242): The host programs IDE keys through IDE_KM over DOE on an upstream port. -/
  | ideKm (p : Fin 128) (secure : Bool)
  /-- KEY_REFRESH (R242): A write of KEY_REFRESH draws new IDE keys on a downstream port or inter-switch link. -/
  | keyRefresh (p : Fin 128)
  /-- IDE_FAILURE (R244): An IDE integrity failure takes the port down with cause IDE and a UC-C fault. -/
  | ideFailure (p : Fin 128)
  /-- LINK_DOWN (R245): An up port loses its link without notice and is flushed. -/
  | linkDown (p : Fin 128)
  /-- HOT_RESET (R245): A hot reset or planned link-down performs a port reset and retrains: the port, and
  whether it is a planned link-down. -/
  | hotReset (x : Fin 128 × Bool)
  /-- CONTAIN (R248): A write of CXP_CONTAIN.CONTAIN contains the port. -/
  | contain (p : Fin 128)
  /-- RELEASE (R245): A write of CXP_CONTAIN.RELEASE releases a contained port, unless the directory walk runs. -/
  | release (p : Fin 128)
  /-- PARTNER_DETECTED (R245): A partner is detected on a DOWN port and bring-up restarts. -/
  | partnerDetected (p : Fin 128)
  /-- HOST_POWER_CONTROL (R595): A bound host's Power Controller Control write acts as slot ON or OFF. -/
  | hostPowerControl (v : Fin 64) (b : Fin 32) (on : Bool)
  /-- INGRESS_MESSAGE (R24): A message is admitted at an ingress port, stamped with the epoch and translated, checked,
  classified and queued. -/
  | ingressMessage (p : Fin 128) (m : PortMsg) (errs : List PathErr)
  /-- BUFFER_ADMIT (R308): A message waiting at ingress passes the admission test on retry and enters the buffer. -/
  | bufferAdmit (n : Nat)
  /-- EGRESS_SLOT (R338): At a flit slot the scheduler sends the Ridge head or the fair-queueing choice. -/
  | egressSlot (p : Fin 128) (more : Bool) (cs : CellState) (link : SlotLink)
  /-- TLK_TX_SLOT (R274): A Thatchlink transmitter fills a flit slot with CONTROL, replay, new DATA or IDLE. -/
  | tlkTxSlot (p : Fin 128) (lost : Bool) (cs : CellState) (retried : Bool)
  /-- TLK_DATA_FLIT (R276): A good DATA flit is released, held or discarded by its sequence. -/
  | tlkDataFlit (p : Fin 128) (h : TlkHeader) (payload : List Byte) (crc : BitVec 64) (bad : List (BitVec 10))
  /-- TLK_IDLE_FLIT (R276): A good IDLE flit's header is applied and may trigger NAKs. -/
  | tlkIdleFlit (p : Fin 128) (h : TlkHeader) (payload : List Byte) (crc : BitVec 64)
  /-- NAK (R278): A NAK record makes the transmitter resend that flit. -/
  | nak (p : Fin 128) (seq : BitVec 10)
  /-- CREDIT (R283): A CREDIT record updates LIMIT for a VC and retires acknowledged flits. -/
  | credit (p : Fin 128) (vc : Fin 8) (limit : BitVec 16) (ack : BitVec 10) (ackV : Bool)
  /-- PING (R273): A PING record is answered with a PONG. -/
  | ping (p : Fin 128) (id : BitVec 8) (tag : BitVec 48)
  /-- PONG (R293): A PONG gives an RTT sample; the 16th sets RTT_NS and H_req. -/
  | pong (p : Fin 128) (id : BitVec 8) (tag : BitVec 48)
  /-- INIT (R293): The partner's INIT record gives its version and shared pool size. -/
  | init (p : Fin 128) (version : BitVec 4) (_pool : BitVec 10) (_strict : Bool)
  /-- RESUME (R293): The partner's RESUME retires through its E − 1 and retransmission starts from its E. -/
  | resume (p : Fin 128) (seq : BitVec 10)
  /-- NAK_REPEAT (R279): A missing sequence not arrived within 2 × RTT_NS + 64 ns is NAKed again. -/
  | nakRepeat (p : Fin 128) (seq : BitVec 10)
  /-- REPLAY_TIMEOUT (R280): The replay timer expires and the oldest unacknowledged flit is resent. -/
  | replayTimeout (p : Fin 128)
  /-- CREDIT_TIMER (R283): A CREDIT record becomes due by 256 ns or 1 µs. -/
  | creditTimer (p : Fin 128) (vc : Fin 8)
  /-- STRICT_TIMEOUT (R291): A credit wait reaches STRICT_TIMEOUT: STALLED in cumulative mode, broken link in strict mode. -/
  | strictTimeout (p : Fin 128)
  /-- LL_START (R293): The PHY reaches flit mode and the link layer sends INIT, CREDITs and PINGs. -/
  | llStart (p : Fin 128) (lane : LaneTraining) (eq : EqTraining) (offer : LinkOffer)
  /-- INIT_TIMEOUT (R293): INIT not completed within 100 µs takes the port down with cause PROTOCOL. -/
  | initTimeout (p : Fin 128)
  /-- PHY_RECOVERY (R293): The PHY enters Recovery and the link layer enters RECOVERY. -/
  | phyRecovery (p : Fin 128)
  /-- RECOVERY_END (R293): The PHY returns to flit mode; held flits are discarded and RESUME sent. -/
  | recoveryEnd (p : Fin 128)
  /-- RESUME_LIMIT (R293): RECOVERY lasting RESUME_LIMIT takes the port down with cause SURPRISE. -/
  | resumeLimit (p : Fin 128)
  /-- LEASE_CHECK (R380): A borrower checks a lent range; the lender answers LEASE_ACK. -/
  | leaseCheck (p : Fin 128) (vc : Fin 8) (lender borrower : BitVec 8) (base size : BitVec 32) (peer : BitVec 6)
  /-- LEASE_ACK (R380): The lender's answer makes the remote device's frames join or makes it LOST. -/
  | leaseAck (p : Fin 128) (vc : Fin 8) (lender borrower status : BitVec 8)
  /-- DEV_LOST (R380): A lender reports its lent range lost; the borrower's device becomes LOST. -/
  | devLost (p : Fin 128) (vc : Fin 8) (lender borrower cause : BitVec 8)
  /-- DEV_LOST_ACK (R380): The borrower acknowledges DEV_LOST and the lender stops repeating. -/
  | devLostAck (p : Fin 128) (vc : Fin 8) (lender borrower cause : BitVec 8)
  /-- LEASE_CHECK_REPEAT (R380): An unanswered LEASE_CHECK is repeated every 10 µs. -/
  | leaseCheckRepeat (v : Fin 256)
  /-- DEV_LOST_REPEAT (R380): An unacknowledged DEV_LOST is repeated every 10 µs. -/
  | devLostRepeat (v : Fin 256)
  /-- DREAD (R433): The lender reads a line for the borrower, in line order, unless expired or not lent. -/
  | dread (p : Fin 128) (vc : Fin 8) (tag : BitVec 16) (lender borrower : BitVec 8) (dpa : BitVec 48) (expiry : BitVec 32)
  /-- DWRITE (R433): The lender writes a line for the borrower, in line order. -/
  | dwrite
      (p : Fin 128) (vc : Fin 8) (tag : BitVec 16) (lender borrower : BitVec 8) (dpa : BitVec 48) (expiry : BitVec 32) (data : BitVec 512) (poison : Bool)
  /-- DDATA (R432): The borrower receives line data for a DREAD. -/
  | ddata
      (p : Fin 128) (vc : Fin 8) (tag : BitVec 16) (lender borrower : BitVec 8) (dpa : BitVec 48) (status : BitVec 8) (data : BitVec 512) (poison : Bool)
  /-- DDONE (R432): The borrower receives completion of a DWRITE. -/
  | ddone (p : Fin 128) (vc : Fin 8) (tag : BitVec 16) (lender borrower : BitVec 8) (dpa : BitVec 48) (status : BitVec 8)
  /-- LENDER_DEVICE_DONE (R433): An access to the lent device completes and the next held message of that line proceeds. -/
  | lenderDeviceDone (tag : Nat) (data : BitVec 512) (poison : Bool)
  /-- SPLIT (R401): TMP_CMD OP SPLIT asks to split a WHOLE field. -/
  | split (field : BitVec 17)
  /-- GATHER (R385): TMP_CMD OP GATHER migrates a split field's swards into one frame to merge it. -/
  | gather (field : BitVec 17) (dev : BitVec 8)
  /-- REPLACE (R393): TMP_CMD OP REPLACE gives a LOST sward a zeroed sward frame. -/
  | replace (field : BitVec 17) (sward : BitVec 9)
  /-- ABORT (R390): TMP_CMD OP ABORT aborts a sward's migration. -/
  | abort (field : BitVec 17) (sward : BitVec 9)
  /-- FIELD_SPLIT (R384): At a swath boundary a WHOLE field takes a slot and becomes SPLIT. -/
  | fieldSplit (field : BitVec 17)
  /-- FIELD_MERGE (R385): At a swath boundary a field whose swards fill one frame merges to WHOLE. -/
  | fieldMerge (field : BitVec 17)
  /-- HALVING_PASS (R386): At a due course boundary a pass halves the counters of due tiers and yields demotion candidates.
  -/
  | halvingPass
  /-- MIGRATION_START (R388): A queued candidate or job starts a migration when a slot and target are free. -/
  | migrationStart (why : MigrFor)
  /-- COPY_PASS_END (R389): A copy pass ends and either another pass or the final stall follows. -/
  | copyPassEnd (k : Fin 64) (bad : Option (Fin 256 × BitVec 20))
  /-- MIGRATION_STALL (R389): At swath boundary B requests to the sward are held and the last lines copied. -/
  | migrationStall (k : Fin 64)
  /-- MIGRATION_SWITCH (R389): At B + 1 swath the placement switches to the target and the source is zero-filled. -/
  | migrationSwitch (k : Fin 64) (bad : Option (Fin 256 × BitVec 20))
  /-- DRAIN_RETRY (R392): A drain with NOSPACE tries again at each course boundary. -/
  | drainRetry (v : Fin 256)
  /-- LOST_WALK_END (R393): The lost walk over field and sward tables ends and WALK reads 0. -/
  | lostWalkEnd (v : Fin 256)
  /-- FRAME_ZEROED (R382): Zero-fill of a frame or sward frame completes and it returns to the free lists. -/
  | frameZeroed (v : Fin 256) (sward : Bool) (n : BitVec 33)
  /-- SNOOP_RESPONSE (R411): A host's BIRsp arrives; the last one moves the line and serves waiting requests. -/
  | snoopResponse (v : Fin 64) (line : BitVec 41) (r : BIRsp)
  /-- BI_CONFLICT (R412): A write-back crossing a snoop is resolved by the BI conflict flow. -/
  | biConflict (v : Fin 64) (line : BitVec 41)
  /-- SNOOP_TIMEOUT (R415): A snoop unanswered within SNOOP_TIMEOUT declares the host snoop-dead. -/
  | snoopTimeout (v : Fin 64) (line : BitVec 41)
  /-- DIR_WALK_END (R426): The directory walker finishes and WALK reads 0. -/
  | dirWalkEnd
  /-- COMPLETION_LIMIT (R419): A request unanswered 31 µs after admission is completed by the directory. -/
  | completionLimit (tag : Nat)
  /-- DIR_SWEEP_END (R430): The sweep of a damaged way ends and the way is written as I. -/
  | dirSweepEnd (way : BitVec 23)
  /-- FLR (R440): A Function Level Reset of a fold's VF starts a fold reset. -/
  | flr (f : Fin 256)
  /-- SQ_ENABLE (R443): EN written 1 enables an SQ or sets CFG_ERR. -/
  | sqEnable (f : Fin 256) (q : Fin 8) (sizeLog2 : BitVec 5) (cq : Fin 8)
  /-- SQ_DISABLE (R443): EN written 0 stops an SQ, discarding unstarted entries. -/
  | sqDisable (f : Fin 256) (q : Fin 8)
  /-- CQ_ENABLE (R459): A write of a CQ's EN enables it with TAIL 0 and phase 1, or is ignored. -/
  | cqEnable (f : Fin 256) (c : Fin 8) (v : Word)
  /-- SQ_DOORBELL (R445): A tail doorbell write sets TAIL or halts the fold as malformed. -/
  | sqDoorbell (f : Fin 256) (q : Fin 8) (tail : BitVec 16)
  /-- CQ_DOORBELL (R459): A head doorbell write frees CQ entries for held completions. -/
  | cqDoorbell (f : Fin 256) (c : Fin 8) (head : BitVec 16)
  /-- PUSH_SLOT_WRITE (R446): A write to a push slot makes it full when bytes 0x3C–0x3F are covered. -/
  | pushSlotWrite (f : Fin 256) (q : Fin 8) (i : Fin 4) (off : Fin 64) (len : Fin 65) (data : BitVec 512)
  /-- ENTRY_FETCH (R445): The fold fetches the next SQ entry, from a push slot or the ring, within its cap. -/
  | entryFetch (f : Fin 256) (contextBad : Bool)
  /-- FETCH_RESPONSE (R453): A ring fetch returns; an error or poison halts the fold. -/
  | fetchResponse (id : Nat) (data : BitVec 512) (bad : Bool)
  /-- ENTRY_START (R454): A fetched entry starts on the least-loaded mover. -/
  | entryStart (id : Nat)
  /-- CHUNK_ADMIT (R455): A chunk is checked, stamped and issued, or ends the entry. -/
  | chunkAdmit (c : ChunkOf)
  /-- CHUNK_COMPLETE (R457): A chunk's accesses complete; the last ends the entry. -/
  | chunkComplete (c : ChunkOf) (offset : BitVec 32)
  /-- CHUNK_TIMEOUT (R456): An access unanswered for 32 µs ends the entry with TIMEOUT. -/
  | chunkTimeout (c : ChunkOf) (offset : BitVec 32)
  /-- COMPLETION_WRITE (R458): An entry's completion is written to its CQ in ring order, or held. -/
  | completionWrite (f : Fin 256) (q : Fin 8)
  /-- MODERATION_TIMER (R462): A CQ's moderation timer expires and it signals or sets the pending bit. -/
  | moderationTimer (f : Fin 256) (c : Fin 8)
  /-- MSIX_UNMASK (R462): Unmasking a vector sends its pending message. -/
  | msixUnmask (f : Fin 256) (vec : Option (Fin 8))
  /-- VF_POWER_STATE (R464): The VF enters or leaves D3hot or changes Bus Master Enable, suspending or resuming the fold. -/
  | vfPowerState (f : Fin 256) (d3hot busMaster pmeEn fnMask : Bool)
  /-- MOVER_DISABLE (R454): DMV_CTRL.EN written 0 takes a mover out of service. -/
  | moverDisable (m : Fin 32)
  /-- SHARE_SAMPLE (R475): At each course boundary N is sampled and each fold's cap recomputed. -/
  | shareSample
  /-- FOLD_RESET (R479): A write of FLD_RESET.RESET starts a fold reset, incrementing GEN. -/
  | foldReset (f : Fin 256)
  /-- FOLD_RESET_DONE (R479): No old-generation work remains; fold registers restore and DONE is set. -/
  | foldResetDone (f : Fin 256)
  /-- FREEZE (R484): FLD_MIG_CTRL OP FREEZE arms a freeze at a rack instant. -/
  | freeze (f : Fin 256) (instant : Word)
  /-- SAVE (R490): OP SAVE writes the fold's bale to host memory or streams it to a peer. -/
  | save (f : Fin 256) (dest : Bool) (peer : Fin 64) (peerFold : Fin 256) (addr : Word)
  /-- RESTORE (R491): OP RESTORE reads a bale or arms the fold for a bale stream. -/
  | restore (f : Fin 256) (dest : Bool) (addr : Word)
  /-- THAW (R494): OP THAW arms a thaw of a frozen fold at a rack instant. -/
  | thaw (f : Fin 256) (instant : Word)
  /-- FREEZE_INSTANT (R485): At the freeze instant the fold becomes FROZEN and stops fetching. -/
  | freezeInstant (f : Fin 256)
  /-- FREEZE_DONE (R485): No chunk is outstanding, or 20 µs pass; started entries are recorded. -/
  | freezeDone (f : Fin 256)
  /-- THAW_INSTANT (R494): At the thaw instant the fold resumes its recorded work. -/
  | thawInstant (f : Fin 256)
  /-- SAVE_DONE (R490): The bale's host-memory writes complete and STATE reads SAVED. -/
  | saveDone (f : Fin 256) (ok : Bool)
  /-- BALE_READ_DONE (R492): A bale read from host memory arrives and is checked and loaded. -/
  | baleReadDone (f : Fin 256) (bytes : List Byte) (bad : Bool)
  /-- BALE_DATA (R620): A bale stream segment arrives; the full bale is checked and BALE_ACK sent. -/
  | baleData (secured fromAlias : Bool) (f : Fin 256) (offset total : BitVec 16) (bytes : List Byte)
  /-- BALE_ACK (R620): The peer's acknowledgement ends a SAVE with OK or NOPEER. -/
  | baleAck (f : Fin 256) (status : BitVec 8)
  /-- BALE_ACK_TIMEOUT (R620): No BALE_ACK within 40 µs resends the stream once, then gives NOPEER. -/
  | baleAckTimeout (f : Fin 256)
  /-- RULE_PARITY_FAIL (R517): A Hedgerow rule's parity fails; the rule grants nothing and a DE event is logged. -/
  | ruleParityFail (which : Fin 131) (rule : Fin 1024)
  /-- SCRUB_VISIT (R532): A scrubber visits the next word, correcting or poisoning it. -/
  | scrubVisit (c : Fin 16) (r : WordRead)
  /-- REGION_LOCK (R526): A write of MEM_REGION_CTRL.LOCK checks the region table and starts applying it. -/
  | regionLock
  /-- REGION_LOCK_DONE (R526): Rezeroing and substitution end and LOCK and REGION_LOCK read 1. -/
  | regionLockDone
  /-- RETIRE_MACRO (R536): MEM_BANK_CTRL OP RETIRE_MACRO starts copying a logical macro to a spare. -/
  | retireMacro (b : Fin 256) (m : Fin 16)
  /-- MACRO_COPY_DONE (R536): The macro copy ends and the map switches to the spare. -/
  | macroCopyDone (b : Fin 256)
  /-- RETIRE_BANK (R537): MEM_BANK_CTRL OP RETIRE_BANK starts retiring a whole bank. -/
  | retireBank (b : Fin 256)
  /-- BANK_RELEASED (R537): A retiring bank's last use ends and it leaves service. -/
  | bankReleased (b : Fin 256)
  /-- FAULT_RECORD (R550): The collector takes a fault record and applies its reaction. -/
  | faultRecord
  /-- WIRE (R546): A non-complementary dual-rail pair for 2 clocks is a wire fault of its unit. -/
  | wire (u : Fin 412) (a b : BitVec 2)
  /-- WIRE_FAULT_CLEAR (R546): A write of 1 to WIRE_FAULT clears it if the pair is complementary again. -/
  | wireFaultClear (u : Fin 412)
  /-- ENTER (R555): A write of FLT_CTRL.ENTER forces the device fault state. -/
  | enter
  /-- EXIT (R558): A write of FLT_CTRL.EXIT ends the device fault state unless a UC-F condition is held. -/
  | exit
  /-- QUIET_EXIT (R557): At a course boundary after QUIET courses with no UC-F condition the device leaves the fault state.
  -/
  | quietExit
  /-- PRESENCE_ASSERT (R573): Module presence is asserted and debounce starts. -/
  | presenceAssert (s : Fin 32)
  /-- PRESENCE_LOSS (R583): Presence is lost; the gate is discharged and the slot goes EMPTY, keeping R583's carry-over. -/
  | presenceLoss (s : Fin 32)
  /-- DEBOUNCE_END (R573): Presence is stable for DEBOUNCE ms and the identity read starts. -/
  | debounceEnd (s : Fin 32)
  /-- IDENT_READ_DONE (R570): The identity record read completes and the slot goes to READY, FAULT_WAIT, LATCHED or NOIDENT.
  -/
  | identReadDone (s : Fin 32) (record : BitVec 512)
  /-- IDENT_TIMEOUT (R569): An identity read NAKs or times out after 10 ms and is retried up to twice. -/
  | identTimeout (s : Fin 32)
  /-- ON (R575): SLT_CMD OP ON requests power. -/
  | on (s : Fin 32)
  /-- OFF (R575): SLT_CMD OP OFF clears the request and turns the slot off. -/
  | off (s : Fin 32)
  /-- ON_AT (R594): SLT_CMD OP ON_AT arms a power-on at a rack instant. -/
  | onAt (s : Fin 32)
  /-- CLEAR (R575): SLT_CMD OP CLEAR leaves LATCHED or HELD with FAULTS 0. -/
  | clear (s : Fin 32)
  /-- REIDENT (R575): SLT_CMD OP REIDENT reads the identity again. -/
  | reident (s : Fin 32)
  /-- FORCE_ENABLE (R570): FORCE_EN set to 1 lets a NOIDENT slot use FORCE_PROFILE. -/
  | forceEnable (s : Fin 32)
  /-- RAMP_START (R573): With REQ = 1 and V_BUS above WARN_MV + HYST_MV, a READY slot starts its ramp. -/
  | rampStart (s : Fin 32) (m : SlotSample)
  /-- RAMP_TOP (R572): V_OUT comes within 100 mV of V_BUS and the gate is driven at full strength. -/
  | rampTop (s : Fin 32) (m : SlotSample)
  /-- GATE_ENHANCED (R576): The gate is fully enhanced and qualification starts. -/
  | gateEnhanced (s : Fin 32)
  /-- QUALIFIED (R576): 50 µs of idle fault timer assert SLT_PG and the slot is ON. -/
  | qualified (s : Fin 32) (m : SlotSample)
  /-- LIMIT_TIMEOUT (R578): The fault timer reaches FAULT_TIME and the slot turns off as a fault. -/
  | limitTimeout (s : Fin 32) (m : SlotSample)
  /-- FAST_TRIP (R579): The fast comparator trips at I_TRIP and the gate is discharged within 700 ns. -/
  | fastTrip (s : Fin 32)
  /-- FET_HOT (R588): An ideal-diode FET's estimated temperature reaches T_MAX and its feed is turned off. -/
  | fetHot (s : Fin 32) (f : Feed) (m : SlotSample)
  /-- UNDERVOLT (R591): V_BUS below RESET_MV for 4 samples turns the slot off to UV_WAIT. -/
  | undervolt (s : Fin 32) (m : SlotSample)
  /-- UV_RECOVERED (R573): V_BUS holds above WARN_MV + HYST_MV for 10 ms and the slot leaves UV_WAIT. -/
  | uvRecovered (s : Fin 32) (m : SlotSample)
  /-- RETRY_TIMER (R580): The retry timer expires and the slot ramps again or returns to READY. -/
  | retryTimer (s : Fin 32)
  /-- FAULT_COUNT_RESET (R573): SLT_PG held 60 s with the fault timer idle returns FAULTS to 0. -/
  | faultCountReset (s : Fin 32)
  /-- REVERSE (R585): Reverse current turns a feed's FET off within 200 ns. -/
  | reverse (s : Fin 32) (f : Feed)
  /-- FEED_RESTORE (R585): A feed 50 mV above V_BUS for 1 ms turns its FET on again. -/
  | feedRestore (s : Fin 32) (f : Feed) (m : SlotSample)
  /-- FEED_LOST (R586): One feed falls below WARN_MV while the other holds V_BUS. -/
  | feedLost (s : Fin 32) (f : Feed) (m : SlotSample)
  /-- EARLY_WARNING (R589): V_BUS below WARN_MV asserts EWARN_N and may issue a global persistent flush. -/
  | earlyWarning (s : Fin 32) (m : SlotSample)
  /-- GPF_COMPLETE (R589): A global persistent flush started by early warning completes. -/
  | gpfComplete (s : Fin 32)
  /-- GPF_TIMEOUT (R589): The flush does not complete within GPF_TIMEOUT ms. -/
  | gpfTimeout (s : Fin 32)
  /-- BROWNOUT_RECOVERED (R590): V_BUS holds above WARN_MV + HYST_MV for 1 ms and EWARN_N deasserts. -/
  | brownoutRecovered (s : Fin 32) (m : SlotSample)
  /-- ENERGY_WINDOW (R593): An energy window ends and its energy and course index are recorded. -/
  | energyWindow (s : Fin 32) (energy : BitVec 56)
  /-- ON_AT_INSTANT (R594): An armed ON_AT instant arrives and REQ becomes 1. -/
  | onAtInstant (s : Fin 32)
  /-- SIDEBAND_TRANSFER (R604): SB_XFER GO starts a sideband transfer, refused during DEBOUNCE or IDENT. -/
  | sidebandTransfer (b : Fin 48) (addr : BitVec 7) (write : Bool) (offset : BitVec 16) (ofs2 : Bool) (len : BitVec 7)
  /-- SIDEBAND_DONE (R604): A sideband transfer ends with done, NAK or timeout. -/
  | sidebandDone (b : Fin 48) (answer : Option (BitVec 512)) (nak : Bool)
  /-- SESSION_OPEN (R611): Opens the single manager session over a secured channel from an allowed address. -/
  | sessionOpen (via : FcpFrom) (seq : BitVec 32) (source : BitVec 128) (managerId : Word) (keepalive : BitVec 16)
  /-- SESSION_CLOSE (R611): Closes the manager session. -/
  | sessionClose (via : FcpFrom) (session seq : BitVec 32)
  /-- KEEPALIVE (R611): Keeps the manager session alive. -/
  | keepalive (via : FcpFrom) (session seq : BitVec 32)
  /-- SESSION_TIMEOUT (R611): Nothing arrives for 3 × KEEPALIVE_MS and the session ends. -/
  | sessionTimeout
  /-- FLASH_WRITE (R624): Writes boot flash, erasing a sector at its start, refused on the booted slot outside recovery. -/
  | flashWrite (via : FcpFrom) (session seq offset : BitVec 32) (bytes : List Byte)
  /-- CHAIN_RESET (R628): A multicast CHAIN_RESET arms a warm reset at an instant for masked devices. -/
  | chainReset (via : FcpFrom) (source : BitVec 128) (maskBits instant : Word) (flags : BitVec 8)
  /-- CHAIN_RESET_INSTANT (R628): At the instant the device warm-resets, clearing its chain address if RENUMBER. -/
  | chainResetInstant
  /-- TELEMETRY_SAMPLE (R615): At a due course boundary telemetry entries are read and sent in one TELEMETRY message. -/
  | telemetrySample
  /-- CAK_INSTALL (R607): A write of ETH_CAK[3] installs the CAK and CKN and restarts MKA. -/
  | cakInstall (p : Fin 2) (value : Word)
  /-- ADDR_IN_FRAME (R626): A chain frame arrives on ADDR_IN; two agreeing good frames give the chain address.
  `addr` is its 6 address bits, `rest` its start bit, parity bit and stop bits. -/
  | addrInFrame (addr : BitVec 6) (rest : BitVec 4)
  /-- CHAIN_HEAD (R626): ADDR_IN high for 1 ms gives address 0 and HEAD. -/
  | chainHead
  /-- CHAIN_TIMEOUT (R626): No address within 2 s leaves CHAIN_VALID 0. -/
  | chainTimeout
  /-- ADDR_OUT_FRAME (R625): Every 100 µs the device sends its address + 1 on ADDR_OUT. -/
  | addrOutFrame
  /-- IDENTIFY_SWITCH_DEVICE (R616): FM-API command returning the switch identity. -/
  | identifySwitchDevice (via : FcpFrom) (session seq : BitVec 32)
  /-- GET_PHYSICAL_PORT_STATE (R616): FM-API command returning physical port state. -/
  | getPhysicalPortState (via : FcpFrom) (session seq : BitVec 32) (p : Fin 128)
  /-- PHYSICAL_PORT_CONTROL (R616): FM-API command whose reset acts as a port reset. -/
  | physicalPortControl (via : FcpFrom) (session seq : BitVec 32) (p : Fin 128) (opcode : BitVec 8)
  /-- SEND_PPB_CXL_IO_CONFIGURATION_REQUEST (R616): FM-API command sending a configuration request to a physical bridge. -/
  | sendPpbCxlIoConfigurationRequest
      (via : FcpFrom) (session seq : BitVec 32) (p : Fin 128) (write : Bool) (reg : BitVec 12) (data : BitVec 32)
  /-- GET_VIRTUAL_CXL_SWITCH_INFO (R616): FM-API command returning virtual switch information. -/
  | getVirtualCxlSwitchInfo (via : FcpFrom) (session seq : BitVec 32) (v : Fin 64)
  /-- BIND_VPPB (R617): FM-API bind, carried out as one commit. -/
  | bindVppb (via : FcpFrom) (session seq : BitVec 32) (v : Fin 64) (b : Fin 32) (p : Fin 128) (ld : Option (Fin 16))
  /-- UNBIND_VPPB (R617): FM-API unbind, carried out as one commit. -/
  | unbindVppb (via : FcpFrom) (session seq : BitVec 32) (v : Fin 64) (b : Fin 32)
  /-- GENERATE_AER_EVENT (R616): FM-API command generating an AER event. -/
  | generateAerEvent (via : FcpFrom) (session seq : BitVec 32) (v : Fin 64) (b : Fin 32) (error : BitVec 32)
  /-- TUNNEL_MANAGEMENT_COMMAND (R616): FM-API command tunnelled to an MLD or multi-headed device. -/
  | tunnelManagementCommand (via : FcpFrom) (session seq : BitVec 32) (p : Fin 128) (request answer : List Byte)
  /-- SEND_LD_CXL_IO_CONFIGURATION_REQUEST (R616): FM-API configuration request to a logical device. -/
  | sendLdCxlIoConfigurationRequest
      (via : FcpFrom) (session seq : BitVec 32) (p : Fin 128) (ld : Fin 16) (request answer : List Byte)
  /-- SEND_LD_CXL_IO_MEMORY_REQUEST (R616): FM-API memory request to a logical device. -/
  | sendLdCxlIoMemoryRequest
      (via : FcpFrom) (session seq : BitVec 32) (p : Fin 128) (ld : Fin 16) (request answer : List Byte)
  /-- GET_DCD_INFO (R616): FM-API command returning dynamic capacity device information. -/
  | getDcdInfo (via : FcpFrom) (session seq : BitVec 32)
  /-- GET_HOST_DC_REGION_CONFIGURATION (R616): FM-API command returning a host's DC region configuration. -/
  | getHostDcRegionConfiguration (via : FcpFrom) (session seq : BitVec 32) (v : Fin 64)
  /-- SET_DC_REGION_CONFIGURATION (R617): FM-API region configuration, carried out as one commit. -/
  | setDcRegionConfiguration (via : FcpFrom) (session seq : BitVec 32) (v : Fin 64) (r : Fin 8) (gib : BitVec 17)
  /-- GET_DC_REGION_EXTENT_LISTS (R616): FM-API command returning region extent lists. -/
  | getDcRegionExtentLists (via : FcpFrom) (session seq : BitVec 32) (v : Fin 64)
  /-- INITIATE_DYNAMIC_CAPACITY_ADD (R235): FM-API add of capacity, including tagged shared capacity, offered to the host. -/
  | initiateDynamicCapacityAdd
      (via : FcpFrom) (session seq : BitVec 32) (v : Fin 64) (r : Fin 8) (gib : BitVec 20) (tag : Word)
  /-- INITIATE_DYNAMIC_CAPACITY_RELEASE (R616): FM-API request that the host release capacity. -/
  | initiateDynamicCapacityRelease (via : FcpFrom) (session seq : BitVec 32) (v : Fin 64) (extents : List ExtentRef)
  /-- GET_VERSION (R618): SPDM GET_VERSION request. -/
  | getVersion (via : FcpFrom) (seq : BitVec 32)
  /-- GET_CAPABILITIES (R618): SPDM GET_CAPABILITIES request. -/
  | getCapabilities (via : FcpFrom) (seq : BitVec 32) (version : BitVec 8)
  /-- NEGOTIATE_ALGORITHMS (R618): SPDM NEGOTIATE_ALGORITHMS request. -/
  | negotiateAlgorithms (via : FcpFrom) (seq : BitVec 32) (p384Offered sha384Offered : Bool)
  /-- GET_DIGESTS (R618): SPDM GET_DIGESTS request. -/
  | getDigests (via : FcpFrom) (seq : BitVec 32)
  /-- GET_CERTIFICATE (R618): SPDM GET_CERTIFICATE request. -/
  | getCertificate (via : FcpFrom) (seq : BitVec 32) (slot : BitVec 8) (offset length : BitVec 16)
  /-- CHALLENGE (R618): SPDM CHALLENGE request signed with the fused identity key. -/
  | challenge (via : FcpFrom) (seq : BitVec 32) (slot : BitVec 8) (nonce : List Byte)
  /-- GET_MEASUREMENTS (R618): SPDM GET_MEASUREMENTS request. -/
  | getMeasurements (via : FcpFrom) (seq : BitVec 32) (index : BitVec 8) (signed : Bool) (nonce : List Byte)
  /-- POWER_ON (R639): VDD_IO rises or a core rail browns out, holding a power-on reset. -/
  | powerOn
  /-- RESET_N (R640): RESET_N low for 2 µs or more starts a warm reset. -/
  | resetN
  /-- RESET_RELEASE (R643): The power-on timer ends with RESET_N high; reset releases and TEST_EN is sampled. -/
  | resetRelease (testEn : Bool)
  /-- BOOT_IMAGE_START (R623): SRAM is zeroed and registers restored; the chosen flash slot's boot image starts and PHASE
  reads READY. -/
  | bootImageStart (slotA slotB : Option (List Byte))
  /-- SOFT (R644): A manager write of RST_CTRL.SOFT starts a soft reset. -/
  | soft
  /-- SOFT_RESET_DONE (R644): The soft reset's zeroing and restore end and PHASE reads READY. -/
  | softResetDone
  /-- STANDBY (R647): A write of RST_CTRL.STANDBY requests Device Standby or is refused. -/
  | standby
  /-- STANDBY_ENTRY_DONE (R648): Threads are held, parts powered down and PHASE reads STANDBY. -/
  | standbyEntryDone
  /-- WAKE_AT (R650): The RST_WAKE_AT instant arrives and the device leaves Standby. -/
  | wakeAt
  /-- STANDBY_EXIT_DONE (R651): PLLs relock, threads resume and PHASE reads READY. -/
  | standbyExitDone
  /-- SUPPLY_WARNING (R654): A rail below warning for 1 µs sets its warning bit and minimum. -/
  | supplyWarning (rail : Fin 13) (mv : BitVec 16)
  /-- BROWNOUT (R653): A rail below brownout for 2 µs takes its action. -/
  | brownout (rail : Fin 13) (mv : BitVec 16)
  /-- TEMP_SAMPLE (R683): Every 100 µs the temperature sensors are sampled. -/
  | tempSample (temps : Vector (BitVec 16) 11)
  /-- THERMTRIP (R685): Two samples at 115 °C assert THERMTRIP_N and hold the device in reset until power is removed. -/
  | thermtrip
  /-- TAP_RESET (R660): The test access port is reset by JTAG_TRST_N or five TMS-high cycles. -/
  | tapReset
  /-- EXTEST (R661): JTAG boundary test instruction, in test mode only. -/
  | extest
  /-- SAMPLE_PRELOAD (R661): JTAG SAMPLE/PRELOAD instruction. -/
  | samplePreload
  /-- IDCODE (R662): JTAG instruction selecting the 32-bit identity register. -/
  | idcode
  /-- CLAMP (R661): JTAG CLAMP instruction, in test mode only. -/
  | clamp
  /-- HIGHZ (R661): JTAG HIGHZ instruction, in test mode only. -/
  | highz
  /-- EXTEST_PULSE (R663): IEEE 1149.6 pulse test of AC-coupled lanes, in test mode only. -/
  | extestPulse
  /-- EXTEST_TRAIN (R663): IEEE 1149.6 train test of AC-coupled lanes, in test mode only. -/
  | extestTrain
  /-- BYPASS (R661): JTAG BYPASS, also taken for unlisted or blocked instructions. -/
  | bypass
  /-- DAP_POLL (R665): DAP_ACCESS OP 0 captures the state of the latest access. -/
  | dapPoll
  /-- DAP_READ (R665): DAP_ACCESS OP 1 starts an 8-byte control-space read. -/
  | dapRead (addr : BitVec 48)
  /-- DAP_WRITE (R666): DAP_ACCESS OP 2 starts an 8-byte control-space write, refused where R666 gives. -/
  | dapWrite (addr : BitVec 48) (data : Word)
  /-- DAP_ACCESS_DONE (R665): A DAP access completes or is refused and its status is captured. -/
  | dapAccessDone
  /-- DEBUG_LOCK (R669): A manager write of DBG_CTRL.LOCK sets the debug lock. -/
  | debugLock
  /-- D2D_FAIL (R14): The die-to-die interface to an Eave, gable or slot power die fails past retry, with the containment or
  fault of R14, R15 or R16. -/
  | d2dFail (die : Fin 10)
  /-- VF_ENABLE (R440): The host sets or clears VF Enable or NumVFs of a Service Function, moving folds between DISABLED and
  ENABLED. -/
  | vfEnable (v : Fin 64) (on : Bool) (numVFs : BitVec 16)
  /-- TMP_CMD_ACT (R401): A TMP_CMD taken earlier acts at the next swath boundary, such as a REPLACE giving a LOST sward a
  zeroed frame or an ABORT ending a migration. -/
  | tmpCmdAct
  /-- FEED_ALLOWED (R588): A feed turned off by FET_HOT is allowed again once its estimated temperature falls to T_MAX − 10
  °C. -/
  | feedAllowed (s : Fin 32) (f : Feed) (m : SlotSample)
  /-- SUPPLY_RECOVERED (R653): A monitored rail returns above its release level, for example letting a lane die's ports
  retrain after 1 ms, or letting the Ethernet links and slot channels run again. -/
  | supplyRecovered (rail : Fin 13)
  /-- ETHERNET_LINK (R633): An Ethernet port's link comes up, the partner at a rate by its SPEED code, or goes down, changing
  ETH_STAT.LINK, with the uncorrectable codewords counted since. -/
  | ethernetLink (p : Fin 2) (x : EthLine)
  /-- MKA_FRAME (R607): An MKA frame from the partner is received, agreeing keys and bringing the MACsec secured channel up
  or down; `suite` is what MKA agrees on, if on any: false GCM-AES-256, true GCM-AES-XPN-256. -/
  | mkaFrame (p : Fin 2) (suite : Option Bool)
  /-- BADTYPE (R610): A Fabric Control Protocol message with an unknown TYPE is answered with BADTYPE and has no other
  effect. -/
  | badtype (via : FcpFrom) (typ : BitVec 8) (seq : BitVec 32) (lenOk : Bool)
  /-- CMT_COMMIT (R130): Issues a commit of a stage set at instant T, running the checks of R38 and making the set PENDING if
  accepted. -/
  | cmtCommit (t : Fin 64) (rd ra rb : Fin 32) (sw : BitVec 9)
  /-- CMT_OPEN (R130): Moves a FREE stage set to OPEN. -/
  | cmtOpen (t : Fin 64) (rd ra rb : Fin 32) (sw : BitVec 9)
  /-- CMT_DISCARD (R130): Drops every write of an OPEN stage set and frees it. -/
  | cmtDiscard (t : Fin 64) (rd ra rb : Fin 32) (sw : BitVec 9)
  /-- STG_W (R127): Stages a 4-byte write into an OPEN stage set. -/
  | stgW (t : Fin 64) (rd ra rb : Fin 32)
  /-- STG_D (R127): Stages an 8-byte write into an OPEN stage set. -/
  | stgD (t : Fin 64) (rd ra rb : Fin 32)
  /-- ADD (R108): g[rd] = g[ra] + g[rb], setting Z N C V. -/
  | add (t : Fin 64) (rd ra rb : Fin 32)
  /-- SUB (R108): g[rd] = g[ra] − g[rb], setting Z N C V. -/
  | sub (t : Fin 64) (rd ra rb : Fin 32)
  /-- AND (R108): Bitwise AND of two registers. -/
  | and (t : Fin 64) (rd ra rb : Fin 32)
  /-- OR (R108): Bitwise OR of two registers. -/
  | or (t : Fin 64) (rd ra rb : Fin 32)
  /-- XOR (R108): Bitwise XOR of two registers. -/
  | xor (t : Fin 64) (rd ra rb : Fin 32)
  /-- ANDN (R108): g[ra] AND NOT g[rb]. -/
  | andn (t : Fin 64) (rd ra rb : Fin 32)
  /-- SHL (R108): Logical shift left by g[rb][5:0]. -/
  | shl (t : Fin 64) (rd ra rb : Fin 32)
  /-- SHR (R108): Logical shift right by g[rb][5:0]. -/
  | shr (t : Fin 64) (rd ra rb : Fin 32)
  /-- SAR (R108): Arithmetic shift right by g[rb][5:0]. -/
  | sar (t : Fin 64) (rd ra rb : Fin 32)
  /-- MUL (R108): Low 64 bits of the product. -/
  | mul (t : Fin 64) (rd ra rb : Fin 32)
  /-- MULHU (R108): High 64 bits of the unsigned product. -/
  | mulhu (t : Fin 64) (rd ra rb : Fin 32)
  /-- DIVU (R108): Unsigned division, all ones and V = 1 on division by zero. -/
  | divu (t : Fin 64) (rd ra rb : Fin 32)
  /-- REMU (R108): Unsigned remainder, g[ra] and V = 1 on division by zero. -/
  | remu (t : Fin 64) (rd ra rb : Fin 32)
  /-- CMP (R108): Sets flags from g[ra] − g[rb] without writing a register. -/
  | cmp (t : Fin 64) (rd ra rb : Fin 32)
  /-- ADDI (R109): Adds a sign-extended immediate. -/
  | addi (t : Fin 64) (rd ra : Fin 32) (imm : BitVec 16)
  /-- ANDI (R109): ANDs a zero-extended immediate. -/
  | andi (t : Fin 64) (rd ra : Fin 32) (imm : BitVec 16)
  /-- ORI (R109): ORs a zero-extended immediate. -/
  | ori (t : Fin 64) (rd ra : Fin 32) (imm : BitVec 16)
  /-- XORI (R109): XORs a zero-extended immediate. -/
  | xori (t : Fin 64) (rd ra : Fin 32) (imm : BitVec 16)
  /-- SHLI (R109): Shift left by an immediate count. -/
  | shli (t : Fin 64) (rd ra : Fin 32) (imm : BitVec 16)
  /-- SHRI (R109): Logical shift right by an immediate count. -/
  | shri (t : Fin 64) (rd ra : Fin 32) (imm : BitVec 16)
  /-- SARI (R109): Arithmetic shift right by an immediate count. -/
  | sari (t : Fin 64) (rd ra : Fin 32) (imm : BitVec 16)
  /-- CMPI (R109): Sets flags from g[ra] − sext(IMM16). -/
  | cmpi (t : Fin 64) (rd ra : Fin 32) (imm : BitVec 16)
  /-- MOVI (R109): Loads a sign-extended immediate. -/
  | movi (t : Fin 64) (rd ra : Fin 32) (imm : BitVec 16)
  /-- MOVK (R109): Inserts a 16-bit immediate into one halfword of g[rd]. -/
  | movk (t : Fin 64) (rd ra : Fin 32) (imm : BitVec 16)
  /-- LDB (R110): Loads one scratch byte zero-extended. -/
  | ldb (t : Fin 64) (rd ra : Fin 32) (imm : BitVec 16)
  /-- LDH (R110): Loads two scratch bytes zero-extended. -/
  | ldh (t : Fin 64) (rd ra : Fin 32) (imm : BitVec 16)
  /-- LDW (R110): Loads four scratch bytes zero-extended. -/
  | ldw (t : Fin 64) (rd ra : Fin 32) (imm : BitVec 16)
  /-- LDD (R110): Loads eight scratch bytes. -/
  | ldd (t : Fin 64) (rd ra : Fin 32) (imm : BitVec 16)
  /-- STB (R110): Stores one byte to scratch. -/
  | stb (t : Fin 64) (rd ra : Fin 32) (imm : BitVec 16)
  /-- STH (R110): Stores two bytes to scratch. -/
  | sth (t : Fin 64) (rd ra : Fin 32) (imm : BitVec 16)
  /-- STW (R110): Stores four bytes to scratch. -/
  | stw (t : Fin 64) (rd ra : Fin 32) (imm : BitVec 16)
  /-- STD (R110): Stores eight bytes to scratch. -/
  | std (t : Fin 64) (rd ra : Fin 32) (imm : BitVec 16)
  /-- CLD_B (R112): Control-space load of one byte. -/
  | cldB (t : Fin 64) (rd ra : Fin 32) (off : BitVec 16)
  /-- CLD_H (R112): Control-space load of two bytes. -/
  | cldH (t : Fin 64) (rd ra : Fin 32) (off : BitVec 16)
  /-- CLD_W (R112): Control-space load of four bytes. -/
  | cldW (t : Fin 64) (rd ra : Fin 32) (off : BitVec 16)
  /-- CLD_D (R112): Control-space load of eight bytes. -/
  | cldD (t : Fin 64) (rd ra : Fin 32) (off : BitVec 16)
  /-- CST_B (R113): Control-space store of one byte. -/
  | cstB (t : Fin 64) (rd ra : Fin 32) (off : BitVec 16)
  /-- CST_H (R113): Control-space store of two bytes. -/
  | cstH (t : Fin 64) (rd ra : Fin 32) (off : BitVec 16)
  /-- CST_W (R113): Control-space store of four bytes. -/
  | cstW (t : Fin 64) (rd ra : Fin 32) (off : BitVec 16)
  /-- CST_D (R113): Control-space store of eight bytes, posted in the pool aperture. -/
  | cstD (t : Fin 64) (rd ra : Fin 32) (off : BitVec 16)
  /-- BR (R115): Conditional PC-relative branch. -/
  | br (t : Fin 64) (cond : BitVec 5) (off : BitVec 21)
  /-- CALL (R115): Sets g31 to the return address and jumps. -/
  | call (t : Fin 64) (cond : BitVec 5) (off : BitVec 21)
  /-- YLD (R116): Gives up the engine for one round; a safe point for hot update. -/
  | yld (t : Fin 64) (rd ra rb : Fin 32)
  /-- HLT (R61): Ends the thread and releases its context. -/
  | hlt (t : Fin 64) (rd ra rb : Fin 32)
  /-- ERET (R79): Returns from an exception handler, restoring PC and PRIV and clearing EXL. -/
  | eret (t : Fin 64) (rd ra rb : Fin 32)
  /-- FNC (R116): Waits for posted pool writes and reports failure in C. -/
  | fnc (t : Fin 64) (rd ra rb : Fin 32)
  /-- MFS (R117): Reads a special register or the flags. -/
  | mfs (t : Fin 64) (rd ra rb : Fin 32)
  /-- MTS (R117): Writes a special register or the flags. -/
  | mts (t : Fin 64) (rd ra rb : Fin 32)
  /-- JR (R116): Jumps to g[ra]. -/
  | jr (t : Fin 64) (rd ra rb : Fin 32)
  /-- CALLR (R116): Calls through a register, saving the return address in g[rd]. -/
  | callr (t : Fin 64) (rd ra rb : Fin 32)
  /-- SYS (R118): Takes the SYSCALL exception with the immediate as detail. -/
  | sys (t : Fin 64) (rd ra : Fin 32) (imm : BitVec 16)
  /-- FRSE (R119): Sends a software fault record to the fault collector. -/
  | frse (t : Fin 64) (rd ra : Fin 32) (imm : BitVec 16)
  /-- EVW (R120): Waits for an enabled event or a deadline; a safe point for hot update. -/
  | evw (t : Fin 64) (rd ra rb : Fin 32) (func : BitVec 11)
  /-- EVS (R120): Raises a software event. -/
  | evs (t : Fin 64) (rd ra : Fin 32) (imm : BitVec 16)
  /-- SPWN (R120): Starts a new thread of the same image on the least-loaded ACTIVE engine. -/
  | spwn (t : Fin 64) (rd ra rb : Fin 32) (func : BitVec 11)
  /-- WAT (R123): Waits until NOW reaches an instant. -/
  | wat (t : Fin 64) (rd ra rb : Fin 32) (mode : BitVec 2) (sw : BitVec 9)
  /-- CAS (R134): Atomic compare-and-swap on scratch or control space. -/
  | cas (t : Fin 64) (rd ra rb : Fin 32) (func : BitVec 11)
  /-- TFND (R135): Searches a control-space array for a masked match. -/
  | tfnd (t : Fin 64) (rd ra rb : Fin 32) (func : BitVec 11)
  /-- MSND (R137): Queues a mailbox message to the manager session. -/
  | msnd (t : Fin 64) (rd ra rb : Fin 32) (func : BitVec 11)
  /-- MRCV (R138): Takes the oldest mailbox message for the image, waiting if none. -/
  | mrcv (t : Fin 64) (rd ra rb : Fin 32) (func : BitVec 10)
  /-- MRCV_NB (R138): Takes the oldest mailbox message for the image, returning at once if none. -/
  | mrcvNb (t : Fin 64) (rd ra rb : Fin 32) (func : BitVec 10)
  /-- DMVK (R141): Launches a data-mover job from a scratch descriptor. -/
  | dmvk (t : Fin 64) (rd ra rb : Fin 32) (func : BitVec 11)
  deriving DecidableEq, Repr

end Sys2Proof
end

