-- ==== Sys2Proof/Decode.lean ====
section
/-! DEFINITION. Commands from the bits of the opcode table. The table gives no row any bits (spec/opcode_table.json), so no
word spells a command. -/

namespace Sys2Proof

/-- The command that a word of `nbits` bits spells: none does. -/
def decodeTableWord (_nbits _w : Nat) : Option Instr := none

end Sys2Proof
end

