-- ==== Sys2Proof/Config.lean ====
section
/-! DEFINITION. What an implementation fixes, and the values the spec leaves open. Every value here is opaque, or the bytes of an
opaque one: nothing can prove a value of it. -/

namespace Sys2Proof.Config

/-- The `n`-th value that the spec leaves open (assumption 4): a fresh one each time, counted in `Dev.freeCtr`. -/
opaque freeValue : Nat → Word

/-- Does a calibration or test register lie at an address that no chapter lists (R149)? The spec says that there are about a
thousand and lists none (assumption 171). -/
opaque calibration : Nat → Bool

/-- What a calibration or test register holds that nothing has written, by its address / 8 (assumption 171). -/
opaque calibrationValue : Nat → Word

/-- The preshoot and de-emphasis that the base specification gives preset `n` of the NRZ or the PAM4 set, as the nearest C−1 and
C+1 (R184; assumption 182). -/
opaque preset : (pam4 : Bool) → (n : Nat) → Nat × Nat

/-- C+1 and C0 that realise the base specification's de-emphasis at 2.5 and 5 GT/s (R182; assumption 182). -/
opaque deEmphasis : (rate : Nat) → Nat × Nat

/-- The DevLoad that QoS telemetry reports for an egress queue that holds `n` cells (R225; assumption 183). -/
opaque devLoad : (cells : Nat) → Fin 4

/-- ECDSA P-384 with the fused device identity key, which nothing can read: the 96 bytes of the signature's two numbers (R618;
assumption 9). -/
opaque identity384 : (message : List Byte) → Vector Byte 96

/-- The signature's bytes. -/
def identitySign (message : List Byte) : List Byte := (identity384 message).toList

/-- The certificate chain of slot 0, the device identity chain (R618). -/
opaque certChain : List Byte

/-- The SHA-384 digest of the boot ROM (R618). -/
opaque rom384 : Vector Byte 48

/-- The digest's bytes. -/
def romDigest : List Byte := rom384.toList

/-- The revision letter's code in fuses (R151). -/
opaque revLetter : Nat

/-- The revision digit in fuses (R151). -/
opaque revDigit : Nat

/-- Is the device a G512M (R151)? -/
opaque variantM : Bool

/-- The fused serial number (R152). -/
opaque serial : Word

/-- The coordinates of the key that fuse entry 0, 1, 2 or 3 holds at manufacture (R85). -/
opaque fusedKey : Nat → Nat × Nat

/-- An entry of the fault history or of the corrected-error log. -/
inductive LogEntry where
  | history (i : Fin 64)
  | corrected (i : Fin 256)
  deriving DecidableEq, Repr

/-- The log entry that a word of the logs and telemetry region holds, if any (R531, R535, R560; assumption 216). -/
opaque logEntry : (word : Nat) → Option LogEntry

end Sys2Proof.Config
end

