-- ==== Sys2Proof/Machine/RegNames.lean ====
section
/-! DEFINITION. The names of the control-space registers (05_control_space.md, R145, R147), one constructor a register
name, and the shape of a field map (00_scope.md, R6, R7). The fields themselves stand in RegTable.lean. -/

namespace Sys2Proof.Machine

/-- The access codes of R6. `st` and `stlk` fields are staged (a direct write leaves them), `lk` and `stlk` lockable. -/
inductive Acc where
  | ro | rw | w1c | rc | wo | sc | st | lk | stlk
  deriving DecidableEq, Repr

/-- The resets of R7's table: power-on, warm, soft, port, fold, slot. -/
inductive RstKind where
  | power | warm | soft | port | fold | slot
  deriving DecidableEq, Repr

/-- The register names of the field maps. A register of an instanced block carries its instance, and an array element
its index, in `Reg`. -/
inductive RK where
  /-- R53 (02_rack_time.md). -/
  | TIM_CTRL
  /-- R54 (02_rack_time.md). -/
  | TIM_STATUS
  /-- R55 (02_rack_time.md). -/
  | TIM_NOW
  /-- R56 (02_rack_time.md). -/
  | TIM_OFFSET
  /-- R57 (02_rack_time.md). -/
  | TIM_LOCK_CFG
  /-- R58 (02_rack_time.md). -/
  | TIM_COMMIT_INSTANT
  /-- R58 (02_rack_time.md). -/
  | TIM_COMMIT_STAT
  /-- R97 (03_wygel_machine.md). -/
  | WGL_ID
  /-- R98 (03_wygel_machine.md). -/
  | WGL_CTRL
  /-- R99 (03_wygel_machine.md). -/
  | WGL_LOAD_STAT
  /-- R100 (03_wygel_machine.md). -/
  | WGL_KEY_STAT
  /-- R101 (03_wygel_machine.md). -/
  | WGL_ENG_CTRL
  /-- R102 (03_wygel_machine.md). -/
  | WGL_THR_STAT
  /-- R102 (03_wygel_machine.md). -/
  | WGL_THR_CTRL
  /-- R150 (05_control_space.md). -/
  | CSP_BLOCK_DESC
  /-- R151 (05_control_space.md). -/
  | CSP_ID
  /-- R152 (05_control_space.md). -/
  | CSP_SERIAL
  /-- R153 (05_control_space.md). -/
  | CSP_CAP
  /-- R155 (05_control_space.md). -/
  | CSP_STATUS
  /-- R156 (05_control_space.md). -/
  | CSP_ERR
  /-- R157 (05_control_space.md). -/
  | CSP_ERR_COUNT
  /-- R159 (05_control_space.md). -/
  | CSP_SCRATCH
  /-- R207 (06_lanes.md). -/
  | LAN_CTRL
  /-- R208 (06_lanes.md). -/
  | LAN_STATUS
  /-- R209 (06_lanes.md). -/
  | LAN_TXEQ
  /-- R210 (06_lanes.md). -/
  | LAN_ADAPT
  /-- R211 (06_lanes.md). -/
  | LAN_MARGIN_CTRL
  /-- R211 (06_lanes.md). -/
  | LAN_MARGIN_STAT
  /-- R212 (06_lanes.md). -/
  | LAN_PRBS_CTRL
  /-- R212 (06_lanes.md). -/
  | LAN_PRBS_INJ
  /-- R213 (06_lanes.md). -/
  | LAN_PRBS_STAT
  /-- R213 (06_lanes.md). -/
  | LAN_PRBS_ERR
  /-- R213 (06_lanes.md). -/
  | LAN_PRBS_BITS
  /-- R214 (06_lanes.md). -/
  | LAN_PORT_CFG
  /-- R215 (06_lanes.md). -/
  | LAN_FALLOW_CFG
  /-- R216 (06_lanes.md). -/
  | LAN_FALLOW_STAT
  /-- R252 (07_cxl_ports.md). -/
  | CXP_PORT_CFG
  /-- R253 (07_cxl_ports.md). -/
  | CXP_LINK_STAT
  /-- R254 (07_cxl_ports.md). -/
  | CXP_CONTAIN
  /-- R255 (07_cxl_ports.md). -/
  | CXP_IDE_CFG
  /-- R256 (07_cxl_ports.md). -/
  | CXP_HP_STAT
  /-- R257 (07_cxl_ports.md). -/
  | CXP_PBR_ROUTE
  /-- R258 (07_cxl_ports.md). -/
  | CXP_VSW_CFG
  /-- R259 (07_cxl_ports.md). -/
  | CXP_VB
  /-- R260 (07_cxl_ports.md). -/
  | CXP_POOL_CFG
  /-- R261 (07_cxl_ports.md). -/
  | CXP_POOL_REGION
  /-- R261 (07_cxl_ports.md). -/
  | CXP_POOL_USED
  /-- R298 (08_thatchlink.md). -/
  | TLK_CFG
  /-- R299 (08_thatchlink.md). -/
  | TLK_FC_CFG
  /-- R299 (08_thatchlink.md). -/
  | TLK_VC_CFG
  /-- R300 (08_thatchlink.md). -/
  | TLK_STATUS
  /-- R301 (08_thatchlink.md). -/
  | TLK_RTT
  /-- R301 (08_thatchlink.md). -/
  | TLK_PARTNER_VC
  /-- R302 (08_thatchlink.md). -/
  | TLK_ERR_CNT
  /-- R302 (08_thatchlink.md). -/
  | TLK_EVT_CNT
  /-- R330 (09_switch_core.md). -/
  | SWC_BUF_STAT
  /-- R331 (09_switch_core.md). -/
  | SWC_ALPHA
  /-- R332 (09_switch_core.md). -/
  | SWC_CLASS_CFG
  /-- R333 (09_switch_core.md). -/
  | SWC_AGE_CFG
  /-- R333 (09_switch_core.md). -/
  | SWC_AGE_PORTS
  /-- R334 (09_switch_core.md). -/
  | SWC_FLUSH_CNT
  /-- R334 (09_switch_core.md). -/
  | SWC_DISCARD_CNT
  /-- R334 (09_switch_core.md). -/
  | SWC_EVENT_CNT
  /-- R335 (09_switch_core.md). -/
  | SWC_PORT_MIN
  /-- R336 (09_switch_core.md). -/
  | SWC_CLASS_RULE
  /-- R359 (10_scheduling.md). -/
  | SCH_PORT_CFG
  /-- R360 (10_scheduling.md). -/
  | SCH_PORT_STAT
  /-- R361 (10_scheduling.md). -/
  | SCH_RIDGE_CNT0
  /-- R361 (10_scheduling.md). -/
  | SCH_RIDGE_CNT1
  /-- R362 (10_scheduling.md). -/
  | SCH_RIDGE_Q
  /-- R363 (10_scheduling.md). -/
  | SCH_CLASS_CFG
  /-- R364 (10_scheduling.md). -/
  | SCH_GATE_MAP
  /-- R365 (10_scheduling.md). -/
  | SCH_RIDGE_RES
  /-- R366 (10_scheduling.md). -/
  | SCH_QUEUE_CFG
  /-- R366 (10_scheduling.md). -/
  | SCH_QUEUE_STAT
  /-- R367 (10_scheduling.md). -/
  | SCH_SHAPER_CFG
  /-- R367 (10_scheduling.md). -/
  | SCH_SHAPER_STAT
  /-- R367 (10_scheduling.md). -/
  | SCH_SHAPER_BYTES
  /-- R395 (11_thatch_map.md). -/
  | TMP_FIELD0
  /-- R395 (11_thatch_map.md). -/
  | TMP_FIELD1
  /-- R396 (11_thatch_map.md). -/
  | TMP_SWARD
  /-- R397 (11_thatch_map.md). -/
  | TMP_BIND0
  /-- R397 (11_thatch_map.md). -/
  | TMP_BIND1
  /-- R398 (11_thatch_map.md). -/
  | TMP_ALLOC_CFG
  /-- R398 (11_thatch_map.md). -/
  | TMP_ALLOC_STAT
  /-- R399 (11_thatch_map.md). -/
  | TMP_TIER_CFG
  /-- R399 (11_thatch_map.md). -/
  | TMP_TIER_FIG
  /-- R399 (11_thatch_map.md). -/
  | TMP_TIER_STAT
  /-- R400 (11_thatch_map.md). -/
  | TMP_MIGR_CFG
  /-- R400 (11_thatch_map.md). -/
  | TMP_MIGR_STAT0
  /-- R400 (11_thatch_map.md). -/
  | TMP_MIGR_STAT1
  /-- R401 (11_thatch_map.md). -/
  | TMP_CMD
  /-- R401 (11_thatch_map.md). -/
  | TMP_CMD_STAT
  /-- R402 (11_thatch_map.md). -/
  | TMP_DEV_CFG
  /-- R402 (11_thatch_map.md). -/
  | TMP_DEV_RANGE
  /-- R402 (11_thatch_map.md). -/
  | TMP_DEV_STAT
  /-- R403 (11_thatch_map.md). -/
  | TMP_QUOTA
  /-- R404 (11_thatch_map.md). -/
  | TMP_MIGR_SLOT
  /-- R434 (12_fabric_directory.md). -/
  | DIR_STAT
  /-- R435 (12_fabric_directory.md). -/
  | DIR_CNT0
  /-- R435 (12_fabric_directory.md). -/
  | DIR_CNT1
  /-- R435 (12_fabric_directory.md). -/
  | DIR_CNT2
  /-- R436 (12_fabric_directory.md). -/
  | DIR_HOST_CFG
  /-- R436 (12_fabric_directory.md). -/
  | DIR_HOST_STAT
  /-- R437 (12_fabric_directory.md). -/
  | DIR_ENTRY0
  /-- R437 (12_fabric_directory.md). -/
  | DIR_ENTRY1
  /-- R467 (13_folds_and_data_movers.md). -/
  | FLD_CFG
  /-- R467 (13_folds_and_data_movers.md). -/
  | FLD_STAT
  /-- R468 (13_folds_and_data_movers.md). -/
  | FLD_CNT
  /-- R469 (13_folds_and_data_movers.md). -/
  | FLD_SQ_BASE
  /-- R469 (13_folds_and_data_movers.md). -/
  | FLD_SQ_CFG
  /-- R469 (13_folds_and_data_movers.md). -/
  | FLD_SQ_STAT
  /-- R470 (13_folds_and_data_movers.md). -/
  | FLD_CQ_BASE
  /-- R470 (13_folds_and_data_movers.md). -/
  | FLD_CQ_CFG
  /-- R470 (13_folds_and_data_movers.md). -/
  | FLD_CQ_STAT
  /-- R471 (13_folds_and_data_movers.md). -/
  | FLD_SQ_DB
  /-- R471 (13_folds_and_data_movers.md). -/
  | FLD_CQ_DB
  /-- R471 (13_folds_and_data_movers.md). -/
  | FLD_PUSH
  /-- R472 (13_folds_and_data_movers.md). -/
  | FLD_PROG_ADDR
  /-- R472 (13_folds_and_data_movers.md). -/
  | FLD_PROG_CTRL
  /-- R472 (13_folds_and_data_movers.md). -/
  | FLD_PROG_STAT
  /-- R472 (13_folds_and_data_movers.md). -/
  | FLD_KEY
  /-- R472 (13_folds_and_data_movers.md). -/
  | FLD_KEY_CFG
  /-- R473 (13_folds_and_data_movers.md). -/
  | FLD_MSIX0
  /-- R473 (13_folds_and_data_movers.md). -/
  | FLD_MSIX1
  /-- R473 (13_folds_and_data_movers.md). -/
  | FLD_PBA
  /-- R474 (13_folds_and_data_movers.md). -/
  | DMV_CTRL
  /-- R474 (13_folds_and_data_movers.md). -/
  | DMV_STAT
  /-- R474 (13_folds_and_data_movers.md). -/
  | DMV_BYTES
  /-- R474 (13_folds_and_data_movers.md). -/
  | DMV_CHUNKS
  /-- R474 (13_folds_and_data_movers.md). -/
  | DMV_ERR
  /-- R497 (14_fold_isolation_and_migration.md). -/
  | FLD_SHARE
  /-- R497 (14_fold_isolation_and_migration.md). -/
  | FLD_RESET
  /-- R498 (14_fold_isolation_and_migration.md). -/
  | FLD_MIG_CTRL
  /-- R498 (14_fold_isolation_and_migration.md). -/
  | FLD_MIG_INSTANT
  /-- R498 (14_fold_isolation_and_migration.md). -/
  | FLD_MIG_ADDR
  /-- R498 (14_fold_isolation_and_migration.md). -/
  | FLD_MIG_ID
  /-- R499 (14_fold_isolation_and_migration.md). -/
  | FLD_MIG_STAT
  /-- R499 (14_fold_isolation_and_migration.md). -/
  | FLD_MIG_KEY
  /-- R518 (15_hedgerow.md). -/
  | HRW_PORT_RULE0
  /-- R518 (15_hedgerow.md). -/
  | HRW_POOL_RULE0
  /-- R518 (15_hedgerow.md). -/
  | HRW_ENG_RULE0
  /-- R518 (15_hedgerow.md). -/
  | HRW_DEFMAP0
  /-- R518 (15_hedgerow.md). -/
  | HRW_PORT_RULE1
  /-- R518 (15_hedgerow.md). -/
  | HRW_POOL_RULE1
  /-- R518 (15_hedgerow.md). -/
  | HRW_ENG_RULE1
  /-- R518 (15_hedgerow.md). -/
  | HRW_DEFMAP1
  /-- R519 (15_hedgerow.md). -/
  | HRW_POOL_RULE2
  /-- R519 (15_hedgerow.md). -/
  | HRW_ENG_RULE2
  /-- R520 (15_hedgerow.md). -/
  | HRW_PORT_DENY_STAT
  /-- R520 (15_hedgerow.md). -/
  | HRW_POOL_DENY_STAT
  /-- R520 (15_hedgerow.md). -/
  | HRW_ENG_DENY_STAT
  /-- R520 (15_hedgerow.md). -/
  | HRW_PORT_DENY_ADDR
  /-- R520 (15_hedgerow.md). -/
  | HRW_POOL_DENY_ADDR
  /-- R520 (15_hedgerow.md). -/
  | HRW_ENG_DENY_ADDR
  /-- R520 (15_hedgerow.md). -/
  | HRW_PORT_DENY_INFO
  /-- R520 (15_hedgerow.md). -/
  | HRW_POOL_DENY_INFO
  /-- R520 (15_hedgerow.md). -/
  | HRW_ENG_DENY_INFO
  /-- R540 (16_stored_data_integrity.md). -/
  | MEM_REGION_CTRL
  /-- R540 (16_stored_data_integrity.md). -/
  | MEM_SCRUB_CFG
  /-- R541 (16_stored_data_integrity.md). -/
  | MEM_REGION
  /-- R541 (16_stored_data_integrity.md). -/
  | MEM_REGION_LAP
  /-- R542 (16_stored_data_integrity.md). -/
  | MEM_SUBST
  /-- R542 (16_stored_data_integrity.md). -/
  | MEM_SCRUB_STAT
  /-- R543 (16_stored_data_integrity.md). -/
  | MEM_CELOG_STAT
  /-- R543 (16_stored_data_integrity.md). -/
  | MEM_CELOG0
  /-- R543 (16_stored_data_integrity.md). -/
  | MEM_CELOG1
  /-- R543 (16_stored_data_integrity.md). -/
  | MEM_CELOG2
  /-- R544 (16_stored_data_integrity.md). -/
  | MEM_BANK_CFG
  /-- R544 (16_stored_data_integrity.md). -/
  | MEM_BANK_STAT
  /-- R544 (16_stored_data_integrity.md). -/
  | MEM_BANK_CTRL
  /-- R544 (16_stored_data_integrity.md). -/
  | MEM_BANK_CNT
  /-- R562 (17_fault_collection.md). -/
  | FLT_CTRL
  /-- R562 (17_fault_collection.md). -/
  | FLT_STATUS
  /-- R563 (17_fault_collection.md). -/
  | FLT_LAST_UCF
  /-- R563 (17_fault_collection.md). -/
  | FLT_HIST_STAT
  /-- R564 (17_fault_collection.md). -/
  | FLT_THREAD_REACT
  /-- R564 (17_fault_collection.md). -/
  | FLT_UNIT_REACT
  /-- R565 (17_fault_collection.md). -/
  | FLT_UNIT_STAT
  /-- R565 (17_fault_collection.md). -/
  | FLT_UNIT_CNT
  /-- R565 (17_fault_collection.md). -/
  | FLT_UNIT_LAST
  /-- R598 (18_slot_power.md). -/
  | SLT_CFG
  /-- R599 (18_slot_power.md). -/
  | SLT_CMD
  /-- R599 (18_slot_power.md). -/
  | SLT_ON_INSTANT
  /-- R600 (18_slot_power.md). -/
  | SLT_STAT
  /-- R601 (18_slot_power.md). -/
  | SLT_VCFG
  /-- R601 (18_slot_power.md). -/
  | SLT_BOARD
  /-- R602 (18_slot_power.md). -/
  | SLT_MEAS
  /-- R602 (18_slot_power.md). -/
  | SLT_MEAS2
  /-- R602 (18_slot_power.md). -/
  | SLT_ENERGY
  /-- R602 (18_slot_power.md). -/
  | SLT_ENERGY_WIN
  /-- R602 (18_slot_power.md). -/
  | SLT_ENERGY_END
  /-- R602 (18_slot_power.md). -/
  | SLT_FET_TEMP
  /-- R603 (18_slot_power.md). -/
  | SLT_IDENT
  /-- R603 (18_slot_power.md). -/
  | SLT_PROFILE
  /-- R604 (18_slot_power.md). -/
  | SB_CFG
  /-- R604 (18_slot_power.md). -/
  | SB_XFER
  /-- R604 (18_slot_power.md). -/
  | SB_DATA
  /-- R633 (19_ethernet_and_chain.md). -/
  | ETH_CFG
  /-- R633 (19_ethernet_and_chain.md). -/
  | ETH_STAT
  /-- R633 (19_ethernet_and_chain.md). -/
  | ETH_MACSEC
  /-- R634 (19_ethernet_and_chain.md). -/
  | ETH_CAK
  /-- R634 (19_ethernet_and_chain.md). -/
  | ETH_CKN
  /-- R634 (19_ethernet_and_chain.md). -/
  | ETH_ADDR
  /-- R634 (19_ethernet_and_chain.md). -/
  | ETH_MGR_ALLOW
  /-- R635 (19_ethernet_and_chain.md). -/
  | ETH_PTP
  /-- R636 (19_ethernet_and_chain.md). -/
  | ETH_SESSION
  /-- R636 (19_ethernet_and_chain.md). -/
  | ETH_FMAPI
  /-- R636 (19_ethernet_and_chain.md). -/
  | ETH_CNT
  /-- R637 (19_ethernet_and_chain.md). -/
  | ETH_TELEM0
  /-- R637 (19_ethernet_and_chain.md). -/
  | ETH_TELEM1
  /-- R638 (19_ethernet_and_chain.md). -/
  | CHN_STATUS
  /-- R638 (19_ethernet_and_chain.md). -/
  | CHN_PID_RULE
  /-- R638 (19_ethernet_and_chain.md). -/
  | CHN_BOOT
  /-- R638 (19_ethernet_and_chain.md). -/
  | CHN_PID_CALC
  /-- R656 (20_resets_and_power_states.md). -/
  | RST_CTRL
  /-- R656 (20_resets_and_power_states.md). -/
  | RST_STANDBY_CFG
  /-- R657 (20_resets_and_power_states.md). -/
  | RST_WAKE_AT
  /-- R657 (20_resets_and_power_states.md). -/
  | RST_STANDBY_STAT
  /-- R658 (20_resets_and_power_states.md). -/
  | RST_CAUSE
  /-- R659 (20_resets_and_power_states.md). -/
  | RST_SUPPLY_STAT
  /-- R659 (20_resets_and_power_states.md). -/
  | RST_SUPPLY_MIN
  /-- R672 (21_debug_and_test.md). -/
  | DBG_CTRL
  /-- R672 (21_debug_and_test.md). -/
  | DBG_STAT
  /-- R673 (21_debug_and_test.md). -/
  | DBG_TMX_SEL
  /-- R673 (21_debug_and_test.md). -/
  | DBG_TMX_STAT
  /-- R699 (22_electrical_and_package.md). -/
  | RST_TEMP
  /-- R699 (22_electrical_and_package.md). -/
  | RST_THERM_CFG
  /-- R566 (17_fault_collection.md). -/
  | FLT_HIST0
  /-- R566 (17_fault_collection.md). -/
  | FLT_HIST1
  /-- R566 (17_fault_collection.md). -/
  | FLT_HIST2
  /-- R566 (17_fault_collection.md). -/
  | FLT_HIST3
  deriving DecidableEq, Repr

/-- One register: its name, its block instance (0 in a block with one instance) and its element in an array of that
instance (0 where there is none), as R144 and R145 number them. -/
structure Reg where
  k : RK
  i : Nat
  j : Nat
  deriving DecidableEq, Repr

/-- A named field of a register: bits `lo` to `lo + w - 1`. -/
structure Fld where
  k : RK
  lo : Nat
  w : Nat
  deriving DecidableEq, Repr

/-- One row of a field map: the bits, the access code, the reset value and the resets that restore it. -/
structure FD where
  lo : Nat
  w : Nat
  acc : Acc
  rst : Nat
  res : List RstKind
  deriving DecidableEq, Repr

/-- Where a register lies: block, offset in the instance, stride and count of its array there. -/
structure Place where
  block : Nat
  off : Nat
  stride : Nat
  count : Nat
  deriving DecidableEq, Repr

end Sys2Proof.Machine
end

