-- ==== Sys2Proof/Machine/RegTable.lean ====
section
/-! DEFINITION. The register map and the field maps of every chapter: where each register lies (`RK.place`), its fields
with access code, reset value and restoring resets (`RK.fields`), and one name per field. A reset value that comes from
fuses, pins or an index stands in `Reg.resetVal` (Ops.lean); its row here holds 0. -/

namespace Sys2Proof.Machine

/-- The Restored by column "none". -/
abbrev nn : List RstKind := []
/-- Restored by P. -/
abbrev pp : List RstKind := [.power]
/-- Restored by P, W. -/
abbrev pw : List RstKind := [.power, .warm]
/-- Restored by P, W, S. -/
abbrev pws : List RstKind := [.power, .warm, .soft]
/-- Restored by P, W, S, L. -/
abbrev pwsl : List RstKind := [.power, .warm, .soft, .port]
/-- Restored by P, W, S, F. -/
abbrev pwsf : List RstKind := [.power, .warm, .soft, .fold]
/-- Restored by P, W, Z. -/
abbrev pwz : List RstKind := [.power, .warm, .slot]

/-- Where each register lies (R144, R145 and the owning chapters). -/
def RK.place : RK → Place
  | .TIM_CTRL => ⟨0x02, 0x0000, 0x8, 1⟩
  | .TIM_STATUS => ⟨0x02, 0x0008, 0x8, 1⟩
  | .TIM_NOW => ⟨0x02, 0x0010, 0x8, 1⟩
  | .TIM_OFFSET => ⟨0x02, 0x0018, 0x8, 1⟩
  | .TIM_LOCK_CFG => ⟨0x02, 0x0020, 0x8, 1⟩
  | .TIM_COMMIT_INSTANT => ⟨0x02, 0x0100, 0x10, 16⟩
  | .TIM_COMMIT_STAT => ⟨0x02, 0x0108, 0x10, 16⟩
  | .WGL_ID => ⟨0x03, 0x0000, 0x8, 1⟩
  | .WGL_CTRL => ⟨0x03, 0x0008, 0x8, 1⟩
  | .WGL_LOAD_STAT => ⟨0x03, 0x0010, 0x8, 1⟩
  | .WGL_KEY_STAT => ⟨0x03, 0x0018, 0x8, 1⟩
  | .WGL_ENG_CTRL => ⟨0x03, 0x0100, 0x8, 16⟩
  | .WGL_THR_STAT => ⟨0x03, 0x1000, 0x10, 64⟩
  | .WGL_THR_CTRL => ⟨0x03, 0x1008, 0x10, 64⟩
  | .CSP_BLOCK_DESC => ⟨0x00, 0x1000, 0x8, 128⟩
  | .CSP_ID => ⟨0x00, 0x0000, 0x8, 1⟩
  | .CSP_SERIAL => ⟨0x00, 0x0008, 0x8, 1⟩
  | .CSP_CAP => ⟨0x00, 0x0010, 0x8, 1⟩
  | .CSP_STATUS => ⟨0x00, 0x0020, 0x8, 1⟩
  | .CSP_ERR => ⟨0x00, 0x0028, 0x8, 1⟩
  | .CSP_ERR_COUNT => ⟨0x00, 0x0030, 0x8, 1⟩
  | .CSP_SCRATCH => ⟨0x00, 0x0040, 0x8, 4⟩
  | .LAN_CTRL => ⟨0x10, 0x0000, 0x8, 1⟩
  | .LAN_STATUS => ⟨0x10, 0x0008, 0x8, 1⟩
  | .LAN_TXEQ => ⟨0x10, 0x0010, 0x8, 1⟩
  | .LAN_ADAPT => ⟨0x10, 0x0018, 0x8, 1⟩
  | .LAN_MARGIN_CTRL => ⟨0x10, 0x0020, 0x8, 1⟩
  | .LAN_MARGIN_STAT => ⟨0x10, 0x0028, 0x8, 1⟩
  | .LAN_PRBS_CTRL => ⟨0x10, 0x0040, 0x8, 1⟩
  | .LAN_PRBS_INJ => ⟨0x10, 0x0048, 0x8, 1⟩
  | .LAN_PRBS_STAT => ⟨0x10, 0x0050, 0x8, 1⟩
  | .LAN_PRBS_ERR => ⟨0x10, 0x0058, 0x8, 1⟩
  | .LAN_PRBS_BITS => ⟨0x10, 0x0060, 0x8, 1⟩
  | .LAN_PORT_CFG => ⟨0x10, 0x0100, 0x8, 1⟩
  | .LAN_FALLOW_CFG => ⟨0x10, 0x0108, 0x8, 1⟩
  | .LAN_FALLOW_STAT => ⟨0x10, 0x0110, 0x8, 1⟩
  | .CXP_PORT_CFG => ⟨0x11, 0x0000, 0x8, 1⟩
  | .CXP_LINK_STAT => ⟨0x11, 0x0008, 0x8, 1⟩
  | .CXP_CONTAIN => ⟨0x11, 0x0010, 0x8, 1⟩
  | .CXP_IDE_CFG => ⟨0x11, 0x0018, 0x8, 1⟩
  | .CXP_HP_STAT => ⟨0x11, 0x0020, 0x8, 1⟩
  | .CXP_PBR_ROUTE => ⟨0x11, 0x8000, 0x8, 4096⟩
  | .CXP_VSW_CFG => ⟨0x12, 0x0000, 0x8, 1⟩
  | .CXP_VB => ⟨0x12, 0x0100, 0x8, 32⟩
  | .CXP_POOL_CFG => ⟨0x12, 0x0200, 0x8, 1⟩
  | .CXP_POOL_REGION => ⟨0x12, 0x0300, 0x10, 8⟩
  | .CXP_POOL_USED => ⟨0x12, 0x0308, 0x10, 8⟩
  | .TLK_CFG => ⟨0x13, 0x0000, 0x8, 1⟩
  | .TLK_FC_CFG => ⟨0x13, 0x0008, 0x8, 1⟩
  | .TLK_VC_CFG => ⟨0x13, 0x0100, 0x8, 8⟩
  | .TLK_STATUS => ⟨0x13, 0x0010, 0x8, 1⟩
  | .TLK_RTT => ⟨0x13, 0x0018, 0x8, 1⟩
  | .TLK_PARTNER_VC => ⟨0x13, 0x0200, 0x8, 8⟩
  | .TLK_ERR_CNT => ⟨0x13, 0x0020, 0x8, 1⟩
  | .TLK_EVT_CNT => ⟨0x13, 0x0028, 0x8, 1⟩
  | .SWC_BUF_STAT => ⟨0x14, 0x0000, 0x8, 1⟩
  | .SWC_ALPHA => ⟨0x14, 0x0010, 0x8, 1⟩
  | .SWC_CLASS_CFG => ⟨0x14, 0x0018, 0x8, 1⟩
  | .SWC_AGE_CFG => ⟨0x14, 0x0020, 0x8, 1⟩
  | .SWC_AGE_PORTS => ⟨0x14, 0x0028, 0x8, 2⟩
  | .SWC_FLUSH_CNT => ⟨0x14, 0x0040, 0x8, 1⟩
  | .SWC_DISCARD_CNT => ⟨0x14, 0x0048, 0x8, 1⟩
  | .SWC_EVENT_CNT => ⟨0x14, 0x0050, 0x8, 1⟩
  | .SWC_PORT_MIN => ⟨0x14, 0x0400, 0x8, 128⟩
  | .SWC_CLASS_RULE => ⟨0x14, 0x1000, 0x8, 256⟩
  | .SCH_PORT_CFG => ⟨0x15, 0x0000, 0x8, 1⟩
  | .SCH_PORT_STAT => ⟨0x15, 0x0008, 0x8, 1⟩
  | .SCH_RIDGE_CNT0 => ⟨0x15, 0x0010, 0x8, 1⟩
  | .SCH_RIDGE_CNT1 => ⟨0x15, 0x0018, 0x8, 1⟩
  | .SCH_RIDGE_Q => ⟨0x15, 0x0020, 0x8, 1⟩
  | .SCH_CLASS_CFG => ⟨0x15, 0x0100, 0x8, 8⟩
  | .SCH_GATE_MAP => ⟨0x15, 0x0200, 0x8, 16⟩
  | .SCH_RIDGE_RES => ⟨0x15, 0x1000, 0x8, 32⟩
  | .SCH_QUEUE_CFG => ⟨0x15, 0x4000, 0x10, 448⟩
  | .SCH_QUEUE_STAT => ⟨0x15, 0x4008, 0x10, 448⟩
  | .SCH_SHAPER_CFG => ⟨0x16, 0x0000, 0x8, 1⟩
  | .SCH_SHAPER_STAT => ⟨0x16, 0x0008, 0x8, 1⟩
  | .SCH_SHAPER_BYTES => ⟨0x16, 0x0010, 0x8, 1⟩
  | .TMP_FIELD0 => ⟨0x19, 0x0000, 0x8, 1⟩
  | .TMP_FIELD1 => ⟨0x19, 0x0008, 0x8, 1⟩
  | .TMP_SWARD => ⟨0x1A, 0x0000, 0x8, 1⟩
  | .TMP_BIND0 => ⟨0x1B, 0x0000, 0x8, 1⟩
  | .TMP_BIND1 => ⟨0x1B, 0x0008, 0x8, 1⟩
  | .TMP_ALLOC_CFG => ⟨0x18, 0x0000, 0x8, 1⟩
  | .TMP_ALLOC_STAT => ⟨0x18, 0x0008, 0x8, 1⟩
  | .TMP_TIER_CFG => ⟨0x18, 0x0100, 0x20, 4⟩
  | .TMP_TIER_FIG => ⟨0x18, 0x0108, 0x20, 4⟩
  | .TMP_TIER_STAT => ⟨0x18, 0x0110, 0x20, 4⟩
  | .TMP_MIGR_CFG => ⟨0x18, 0x0200, 0x8, 1⟩
  | .TMP_MIGR_STAT0 => ⟨0x18, 0x0208, 0x8, 1⟩
  | .TMP_MIGR_STAT1 => ⟨0x18, 0x0210, 0x8, 1⟩
  | .TMP_CMD => ⟨0x18, 0x0300, 0x8, 1⟩
  | .TMP_CMD_STAT => ⟨0x18, 0x0308, 0x8, 1⟩
  | .TMP_DEV_CFG => ⟨0x18, 0x1000, 0x20, 256⟩
  | .TMP_DEV_RANGE => ⟨0x18, 0x1008, 0x20, 256⟩
  | .TMP_DEV_STAT => ⟨0x18, 0x1010, 0x20, 256⟩
  | .TMP_QUOTA => ⟨0x18, 0x4000, 0x8, 256⟩
  | .TMP_MIGR_SLOT => ⟨0x18, 0x6000, 0x10, 64⟩
  | .DIR_STAT => ⟨0x1C, 0x0000, 0x8, 1⟩
  | .DIR_CNT0 => ⟨0x1C, 0x0010, 0x8, 1⟩
  | .DIR_CNT1 => ⟨0x1C, 0x0018, 0x8, 1⟩
  | .DIR_CNT2 => ⟨0x1C, 0x0020, 0x8, 1⟩
  | .DIR_HOST_CFG => ⟨0x1C, 0x1000, 0x10, 64⟩
  | .DIR_HOST_STAT => ⟨0x1C, 0x1008, 0x10, 64⟩
  | .DIR_ENTRY0 => ⟨0x1D, 0x0000, 0x8, 1⟩
  | .DIR_ENTRY1 => ⟨0x1D, 0x0008, 0x8, 1⟩
  | .FLD_CFG => ⟨0x20, 0x0000, 0x8, 1⟩
  | .FLD_STAT => ⟨0x20, 0x0008, 0x8, 1⟩
  | .FLD_CNT => ⟨0x20, 0x0010, 0x8, 1⟩
  | .FLD_SQ_BASE => ⟨0x20, 0x0100, 0x20, 8⟩
  | .FLD_SQ_CFG => ⟨0x20, 0x0108, 0x20, 8⟩
  | .FLD_SQ_STAT => ⟨0x20, 0x0110, 0x20, 8⟩
  | .FLD_CQ_BASE => ⟨0x20, 0x0200, 0x20, 8⟩
  | .FLD_CQ_CFG => ⟨0x20, 0x0208, 0x20, 8⟩
  | .FLD_CQ_STAT => ⟨0x20, 0x0210, 0x20, 8⟩
  | .FLD_SQ_DB => ⟨0x20, 0x0800, 0x8, 8⟩
  | .FLD_CQ_DB => ⟨0x20, 0x0840, 0x8, 8⟩
  | .FLD_PUSH => ⟨0x20, 0x1000, 0x8, 256⟩
  | .FLD_PROG_ADDR => ⟨0x20, 0x2000, 0x8, 1⟩
  | .FLD_PROG_CTRL => ⟨0x20, 0x2008, 0x8, 1⟩
  | .FLD_PROG_STAT => ⟨0x20, 0x2010, 0x8, 1⟩
  | .FLD_KEY => ⟨0x20, 0x2100, 0x8, 12⟩
  | .FLD_KEY_CFG => ⟨0x20, 0x2160, 0x8, 1⟩
  | .FLD_MSIX0 => ⟨0x20, 0x3000, 0x10, 8⟩
  | .FLD_MSIX1 => ⟨0x20, 0x3008, 0x10, 8⟩
  | .FLD_PBA => ⟨0x20, 0x3800, 0x8, 1⟩
  | .DMV_CTRL => ⟨0x21, 0x0000, 0x8, 1⟩
  | .DMV_STAT => ⟨0x21, 0x0008, 0x8, 1⟩
  | .DMV_BYTES => ⟨0x21, 0x0040, 0x8, 1⟩
  | .DMV_CHUNKS => ⟨0x21, 0x0048, 0x8, 1⟩
  | .DMV_ERR => ⟨0x21, 0x0050, 0x8, 1⟩
  | .FLD_SHARE => ⟨0x20, 0x0018, 0x8, 1⟩
  | .FLD_RESET => ⟨0x20, 0x0020, 0x8, 1⟩
  | .FLD_MIG_CTRL => ⟨0x20, 0x4000, 0x8, 1⟩
  | .FLD_MIG_INSTANT => ⟨0x20, 0x4008, 0x8, 1⟩
  | .FLD_MIG_ADDR => ⟨0x20, 0x4010, 0x8, 1⟩
  | .FLD_MIG_ID => ⟨0x20, 0x4018, 0x8, 1⟩
  | .FLD_MIG_STAT => ⟨0x20, 0x4020, 0x8, 1⟩
  | .FLD_MIG_KEY => ⟨0x20, 0x4100, 0x8, 4⟩
  | .HRW_PORT_RULE0 => ⟨0x24, 0x0000, 0x20, 32⟩
  | .HRW_POOL_RULE0 => ⟨0x25, 0x0000, 0x20, 1024⟩
  | .HRW_ENG_RULE0 => ⟨0x26, 0x0000, 0x20, 256⟩
  | .HRW_DEFMAP0 => ⟨0x26, 0x2000, 0x8, 1⟩
  | .HRW_PORT_RULE1 => ⟨0x24, 0x0008, 0x20, 32⟩
  | .HRW_POOL_RULE1 => ⟨0x25, 0x0008, 0x20, 1024⟩
  | .HRW_ENG_RULE1 => ⟨0x26, 0x0008, 0x20, 256⟩
  | .HRW_DEFMAP1 => ⟨0x26, 0x2008, 0x8, 1⟩
  | .HRW_POOL_RULE2 => ⟨0x25, 0x0010, 0x20, 1024⟩
  | .HRW_ENG_RULE2 => ⟨0x26, 0x0010, 0x20, 256⟩
  | .HRW_PORT_DENY_STAT => ⟨0x24, 0x0800, 0x8, 1⟩
  | .HRW_POOL_DENY_STAT => ⟨0x25, 0x8000, 0x8, 1⟩
  | .HRW_ENG_DENY_STAT => ⟨0x26, 0x8000, 0x8, 1⟩
  | .HRW_PORT_DENY_ADDR => ⟨0x24, 0x0808, 0x8, 1⟩
  | .HRW_POOL_DENY_ADDR => ⟨0x25, 0x8008, 0x8, 1⟩
  | .HRW_ENG_DENY_ADDR => ⟨0x26, 0x8008, 0x8, 1⟩
  | .HRW_PORT_DENY_INFO => ⟨0x24, 0x0810, 0x8, 1⟩
  | .HRW_POOL_DENY_INFO => ⟨0x25, 0x8010, 0x8, 1⟩
  | .HRW_ENG_DENY_INFO => ⟨0x26, 0x8010, 0x8, 1⟩
  | .MEM_REGION_CTRL => ⟨0x06, 0x0000, 0x8, 1⟩
  | .MEM_SCRUB_CFG => ⟨0x06, 0x0010, 0x8, 1⟩
  | .MEM_REGION => ⟨0x06, 0x0100, 0x8, 16⟩
  | .MEM_REGION_LAP => ⟨0x06, 0x0180, 0x8, 16⟩
  | .MEM_SUBST => ⟨0x06, 0x0200, 0x8, 5⟩
  | .MEM_SCRUB_STAT => ⟨0x06, 0x0300, 0x8, 16⟩
  | .MEM_CELOG_STAT => ⟨0x06, 0x0020, 0x8, 1⟩
  | .MEM_CELOG0 => ⟨0x06, 0x1000, 0x20, 256⟩
  | .MEM_CELOG1 => ⟨0x06, 0x1008, 0x20, 256⟩
  | .MEM_CELOG2 => ⟨0x06, 0x1010, 0x20, 256⟩
  | .MEM_BANK_CFG => ⟨0x07, 0x0000, 0x8, 1⟩
  | .MEM_BANK_STAT => ⟨0x07, 0x0008, 0x8, 1⟩
  | .MEM_BANK_CTRL => ⟨0x07, 0x0010, 0x8, 1⟩
  | .MEM_BANK_CNT => ⟨0x07, 0x0018, 0x8, 1⟩
  | .FLT_CTRL => ⟨0x04, 0x0000, 0x8, 1⟩
  | .FLT_STATUS => ⟨0x04, 0x0008, 0x8, 1⟩
  | .FLT_LAST_UCF => ⟨0x04, 0x0010, 0x8, 1⟩
  | .FLT_HIST_STAT => ⟨0x04, 0x0018, 0x8, 1⟩
  | .FLT_THREAD_REACT => ⟨0x04, 0x0100, 0x8, 64⟩
  | .FLT_UNIT_REACT => ⟨0x05, 0x0000, 0x8, 1⟩
  | .FLT_UNIT_STAT => ⟨0x05, 0x0008, 0x8, 1⟩
  | .FLT_UNIT_CNT => ⟨0x05, 0x0010, 0x8, 1⟩
  | .FLT_UNIT_LAST => ⟨0x05, 0x0018, 0x8, 1⟩
  | .SLT_CFG => ⟨0x28, 0x0000, 0x8, 1⟩
  | .SLT_CMD => ⟨0x28, 0x0008, 0x8, 1⟩
  | .SLT_ON_INSTANT => ⟨0x28, 0x0010, 0x8, 1⟩
  | .SLT_STAT => ⟨0x28, 0x0018, 0x8, 1⟩
  | .SLT_VCFG => ⟨0x28, 0x0020, 0x8, 1⟩
  | .SLT_BOARD => ⟨0x28, 0x0028, 0x8, 1⟩
  | .SLT_MEAS => ⟨0x28, 0x0030, 0x8, 1⟩
  | .SLT_MEAS2 => ⟨0x28, 0x0038, 0x8, 1⟩
  | .SLT_ENERGY => ⟨0x28, 0x0040, 0x8, 1⟩
  | .SLT_ENERGY_WIN => ⟨0x28, 0x0048, 0x8, 1⟩
  | .SLT_ENERGY_END => ⟨0x28, 0x0050, 0x8, 1⟩
  | .SLT_FET_TEMP => ⟨0x28, 0x0058, 0x8, 1⟩
  | .SLT_IDENT => ⟨0x28, 0x0080, 0x8, 8⟩
  | .SLT_PROFILE => ⟨0x28, 0x0100, 0x8, 16⟩
  | .SB_CFG => ⟨0x29, 0x0000, 0x8, 1⟩
  | .SB_XFER => ⟨0x29, 0x0008, 0x8, 1⟩
  | .SB_DATA => ⟨0x29, 0x0040, 0x8, 8⟩
  | .ETH_CFG => ⟨0x08, 0x0000, 0x8, 1⟩
  | .ETH_STAT => ⟨0x08, 0x0008, 0x8, 1⟩
  | .ETH_MACSEC => ⟨0x08, 0x0010, 0x8, 1⟩
  | .ETH_CAK => ⟨0x08, 0x0100, 0x8, 4⟩
  | .ETH_CKN => ⟨0x08, 0x0120, 0x8, 4⟩
  | .ETH_ADDR => ⟨0x08, 0x0200, 0x8, 4⟩
  | .ETH_MGR_ALLOW => ⟨0x08, 0x0300, 0x8, 8⟩
  | .ETH_PTP => ⟨0x08, 0x0400, 0x8, 1⟩
  | .ETH_SESSION => ⟨0x08, 0x8000, 0x8, 1⟩
  | .ETH_FMAPI => ⟨0x08, 0x8008, 0x8, 1⟩
  | .ETH_CNT => ⟨0x08, 0x8010, 0x8, 1⟩
  | .ETH_TELEM0 => ⟨0x08, 0x8100, 0x10, 16⟩
  | .ETH_TELEM1 => ⟨0x08, 0x8108, 0x10, 16⟩
  | .CHN_STATUS => ⟨0x09, 0x0000, 0x8, 1⟩
  | .CHN_PID_RULE => ⟨0x09, 0x0008, 0x8, 1⟩
  | .CHN_BOOT => ⟨0x09, 0x0010, 0x8, 1⟩
  | .CHN_PID_CALC => ⟨0x09, 0x0100, 0x8, 128⟩
  | .RST_CTRL => ⟨0x01, 0x0000, 0x8, 1⟩
  | .RST_STANDBY_CFG => ⟨0x01, 0x0008, 0x8, 1⟩
  | .RST_WAKE_AT => ⟨0x01, 0x0010, 0x8, 1⟩
  | .RST_STANDBY_STAT => ⟨0x01, 0x0018, 0x8, 1⟩
  | .RST_CAUSE => ⟨0x01, 0x0020, 0x8, 1⟩
  | .RST_SUPPLY_STAT => ⟨0x01, 0x0028, 0x8, 1⟩
  | .RST_SUPPLY_MIN => ⟨0x01, 0x0100, 0x8, 13⟩
  | .DBG_CTRL => ⟨0x0A, 0x0000, 0x8, 1⟩
  | .DBG_STAT => ⟨0x0A, 0x0008, 0x8, 1⟩
  | .DBG_TMX_SEL => ⟨0x0A, 0x0010, 0x8, 1⟩
  | .DBG_TMX_STAT => ⟨0x0A, 0x0018, 0x8, 1⟩
  | .RST_TEMP => ⟨0x01, 0x0200, 0x8, 11⟩
  | .RST_THERM_CFG => ⟨0x01, 0x0280, 0x8, 1⟩
  | .FLT_HIST0 => ⟨0x04, 0x1000, 0x20, 64⟩
  | .FLT_HIST1 => ⟨0x04, 0x1008, 0x20, 64⟩
  | .FLT_HIST2 => ⟨0x04, 0x1010, 0x20, 64⟩
  | .FLT_HIST3 => ⟨0x04, 0x1018, 0x20, 64⟩

/-- Register names, part 1. -/
def RK.part1 : List RK := [.TIM_CTRL, .TIM_STATUS, .TIM_NOW, .TIM_OFFSET, .TIM_LOCK_CFG, .TIM_COMMIT_INSTANT, .TIM_COMMIT_STAT, .WGL_ID, .WGL_CTRL, .WGL_LOAD_STAT, .WGL_KEY_STAT, .WGL_ENG_CTRL, .WGL_THR_STAT, .WGL_THR_CTRL, .CSP_BLOCK_DESC, .CSP_ID, .CSP_SERIAL, .CSP_CAP, .CSP_STATUS, .CSP_ERR, .CSP_ERR_COUNT, .CSP_SCRATCH, .LAN_CTRL, .LAN_STATUS, .LAN_TXEQ, .LAN_ADAPT, .LAN_MARGIN_CTRL, .LAN_MARGIN_STAT, .LAN_PRBS_CTRL, .LAN_PRBS_INJ, .LAN_PRBS_STAT, .LAN_PRBS_ERR, .LAN_PRBS_BITS, .LAN_PORT_CFG, .LAN_FALLOW_CFG, .LAN_FALLOW_STAT, .CXP_PORT_CFG, .CXP_LINK_STAT, .CXP_CONTAIN, .CXP_IDE_CFG, .CXP_HP_STAT, .CXP_PBR_ROUTE, .CXP_VSW_CFG, .CXP_VB, .CXP_POOL_CFG, .CXP_POOL_REGION, .CXP_POOL_USED, .TLK_CFG]

/-- Register names, part 2. -/
def RK.part2 : List RK := [.TLK_FC_CFG, .TLK_VC_CFG, .TLK_STATUS, .TLK_RTT, .TLK_PARTNER_VC, .TLK_ERR_CNT, .TLK_EVT_CNT, .SWC_BUF_STAT, .SWC_ALPHA, .SWC_CLASS_CFG, .SWC_AGE_CFG, .SWC_AGE_PORTS, .SWC_FLUSH_CNT, .SWC_DISCARD_CNT, .SWC_EVENT_CNT, .SWC_PORT_MIN, .SWC_CLASS_RULE, .SCH_PORT_CFG, .SCH_PORT_STAT, .SCH_RIDGE_CNT0, .SCH_RIDGE_CNT1, .SCH_RIDGE_Q, .SCH_CLASS_CFG, .SCH_GATE_MAP, .SCH_RIDGE_RES, .SCH_QUEUE_CFG, .SCH_QUEUE_STAT, .SCH_SHAPER_CFG, .SCH_SHAPER_STAT, .SCH_SHAPER_BYTES, .TMP_FIELD0, .TMP_FIELD1, .TMP_SWARD, .TMP_BIND0, .TMP_BIND1, .TMP_ALLOC_CFG, .TMP_ALLOC_STAT, .TMP_TIER_CFG, .TMP_TIER_FIG, .TMP_TIER_STAT, .TMP_MIGR_CFG, .TMP_MIGR_STAT0, .TMP_MIGR_STAT1, .TMP_CMD, .TMP_CMD_STAT, .TMP_DEV_CFG, .TMP_DEV_RANGE, .TMP_DEV_STAT]

/-- Register names, part 3. -/
def RK.part3 : List RK := [.TMP_QUOTA, .TMP_MIGR_SLOT, .DIR_STAT, .DIR_CNT0, .DIR_CNT1, .DIR_CNT2, .DIR_HOST_CFG, .DIR_HOST_STAT, .DIR_ENTRY0, .DIR_ENTRY1, .FLD_CFG, .FLD_STAT, .FLD_CNT, .FLD_SQ_BASE, .FLD_SQ_CFG, .FLD_SQ_STAT, .FLD_CQ_BASE, .FLD_CQ_CFG, .FLD_CQ_STAT, .FLD_SQ_DB, .FLD_CQ_DB, .FLD_PUSH, .FLD_PROG_ADDR, .FLD_PROG_CTRL, .FLD_PROG_STAT, .FLD_KEY, .FLD_KEY_CFG, .FLD_MSIX0, .FLD_MSIX1, .FLD_PBA, .DMV_CTRL, .DMV_STAT, .DMV_BYTES, .DMV_CHUNKS, .DMV_ERR, .FLD_SHARE, .FLD_RESET, .FLD_MIG_CTRL, .FLD_MIG_INSTANT, .FLD_MIG_ADDR, .FLD_MIG_ID, .FLD_MIG_STAT, .FLD_MIG_KEY, .HRW_PORT_RULE0, .HRW_POOL_RULE0, .HRW_ENG_RULE0, .HRW_DEFMAP0, .HRW_PORT_RULE1]

/-- Register names, part 4. -/
def RK.part4 : List RK := [.HRW_POOL_RULE1, .HRW_ENG_RULE1, .HRW_DEFMAP1, .HRW_POOL_RULE2, .HRW_ENG_RULE2, .HRW_PORT_DENY_STAT, .HRW_POOL_DENY_STAT, .HRW_ENG_DENY_STAT, .HRW_PORT_DENY_ADDR, .HRW_POOL_DENY_ADDR, .HRW_ENG_DENY_ADDR, .HRW_PORT_DENY_INFO, .HRW_POOL_DENY_INFO, .HRW_ENG_DENY_INFO, .MEM_REGION_CTRL, .MEM_SCRUB_CFG, .MEM_REGION, .MEM_REGION_LAP, .MEM_SUBST, .MEM_SCRUB_STAT, .MEM_CELOG_STAT, .MEM_CELOG0, .MEM_CELOG1, .MEM_CELOG2, .MEM_BANK_CFG, .MEM_BANK_STAT, .MEM_BANK_CTRL, .MEM_BANK_CNT, .FLT_CTRL, .FLT_STATUS, .FLT_LAST_UCF, .FLT_HIST_STAT, .FLT_THREAD_REACT, .FLT_UNIT_REACT, .FLT_UNIT_STAT, .FLT_UNIT_CNT, .FLT_UNIT_LAST, .SLT_CFG, .SLT_CMD, .SLT_ON_INSTANT, .SLT_STAT, .SLT_VCFG, .SLT_BOARD, .SLT_MEAS, .SLT_MEAS2, .SLT_ENERGY, .SLT_ENERGY_WIN, .SLT_ENERGY_END]

/-- Register names, part 5. -/
def RK.part5 : List RK := [.SLT_FET_TEMP, .SLT_IDENT, .SLT_PROFILE, .SB_CFG, .SB_XFER, .SB_DATA, .ETH_CFG, .ETH_STAT, .ETH_MACSEC, .ETH_CAK, .ETH_CKN, .ETH_ADDR, .ETH_MGR_ALLOW, .ETH_PTP, .ETH_SESSION, .ETH_FMAPI, .ETH_CNT, .ETH_TELEM0, .ETH_TELEM1, .CHN_STATUS, .CHN_PID_RULE, .CHN_BOOT, .CHN_PID_CALC, .RST_CTRL, .RST_STANDBY_CFG, .RST_WAKE_AT, .RST_STANDBY_STAT, .RST_CAUSE, .RST_SUPPLY_STAT, .RST_SUPPLY_MIN, .DBG_CTRL, .DBG_STAT, .DBG_TMX_SEL, .DBG_TMX_STAT, .RST_TEMP, .RST_THERM_CFG, .FLT_HIST0, .FLT_HIST1, .FLT_HIST2, .FLT_HIST3]

/-- Every register name, in the order of the chapters. -/
def RK.all : List RK := RK.part1 ++ RK.part2 ++ RK.part3 ++ RK.part4 ++ RK.part5

/-- The field maps. -/
def RK.fields : RK → List FD
  | .TIM_CTRL => [⟨0, 2, .rw, 0, pw⟩, ⟨2, 1, .rw, 0, pw⟩]
  | .TIM_STATUS => [⟨0, 3, .ro, 0, pw⟩, ⟨3, 1, .w1c, 0, pw⟩, ⟨4, 1, .w1c, 0, pw⟩, ⟨16, 16, .ro, 0, pw⟩]
  | .TIM_NOW => [⟨0, 64, .ro, 0, pw⟩]
  | .TIM_OFFSET => [⟨0, 32, .ro, 0, pw⟩, ⟨32, 32, .ro, 4294967295, pw⟩]
  | .TIM_LOCK_CFG => [⟨0, 8, .rw, 40, pw⟩, ⟨8, 4, .rw, 8, pw⟩, ⟨16, 14, .rw, 9536, pw⟩, ⟨32, 16, .rw, 100, pw⟩]
  | .TIM_COMMIT_INSTANT => [⟨0, 64, .ro, 0, pws⟩]
  | .TIM_COMMIT_STAT => [⟨0, 2, .ro, 0, pws⟩, ⟨4, 4, .ro, 0, pws⟩, ⟨8, 13, .ro, 0, pws⟩, ⟨31, 1, .sc, 0, pws⟩]
  | .WGL_ID => [⟨0, 8, .ro, 1, pp⟩, ⟨8, 8, .ro, 16, pp⟩]
  | .WGL_CTRL => [⟨0, 32, .rw, 4294967295, pw⟩, ⟨32, 3, .rw, 2, pp⟩, ⟨40, 6, .rw, 8, pw⟩, ⟨48, 8, .rw, 16, pw⟩, ⟨56, 8, .rw, 4, pw⟩]
  | .WGL_LOAD_STAT => [⟨0, 4, .ro, 0, pw⟩, ⟨32, 32, .ro, 0, pw⟩]
  | .WGL_KEY_STAT => [⟨0, 16, .ro, 0, nn⟩, ⟨16, 16, .ro, 0, nn⟩, ⟨32, 16, .ro, 0, nn⟩]
  | .WGL_ENG_CTRL => [⟨0, 2, .ro, 0, pw⟩, ⟨2, 1, .sc, 0, pw⟩, ⟨3, 1, .sc, 0, pw⟩, ⟨4, 1, .ro, 0, pw⟩, ⟨5, 1, .w1c, 0, pw⟩]
  | .WGL_THR_STAT => [⟨0, 3, .ro, 0, pw⟩, ⟨4, 4, .ro, 0, pw⟩, ⟨8, 2, .ro, 0, pw⟩, ⟨12, 1, .ro, 0, pw⟩, ⟨16, 9, .ro, 256, pw⟩, ⟨25, 7, .ro, 0, pw⟩, ⟨32, 32, .ro, 0, pw⟩]
  | .WGL_THR_CTRL => [⟨0, 1, .sc, 0, pw⟩]
  | .CSP_BLOCK_DESC => [⟨0, 24, .ro, 0, nn⟩, ⟨32, 6, .ro, 0, nn⟩, ⟨40, 8, .ro, 1, nn⟩, ⟨48, 1, .ro, 0, nn⟩]
  | .CSP_ID => [⟨0, 16, .ro, 1298, nn⟩, ⟨16, 4, .ro, 0, nn⟩, ⟨20, 4, .ro, 0, nn⟩, ⟨24, 1, .ro, 0, nn⟩, ⟨28, 4, .ro, 1, nn⟩]
  | .CSP_SERIAL => [⟨0, 64, .ro, 0, nn⟩]
  | .CSP_CAP => [⟨0, 10, .ro, 512, nn⟩, ⟨10, 3, .ro, 0, nn⟩, ⟨13, 8, .ro, 128, nn⟩, ⟨21, 7, .ro, 64, nn⟩, ⟨28, 6, .ro, 32, nn⟩, ⟨34, 5, .ro, 16, nn⟩, ⟨39, 6, .ro, 32, nn⟩, ⟨45, 9, .ro, 256, nn⟩, ⟨54, 6, .ro, 32, nn⟩, ⟨60, 4, .ro, 4, nn⟩]
  | .CSP_STATUS => [⟨0, 3, .ro, 0, pw⟩, ⟨3, 1, .ro, 0, pw⟩, ⟨4, 3, .ro, 0, pw⟩, ⟨7, 1, .ro, 0, pw⟩, ⟨8, 1, .ro, 0, pw⟩, ⟨9, 1, .ro, 0, pw⟩, ⟨10, 1, .ro, 0, pw⟩, ⟨12, 6, .ro, 0, pp⟩, ⟨18, 1, .ro, 0, pp⟩, ⟨24, 3, .ro, 0, nn⟩, ⟨32, 9, .ro, 256, pw⟩]
  | .CSP_ERR => [⟨0, 48, .ro, 0, pws⟩, ⟨48, 4, .ro, 0, pws⟩, ⟨52, 2, .ro, 0, pws⟩, ⟨56, 6, .ro, 0, pws⟩, ⟨63, 1, .w1c, 0, pws⟩]
  | .CSP_ERR_COUNT => [⟨0, 32, .rc, 0, pws⟩]
  | .CSP_SCRATCH => [⟨0, 64, .rw, 0, pp⟩]
  | .LAN_CTRL => [⟨0, 3, .st, 0, pws⟩, ⟨3, 1, .st, 1, pws⟩, ⟨6, 1, .rw, 0, pws⟩, ⟨7, 1, .rw, 0, pws⟩, ⟨8, 1, .rw, 1, pws⟩]
  | .LAN_STATUS => [⟨0, 3, .ro, 0, pws⟩, ⟨3, 1, .ro, 0, pws⟩, ⟨4, 1, .ro, 0, pws⟩, ⟨5, 5, .ro, 0, pws⟩, ⟨10, 1, .ro, 0, pws⟩, ⟨11, 1, .w1c, 0, pws⟩, ⟨12, 1, .w1c, 0, pws⟩, ⟨13, 2, .ro, 0, pws⟩, ⟨15, 1, .w1c, 0, pws⟩, ⟨16, 16, .ro, 0, pws⟩]
  | .LAN_TXEQ => [⟨0, 4, .rw, 7, pws⟩, ⟨4, 1, .rw, 0, pws⟩, ⟨5, 5, .rw, 0, pws⟩, ⟨10, 5, .rw, 0, pws⟩, ⟨16, 5, .ro, 0, pws⟩, ⟨21, 5, .ro, 0, pws⟩, ⟨26, 6, .ro, 0, pws⟩, ⟨32, 1, .rw, 1, pws⟩]
  | .LAN_ADAPT => [⟨0, 16, .rw, 12, pws⟩, ⟨16, 8, .rw, 3, pws⟩, ⟨32, 32, .ro, 0, pws⟩]
  | .LAN_MARGIN_CTRL => [⟨0, 1, .sc, 0, pws⟩, ⟨1, 1, .rw, 0, pws⟩, ⟨2, 1, .rw, 0, pws⟩, ⟨3, 6, .rw, 0, pws⟩, ⟨9, 6, .rw, 4, pws⟩, ⟨16, 2, .rw, 1, pws⟩, ⟨32, 16, .rw, 1000, pws⟩]
  | .LAN_MARGIN_STAT => [⟨0, 2, .ro, 0, pws⟩, ⟨2, 6, .ro, 0, pws⟩, ⟨8, 1, .ro, 0, pws⟩, ⟨9, 3, .ro, 0, pws⟩]
  | .LAN_PRBS_CTRL => [⟨0, 3, .rw, 0, pws⟩, ⟨3, 1, .rw, 0, pws⟩, ⟨4, 1, .rw, 0, pws⟩, ⟨5, 3, .rw, 0, pws⟩, ⟨16, 16, .rw, 0, pws⟩]
  | .LAN_PRBS_INJ => [⟨0, 3, .rw, 0, pws⟩, ⟨3, 6, .rw, 0, pws⟩, ⟨9, 6, .rw, 30, pws⟩, ⟨15, 1, .rw, 0, pws⟩, ⟨16, 1, .sc, 0, pws⟩]
  | .LAN_PRBS_STAT => [⟨0, 1, .ro, 0, pws⟩, ⟨1, 1, .w1c, 0, pws⟩, ⟨2, 1, .w1c, 0, pws⟩, ⟨8, 8, .ro, 0, pws⟩]
  | .LAN_PRBS_ERR => [⟨0, 32, .ro, 0, pws⟩]
  | .LAN_PRBS_BITS => [⟨0, 48, .ro, 0, pws⟩]
  | .LAN_PORT_CFG => [⟨0, 2, .st, 0, pws⟩, ⟨2, 1, .st, 1, pws⟩, ⟨3, 1, .st, 0, pws⟩, ⟨4, 1, .st, 0, pws⟩, ⟨5, 10, .st, 63, pws⟩, ⟨15, 1, .rw, 1, pws⟩]
  | .LAN_FALLOW_CFG => [⟨0, 1, .st, 0, pws⟩, ⟨1, 1, .st, 0, pws⟩, ⟨2, 1, .st, 0, pws⟩, ⟨3, 7, .st, 20, pws⟩, ⟨10, 7, .st, 60, pws⟩, ⟨17, 11, .st, 16, pws⟩, ⟨32, 16, .st, 64, pws⟩]
  | .LAN_FALLOW_STAT => [⟨0, 2, .ro, 0, pws⟩, ⟨2, 5, .ro, 0, pws⟩, ⟨7, 1, .ro, 0, pws⟩, ⟨32, 32, .ro, 0, pws⟩]
  | .CXP_PORT_CFG => [⟨0, 3, .st, 0, pws⟩, ⟨3, 2, .st, 0, pws⟩, ⟨5, 3, .st, 0, pws⟩, ⟨8, 6, .st, 0, pws⟩, ⟨14, 1, .st, 1, pws⟩, ⟨16, 5, .st, 0, pws⟩, ⟨21, 1, .st, 0, pws⟩, ⟨32, 12, .st, 0, pws⟩, ⟨44, 1, .st, 0, pws⟩]
  | .CXP_LINK_STAT => [⟨0, 3, .ro, 0, pws⟩, ⟨3, 5, .ro, 0, pws⟩, ⟨8, 3, .ro, 0, pws⟩, ⟨11, 2, .ro, 0, pws⟩, ⟨13, 3, .ro, 0, pws⟩, ⟨16, 4, .ro, 0, pws⟩, ⟨32, 16, .ro, 0, pws⟩]
  | .CXP_CONTAIN => [⟨0, 1, .ro, 0, pws⟩, ⟨4, 4, .ro, 0, pws⟩, ⟨8, 1, .sc, 0, pws⟩, ⟨9, 1, .sc, 0, pws⟩]
  | .CXP_IDE_CFG => [⟨0, 1, .st, 0, pws⟩, ⟨1, 1, .st, 0, pws⟩, ⟨2, 1, .sc, 0, pws⟩, ⟨4, 2, .ro, 0, pwsl⟩, ⟨16, 16, .ro, 0, pws⟩]
  | .CXP_HP_STAT => [⟨0, 1, .ro, 0, pws⟩, ⟨1, 1, .ro, 0, pws⟩, ⟨2, 1, .w1c, 0, pwsl⟩, ⟨3, 1, .w1c, 0, pws⟩]
  | .CXP_PBR_ROUTE => [⟨0, 7, .st, 0, pws⟩, ⟨7, 1, .st, 0, pws⟩]
  | .CXP_VSW_CFG => [⟨0, 1, .st, 0, pws⟩, ⟨1, 7, .st, 0, pws⟩, ⟨8, 6, .st, 1, pws⟩]
  | .CXP_VB => [⟨0, 2, .st, 0, pws⟩, ⟨2, 7, .st, 0, pws⟩, ⟨9, 4, .st, 0, pws⟩, ⟨16, 2, .ro, 0, pws⟩]
  | .CXP_POOL_CFG => [⟨0, 8, .rw, 8, pws⟩, ⟨8, 1, .rw, 0, pws⟩]
  | .CXP_POOL_REGION => [⟨0, 17, .st, 0, pws⟩, ⟨48, 2, .ro, 0, nn⟩, ⟨50, 1, .ro, 0, nn⟩]
  | .CXP_POOL_USED => [⟨0, 17, .ro, 0, pws⟩, ⟨24, 17, .ro, 0, pws⟩]
  | .TLK_CFG => [⟨0, 1, .st, 0, pws⟩, ⟨8, 8, .st, 10, pws⟩, ⟨16, 16, .st, 1000, pws⟩, ⟨32, 8, .st, 8, pws⟩, ⟨40, 8, .st, 16, pws⟩, ⟨48, 8, .st, 64, pws⟩]
  | .TLK_FC_CFG => [⟨0, 10, .st, 192, pws⟩, ⟨16, 16, .st, 1000, pws⟩, ⟨32, 10, .st, 64, pws⟩]
  | .TLK_VC_CFG => [⟨0, 10, .st, 16, pws⟩, ⟨16, 10, .st, 96, pws⟩]
  | .TLK_STATUS => [⟨0, 2, .ro, 0, pwsl⟩, ⟨2, 1, .ro, 0, pwsl⟩, ⟨3, 1, .ro, 0, pwsl⟩, ⟨4, 10, .ro, 0, pwsl⟩, ⟨14, 10, .ro, 0, pwsl⟩, ⟨24, 10, .ro, 0, pwsl⟩, ⟨34, 8, .ro, 0, pwsl⟩, ⟨42, 8, .ro, 0, pwsl⟩, ⟨50, 3, .ro, 0, pws⟩, ⟨53, 1, .ro, 0, pwsl⟩]
  | .TLK_RTT => [⟨0, 16, .ro, 0, pwsl⟩, ⟨16, 16, .ro, 0, pwsl⟩]
  | .TLK_PARTNER_VC => [⟨0, 10, .ro, 0, pwsl⟩]
  | .TLK_ERR_CNT => [⟨0, 32, .ro, 0, pws⟩, ⟨32, 32, .ro, 0, pws⟩]
  | .TLK_EVT_CNT => [⟨0, 16, .ro, 0, pws⟩, ⟨16, 16, .ro, 0, pws⟩, ⟨32, 16, .ro, 0, pws⟩]
  | .SWC_BUF_STAT => [⟨0, 18, .ro, 196608, pw⟩, ⟨18, 18, .ro, 196608, pws⟩, ⟨36, 13, .ro, 0, pws⟩]
  | .SWC_ALPHA => [⟨4, 4, .st, 6, pws⟩, ⟨8, 4, .st, 6, pws⟩, ⟨12, 4, .st, 6, pws⟩, ⟨16, 4, .st, 6, pws⟩, ⟨20, 4, .st, 6, pws⟩, ⟨24, 4, .st, 6, pws⟩, ⟨28, 4, .st, 6, pws⟩]
  | .SWC_CLASS_CFG => [⟨0, 3, .st, 1, pws⟩, ⟨4, 3, .st, 1, pws⟩, ⟨8, 3, .st, 7, pws⟩, ⟨16, 2, .st, 0, pws⟩, ⟨18, 2, .st, 0, pws⟩, ⟨20, 2, .st, 0, pws⟩, ⟨22, 2, .st, 0, pws⟩, ⟨24, 2, .st, 0, pws⟩, ⟨26, 2, .st, 0, pws⟩, ⟨28, 2, .st, 0, pws⟩]
  | .SWC_AGE_CFG => [⟨0, 1, .st, 0, pws⟩, ⟨1, 7, .st, 0, pws⟩, ⟨16, 16, .st, 1024, pws⟩]
  | .SWC_AGE_PORTS => [⟨0, 64, .st, 0, pws⟩]
  | .SWC_FLUSH_CNT => [⟨0, 32, .ro, 0, pws⟩, ⟨32, 32, .ro, 0, pws⟩]
  | .SWC_DISCARD_CNT => [⟨0, 32, .ro, 0, pws⟩, ⟨32, 32, .ro, 0, pws⟩]
  | .SWC_EVENT_CNT => [⟨0, 24, .ro, 0, pws⟩, ⟨24, 16, .ro, 0, pws⟩, ⟨40, 24, .ro, 0, pws⟩]
  | .SWC_PORT_MIN => [⟨0, 12, .st, 16, pws⟩, ⟨16, 12, .ro, 0, pws⟩, ⟨32, 18, .rc, 0, pws⟩]
  | .SWC_CLASS_RULE => [⟨0, 7, .st, 0, pws⟩, ⟨7, 10, .st, 0, pws⟩, ⟨17, 1, .st, 1, pws⟩, ⟨18, 2, .st, 0, pws⟩, ⟨20, 2, .st, 0, pws⟩, ⟨24, 3, .st, 0, pws⟩, ⟨31, 1, .st, 0, pws⟩]
  | .SCH_PORT_CFG => [⟨0, 8, .st, 0, pws⟩, ⟨8, 3, .st, 1, pws⟩]
  | .SCH_PORT_STAT => [⟨0, 1, .ro, 1, pws⟩, ⟨1, 1, .ro, 0, pwsl⟩, ⟨12, 20, .ro, 0, pws⟩, ⟨32, 24, .ro, 0, pws⟩]
  | .SCH_RIDGE_CNT0 => [⟨0, 32, .ro, 0, pws⟩, ⟨32, 32, .ro, 0, pws⟩]
  | .SCH_RIDGE_CNT1 => [⟨0, 32, .ro, 0, pws⟩, ⟨32, 32, .ro, 0, pws⟩]
  | .SCH_RIDGE_Q => [⟨0, 13, .ro, 0, pwsl⟩, ⟨32, 32, .ro, 0, pwsl⟩]
  | .SCH_CLASS_CFG => [⟨0, 13, .st, 1024, pws⟩, ⟨32, 32, .ro, 0, pwsl⟩]
  | .SCH_GATE_MAP => [⟨0, 64, .st, 18446744073709551615, pws⟩]
  | .SCH_RIDGE_RES => [⟨0, 7, .st, 0, pws⟩, ⟨7, 1, .st, 0, pws⟩, ⟨16, 13, .st, 0, pws⟩, ⟨32, 13, .st, 0, pws⟩]
  | .SCH_QUEUE_CFG => [⟨0, 13, .st, 1024, pws⟩, ⟨16, 13, .st, 0, pws⟩, ⟨29, 1, .st, 0, pws⟩]
  | .SCH_QUEUE_STAT => [⟨0, 18, .ro, 0, pwsl⟩, ⟨32, 32, .ro, 0, pwsl⟩]
  | .SCH_SHAPER_CFG => [⟨0, 20, .st, 0, pws⟩, ⟨24, 24, .st, 0, pws⟩, ⟨48, 1, .st, 0, pws⟩]
  | .SCH_SHAPER_STAT => [⟨0, 32, .ro, 0, pws⟩, ⟨32, 1, .ro, 0, pws⟩]
  | .SCH_SHAPER_BYTES => [⟨0, 64, .ro, 0, pws⟩]
  | .TMP_FIELD0 => [⟨0, 2, .ro, 0, pws⟩, ⟨2, 1, .ro, 0, pws⟩, ⟨3, 1, .ro, 0, pws⟩, ⟨8, 8, .ro, 0, pws⟩, ⟨16, 24, .ro, 0, pws⟩, ⟨40, 13, .ro, 0, pws⟩]
  | .TMP_FIELD1 => [⟨0, 2, .st, 0, pws⟩, ⟨2, 1, .st, 0, pws⟩, ⟨3, 2, .st, 0, pws⟩, ⟨5, 1, .st, 0, pws⟩, ⟨8, 8, .st, 0, pws⟩, ⟨16, 24, .st, 0, pws⟩, ⟨40, 7, .ro, 0, pws⟩, ⟨48, 8, .ro, 0, pws⟩, ⟨56, 2, .ro, 0, pws⟩]
  | .TMP_SWARD => [⟨0, 2, .ro, 0, pws⟩, ⟨8, 8, .ro, 0, pws⟩, ⟨16, 33, .ro, 0, pws⟩, ⟨56, 8, .ro, 0, pws⟩]
  | .TMP_BIND0 => [⟨0, 1, .st, 0, pws⟩, ⟨1, 3, .st, 0, pws⟩, ⟨8, 17, .st, 0, pws⟩, ⟨32, 17, .st, 0, pws⟩]
  | .TMP_BIND1 => [⟨0, 17, .st, 0, pws⟩]
  | .TMP_ALLOC_CFG => [⟨0, 17, .st, 0, pws⟩, ⟨32, 18, .st, 131072, pws⟩, ⟨50, 5, .st, 4, pws⟩, ⟨56, 1, .st, 1, pws⟩, ⟨57, 1, .st, 1, pws⟩]
  | .TMP_ALLOC_STAT => [⟨0, 14, .ro, 8192, pws⟩, ⟨18, 18, .ro, 0, pws⟩, ⟨40, 24, .ro, 0, pws⟩]
  | .TMP_TIER_CFG => [⟨0, 8, .st, 128, pws⟩, ⟨8, 8, .st, 8, pws⟩, ⟨16, 16, .st, 64, pws⟩, ⟨32, 4, .st, 6, pws⟩, ⟨40, 24, .st, 0, pws⟩]
  | .TMP_TIER_FIG => [⟨0, 16, .st, 0, pws⟩, ⟨16, 16, .st, 0, pws⟩]
  | .TMP_TIER_STAT => [⟨0, 24, .ro, 0, pws⟩, ⟨24, 24, .ro, 0, pws⟩]
  | .TMP_MIGR_CFG => [⟨0, 7, .st, 48, pws⟩, ⟨8, 10, .st, 256, pws⟩, ⟨20, 4, .st, 8, pws⟩]
  | .TMP_MIGR_STAT0 => [⟨0, 7, .ro, 0, pws⟩, ⟨8, 32, .ro, 0, pws⟩]
  | .TMP_MIGR_STAT1 => [⟨0, 24, .ro, 0, pws⟩, ⟨24, 16, .ro, 0, pws⟩, ⟨40, 24, .ro, 0, pws⟩]
  | .TMP_CMD => [⟨0, 3, .rw, 0, pws⟩, ⟨4, 17, .rw, 0, pws⟩, ⟨21, 9, .rw, 0, pws⟩, ⟨32, 8, .rw, 0, pws⟩, ⟨63, 1, .sc, 0, pws⟩]
  | .TMP_CMD_STAT => [⟨0, 2, .ro, 0, pws⟩, ⟨4, 4, .ro, 0, pws⟩]
  | .TMP_DEV_CFG => [⟨0, 3, .st, 0, pws⟩, ⟨3, 1, .st, 0, pws⟩, ⟨4, 7, .st, 0, pws⟩, ⟨12, 4, .st, 0, pws⟩, ⟨16, 12, .st, 0, pws⟩, ⟨28, 2, .st, 0, pws⟩, ⟨32, 24, .st, 0, pws⟩]
  | .TMP_DEV_RANGE => [⟨0, 24, .st, 0, pws⟩, ⟨32, 6, .st, 0, pws⟩, ⟨40, 8, .st, 0, pws⟩]
  | .TMP_DEV_STAT => [⟨0, 3, .ro, 0, pws⟩, ⟨3, 1, .ro, 0, pws⟩, ⟨4, 1, .ro, 0, pws⟩, ⟨8, 19, .ro, 0, pws⟩, ⟨32, 24, .ro, 0, pws⟩]
  | .TMP_QUOTA => [⟨0, 17, .st, 0, pws⟩, ⟨32, 17, .ro, 0, pws⟩]
  | .TMP_MIGR_SLOT => [⟨0, 2, .ro, 0, pws⟩, ⟨2, 17, .ro, 0, pws⟩, ⟨19, 9, .ro, 0, pws⟩, ⟨28, 4, .ro, 0, pws⟩, ⟨32, 16, .ro, 0, pws⟩, ⟨48, 8, .ro, 0, pws⟩]
  | .DIR_STAT => [⟨0, 24, .ro, 0, pws⟩, ⟨24, 24, .ro, 8388608, pw⟩, ⟨48, 1, .ro, 0, pws⟩, ⟨49, 1, .ro, 0, pws⟩, ⟨50, 14, .ro, 0, pws⟩]
  | .DIR_CNT0 => [⟨0, 32, .ro, 0, pws⟩, ⟨32, 32, .ro, 0, pws⟩]
  | .DIR_CNT1 => [⟨0, 32, .ro, 0, pws⟩, ⟨32, 16, .ro, 0, pws⟩, ⟨48, 16, .ro, 0, pws⟩]
  | .DIR_CNT2 => [⟨0, 32, .ro, 0, pws⟩, ⟨32, 32, .ro, 0, pws⟩]
  | .DIR_HOST_CFG => [⟨0, 5, .st, 4, pws⟩]
  | .DIR_HOST_STAT => [⟨0, 1, .ro, 0, pws⟩, ⟨1, 2, .ro, 0, pws⟩, ⟨3, 1, .ro, 0, pws⟩, ⟨4, 1, .ro, 0, pwsl⟩, ⟨8, 24, .ro, 0, pws⟩, ⟨32, 24, .ro, 0, pws⟩]
  | .DIR_ENTRY0 => [⟨0, 2, .ro, 0, pws⟩, ⟨2, 1, .ro, 0, pws⟩, ⟨3, 1, .ro, 0, pws⟩, ⟨4, 22, .ro, 0, pws⟩, ⟨26, 6, .ro, 0, pws⟩, ⟨32, 32, .ro, 0, pws⟩]
  | .DIR_ENTRY1 => [⟨0, 32, .ro, 0, pws⟩, ⟨32, 7, .ro, 0, pws⟩]
  | .FLD_CFG => [⟨0, 6, .st, 0, pws⟩, ⟨6, 1, .st, 0, pws⟩, ⟨8, 1, .rw, 0, pws⟩, ⟨9, 1, .rw, 0, pws⟩]
  | .FLD_STAT => [⟨0, 3, .ro, 0, pws⟩, ⟨8, 8, .ro, 0, pws⟩, ⟨16, 4, .ro, 0, pwsf⟩, ⟨20, 3, .ro, 0, pwsf⟩, ⟨32, 16, .ro, 0, pwsf⟩, ⟨48, 12, .ro, 0, pwsf⟩]
  | .FLD_CNT => [⟨0, 32, .ro, 0, pwsf⟩, ⟨32, 16, .ro, 0, pwsf⟩, ⟨48, 5, .ro, 0, pwsf⟩]
  | .FLD_SQ_BASE => [⟨6, 58, .rw, 0, pwsf⟩]
  | .FLD_SQ_CFG => [⟨0, 1, .rw, 0, pwsf⟩, ⟨1, 5, .rw, 6, pwsf⟩, ⟨8, 3, .rw, 0, pwsf⟩]
  | .FLD_SQ_STAT => [⟨0, 2, .ro, 0, pwsf⟩, ⟨2, 1, .w1c, 0, pwsf⟩, ⟨16, 16, .rw, 0, pwsf⟩, ⟨32, 16, .ro, 0, pwsf⟩]
  | .FLD_CQ_BASE => [⟨4, 60, .rw, 0, pwsf⟩]
  | .FLD_CQ_CFG => [⟨0, 1, .rw, 0, pwsf⟩, ⟨1, 5, .rw, 6, pwsf⟩, ⟨6, 1, .rw, 0, pwsf⟩, ⟨8, 3, .rw, 0, pwsf⟩, ⟨16, 8, .rw, 0, pwsf⟩, ⟨32, 10, .rw, 0, pwsf⟩]
  | .FLD_CQ_STAT => [⟨0, 16, .ro, 0, pwsf⟩, ⟨16, 16, .ro, 0, pwsf⟩, ⟨32, 1, .ro, 1, pwsf⟩, ⟨33, 9, .ro, 0, pwsf⟩]
  | .FLD_SQ_DB => [⟨0, 16, .wo, 0, pwsf⟩]
  | .FLD_CQ_DB => [⟨0, 16, .wo, 0, pwsf⟩]
  | .FLD_PUSH => [⟨0, 64, .wo, 0, pwsf⟩]
  | .FLD_PROG_ADDR => [⟨0, 64, .rw, 0, pwsf⟩]
  | .FLD_PROG_CTRL => [⟨0, 17, .rw, 0, pwsf⟩, ⟨63, 1, .sc, 0, pwsf⟩]
  | .FLD_PROG_STAT => [⟨0, 2, .ro, 0, pwsf⟩, ⟨4, 4, .ro, 0, pwsf⟩, ⟨8, 6, .ro, 0, pwsf⟩]
  | .FLD_KEY => [⟨0, 64, .rw, 0, pws⟩]
  | .FLD_KEY_CFG => [⟨0, 1, .rw, 0, pws⟩]
  | .FLD_MSIX0 => [⟨0, 64, .rw, 0, pwsf⟩]
  | .FLD_MSIX1 => [⟨0, 32, .rw, 0, pwsf⟩, ⟨32, 1, .rw, 1, pwsf⟩]
  | .FLD_PBA => [⟨0, 8, .ro, 0, pwsf⟩]
  | .DMV_CTRL => [⟨0, 1, .rw, 1, pw⟩]
  | .DMV_STAT => [⟨0, 4, .ro, 0, pws⟩, ⟨4, 2, .ro, 0, pws⟩, ⟨6, 1, .ro, 0, pws⟩]
  | .DMV_BYTES => [⟨0, 64, .ro, 0, pws⟩]
  | .DMV_CHUNKS => [⟨0, 64, .ro, 0, pws⟩]
  | .DMV_ERR => [⟨0, 16, .ro, 0, pws⟩, ⟨16, 16, .ro, 0, pws⟩, ⟨32, 16, .ro, 0, pws⟩]
  | .FLD_SHARE => [⟨0, 12, .ro, 0, pws⟩, ⟨16, 9, .ro, 0, pws⟩, ⟨25, 1, .ro, 0, pws⟩]
  | .FLD_RESET => [⟨0, 1, .sc, 0, pws⟩, ⟨1, 1, .w1c, 0, pws⟩, ⟨32, 16, .ro, 0, pws⟩]
  | .FLD_MIG_CTRL => [⟨0, 3, .rw, 0, pwsf⟩, ⟨3, 1, .rw, 0, pwsf⟩, ⟨4, 6, .rw, 0, pwsf⟩, ⟨10, 8, .rw, 0, pwsf⟩, ⟨63, 1, .sc, 0, pwsf⟩]
  | .FLD_MIG_INSTANT => [⟨0, 64, .rw, 0, pwsf⟩]
  | .FLD_MIG_ADDR => [⟨6, 58, .rw, 0, pwsf⟩]
  | .FLD_MIG_ID => [⟨0, 64, .rw, 0, pws⟩]
  | .FLD_MIG_STAT => [⟨0, 3, .ro, 0, pwsf⟩, ⟨8, 4, .ro, 0, pws⟩, ⟨16, 16, .ro, 0, pwsf⟩, ⟨32, 12, .ro, 0, pwsf⟩]
  | .FLD_MIG_KEY => [⟨0, 64, .wo, 0, pws⟩]
  | .HRW_PORT_RULE0 => [⟨0, 1, .stlk, 0, pws⟩, ⟨1, 1, .stlk, 0, pws⟩, ⟨2, 1, .stlk, 0, pws⟩, ⟨3, 1, .stlk, 0, pws⟩, ⟨4, 1, .stlk, 0, pws⟩, ⟨5, 1, .stlk, 0, pws⟩, ⟨6, 1, .ro, 0, pws⟩, ⟨12, 40, .stlk, 0, pws⟩]
  | .HRW_POOL_RULE0 => [⟨0, 1, .stlk, 0, pws⟩, ⟨1, 1, .stlk, 0, pws⟩, ⟨2, 1, .stlk, 0, pws⟩, ⟨3, 1, .stlk, 0, pws⟩, ⟨4, 1, .stlk, 0, pws⟩, ⟨5, 1, .stlk, 0, pws⟩, ⟨6, 1, .ro, 0, pws⟩, ⟨12, 40, .stlk, 0, pws⟩]
  | .HRW_ENG_RULE0 => [⟨0, 1, .stlk, 0, pws⟩, ⟨1, 1, .stlk, 0, pws⟩, ⟨2, 1, .stlk, 0, pws⟩, ⟨3, 1, .stlk, 0, pws⟩, ⟨4, 1, .stlk, 0, pws⟩, ⟨5, 1, .stlk, 0, pws⟩, ⟨6, 1, .ro, 0, pws⟩, ⟨12, 40, .stlk, 0, pws⟩]
  | .HRW_DEFMAP0 => [⟨0, 1, .stlk, 1, pws⟩, ⟨1, 1, .stlk, 1, pws⟩, ⟨2, 1, .stlk, 1, pws⟩, ⟨3, 1, .stlk, 0, pws⟩, ⟨4, 1, .stlk, 0, pws⟩, ⟨5, 1, .stlk, 0, pws⟩, ⟨6, 1, .ro, 0, pws⟩, ⟨12, 40, .stlk, 0, pws⟩]
  | .HRW_PORT_RULE1 => [⟨12, 40, .stlk, 0, pws⟩]
  | .HRW_POOL_RULE1 => [⟨12, 40, .stlk, 0, pws⟩]
  | .HRW_ENG_RULE1 => [⟨12, 40, .stlk, 0, pws⟩]
  | .HRW_DEFMAP1 => [⟨12, 40, .stlk, 34359738367, pws⟩]
  | .HRW_POOL_RULE2 => [⟨0, 64, .stlk, 0, pws⟩]
  | .HRW_ENG_RULE2 => [⟨0, 10, .stlk, 0, pws⟩, ⟨16, 10, .stlk, 0, pws⟩]
  | .HRW_PORT_DENY_STAT => [⟨0, 32, .ro, 0, pws⟩, ⟨32, 32, .ro, 0, pws⟩]
  | .HRW_POOL_DENY_STAT => [⟨0, 32, .ro, 0, pws⟩, ⟨32, 32, .ro, 0, pws⟩]
  | .HRW_ENG_DENY_STAT => [⟨0, 32, .ro, 0, pws⟩, ⟨32, 32, .ro, 0, pws⟩]
  | .HRW_PORT_DENY_ADDR => [⟨0, 52, .ro, 0, pws⟩]
  | .HRW_POOL_DENY_ADDR => [⟨0, 52, .ro, 0, pws⟩]
  | .HRW_ENG_DENY_ADDR => [⟨0, 52, .ro, 0, pws⟩]
  | .HRW_PORT_DENY_INFO => [⟨0, 10, .ro, 0, pws⟩, ⟨10, 2, .ro, 0, pws⟩, ⟨12, 1, .ro, 0, pws⟩, ⟨13, 1, .ro, 0, pws⟩, ⟨14, 10, .ro, 0, pws⟩, ⟨63, 1, .w1c, 0, pws⟩]
  | .HRW_POOL_DENY_INFO => [⟨0, 10, .ro, 0, pws⟩, ⟨10, 2, .ro, 0, pws⟩, ⟨12, 1, .ro, 0, pws⟩, ⟨13, 1, .ro, 0, pws⟩, ⟨14, 10, .ro, 0, pws⟩, ⟨63, 1, .w1c, 0, pws⟩]
  | .HRW_ENG_DENY_INFO => [⟨0, 10, .ro, 0, pws⟩, ⟨10, 2, .ro, 0, pws⟩, ⟨12, 1, .ro, 0, pws⟩, ⟨13, 1, .ro, 0, pws⟩, ⟨14, 10, .ro, 0, pws⟩, ⟨63, 1, .w1c, 0, pws⟩]
  | .MEM_REGION_CTRL => [⟨0, 1, .rw, 0, pw⟩, ⟨1, 1, .ro, 0, pw⟩, ⟨4, 4, .ro, 0, pw⟩]
  | .MEM_SCRUB_CFG => [⟨0, 16, .rw, 86, pw⟩, ⟨16, 1, .rw, 1, pw⟩]
  | .MEM_REGION => [⟨0, 1, .lk, 0, pw⟩, ⟨8, 8, .ro, 0, pw⟩, ⟨16, 1, .w1c, 0, pws⟩]
  | .MEM_REGION_LAP => [⟨0, 32, .ro, 0, pws⟩, ⟨32, 32, .rw, 262144, pw⟩]
  | .MEM_SUBST => [⟨0, 8, .lk, 0, pw⟩, ⟨8, 1, .lk, 0, pw⟩]
  | .MEM_SCRUB_STAT => [⟨0, 8, .ro, 0, pw⟩, ⟨8, 16, .ro, 0, pw⟩, ⟨32, 32, .ro, 0, pw⟩]
  | .MEM_CELOG_STAT => [⟨0, 9, .ro, 0, pp⟩, ⟨16, 16, .ro, 0, pp⟩]
  | .MEM_CELOG0 => [⟨0, 8, .ro, 0, pp⟩, ⟨8, 5, .ro, 0, pp⟩, ⟨13, 12, .ro, 0, pp⟩, ⟨25, 8, .ro, 0, pp⟩, ⟨33, 1, .ro, 0, pp⟩, ⟨34, 1, .ro, 0, pp⟩, ⟨40, 8, .ro, 0, pp⟩, ⟨63, 1, .w1c, 0, pp⟩]
  | .MEM_CELOG1 => [⟨0, 64, .ro, 0, pp⟩]
  | .MEM_CELOG2 => [⟨0, 64, .ro, 0, pp⟩]
  | .MEM_BANK_CFG => [⟨0, 4, .ro, 0, pw⟩, ⟨4, 8, .ro, 0, pw⟩]
  | .MEM_BANK_STAT => [⟨0, 2, .ro, 0, pw⟩, ⟨4, 5, .ro, 31, pw⟩, ⟨9, 5, .ro, 31, pw⟩, ⟨18, 18, .ro, 0, pw⟩, ⟨40, 4, .ro, 0, pw⟩]
  | .MEM_BANK_CTRL => [⟨0, 2, .rw, 0, pw⟩, ⟨4, 5, .rw, 0, pw⟩, ⟨63, 1, .sc, 0, pw⟩]
  | .MEM_BANK_CNT => [⟨0, 32, .ro, 0, pw⟩, ⟨32, 16, .ro, 0, pw⟩]
  | .FLT_CTRL => [⟨0, 1, .sc, 0, pw⟩, ⟨1, 1, .sc, 0, pw⟩, ⟨16, 14, .rw, 16, pw⟩]
  | .FLT_STATUS => [⟨0, 1, .ro, 0, pw⟩, ⟨1, 1, .ro, 0, pw⟩, ⟨16, 16, .ro, 0, pp⟩]
  | .FLT_LAST_UCF => [⟨0, 64, .ro, 0, pw⟩]
  | .FLT_HIST_STAT => [⟨0, 6, .ro, 0, pp⟩, ⟨16, 16, .ro, 0, pw⟩, ⟨32, 32, .ro, 0, pp⟩]
  | .FLT_THREAD_REACT => [⟨0, 4, .rw, 0, pw⟩, ⟨4, 4, .rw, 3, pw⟩, ⟨8, 4, .rw, 7, pw⟩, ⟨12, 4, .rw, 15, pw⟩]
  | .FLT_UNIT_REACT => [⟨0, 4, .rw, 0, pw⟩, ⟨4, 4, .rw, 3, pw⟩, ⟨8, 4, .rw, 7, pw⟩, ⟨12, 4, .rw, 15, pw⟩]
  | .FLT_UNIT_STAT => [⟨0, 1, .w1c, 0, pw⟩, ⟨1, 1, .ro, 0, pw⟩, ⟨2, 3, .ro, 0, pw⟩, ⟨16, 16, .ro, 0, pw⟩]
  | .FLT_UNIT_CNT => [⟨0, 32, .ro, 0, pw⟩, ⟨32, 16, .ro, 0, pw⟩, ⟨48, 16, .ro, 0, pw⟩]
  | .FLT_UNIT_LAST => [⟨0, 14, .ro, 0, pw⟩, ⟨14, 2, .ro, 0, pw⟩]
  | .SLT_CFG => [⟨0, 1, .rw, 0, pw⟩, ⟨1, 4, .rw, 0, pw⟩, ⟨5, 1, .rw, 0, pw⟩, ⟨6, 4, .rw, 3, pw⟩, ⟨10, 10, .rw, 10, pw⟩, ⟨20, 8, .rw, 100, pw⟩, ⟨32, 8, .rw, 50, pw⟩, ⟨40, 10, .rw, 1, pw⟩]
  | .SLT_CMD => [⟨0, 3, .sc, 0, pw⟩]
  | .SLT_ON_INSTANT => [⟨0, 64, .rw, 0, pw⟩]
  | .SLT_STAT => [⟨0, 4, .ro, 0, pw⟩, ⟨4, 1, .ro, 0, pw⟩, ⟨5, 1, .ro, 0, pw⟩, ⟨6, 1, .ro, 0, pwz⟩, ⟨7, 1, .ro, 0, pwz⟩, ⟨8, 1, .ro, 0, pw⟩, ⟨9, 1, .ro, 0, pw⟩, ⟨10, 1, .ro, 0, pw⟩, ⟨11, 1, .ro, 0, pw⟩, ⟨12, 4, .ro, 0, pw⟩, ⟨16, 4, .ro, 0, pw⟩, ⟨20, 4, .ro, 0, pw⟩, ⟨24, 3, .ro, 0, pw⟩, ⟨32, 16, .ro, 0, pw⟩, ⟨48, 1, .ro, 0, pw⟩]
  | .SLT_VCFG => [⟨0, 16, .rw, 10800, pw⟩, ⟨16, 16, .rw, 200, pw⟩, ⟨32, 16, .rw, 9600, pw⟩]
  | .SLT_BOARD => [⟨0, 13, .rw, 2000, pw⟩, ⟨16, 12, .rw, 200, pw⟩, ⟨32, 12, .rw, 1000, pw⟩, ⟨44, 8, .rw, 45, pw⟩, ⟨52, 8, .rw, 125, pw⟩]
  | .SLT_MEAS => [⟨0, 16, .ro, 0, pw⟩, ⟨16, 16, .ro, 0, pw⟩, ⟨32, 16, .ro, 0, pw⟩, ⟨48, 16, .ro, 0, pw⟩]
  | .SLT_MEAS2 => [⟨0, 16, .ro, 0, pw⟩, ⟨16, 32, .ro, 0, pw⟩, ⟨48, 16, .rc, 0, pwz⟩]
  | .SLT_ENERGY => [⟨0, 64, .ro, 0, pp⟩]
  | .SLT_ENERGY_WIN => [⟨0, 56, .ro, 0, pw⟩, ⟨62, 1, .ro, 0, pw⟩, ⟨63, 1, .ro, 0, pw⟩]
  | .SLT_ENERGY_END => [⟨0, 64, .ro, 0, pw⟩]
  | .SLT_FET_TEMP => [⟨0, 16, .ro, 0, pw⟩, ⟨16, 16, .ro, 0, pw⟩]
  | .SLT_IDENT => [⟨0, 64, .ro, 0, pw⟩]
  | .SLT_PROFILE => [⟨0, 10, .rw, 0, pw⟩, ⟨10, 8, .rw, 60, pw⟩, ⟨18, 2, .rw, 1, pw⟩, ⟨20, 9, .rw, 40, pw⟩, ⟨31, 1, .rw, 0, pw⟩]
  | .SB_CFG => [⟨0, 2, .rw, 0, pw⟩, ⟨8, 7, .rw, 80, pw⟩]
  | .SB_XFER => [⟨0, 7, .rw, 0, pw⟩, ⟨7, 1, .rw, 0, pw⟩, ⟨8, 16, .rw, 0, pw⟩, ⟨24, 1, .rw, 0, pw⟩, ⟨25, 7, .rw, 0, pw⟩, ⟨32, 1, .sc, 0, pw⟩, ⟨33, 3, .ro, 0, pw⟩]
  | .SB_DATA => [⟨0, 64, .rw, 0, pw⟩]
  | .ETH_CFG => [⟨0, 1, .rw, 1, pw⟩, ⟨1, 2, .rw, 0, pw⟩, ⟨3, 14, .rw, 9000, pw⟩, ⟨17, 1, .rw, 0, pw⟩, ⟨18, 12, .rw, 0, pw⟩]
  | .ETH_STAT => [⟨0, 1, .ro, 0, pw⟩, ⟨1, 1, .ro, 0, pw⟩, ⟨16, 16, .ro, 0, pw⟩]
  | .ETH_MACSEC => [⟨0, 1, .rw, 0, pw⟩, ⟨1, 1, .rw, 1, pw⟩, ⟨2, 1, .ro, 0, pw⟩]
  | .ETH_CAK => [⟨0, 64, .wo, 0, pw⟩]
  | .ETH_CKN => [⟨0, 64, .wo, 0, pw⟩]
  | .ETH_ADDR => [⟨0, 64, .rw, 0, pw⟩]
  | .ETH_MGR_ALLOW => [⟨0, 64, .rw, 0, pw⟩]
  | .ETH_PTP => [⟨0, 1, .rw, 0, pw⟩, ⟨1, 1, .rw, 0, pw⟩, ⟨2, 7, .rw, 0, pw⟩, ⟨16, 16, .rw, 0, pw⟩]
  | .ETH_SESSION => [⟨0, 1, .ro, 0, pw⟩, ⟨16, 16, .ro, 0, pw⟩, ⟨32, 32, .ro, 0, pw⟩]
  | .ETH_FMAPI => [⟨0, 4, .rw, 15, pw⟩, ⟨4, 16, .rw, 16, pw⟩]
  | .ETH_CNT => [⟨0, 16, .ro, 0, pw⟩, ⟨16, 16, .ro, 0, pw⟩, ⟨32, 16, .ro, 0, pw⟩]
  | .ETH_TELEM0 => [⟨0, 48, .rw, 0, pw⟩]
  | .ETH_TELEM1 => [⟨0, 8, .rw, 0, pw⟩, ⟨8, 4, .rw, 3, pw⟩, ⟨16, 16, .rw, 0, pw⟩, ⟨32, 1, .w1c, 0, pw⟩]
  | .CHN_STATUS => [⟨0, 6, .ro, 0, pp⟩, ⟨6, 1, .ro, 0, pp⟩, ⟨7, 1, .ro, 0, pp⟩, ⟨8, 1, .ro, 0, pp⟩, ⟨9, 1, .w1c, 0, pp⟩, ⟨10, 6, .ro, 0, pw⟩]
  | .CHN_PID_RULE => [⟨0, 12, .rw, 0, pw⟩, ⟨12, 8, .rw, 32, pw⟩, ⟨20, 2, .rw, 1, pw⟩]
  | .CHN_BOOT => [⟨0, 1, .ro, 0, pw⟩, ⟨1, 1, .ro, 0, pw⟩, ⟨2, 1, .rw, 0, pp⟩, ⟨3, 1, .rw, 0, pp⟩, ⟨4, 4, .ro, 0, pw⟩, ⟨8, 4, .ro, 0, pw⟩, ⟨32, 32, .ro, 0, pw⟩]
  | .CHN_PID_CALC => [⟨0, 12, .ro, 0, pw⟩, ⟨12, 1, .ro, 1, pw⟩]
  | .RST_CTRL => [⟨0, 1, .sc, 0, pw⟩, ⟨1, 1, .sc, 0, pw⟩]
  | .RST_STANDBY_CFG => [⟨0, 1, .rw, 0, pws⟩, ⟨1, 1, .rw, 1, pws⟩, ⟨2, 1, .rw, 1, pws⟩]
  | .RST_WAKE_AT => [⟨0, 64, .rw, 0, pws⟩]
  | .RST_STANDBY_STAT => [⟨0, 4, .ro, 0, pws⟩, ⟨4, 2, .ro, 0, pws⟩, ⟨32, 16, .ro, 0, pw⟩]
  | .RST_CAUSE => [⟨0, 1, .ro, 0, nn⟩, ⟨1, 4, .ro, 0, nn⟩, ⟨16, 16, .ro, 0, nn⟩]
  | .RST_SUPPLY_STAT => [⟨0, 13, .w1c, 0, pw⟩, ⟨32, 13, .w1c, 0, pw⟩]
  | .RST_SUPPLY_MIN => [⟨0, 16, .rc, 65535, pw⟩]
  | .DBG_CTRL => [⟨0, 1, .rw, 0, pw⟩]
  | .DBG_STAT => [⟨0, 1, .ro, 0, pp⟩, ⟨1, 1, .ro, 0, pw⟩, ⟨2, 1, .w1c, 0, pw⟩, ⟨16, 16, .ro, 0, pw⟩, ⟨32, 32, .ro, 0, pw⟩]
  | .DBG_TMX_SEL => [⟨0, 8, .rw, 0, pw⟩, ⟨8, 1, .rw, 0, pw⟩, ⟨9, 3, .rw, 3, pw⟩]
  | .DBG_TMX_STAT => [⟨0, 1, .ro, 0, pw⟩, ⟨8, 8, .ro, 0, pw⟩]
  | .RST_TEMP => [⟨0, 16, .ro, 0, pp⟩, ⟨16, 16, .rc, 0, pw⟩, ⟨32, 1, .ro, 0, pp⟩]
  | .RST_THERM_CFG => [⟨0, 8, .rw, 100, pw⟩, ⟨8, 1, .ro, 0, pp⟩]
  | .FLT_HIST0 => [⟨0, 64, .ro, 0, pp⟩]
  | .FLT_HIST1 => [⟨0, 64, .ro, 0, pp⟩]
  | .FLT_HIST2 => [⟨0, 9, .ro, 0, pp⟩, ⟨9, 2, .ro, 0, pp⟩, ⟨11, 14, .ro, 0, pp⟩, ⟨25, 4, .ro, 0, pp⟩, ⟨29, 12, .ro, 0, pp⟩, ⟨41, 4, .ro, 0, pp⟩, ⟨45, 3, .ro, 0, pp⟩, ⟨48, 1, .ro, 0, pp⟩]
  | .FLT_HIST3 => [⟨0, 32, .ro, 0, pp⟩, ⟨32, 1, .ro, 0, pp⟩]

/-! TIM_CTRL (R53, 02_rack_time.md). -/
abbrev TIM_CTRL.SRC : Fld := ⟨.TIM_CTRL, 0, 2⟩
abbrev TIM_CTRL.BC_EN : Fld := ⟨.TIM_CTRL, 2, 1⟩
/-! TIM_STATUS (R54, 02_rack_time.md). -/
abbrev TIM_STATUS.STATE : Fld := ⟨.TIM_STATUS, 0, 3⟩
abbrev TIM_STATUS.STEPPED : Fld := ⟨.TIM_STATUS, 3, 1⟩
abbrev TIM_STATUS.TOD_ERR : Fld := ⟨.TIM_STATUS, 4, 1⟩
abbrev TIM_STATUS.HOLDOVER_COURSES : Fld := ⟨.TIM_STATUS, 16, 16⟩
/-! TIM_NOW (R55, 02_rack_time.md). -/
abbrev TIM_NOW.NOW : Fld := ⟨.TIM_NOW, 0, 64⟩
/-! TIM_OFFSET (R56, 02_rack_time.md). -/
abbrev TIM_OFFSET.OFFSET : Fld := ⟨.TIM_OFFSET, 0, 32⟩
abbrev TIM_OFFSET.EST_ERR : Fld := ⟨.TIM_OFFSET, 32, 32⟩
/-! TIM_LOCK_CFG (R57, 02_rack_time.md). -/
abbrev TIM_LOCK_CFG.LOCK_THRESH : Fld := ⟨.TIM_LOCK_CFG, 0, 8⟩
abbrev TIM_LOCK_CFG.LOCK_COUNT : Fld := ⟨.TIM_LOCK_CFG, 8, 4⟩
abbrev TIM_LOCK_CFG.HOLDOVER_LIMIT : Fld := ⟨.TIM_LOCK_CFG, 16, 14⟩
abbrev TIM_LOCK_CFG.HOLD_DRIFT_PPB : Fld := ⟨.TIM_LOCK_CFG, 32, 16⟩
/-! TIM_COMMIT_INSTANT (R58, 02_rack_time.md). -/
abbrev TIM_COMMIT_INSTANT.INSTANT : Fld := ⟨.TIM_COMMIT_INSTANT, 0, 64⟩
/-! TIM_COMMIT_STAT (R58, 02_rack_time.md). -/
abbrev TIM_COMMIT_STAT.STATE : Fld := ⟨.TIM_COMMIT_STAT, 0, 2⟩
abbrev TIM_COMMIT_STAT.LAST_STATUS : Fld := ⟨.TIM_COMMIT_STAT, 4, 4⟩
abbrev TIM_COMMIT_STAT.WRITES : Fld := ⟨.TIM_COMMIT_STAT, 8, 13⟩
abbrev TIM_COMMIT_STAT.CANCEL : Fld := ⟨.TIM_COMMIT_STAT, 31, 1⟩
/-! WGL_ID (R97, 03_wygel_machine.md). -/
abbrev WGL_ID.ISA_REV : Fld := ⟨.WGL_ID, 0, 8⟩
abbrev WGL_ID.ENGINES : Fld := ⟨.WGL_ID, 8, 8⟩
/-! WGL_CTRL (R98, 03_wygel_machine.md). -/
abbrev WGL_CTRL.SUPV_IMG : Fld := ⟨.WGL_CTRL, 0, 32⟩
abbrev WGL_CTRL.RESERVE : Fld := ⟨.WGL_CTRL, 32, 3⟩
abbrev WGL_CTRL.FOLD_THREADS : Fld := ⟨.WGL_CTRL, 40, 6⟩
abbrev WGL_CTRL.FOLD_RUN_LIMIT : Fld := ⟨.WGL_CTRL, 48, 8⟩
abbrev WGL_CTRL.UPDATE_LIMIT : Fld := ⟨.WGL_CTRL, 56, 8⟩
/-! WGL_LOAD_STAT (R99, 03_wygel_machine.md). -/
abbrev WGL_LOAD_STAT.STATUS : Fld := ⟨.WGL_LOAD_STAT, 0, 4⟩
abbrev WGL_LOAD_STAT.IMAGE_ID : Fld := ⟨.WGL_LOAD_STAT, 32, 32⟩
/-! WGL_KEY_STAT (R100, 03_wygel_machine.md). -/
abbrev WGL_KEY_STAT.ENTRY_USED : Fld := ⟨.WGL_KEY_STAT, 0, 16⟩
abbrev WGL_KEY_STAT.ENTRY_REVOKED : Fld := ⟨.WGL_KEY_STAT, 16, 16⟩
abbrev WGL_KEY_STAT.SLOT_ENTRY : Fld := ⟨.WGL_KEY_STAT, 32, 16⟩
/-! WGL_ENG_CTRL (R101, 03_wygel_machine.md). -/
abbrev WGL_ENG_CTRL.STATE : Fld := ⟨.WGL_ENG_CTRL, 0, 2⟩
abbrev WGL_ENG_CTRL.DRAIN : Fld := ⟨.WGL_ENG_CTRL, 2, 1⟩
abbrev WGL_ENG_CTRL.RETURN : Fld := ⟨.WGL_ENG_CTRL, 3, 1⟩
abbrev WGL_ENG_CTRL.NOROOM : Fld := ⟨.WGL_ENG_CTRL, 4, 1⟩
abbrev WGL_ENG_CTRL.RETURN_FAIL : Fld := ⟨.WGL_ENG_CTRL, 5, 1⟩
/-! WGL_THR_STAT (R102, 03_wygel_machine.md). -/
abbrev WGL_THR_STAT.STATE : Fld := ⟨.WGL_THR_STAT, 0, 3⟩
abbrev WGL_THR_STAT.ENGINE : Fld := ⟨.WGL_THR_STAT, 4, 4⟩
abbrev WGL_THR_STAT.SLOT : Fld := ⟨.WGL_THR_STAT, 8, 2⟩
abbrev WGL_THR_STAT.PRIV : Fld := ⟨.WGL_THR_STAT, 12, 1⟩
abbrev WGL_THR_STAT.FID : Fld := ⟨.WGL_THR_STAT, 16, 9⟩
abbrev WGL_THR_STAT.ECODE : Fld := ⟨.WGL_THR_STAT, 25, 7⟩
abbrev WGL_THR_STAT.PC : Fld := ⟨.WGL_THR_STAT, 32, 32⟩
/-! WGL_THR_CTRL (R102, 03_wygel_machine.md). -/
abbrev WGL_THR_CTRL.KILL : Fld := ⟨.WGL_THR_CTRL, 0, 1⟩
/-! CSP_BLOCK_DESC (R150, 05_control_space.md). -/
abbrev CSP_BLOCK_DESC.INSTANCES : Fld := ⟨.CSP_BLOCK_DESC, 0, 24⟩
abbrev CSP_BLOCK_DESC.STRIDE_LOG2 : Fld := ⟨.CSP_BLOCK_DESC, 32, 6⟩
abbrev CSP_BLOCK_DESC.FORMAT : Fld := ⟨.CSP_BLOCK_DESC, 40, 8⟩
abbrev CSP_BLOCK_DESC.PRESENT : Fld := ⟨.CSP_BLOCK_DESC, 48, 1⟩
/-! CSP_ID (R151, 05_control_space.md). -/
abbrev CSP_ID.PART : Fld := ⟨.CSP_ID, 0, 16⟩
abbrev CSP_ID.REV_LETTER : Fld := ⟨.CSP_ID, 16, 4⟩
abbrev CSP_ID.REV_DIGIT : Fld := ⟨.CSP_ID, 20, 4⟩
abbrev CSP_ID.VARIANT : Fld := ⟨.CSP_ID, 24, 1⟩
abbrev CSP_ID.MAP_FORMAT : Fld := ⟨.CSP_ID, 28, 4⟩
/-! CSP_SERIAL (R152, 05_control_space.md). -/
abbrev CSP_SERIAL.SERIAL : Fld := ⟨.CSP_SERIAL, 0, 64⟩
/-! CSP_CAP (R153, 05_control_space.md). -/
abbrev CSP_CAP.LANES : Fld := ⟨.CSP_CAP, 0, 10⟩
abbrev CSP_CAP.MAX_RATE : Fld := ⟨.CSP_CAP, 10, 3⟩
abbrev CSP_CAP.PORTS : Fld := ⟨.CSP_CAP, 13, 8⟩
abbrev CSP_CAP.VSW : Fld := ⟨.CSP_CAP, 21, 7⟩
abbrev CSP_CAP.TLK_PORTS : Fld := ⟨.CSP_CAP, 28, 6⟩
abbrev CSP_CAP.ENGINES : Fld := ⟨.CSP_CAP, 34, 5⟩
abbrev CSP_CAP.MOVERS : Fld := ⟨.CSP_CAP, 39, 6⟩
abbrev CSP_CAP.FOLDS : Fld := ⟨.CSP_CAP, 45, 9⟩
abbrev CSP_CAP.SLOTS : Fld := ⟨.CSP_CAP, 54, 6⟩
abbrev CSP_CAP.SRAM_DIES : Fld := ⟨.CSP_CAP, 60, 4⟩
/-! CSP_STATUS (R155, 05_control_space.md). -/
abbrev CSP_STATUS.PHASE : Fld := ⟨.CSP_STATUS, 0, 3⟩
abbrev CSP_STATUS.FAULT_STATE : Fld := ⟨.CSP_STATUS, 3, 1⟩
abbrev CSP_STATUS.TIME_STATE : Fld := ⟨.CSP_STATUS, 4, 3⟩
abbrev CSP_STATUS.BOOT_SLOT : Fld := ⟨.CSP_STATUS, 7, 1⟩
abbrev CSP_STATUS.REGION_LOCK : Fld := ⟨.CSP_STATUS, 8, 1⟩
abbrev CSP_STATUS.DEBUG_LOCK : Fld := ⟨.CSP_STATUS, 9, 1⟩
abbrev CSP_STATUS.RULE_LOCK : Fld := ⟨.CSP_STATUS, 10, 1⟩
abbrev CSP_STATUS.CHAIN_ADDR : Fld := ⟨.CSP_STATUS, 12, 6⟩
abbrev CSP_STATUS.CHAIN_VALID : Fld := ⟨.CSP_STATUS, 18, 1⟩
abbrev CSP_STATUS.LAST_RESET : Fld := ⟨.CSP_STATUS, 24, 3⟩
abbrev CSP_STATUS.BANKS_IN_SERVICE : Fld := ⟨.CSP_STATUS, 32, 9⟩
/-! CSP_ERR (R156, 05_control_space.md). -/
abbrev CSP_ERR.ADDR : Fld := ⟨.CSP_ERR, 0, 48⟩
abbrev CSP_ERR.CAUSE : Fld := ⟨.CSP_ERR, 48, 4⟩
abbrev CSP_ERR.SOURCE : Fld := ⟨.CSP_ERR, 52, 2⟩
abbrev CSP_ERR.THREAD : Fld := ⟨.CSP_ERR, 56, 6⟩
abbrev CSP_ERR.VALID : Fld := ⟨.CSP_ERR, 63, 1⟩
/-! CSP_ERR_COUNT (R157, 05_control_space.md). -/
abbrev CSP_ERR_COUNT.COUNT : Fld := ⟨.CSP_ERR_COUNT, 0, 32⟩
/-! CSP_SCRATCH (R159, 05_control_space.md). -/
abbrev CSP_SCRATCH.VALUE : Fld := ⟨.CSP_SCRATCH, 0, 64⟩
/-! LAN_CTRL (R207, 06_lanes.md). -/
abbrev LAN_CTRL.RATE_CAP : Fld := ⟨.LAN_CTRL, 0, 3⟩
abbrev LAN_CTRL.LANE_EN : Fld := ⟨.LAN_CTRL, 3, 1⟩
abbrev LAN_CTRL.POL_FORCE : Fld := ⟨.LAN_CTRL, 6, 1⟩
abbrev LAN_CTRL.POL_VALUE : Fld := ⟨.LAN_CTRL, 7, 1⟩
abbrev LAN_CTRL.BG_ADAPT_EN : Fld := ⟨.LAN_CTRL, 8, 1⟩
/-! LAN_STATUS (R208, 06_lanes.md). -/
abbrev LAN_STATUS.RATE : Fld := ⟨.LAN_STATUS, 0, 3⟩
abbrev LAN_STATUS.ACTIVE : Fld := ⟨.LAN_STATUS, 3, 1⟩
abbrev LAN_STATUS.POL_INV : Fld := ⟨.LAN_STATUS, 4, 1⟩
abbrev LAN_STATUS.LOGICAL : Fld := ⟨.LAN_STATUS, 5, 5⟩
abbrev LAN_STATUS.REVERSED : Fld := ⟨.LAN_STATUS, 10, 1⟩
abbrev LAN_STATUS.EQ_FAIL : Fld := ⟨.LAN_STATUS, 11, 1⟩
abbrev LAN_STATUS.REFCLK_LOST : Fld := ⟨.LAN_STATUS, 12, 1⟩
abbrev LAN_STATUS.TX_STATE : Fld := ⟨.LAN_STATUS, 13, 2⟩
abbrev LAN_STATUS.MARGINAL : Fld := ⟨.LAN_STATUS, 15, 1⟩
abbrev LAN_STATUS.EYE : Fld := ⟨.LAN_STATUS, 16, 16⟩
/-! LAN_TXEQ (R209, 06_lanes.md). -/
abbrev LAN_TXEQ.INIT_PRESET : Fld := ⟨.LAN_TXEQ, 0, 4⟩
abbrev LAN_TXEQ.FORCE : Fld := ⟨.LAN_TXEQ, 4, 1⟩
abbrev LAN_TXEQ.FORCE_PRE : Fld := ⟨.LAN_TXEQ, 5, 5⟩
abbrev LAN_TXEQ.FORCE_POST : Fld := ⟨.LAN_TXEQ, 10, 5⟩
abbrev LAN_TXEQ.PRE : Fld := ⟨.LAN_TXEQ, 16, 5⟩
abbrev LAN_TXEQ.POST : Fld := ⟨.LAN_TXEQ, 21, 5⟩
abbrev LAN_TXEQ.MAIN : Fld := ⟨.LAN_TXEQ, 26, 6⟩
abbrev LAN_TXEQ.REUSE : Fld := ⟨.LAN_TXEQ, 32, 1⟩
/-! LAN_ADAPT (R210, 06_lanes.md). -/
abbrev LAN_ADAPT.EYE_MIN : Fld := ⟨.LAN_ADAPT, 0, 16⟩
abbrev LAN_ADAPT.MISS_VISITS : Fld := ⟨.LAN_ADAPT, 16, 8⟩
abbrev LAN_ADAPT.VISITS : Fld := ⟨.LAN_ADAPT, 32, 32⟩
/-! LAN_MARGIN_CTRL (R211, 06_lanes.md). -/
abbrev LAN_MARGIN_CTRL.START : Fld := ⟨.LAN_MARGIN_CTRL, 0, 1⟩
abbrev LAN_MARGIN_CTRL.TYPE : Fld := ⟨.LAN_MARGIN_CTRL, 1, 1⟩
abbrev LAN_MARGIN_CTRL.DIR : Fld := ⟨.LAN_MARGIN_CTRL, 2, 1⟩
abbrev LAN_MARGIN_CTRL.STEPS : Fld := ⟨.LAN_MARGIN_CTRL, 3, 6⟩
abbrev LAN_MARGIN_CTRL.ERR_LIMIT : Fld := ⟨.LAN_MARGIN_CTRL, 9, 6⟩
abbrev LAN_MARGIN_CTRL.EYE : Fld := ⟨.LAN_MARGIN_CTRL, 16, 2⟩
abbrev LAN_MARGIN_CTRL.DWELL : Fld := ⟨.LAN_MARGIN_CTRL, 32, 16⟩
/-! LAN_MARGIN_STAT (R211, 06_lanes.md). -/
abbrev LAN_MARGIN_STAT.STATE : Fld := ⟨.LAN_MARGIN_STAT, 0, 2⟩
abbrev LAN_MARGIN_STAT.ERRORS : Fld := ⟨.LAN_MARGIN_STAT, 2, 6⟩
abbrev LAN_MARGIN_STAT.LIMIT_HIT : Fld := ⟨.LAN_MARGIN_STAT, 8, 1⟩
abbrev LAN_MARGIN_STAT.CAUSE : Fld := ⟨.LAN_MARGIN_STAT, 9, 3⟩
/-! LAN_PRBS_CTRL (R212, 06_lanes.md). -/
abbrev LAN_PRBS_CTRL.PATTERN : Fld := ⟨.LAN_PRBS_CTRL, 0, 3⟩
abbrev LAN_PRBS_CTRL.GEN_EN : Fld := ⟨.LAN_PRBS_CTRL, 3, 1⟩
abbrev LAN_PRBS_CTRL.CHK_EN : Fld := ⟨.LAN_PRBS_CTRL, 4, 1⟩
abbrev LAN_PRBS_CTRL.RATE : Fld := ⟨.LAN_PRBS_CTRL, 5, 3⟩
abbrev LAN_PRBS_CTRL.USER_PATTERN : Fld := ⟨.LAN_PRBS_CTRL, 16, 16⟩
/-! LAN_PRBS_INJ (R212, 06_lanes.md). -/
abbrev LAN_PRBS_INJ.MODE : Fld := ⟨.LAN_PRBS_INJ, 0, 3⟩
abbrev LAN_PRBS_INJ.BURST_LEN : Fld := ⟨.LAN_PRBS_INJ, 3, 6⟩
abbrev LAN_PRBS_INJ.PERIOD_LOG2 : Fld := ⟨.LAN_PRBS_INJ, 9, 6⟩
abbrev LAN_PRBS_INJ.LIVE : Fld := ⟨.LAN_PRBS_INJ, 15, 1⟩
abbrev LAN_PRBS_INJ.GO : Fld := ⟨.LAN_PRBS_INJ, 16, 1⟩
/-! LAN_PRBS_STAT (R213, 06_lanes.md). -/
abbrev LAN_PRBS_STAT.LOCKED : Fld := ⟨.LAN_PRBS_STAT, 0, 1⟩
abbrev LAN_PRBS_STAT.PREEMPTED : Fld := ⟨.LAN_PRBS_STAT, 1, 1⟩
abbrev LAN_PRBS_STAT.LIVE_REFUSED : Fld := ⟨.LAN_PRBS_STAT, 2, 1⟩
abbrev LAN_PRBS_STAT.LOCK_LOSS : Fld := ⟨.LAN_PRBS_STAT, 8, 8⟩
/-! LAN_PRBS_ERR (R213, 06_lanes.md). -/
abbrev LAN_PRBS_ERR.ERRORS : Fld := ⟨.LAN_PRBS_ERR, 0, 32⟩
/-! LAN_PRBS_BITS (R213, 06_lanes.md). -/
abbrev LAN_PRBS_BITS.BITS : Fld := ⟨.LAN_PRBS_BITS, 0, 48⟩
/-! LAN_PORT_CFG (R214, 06_lanes.md). -/
abbrev LAN_PORT_CFG.CLK_MODE : Fld := ⟨.LAN_PORT_CFG, 0, 2⟩
abbrev LAN_PORT_CFG.EQ_BYPASS : Fld := ⟨.LAN_PORT_CFG, 2, 1⟩
abbrev LAN_PORT_CFG.L0P_EN : Fld := ⟨.LAN_PORT_CFG, 3, 1⟩
abbrev LAN_PORT_CFG.ASPM_L1_EN : Fld := ⟨.LAN_PORT_CFG, 4, 1⟩
abbrev LAN_PORT_CFG.L1_IDLE : Fld := ⟨.LAN_PORT_CFG, 5, 10⟩
abbrev LAN_PORT_CFG.REMOTE_MARGIN_EN : Fld := ⟨.LAN_PORT_CFG, 15, 1⟩
/-! LAN_FALLOW_CFG (R215, 06_lanes.md). -/
abbrev LAN_FALLOW_CFG.FALLOW_EN : Fld := ⟨.LAN_FALLOW_CFG, 0, 1⟩
abbrev LAN_FALLOW_CFG.SLEEP_EN : Fld := ⟨.LAN_FALLOW_CFG, 1, 1⟩
abbrev LAN_FALLOW_CFG.MIN_WIDTH : Fld := ⟨.LAN_FALLOW_CFG, 2, 1⟩
abbrev LAN_FALLOW_CFG.LOW_PCT : Fld := ⟨.LAN_FALLOW_CFG, 3, 7⟩
abbrev LAN_FALLOW_CFG.HIGH_PCT : Fld := ⟨.LAN_FALLOW_CFG, 10, 7⟩
abbrev LAN_FALLOW_CFG.WINDOW : Fld := ⟨.LAN_FALLOW_CFG, 17, 11⟩
abbrev LAN_FALLOW_CFG.IDLE : Fld := ⟨.LAN_FALLOW_CFG, 32, 16⟩
/-! LAN_FALLOW_STAT (R216, 06_lanes.md). -/
abbrev LAN_FALLOW_STAT.STATE : Fld := ⟨.LAN_FALLOW_STAT, 0, 2⟩
abbrev LAN_FALLOW_STAT.WIDTH : Fld := ⟨.LAN_FALLOW_STAT, 2, 5⟩
abbrev LAN_FALLOW_STAT.HELD : Fld := ⟨.LAN_FALLOW_STAT, 7, 1⟩
abbrev LAN_FALLOW_STAT.CHANGES : Fld := ⟨.LAN_FALLOW_STAT, 32, 32⟩
/-! CXP_PORT_CFG (R252, 07_cxl_ports.md). -/
abbrev CXP_PORT_CFG.MODE : Fld := ⟨.CXP_PORT_CFG, 0, 3⟩
abbrev CXP_PORT_CFG.WIDTH : Fld := ⟨.CXP_PORT_CFG, 3, 2⟩
abbrev CXP_PORT_CFG.RATE : Fld := ⟨.CXP_PORT_CFG, 5, 3⟩
abbrev CXP_PORT_CFG.VSW : Fld := ⟨.CXP_PORT_CFG, 8, 6⟩
abbrev CXP_PORT_CFG.FLIT_LO : Fld := ⟨.CXP_PORT_CFG, 14, 1⟩
abbrev CXP_PORT_CFG.SLOT : Fld := ⟨.CXP_PORT_CFG, 16, 5⟩
abbrev CXP_PORT_CFG.SLOT_EN : Fld := ⟨.CXP_PORT_CFG, 21, 1⟩
abbrev CXP_PORT_CFG.PID : Fld := ⟨.CXP_PORT_CFG, 32, 12⟩
abbrev CXP_PORT_CFG.PID_EN : Fld := ⟨.CXP_PORT_CFG, 44, 1⟩
/-! CXP_LINK_STAT (R253, 07_cxl_ports.md). -/
abbrev CXP_LINK_STAT.STATE : Fld := ⟨.CXP_LINK_STAT, 0, 3⟩
abbrev CXP_LINK_STAT.WIDTH : Fld := ⟨.CXP_LINK_STAT, 3, 5⟩
abbrev CXP_LINK_STAT.RATE : Fld := ⟨.CXP_LINK_STAT, 8, 3⟩
abbrev CXP_LINK_STAT.FLIT : Fld := ⟨.CXP_LINK_STAT, 11, 2⟩
abbrev CXP_LINK_STAT.PARTNER : Fld := ⟨.CXP_LINK_STAT, 13, 3⟩
abbrev CXP_LINK_STAT.CAUSE : Fld := ⟨.CXP_LINK_STAT, 16, 4⟩
abbrev CXP_LINK_STAT.DOWN_COUNT : Fld := ⟨.CXP_LINK_STAT, 32, 16⟩
/-! CXP_CONTAIN (R254, 07_cxl_ports.md). -/
abbrev CXP_CONTAIN.CONTAINED : Fld := ⟨.CXP_CONTAIN, 0, 1⟩
abbrev CXP_CONTAIN.CAUSE : Fld := ⟨.CXP_CONTAIN, 4, 4⟩
abbrev CXP_CONTAIN.RELEASE : Fld := ⟨.CXP_CONTAIN, 8, 1⟩
abbrev CXP_CONTAIN.CONTAIN : Fld := ⟨.CXP_CONTAIN, 9, 1⟩
/-! CXP_IDE_CFG (R255, 07_cxl_ports.md). -/
abbrev CXP_IDE_CFG.EN : Fld := ⟨.CXP_IDE_CFG, 0, 1⟩
abbrev CXP_IDE_CFG.MODE : Fld := ⟨.CXP_IDE_CFG, 1, 1⟩
abbrev CXP_IDE_CFG.KEY_REFRESH : Fld := ⟨.CXP_IDE_CFG, 2, 1⟩
abbrev CXP_IDE_CFG.STREAM : Fld := ⟨.CXP_IDE_CFG, 4, 2⟩
abbrev CXP_IDE_CFG.FAILS : Fld := ⟨.CXP_IDE_CFG, 16, 16⟩
/-! CXP_HP_STAT (R256, 07_cxl_ports.md). -/
abbrev CXP_HP_STAT.PRESENT : Fld := ⟨.CXP_HP_STAT, 0, 1⟩
abbrev CXP_HP_STAT.PWR_ON : Fld := ⟨.CXP_HP_STAT, 1, 1⟩
abbrev CXP_HP_STAT.DLLSC : Fld := ⟨.CXP_HP_STAT, 2, 1⟩
abbrev CXP_HP_STAT.PDC : Fld := ⟨.CXP_HP_STAT, 3, 1⟩
/-! CXP_PBR_ROUTE (R257, 07_cxl_ports.md). -/
abbrev CXP_PBR_ROUTE.EGRESS : Fld := ⟨.CXP_PBR_ROUTE, 0, 7⟩
abbrev CXP_PBR_ROUTE.VALID : Fld := ⟨.CXP_PBR_ROUTE, 7, 1⟩
/-! CXP_VSW_CFG (R258, 07_cxl_ports.md). -/
abbrev CXP_VSW_CFG.EN : Fld := ⟨.CXP_VSW_CFG, 0, 1⟩
abbrev CXP_VSW_CFG.USP : Fld := ⟨.CXP_VSW_CFG, 1, 7⟩
abbrev CXP_VSW_CFG.VB_COUNT : Fld := ⟨.CXP_VSW_CFG, 8, 6⟩
/-! CXP_VB (R259, 07_cxl_ports.md). -/
abbrev CXP_VB.KIND : Fld := ⟨.CXP_VB, 0, 2⟩
abbrev CXP_VB.PORT : Fld := ⟨.CXP_VB, 2, 7⟩
abbrev CXP_VB.LD : Fld := ⟨.CXP_VB, 9, 4⟩
abbrev CXP_VB.STATE : Fld := ⟨.CXP_VB, 16, 2⟩
/-! CXP_POOL_CFG (R260, 07_cxl_ports.md). -/
abbrev CXP_POOL_CFG.OFFER_TIMEOUT : Fld := ⟨.CXP_POOL_CFG, 0, 8⟩
abbrev CXP_POOL_CFG.HOST_REQ_EN : Fld := ⟨.CXP_POOL_CFG, 8, 1⟩
/-! CXP_POOL_REGION (R261, 07_cxl_ports.md). -/
abbrev CXP_POOL_REGION.SIZE_GIB : Fld := ⟨.CXP_POOL_REGION, 0, 17⟩
abbrev CXP_POOL_REGION.TIER : Fld := ⟨.CXP_POOL_REGION, 48, 2⟩
abbrev CXP_POOL_REGION.SHARED : Fld := ⟨.CXP_POOL_REGION, 50, 1⟩
/-! CXP_POOL_USED (R261, 07_cxl_ports.md). -/
abbrev CXP_POOL_USED.USED_GIB : Fld := ⟨.CXP_POOL_USED, 0, 17⟩
abbrev CXP_POOL_USED.OFFERED_GIB : Fld := ⟨.CXP_POOL_USED, 24, 17⟩
/-! TLK_CFG (R298, 08_thatchlink.md). -/
abbrev TLK_CFG.CREDIT_MODE : Fld := ⟨.TLK_CFG, 0, 1⟩
abbrev TLK_CFG.STRICT_TIMEOUT : Fld := ⟨.TLK_CFG, 8, 8⟩
abbrev TLK_CFG.RESUME_LIMIT : Fld := ⟨.TLK_CFG, 16, 16⟩
abbrev TLK_CFG.CREDIT_BATCH : Fld := ⟨.TLK_CFG, 32, 8⟩
abbrev TLK_CFG.XON_GAP : Fld := ⟨.TLK_CFG, 40, 8⟩
abbrev TLK_CFG.ERR_BURST : Fld := ⟨.TLK_CFG, 48, 8⟩
/-! TLK_FC_CFG (R299, 08_thatchlink.md). -/
abbrev TLK_FC_CFG.HEADROOM : Fld := ⟨.TLK_FC_CFG, 0, 10⟩
abbrev TLK_FC_CFG.RTT_ASSUME : Fld := ⟨.TLK_FC_CFG, 16, 16⟩
abbrev TLK_FC_CFG.A0_ASSUME : Fld := ⟨.TLK_FC_CFG, 32, 10⟩
/-! TLK_VC_CFG (R299, 08_thatchlink.md). -/
abbrev TLK_VC_CFG.CREDITS : Fld := ⟨.TLK_VC_CFG, 0, 10⟩
abbrev TLK_VC_CFG.SHARE_MAX : Fld := ⟨.TLK_VC_CFG, 16, 10⟩
/-! TLK_STATUS (R300, 08_thatchlink.md). -/
abbrev TLK_STATUS.LL_STATE : Fld := ⟨.TLK_STATUS, 0, 2⟩
abbrev TLK_STATUS.HEADROOM_SHORT : Fld := ⟨.TLK_STATUS, 2, 1⟩
abbrev TLK_STATUS.STALLED : Fld := ⟨.TLK_STATUS, 3, 1⟩
abbrev TLK_STATUS.TX_NEXT : Fld := ⟨.TLK_STATUS, 4, 10⟩
abbrev TLK_STATUS.RX_EXPECT : Fld := ⟨.TLK_STATUS, 14, 10⟩
abbrev TLK_STATUS.UNACKED : Fld := ⟨.TLK_STATUS, 24, 10⟩
abbrev TLK_STATUS.XOFF_RX : Fld := ⟨.TLK_STATUS, 34, 8⟩
abbrev TLK_STATUS.XOFF_TX : Fld := ⟨.TLK_STATUS, 42, 8⟩
abbrev TLK_STATUS.BROKEN_CAUSE : Fld := ⟨.TLK_STATUS, 50, 3⟩
abbrev TLK_STATUS.A0_SHORT : Fld := ⟨.TLK_STATUS, 53, 1⟩
/-! TLK_RTT (R301, 08_thatchlink.md). -/
abbrev TLK_RTT.RTT_NS : Fld := ⟨.TLK_RTT, 0, 16⟩
abbrev TLK_RTT.HEADROOM_REQ : Fld := ⟨.TLK_RTT, 16, 16⟩
/-! TLK_PARTNER_VC (R301, 08_thatchlink.md). -/
abbrev TLK_PARTNER_VC.CREDITS : Fld := ⟨.TLK_PARTNER_VC, 0, 10⟩
/-! TLK_ERR_CNT (R302, 08_thatchlink.md). -/
abbrev TLK_ERR_CNT.CRC_FAILS : Fld := ⟨.TLK_ERR_CNT, 0, 32⟩
abbrev TLK_ERR_CNT.REPLAYED : Fld := ⟨.TLK_ERR_CNT, 32, 32⟩
/-! TLK_EVT_CNT (R302, 08_thatchlink.md). -/
abbrev TLK_EVT_CNT.RECOVERIES : Fld := ⟨.TLK_EVT_CNT, 0, 16⟩
abbrev TLK_EVT_CNT.REPLAY_TIMEOUTS : Fld := ⟨.TLK_EVT_CNT, 16, 16⟩
abbrev TLK_EVT_CNT.STALLS : Fld := ⟨.TLK_EVT_CNT, 32, 16⟩
/-! SWC_BUF_STAT (R330, 09_switch_core.md). -/
abbrev SWC_BUF_STAT.CELLS_TOTAL : Fld := ⟨.SWC_BUF_STAT, 0, 18⟩
abbrev SWC_BUF_STAT.CELLS_FREE : Fld := ⟨.SWC_BUF_STAT, 18, 18⟩
abbrev SWC_BUF_STAT.RIDGE_USED : Fld := ⟨.SWC_BUF_STAT, 36, 13⟩
/-! SWC_ALPHA (R331, 09_switch_core.md). -/
abbrev SWC_ALPHA.K1 : Fld := ⟨.SWC_ALPHA, 4, 4⟩
abbrev SWC_ALPHA.K2 : Fld := ⟨.SWC_ALPHA, 8, 4⟩
abbrev SWC_ALPHA.K3 : Fld := ⟨.SWC_ALPHA, 12, 4⟩
abbrev SWC_ALPHA.K4 : Fld := ⟨.SWC_ALPHA, 16, 4⟩
abbrev SWC_ALPHA.K5 : Fld := ⟨.SWC_ALPHA, 20, 4⟩
abbrev SWC_ALPHA.K6 : Fld := ⟨.SWC_ALPHA, 24, 4⟩
abbrev SWC_ALPHA.K7 : Fld := ⟨.SWC_ALPHA, 28, 4⟩
/-! SWC_CLASS_CFG (R332, 09_switch_core.md). -/
abbrev SWC_CLASS_CFG.DEFAULT_CLASS : Fld := ⟨.SWC_CLASS_CFG, 0, 3⟩
abbrev SWC_CLASS_CFG.DIR_CLASS : Fld := ⟨.SWC_CLASS_CFG, 4, 3⟩
abbrev SWC_CLASS_CFG.MIGR_CLASS : Fld := ⟨.SWC_CLASS_CFG, 8, 3⟩
abbrev SWC_CLASS_CFG.FLOW_SEL1 : Fld := ⟨.SWC_CLASS_CFG, 16, 2⟩
abbrev SWC_CLASS_CFG.FLOW_SEL2 : Fld := ⟨.SWC_CLASS_CFG, 18, 2⟩
abbrev SWC_CLASS_CFG.FLOW_SEL3 : Fld := ⟨.SWC_CLASS_CFG, 20, 2⟩
abbrev SWC_CLASS_CFG.FLOW_SEL4 : Fld := ⟨.SWC_CLASS_CFG, 22, 2⟩
abbrev SWC_CLASS_CFG.FLOW_SEL5 : Fld := ⟨.SWC_CLASS_CFG, 24, 2⟩
abbrev SWC_CLASS_CFG.FLOW_SEL6 : Fld := ⟨.SWC_CLASS_CFG, 26, 2⟩
abbrev SWC_CLASS_CFG.FLOW_SEL7 : Fld := ⟨.SWC_CLASS_CFG, 28, 2⟩
/-! SWC_AGE_CFG (R333, 09_switch_core.md). -/
abbrev SWC_AGE_CFG.EN : Fld := ⟨.SWC_AGE_CFG, 0, 1⟩
abbrev SWC_AGE_CFG.CLASSES : Fld := ⟨.SWC_AGE_CFG, 1, 7⟩
abbrev SWC_AGE_CFG.LIMIT : Fld := ⟨.SWC_AGE_CFG, 16, 16⟩
/-! SWC_AGE_PORTS (R333, 09_switch_core.md). -/
abbrev SWC_AGE_PORTS.PORTS : Fld := ⟨.SWC_AGE_PORTS, 0, 64⟩
/-! SWC_FLUSH_CNT (R334, 09_switch_core.md). -/
abbrev SWC_FLUSH_CNT.SYNTH_READS : Fld := ⟨.SWC_FLUSH_CNT, 0, 32⟩
abbrev SWC_FLUSH_CNT.DROPPED_WRITES : Fld := ⟨.SWC_FLUSH_CNT, 32, 32⟩
/-! SWC_DISCARD_CNT (R334, 09_switch_core.md). -/
abbrev SWC_DISCARD_CNT.AGE_DISCARDS : Fld := ⟨.SWC_DISCARD_CNT, 0, 32⟩
abbrev SWC_DISCARD_CNT.GEN_DISCARDS : Fld := ⟨.SWC_DISCARD_CNT, 32, 32⟩
/-! SWC_EVENT_CNT (R334, 09_switch_core.md). -/
abbrev SWC_EVENT_CNT.POISON_OUT : Fld := ⟨.SWC_EVENT_CNT, 0, 24⟩
abbrev SWC_EVENT_CNT.HDR_LOST : Fld := ⟨.SWC_EVENT_CNT, 24, 16⟩
abbrev SWC_EVENT_CNT.RIDGE_OVERFLOW : Fld := ⟨.SWC_EVENT_CNT, 40, 24⟩
/-! SWC_PORT_MIN (R335, 09_switch_core.md). -/
abbrev SWC_PORT_MIN.MIN : Fld := ⟨.SWC_PORT_MIN, 0, 12⟩
abbrev SWC_PORT_MIN.MIN_USED : Fld := ⟨.SWC_PORT_MIN, 16, 12⟩
abbrev SWC_PORT_MIN.SHARED_PEAK : Fld := ⟨.SWC_PORT_MIN, 32, 18⟩
/-! SWC_CLASS_RULE (R336, 09_switch_core.md). -/
abbrev SWC_CLASS_RULE.SRC : Fld := ⟨.SWC_CLASS_RULE, 0, 7⟩
abbrev SWC_CLASS_RULE.REGION : Fld := ⟨.SWC_CLASS_RULE, 7, 10⟩
abbrev SWC_CLASS_RULE.REGION_ANY : Fld := ⟨.SWC_CLASS_RULE, 17, 1⟩
abbrev SWC_CLASS_RULE.CHANNEL : Fld := ⟨.SWC_CLASS_RULE, 18, 2⟩
abbrev SWC_CLASS_RULE.MTYPE : Fld := ⟨.SWC_CLASS_RULE, 20, 2⟩
abbrev SWC_CLASS_RULE.CLASS : Fld := ⟨.SWC_CLASS_RULE, 24, 3⟩
abbrev SWC_CLASS_RULE.VALID : Fld := ⟨.SWC_CLASS_RULE, 31, 1⟩
/-! SCH_PORT_CFG (R359, 10_scheduling.md). -/
abbrev SCH_PORT_CFG.OVERHEAD : Fld := ⟨.SCH_PORT_CFG, 0, 8⟩
abbrev SCH_PORT_CFG.EXCESS_CLASS : Fld := ⟨.SCH_PORT_CFG, 8, 3⟩
/-! SCH_PORT_STAT (R360, 10_scheduling.md). -/
abbrev SCH_PORT_STAT.GATE_OPEN : Fld := ⟨.SCH_PORT_STAT, 0, 1⟩
abbrev SCH_PORT_STAT.DEGRADED : Fld := ⟨.SCH_PORT_STAT, 1, 1⟩
abbrev SCH_PORT_STAT.RIDGE_LOAD : Fld := ⟨.SCH_PORT_STAT, 12, 20⟩
abbrev SCH_PORT_STAT.RIDGE_BURST : Fld := ⟨.SCH_PORT_STAT, 32, 24⟩
/-! SCH_RIDGE_CNT0 (R361, 10_scheduling.md). -/
abbrev SCH_RIDGE_CNT0.DEMOTE_RATE : Fld := ⟨.SCH_RIDGE_CNT0, 0, 32⟩
abbrev SCH_RIDGE_CNT0.DEMOTE_GATE : Fld := ⟨.SCH_RIDGE_CNT0, 32, 32⟩
/-! SCH_RIDGE_CNT1 (R361, 10_scheduling.md). -/
abbrev SCH_RIDGE_CNT1.DEMOTE_NORES : Fld := ⟨.SCH_RIDGE_CNT1, 0, 32⟩
abbrev SCH_RIDGE_CNT1.SERVED : Fld := ⟨.SCH_RIDGE_CNT1, 32, 32⟩
/-! SCH_RIDGE_Q (R362, 10_scheduling.md). -/
abbrev SCH_RIDGE_Q.DEPTH : Fld := ⟨.SCH_RIDGE_Q, 0, 13⟩
abbrev SCH_RIDGE_Q.CLASS_V : Fld := ⟨.SCH_RIDGE_Q, 32, 32⟩
/-! SCH_CLASS_CFG (R363, 10_scheduling.md). -/
abbrev SCH_CLASS_CFG.WEIGHT : Fld := ⟨.SCH_CLASS_CFG, 0, 13⟩
abbrev SCH_CLASS_CFG.FLOW_V : Fld := ⟨.SCH_CLASS_CFG, 32, 32⟩
/-! SCH_GATE_MAP (R364, 10_scheduling.md). -/
abbrev SCH_GATE_MAP.OPEN : Fld := ⟨.SCH_GATE_MAP, 0, 64⟩
/-! SCH_RIDGE_RES (R365, 10_scheduling.md). -/
abbrev SCH_RIDGE_RES.SRC : Fld := ⟨.SCH_RIDGE_RES, 0, 7⟩
abbrev SCH_RIDGE_RES.VALID : Fld := ⟨.SCH_RIDGE_RES, 7, 1⟩
abbrev SCH_RIDGE_RES.REQ_SHAPER : Fld := ⟨.SCH_RIDGE_RES, 16, 13⟩
abbrev SCH_RIDGE_RES.RESP_SHAPER : Fld := ⟨.SCH_RIDGE_RES, 32, 13⟩
/-! SCH_QUEUE_CFG (R366, 10_scheduling.md). -/
abbrev SCH_QUEUE_CFG.WEIGHT : Fld := ⟨.SCH_QUEUE_CFG, 0, 13⟩
abbrev SCH_QUEUE_CFG.SHAPER : Fld := ⟨.SCH_QUEUE_CFG, 16, 13⟩
abbrev SCH_QUEUE_CFG.SHAPER_EN : Fld := ⟨.SCH_QUEUE_CFG, 29, 1⟩
/-! SCH_QUEUE_STAT (R366, 10_scheduling.md). -/
abbrev SCH_QUEUE_STAT.DEPTH : Fld := ⟨.SCH_QUEUE_STAT, 0, 18⟩
abbrev SCH_QUEUE_STAT.TAG : Fld := ⟨.SCH_QUEUE_STAT, 32, 32⟩
/-! SCH_SHAPER_CFG (R367, 10_scheduling.md). -/
abbrev SCH_SHAPER_CFG.RATE : Fld := ⟨.SCH_SHAPER_CFG, 0, 20⟩
abbrev SCH_SHAPER_CFG.BURST : Fld := ⟨.SCH_SHAPER_CFG, 24, 24⟩
abbrev SCH_SHAPER_CFG.EN : Fld := ⟨.SCH_SHAPER_CFG, 48, 1⟩
/-! SCH_SHAPER_STAT (R367, 10_scheduling.md). -/
abbrev SCH_SHAPER_STAT.TOKENS : Fld := ⟨.SCH_SHAPER_STAT, 0, 32⟩
abbrev SCH_SHAPER_STAT.HELD : Fld := ⟨.SCH_SHAPER_STAT, 32, 1⟩
/-! SCH_SHAPER_BYTES (R367, 10_scheduling.md). -/
abbrev SCH_SHAPER_BYTES.BYTES : Fld := ⟨.SCH_SHAPER_BYTES, 0, 64⟩
/-! TMP_FIELD0 (R395, 11_thatch_map.md). -/
abbrev TMP_FIELD0.MODE : Fld := ⟨.TMP_FIELD0, 0, 2⟩
abbrev TMP_FIELD0.MIGRATING : Fld := ⟨.TMP_FIELD0, 2, 1⟩
abbrev TMP_FIELD0.ORIGIN : Fld := ⟨.TMP_FIELD0, 3, 1⟩
abbrev TMP_FIELD0.DEV : Fld := ⟨.TMP_FIELD0, 8, 8⟩
abbrev TMP_FIELD0.FRAME : Fld := ⟨.TMP_FIELD0, 16, 24⟩
abbrev TMP_FIELD0.SLOT : Fld := ⟨.TMP_FIELD0, 40, 13⟩
/-! TMP_FIELD1 (R395, 11_thatch_map.md). -/
abbrev TMP_FIELD1.OP : Fld := ⟨.TMP_FIELD1, 0, 2⟩
abbrev TMP_FIELD1.SHARED : Fld := ⟨.TMP_FIELD1, 2, 1⟩
abbrev TMP_FIELD1.TIER : Fld := ⟨.TMP_FIELD1, 3, 2⟩
abbrev TMP_FIELD1.PIN : Fld := ⟨.TMP_FIELD1, 5, 1⟩
abbrev TMP_FIELD1.M_DEV : Fld := ⟨.TMP_FIELD1, 8, 8⟩
abbrev TMP_FIELD1.M_FRAME : Fld := ⟨.TMP_FIELD1, 16, 24⟩
abbrev TMP_FIELD1.BIND_COUNT : Fld := ⟨.TMP_FIELD1, 40, 7⟩
abbrev TMP_FIELD1.COUNT : Fld := ⟨.TMP_FIELD1, 48, 8⟩
abbrev TMP_FIELD1.PHASE : Fld := ⟨.TMP_FIELD1, 56, 2⟩
/-! TMP_SWARD (R396, 11_thatch_map.md). -/
abbrev TMP_SWARD.STATE : Fld := ⟨.TMP_SWARD, 0, 2⟩
abbrev TMP_SWARD.DEV : Fld := ⟨.TMP_SWARD, 8, 8⟩
abbrev TMP_SWARD.FRAME2M : Fld := ⟨.TMP_SWARD, 16, 33⟩
abbrev TMP_SWARD.COUNT : Fld := ⟨.TMP_SWARD, 56, 8⟩
/-! TMP_BIND0 (R397, 11_thatch_map.md). -/
abbrev TMP_BIND0.VALID : Fld := ⟨.TMP_BIND0, 0, 1⟩
abbrev TMP_BIND0.REGION : Fld := ⟨.TMP_BIND0, 1, 3⟩
abbrev TMP_BIND0.DPA_GIB : Fld := ⟨.TMP_BIND0, 8, 17⟩
abbrev TMP_BIND0.LEN_GIB : Fld := ⟨.TMP_BIND0, 32, 17⟩
/-! TMP_BIND1 (R397, 11_thatch_map.md). -/
abbrev TMP_BIND1.FIELD : Fld := ⟨.TMP_BIND1, 0, 17⟩
/-! TMP_ALLOC_CFG (R398, 11_thatch_map.md). -/
abbrev TMP_ALLOC_CFG.GRANT_BASE : Fld := ⟨.TMP_ALLOC_CFG, 0, 17⟩
abbrev TMP_ALLOC_CFG.GRANT_LIMIT : Fld := ⟨.TMP_ALLOC_CFG, 32, 18⟩
abbrev TMP_ALLOC_CFG.ZERO_MOVERS : Fld := ⟨.TMP_ALLOC_CFG, 50, 5⟩
abbrev TMP_ALLOC_CFG.AUTO_SPLIT : Fld := ⟨.TMP_ALLOC_CFG, 56, 1⟩
abbrev TMP_ALLOC_CFG.AUTO_MERGE : Fld := ⟨.TMP_ALLOC_CFG, 57, 1⟩
/-! TMP_ALLOC_STAT (R398, 11_thatch_map.md). -/
abbrev TMP_ALLOC_STAT.FREE_SLOTS : Fld := ⟨.TMP_ALLOC_STAT, 0, 14⟩
abbrev TMP_ALLOC_STAT.USED_FIELDS : Fld := ⟨.TMP_ALLOC_STAT, 18, 18⟩
abbrev TMP_ALLOC_STAT.LOST_WRITES : Fld := ⟨.TMP_ALLOC_STAT, 40, 24⟩
/-! TMP_TIER_CFG (R399, 11_thatch_map.md). -/
abbrev TMP_TIER_CFG.PROMOTE : Fld := ⟨.TMP_TIER_CFG, 0, 8⟩
abbrev TMP_TIER_CFG.DEMOTE : Fld := ⟨.TMP_TIER_CFG, 8, 8⟩
abbrev TMP_TIER_CFG.HALVE_COURSES : Fld := ⟨.TMP_TIER_CFG, 16, 16⟩
abbrev TMP_TIER_CFG.SAMPLE_LOG2 : Fld := ⟨.TMP_TIER_CFG, 32, 4⟩
abbrev TMP_TIER_CFG.RESERVE_GIB : Fld := ⟨.TMP_TIER_CFG, 40, 24⟩
/-! TMP_TIER_FIG (R399, 11_thatch_map.md). -/
abbrev TMP_TIER_FIG.LAT_NS : Fld := ⟨.TMP_TIER_FIG, 0, 16⟩
abbrev TMP_TIER_FIG.BW_GBS : Fld := ⟨.TMP_TIER_FIG, 16, 16⟩
/-! TMP_TIER_STAT (R399, 11_thatch_map.md). -/
abbrev TMP_TIER_STAT.FREE_GIB : Fld := ⟨.TMP_TIER_STAT, 0, 24⟩
abbrev TMP_TIER_STAT.ZEROED_GIB : Fld := ⟨.TMP_TIER_STAT, 24, 24⟩
/-! TMP_MIGR_CFG (R400, 11_thatch_map.md). -/
abbrev TMP_MIGR_CFG.TIER_MAX : Fld := ⟨.TMP_MIGR_CFG, 0, 7⟩
abbrev TMP_MIGR_CFG.STALL_LINES : Fld := ⟨.TMP_MIGR_CFG, 8, 10⟩
abbrev TMP_MIGR_CFG.MAX_PASSES : Fld := ⟨.TMP_MIGR_CFG, 20, 4⟩
/-! TMP_MIGR_STAT0 (R400, 11_thatch_map.md). -/
abbrev TMP_MIGR_STAT0.ACTIVE : Fld := ⟨.TMP_MIGR_STAT0, 0, 7⟩
abbrev TMP_MIGR_STAT0.COMPLETED : Fld := ⟨.TMP_MIGR_STAT0, 8, 32⟩
/-! TMP_MIGR_STAT1 (R400, 11_thatch_map.md). -/
abbrev TMP_MIGR_STAT1.ABORTED : Fld := ⟨.TMP_MIGR_STAT1, 0, 24⟩
abbrev TMP_MIGR_STAT1.NOSLOT : Fld := ⟨.TMP_MIGR_STAT1, 24, 16⟩
abbrev TMP_MIGR_STAT1.CAND_DROPPED : Fld := ⟨.TMP_MIGR_STAT1, 40, 24⟩
/-! TMP_CMD (R401, 11_thatch_map.md). -/
abbrev TMP_CMD.OP : Fld := ⟨.TMP_CMD, 0, 3⟩
abbrev TMP_CMD.FIELD : Fld := ⟨.TMP_CMD, 4, 17⟩
abbrev TMP_CMD.SWARD : Fld := ⟨.TMP_CMD, 21, 9⟩
abbrev TMP_CMD.DEV : Fld := ⟨.TMP_CMD, 32, 8⟩
abbrev TMP_CMD.GO : Fld := ⟨.TMP_CMD, 63, 1⟩
/-! TMP_CMD_STAT (R401, 11_thatch_map.md). -/
abbrev TMP_CMD_STAT.STATE : Fld := ⟨.TMP_CMD_STAT, 0, 2⟩
abbrev TMP_CMD_STAT.RESULT : Fld := ⟨.TMP_CMD_STAT, 4, 4⟩
/-! TMP_DEV_CFG (R402, 11_thatch_map.md). -/
abbrev TMP_DEV_CFG.STATE : Fld := ⟨.TMP_DEV_CFG, 0, 3⟩
abbrev TMP_DEV_CFG.REMOTE : Fld := ⟨.TMP_DEV_CFG, 3, 1⟩
abbrev TMP_DEV_CFG.PORT : Fld := ⟨.TMP_DEV_CFG, 4, 7⟩
abbrev TMP_DEV_CFG.LD : Fld := ⟨.TMP_DEV_CFG, 12, 4⟩
abbrev TMP_DEV_CFG.PID : Fld := ⟨.TMP_DEV_CFG, 16, 12⟩
abbrev TMP_DEV_CFG.TIER : Fld := ⟨.TMP_DEV_CFG, 28, 2⟩
abbrev TMP_DEV_CFG.SIZE_GIB : Fld := ⟨.TMP_DEV_CFG, 32, 24⟩
/-! TMP_DEV_RANGE (R402, 11_thatch_map.md). -/
abbrev TMP_DEV_RANGE.BASE_GIB : Fld := ⟨.TMP_DEV_RANGE, 0, 24⟩
abbrev TMP_DEV_RANGE.PEER : Fld := ⟨.TMP_DEV_RANGE, 32, 6⟩
abbrev TMP_DEV_RANGE.PEER_DEV : Fld := ⟨.TMP_DEV_RANGE, 40, 8⟩
/-! TMP_DEV_STAT (R402, 11_thatch_map.md). -/
abbrev TMP_DEV_STAT.STATE : Fld := ⟨.TMP_DEV_STAT, 0, 3⟩
abbrev TMP_DEV_STAT.WALK : Fld := ⟨.TMP_DEV_STAT, 3, 1⟩
abbrev TMP_DEV_STAT.NOSPACE : Fld := ⟨.TMP_DEV_STAT, 4, 1⟩
abbrev TMP_DEV_STAT.PLACED_SWARDS : Fld := ⟨.TMP_DEV_STAT, 8, 19⟩
abbrev TMP_DEV_STAT.ORPHAN_GIB : Fld := ⟨.TMP_DEV_STAT, 32, 24⟩
/-! TMP_QUOTA (R403, 11_thatch_map.md). -/
abbrev TMP_QUOTA.QUOTA_GIB : Fld := ⟨.TMP_QUOTA, 0, 17⟩
abbrev TMP_QUOTA.HELD_GIB : Fld := ⟨.TMP_QUOTA, 32, 17⟩
/-! TMP_MIGR_SLOT (R404, 11_thatch_map.md). -/
abbrev TMP_MIGR_SLOT.STATE : Fld := ⟨.TMP_MIGR_SLOT, 0, 2⟩
abbrev TMP_MIGR_SLOT.FIELD : Fld := ⟨.TMP_MIGR_SLOT, 2, 17⟩
abbrev TMP_MIGR_SLOT.SWARD : Fld := ⟨.TMP_MIGR_SLOT, 19, 9⟩
abbrev TMP_MIGR_SLOT.PASS : Fld := ⟨.TMP_MIGR_SLOT, 28, 4⟩
abbrev TMP_MIGR_SLOT.DIRTY : Fld := ⟨.TMP_MIGR_SLOT, 32, 16⟩
abbrev TMP_MIGR_SLOT.TARGET_DEV : Fld := ⟨.TMP_MIGR_SLOT, 48, 8⟩
/-! DIR_STAT (R434, 12_fabric_directory.md). -/
abbrev DIR_STAT.VALID_ENTRIES : Fld := ⟨.DIR_STAT, 0, 24⟩
abbrev DIR_STAT.ENTRIES_IN_SERVICE : Fld := ⟨.DIR_STAT, 24, 24⟩
abbrev DIR_STAT.WALK : Fld := ⟨.DIR_STAT, 48, 1⟩
abbrev DIR_STAT.SWEEP : Fld := ⟨.DIR_STAT, 49, 1⟩
abbrev DIR_STAT.WAITING : Fld := ⟨.DIR_STAT, 50, 14⟩
/-! DIR_CNT0 (R435, 12_fabric_directory.md). -/
abbrev DIR_CNT0.SNOOPS_SENT : Fld := ⟨.DIR_CNT0, 0, 32⟩
abbrev DIR_CNT0.EVICTIONS : Fld := ⟨.DIR_CNT0, 32, 32⟩
/-! DIR_CNT1 (R435, 12_fabric_directory.md). -/
abbrev DIR_CNT1.SET_WAITS : Fld := ⟨.DIR_CNT1, 0, 32⟩
abbrev DIR_CNT1.POISON_WB : Fld := ⟨.DIR_CNT1, 32, 16⟩
abbrev DIR_CNT1.SWEEPS : Fld := ⟨.DIR_CNT1, 48, 16⟩
/-! DIR_CNT2 (R435, 12_fabric_directory.md). -/
abbrev DIR_CNT2.LIMIT_COMPLETIONS : Fld := ⟨.DIR_CNT2, 0, 32⟩
abbrev DIR_CNT2.LOST_INVALS : Fld := ⟨.DIR_CNT2, 32, 32⟩
/-! DIR_HOST_CFG (R436, 12_fabric_directory.md). -/
abbrev DIR_HOST_CFG.SNOOP_TIMEOUT : Fld := ⟨.DIR_HOST_CFG, 0, 5⟩
/-! DIR_HOST_STAT (R436, 12_fabric_directory.md). -/
abbrev DIR_HOST_STAT.DEAD : Fld := ⟨.DIR_HOST_STAT, 0, 1⟩
abbrev DIR_HOST_STAT.CAUSE : Fld := ⟨.DIR_HOST_STAT, 1, 2⟩
abbrev DIR_HOST_STAT.WALK : Fld := ⟨.DIR_HOST_STAT, 3, 1⟩
abbrev DIR_HOST_STAT.BI_EN : Fld := ⟨.DIR_HOST_STAT, 4, 1⟩
abbrev DIR_HOST_STAT.HELD : Fld := ⟨.DIR_HOST_STAT, 8, 24⟩
abbrev DIR_HOST_STAT.OWNED : Fld := ⟨.DIR_HOST_STAT, 32, 24⟩
/-! DIR_ENTRY0 (R437, 12_fabric_directory.md). -/
abbrev DIR_ENTRY0.STATE : Fld := ⟨.DIR_ENTRY0, 0, 2⟩
abbrev DIR_ENTRY0.BUSY : Fld := ⟨.DIR_ENTRY0, 2, 1⟩
abbrev DIR_ENTRY0.RECENT : Fld := ⟨.DIR_ENTRY0, 3, 1⟩
abbrev DIR_ENTRY0.TAG : Fld := ⟨.DIR_ENTRY0, 4, 22⟩
abbrev DIR_ENTRY0.OWNER : Fld := ⟨.DIR_ENTRY0, 26, 6⟩
abbrev DIR_ENTRY0.SHARERS_LO : Fld := ⟨.DIR_ENTRY0, 32, 32⟩
/-! DIR_ENTRY1 (R437, 12_fabric_directory.md). -/
abbrev DIR_ENTRY1.SHARERS_HI : Fld := ⟨.DIR_ENTRY1, 0, 32⟩
abbrev DIR_ENTRY1.SNOOPS : Fld := ⟨.DIR_ENTRY1, 32, 7⟩
/-! FLD_CFG (R467, 13_folds_and_data_movers.md). -/
abbrev FLD_CFG.VSW : Fld := ⟨.FLD_CFG, 0, 6⟩
abbrev FLD_CFG.ASSIGNED : Fld := ⟨.FLD_CFG, 6, 1⟩
abbrev FLD_CFG.PROG_ALLOW : Fld := ⟨.FLD_CFG, 8, 1⟩
abbrev FLD_CFG.UNSIGNED_OK : Fld := ⟨.FLD_CFG, 9, 1⟩
/-! FLD_STAT (R467, 13_folds_and_data_movers.md). -/
abbrev FLD_STAT.STATE : Fld := ⟨.FLD_STAT, 0, 3⟩
abbrev FLD_STAT.GEN : Fld := ⟨.FLD_STAT, 8, 8⟩
abbrev FLD_STAT.HALT_CAUSE : Fld := ⟨.FLD_STAT, 16, 4⟩
abbrev FLD_STAT.HALT_SQ : Fld := ⟨.FLD_STAT, 20, 3⟩
abbrev FLD_STAT.HALT_INDEX : Fld := ⟨.FLD_STAT, 32, 16⟩
abbrev FLD_STAT.IN_FLIGHT : Fld := ⟨.FLD_STAT, 48, 12⟩
/-! FLD_CNT (R468, 13_folds_and_data_movers.md). -/
abbrev FLD_CNT.CQ_FULL : Fld := ⟨.FLD_CNT, 0, 32⟩
abbrev FLD_CNT.STALLS : Fld := ⟨.FLD_CNT, 32, 16⟩
abbrev FLD_CNT.HOLD_USED : Fld := ⟨.FLD_CNT, 48, 5⟩
/-! FLD_SQ_BASE (R469, 13_folds_and_data_movers.md). -/
abbrev FLD_SQ_BASE.BASE : Fld := ⟨.FLD_SQ_BASE, 6, 58⟩
/-! FLD_SQ_CFG (R469, 13_folds_and_data_movers.md). -/
abbrev FLD_SQ_CFG.EN : Fld := ⟨.FLD_SQ_CFG, 0, 1⟩
abbrev FLD_SQ_CFG.SIZE_LOG2 : Fld := ⟨.FLD_SQ_CFG, 1, 5⟩
abbrev FLD_SQ_CFG.CQ : Fld := ⟨.FLD_SQ_CFG, 8, 3⟩
/-! FLD_SQ_STAT (R469, 13_folds_and_data_movers.md). -/
abbrev FLD_SQ_STAT.STATE : Fld := ⟨.FLD_SQ_STAT, 0, 2⟩
abbrev FLD_SQ_STAT.CFG_ERR : Fld := ⟨.FLD_SQ_STAT, 2, 1⟩
abbrev FLD_SQ_STAT.HEAD : Fld := ⟨.FLD_SQ_STAT, 16, 16⟩
abbrev FLD_SQ_STAT.TAIL : Fld := ⟨.FLD_SQ_STAT, 32, 16⟩
/-! FLD_CQ_BASE (R470, 13_folds_and_data_movers.md). -/
abbrev FLD_CQ_BASE.BASE : Fld := ⟨.FLD_CQ_BASE, 4, 60⟩
/-! FLD_CQ_CFG (R470, 13_folds_and_data_movers.md). -/
abbrev FLD_CQ_CFG.EN : Fld := ⟨.FLD_CQ_CFG, 0, 1⟩
abbrev FLD_CQ_CFG.SIZE_LOG2 : Fld := ⟨.FLD_CQ_CFG, 1, 5⟩
abbrev FLD_CQ_CFG.IEN : Fld := ⟨.FLD_CQ_CFG, 6, 1⟩
abbrev FLD_CQ_CFG.VEC : Fld := ⟨.FLD_CQ_CFG, 8, 3⟩
abbrev FLD_CQ_CFG.COUNT : Fld := ⟨.FLD_CQ_CFG, 16, 8⟩
abbrev FLD_CQ_CFG.TIMER : Fld := ⟨.FLD_CQ_CFG, 32, 10⟩
/-! FLD_CQ_STAT (R470, 13_folds_and_data_movers.md). -/
abbrev FLD_CQ_STAT.TAIL : Fld := ⟨.FLD_CQ_STAT, 0, 16⟩
abbrev FLD_CQ_STAT.HEAD : Fld := ⟨.FLD_CQ_STAT, 16, 16⟩
abbrev FLD_CQ_STAT.PHASE : Fld := ⟨.FLD_CQ_STAT, 32, 1⟩
abbrev FLD_CQ_STAT.PENDING : Fld := ⟨.FLD_CQ_STAT, 33, 9⟩
/-! FLD_SQ_DB (R471, 13_folds_and_data_movers.md). -/
abbrev FLD_SQ_DB.TAIL : Fld := ⟨.FLD_SQ_DB, 0, 16⟩
/-! FLD_CQ_DB (R471, 13_folds_and_data_movers.md). -/
abbrev FLD_CQ_DB.HEAD : Fld := ⟨.FLD_CQ_DB, 0, 16⟩
/-! FLD_PUSH (R471, 13_folds_and_data_movers.md). -/
abbrev FLD_PUSH.SLOT : Fld := ⟨.FLD_PUSH, 0, 64⟩
/-! FLD_PROG_ADDR (R472, 13_folds_and_data_movers.md). -/
abbrev FLD_PROG_ADDR.ADDR : Fld := ⟨.FLD_PROG_ADDR, 0, 64⟩
/-! FLD_PROG_CTRL (R472, 13_folds_and_data_movers.md). -/
abbrev FLD_PROG_CTRL.LEN : Fld := ⟨.FLD_PROG_CTRL, 0, 17⟩
abbrev FLD_PROG_CTRL.START : Fld := ⟨.FLD_PROG_CTRL, 63, 1⟩
/-! FLD_PROG_STAT (R472, 13_folds_and_data_movers.md). -/
abbrev FLD_PROG_STAT.STATE : Fld := ⟨.FLD_PROG_STAT, 0, 2⟩
abbrev FLD_PROG_STAT.LOAD_STATUS : Fld := ⟨.FLD_PROG_STAT, 4, 4⟩
abbrev FLD_PROG_STAT.THREAD : Fld := ⟨.FLD_PROG_STAT, 8, 6⟩
/-! FLD_KEY (R472, 13_folds_and_data_movers.md). -/
abbrev FLD_KEY.KEY : Fld := ⟨.FLD_KEY, 0, 64⟩
/-! FLD_KEY_CFG (R472, 13_folds_and_data_movers.md). -/
abbrev FLD_KEY_CFG.KEY_VALID : Fld := ⟨.FLD_KEY_CFG, 0, 1⟩
/-! FLD_MSIX0 (R473, 13_folds_and_data_movers.md). -/
abbrev FLD_MSIX0.ADDR : Fld := ⟨.FLD_MSIX0, 0, 64⟩
/-! FLD_MSIX1 (R473, 13_folds_and_data_movers.md). -/
abbrev FLD_MSIX1.DATA : Fld := ⟨.FLD_MSIX1, 0, 32⟩
abbrev FLD_MSIX1.MASK : Fld := ⟨.FLD_MSIX1, 32, 1⟩
/-! FLD_PBA (R473, 13_folds_and_data_movers.md). -/
abbrev FLD_PBA.PENDING : Fld := ⟨.FLD_PBA, 0, 8⟩
/-! DMV_CTRL (R474, 13_folds_and_data_movers.md). -/
abbrev DMV_CTRL.EN : Fld := ⟨.DMV_CTRL, 0, 1⟩
/-! DMV_STAT (R474, 13_folds_and_data_movers.md). -/
abbrev DMV_STAT.ACTIVE : Fld := ⟨.DMV_STAT, 0, 4⟩
abbrev DMV_STAT.STATE : Fld := ⟨.DMV_STAT, 4, 2⟩
abbrev DMV_STAT.MAINT : Fld := ⟨.DMV_STAT, 6, 1⟩
/-! DMV_BYTES (R474, 13_folds_and_data_movers.md). -/
abbrev DMV_BYTES.BYTES : Fld := ⟨.DMV_BYTES, 0, 64⟩
/-! DMV_CHUNKS (R474, 13_folds_and_data_movers.md). -/
abbrev DMV_CHUNKS.CHUNKS : Fld := ⟨.DMV_CHUNKS, 0, 64⟩
/-! DMV_ERR (R474, 13_folds_and_data_movers.md). -/
abbrev DMV_ERR.DENIED : Fld := ⟨.DMV_ERR, 0, 16⟩
abbrev DMV_ERR.POISONED : Fld := ⟨.DMV_ERR, 16, 16⟩
abbrev DMV_ERR.TIMEOUTS : Fld := ⟨.DMV_ERR, 32, 16⟩
/-! FLD_SHARE (R497, 14_fold_isolation_and_migration.md). -/
abbrev FLD_SHARE.CAP : Fld := ⟨.FLD_SHARE, 0, 12⟩
abbrev FLD_SHARE.N : Fld := ⟨.FLD_SHARE, 16, 9⟩
abbrev FLD_SHARE.COUNTED : Fld := ⟨.FLD_SHARE, 25, 1⟩
/-! FLD_RESET (R497, 14_fold_isolation_and_migration.md). -/
abbrev FLD_RESET.RESET : Fld := ⟨.FLD_RESET, 0, 1⟩
abbrev FLD_RESET.DONE : Fld := ⟨.FLD_RESET, 1, 1⟩
abbrev FLD_RESET.RESETS : Fld := ⟨.FLD_RESET, 32, 16⟩
/-! FLD_MIG_CTRL (R498, 14_fold_isolation_and_migration.md). -/
abbrev FLD_MIG_CTRL.OP : Fld := ⟨.FLD_MIG_CTRL, 0, 3⟩
abbrev FLD_MIG_CTRL.DEST : Fld := ⟨.FLD_MIG_CTRL, 3, 1⟩
abbrev FLD_MIG_CTRL.PEER : Fld := ⟨.FLD_MIG_CTRL, 4, 6⟩
abbrev FLD_MIG_CTRL.PEER_FOLD : Fld := ⟨.FLD_MIG_CTRL, 10, 8⟩
abbrev FLD_MIG_CTRL.GO : Fld := ⟨.FLD_MIG_CTRL, 63, 1⟩
/-! FLD_MIG_INSTANT (R498, 14_fold_isolation_and_migration.md). -/
abbrev FLD_MIG_INSTANT.INSTANT : Fld := ⟨.FLD_MIG_INSTANT, 0, 64⟩
/-! FLD_MIG_ADDR (R498, 14_fold_isolation_and_migration.md). -/
abbrev FLD_MIG_ADDR.ADDR : Fld := ⟨.FLD_MIG_ADDR, 6, 58⟩
/-! FLD_MIG_ID (R498, 14_fold_isolation_and_migration.md). -/
abbrev FLD_MIG_ID.BALE_ID : Fld := ⟨.FLD_MIG_ID, 0, 64⟩
/-! FLD_MIG_STAT (R499, 14_fold_isolation_and_migration.md). -/
abbrev FLD_MIG_STAT.STATE : Fld := ⟨.FLD_MIG_STAT, 0, 3⟩
abbrev FLD_MIG_STAT.RESULT : Fld := ⟨.FLD_MIG_STAT, 8, 4⟩
abbrev FLD_MIG_STAT.LEN : Fld := ⟨.FLD_MIG_STAT, 16, 16⟩
abbrev FLD_MIG_STAT.RECORDS : Fld := ⟨.FLD_MIG_STAT, 32, 12⟩
/-! FLD_MIG_KEY (R499, 14_fold_isolation_and_migration.md). -/
abbrev FLD_MIG_KEY.KEY : Fld := ⟨.FLD_MIG_KEY, 0, 64⟩
/-! HRW_PORT_RULE0 (R518, 15_hedgerow.md). -/
abbrev HRW_PORT_RULE0.VALID : Fld := ⟨.HRW_PORT_RULE0, 0, 1⟩
abbrev HRW_PORT_RULE0.READ : Fld := ⟨.HRW_PORT_RULE0, 1, 1⟩
abbrev HRW_PORT_RULE0.WRITE : Fld := ⟨.HRW_PORT_RULE0, 2, 1⟩
abbrev HRW_PORT_RULE0.CACHE : Fld := ⟨.HRW_PORT_RULE0, 3, 1⟩
abbrev HRW_PORT_RULE0.ATOMIC : Fld := ⟨.HRW_PORT_RULE0, 4, 1⟩
abbrev HRW_PORT_RULE0.LOCK : Fld := ⟨.HRW_PORT_RULE0, 5, 1⟩
abbrev HRW_PORT_RULE0.PARITY_ERR : Fld := ⟨.HRW_PORT_RULE0, 6, 1⟩
abbrev HRW_PORT_RULE0.BASE : Fld := ⟨.HRW_PORT_RULE0, 12, 40⟩
/-! HRW_POOL_RULE0 (R518, 15_hedgerow.md). -/
abbrev HRW_POOL_RULE0.VALID : Fld := ⟨.HRW_POOL_RULE0, 0, 1⟩
abbrev HRW_POOL_RULE0.READ : Fld := ⟨.HRW_POOL_RULE0, 1, 1⟩
abbrev HRW_POOL_RULE0.WRITE : Fld := ⟨.HRW_POOL_RULE0, 2, 1⟩
abbrev HRW_POOL_RULE0.CACHE : Fld := ⟨.HRW_POOL_RULE0, 3, 1⟩
abbrev HRW_POOL_RULE0.ATOMIC : Fld := ⟨.HRW_POOL_RULE0, 4, 1⟩
abbrev HRW_POOL_RULE0.LOCK : Fld := ⟨.HRW_POOL_RULE0, 5, 1⟩
abbrev HRW_POOL_RULE0.PARITY_ERR : Fld := ⟨.HRW_POOL_RULE0, 6, 1⟩
abbrev HRW_POOL_RULE0.BASE : Fld := ⟨.HRW_POOL_RULE0, 12, 40⟩
/-! HRW_ENG_RULE0 (R518, 15_hedgerow.md). -/
abbrev HRW_ENG_RULE0.VALID : Fld := ⟨.HRW_ENG_RULE0, 0, 1⟩
abbrev HRW_ENG_RULE0.READ : Fld := ⟨.HRW_ENG_RULE0, 1, 1⟩
abbrev HRW_ENG_RULE0.WRITE : Fld := ⟨.HRW_ENG_RULE0, 2, 1⟩
abbrev HRW_ENG_RULE0.CACHE : Fld := ⟨.HRW_ENG_RULE0, 3, 1⟩
abbrev HRW_ENG_RULE0.ATOMIC : Fld := ⟨.HRW_ENG_RULE0, 4, 1⟩
abbrev HRW_ENG_RULE0.LOCK : Fld := ⟨.HRW_ENG_RULE0, 5, 1⟩
abbrev HRW_ENG_RULE0.PARITY_ERR : Fld := ⟨.HRW_ENG_RULE0, 6, 1⟩
abbrev HRW_ENG_RULE0.BASE : Fld := ⟨.HRW_ENG_RULE0, 12, 40⟩
/-! HRW_DEFMAP0 (R518, 15_hedgerow.md). -/
abbrev HRW_DEFMAP0.VALID : Fld := ⟨.HRW_DEFMAP0, 0, 1⟩
abbrev HRW_DEFMAP0.READ : Fld := ⟨.HRW_DEFMAP0, 1, 1⟩
abbrev HRW_DEFMAP0.WRITE : Fld := ⟨.HRW_DEFMAP0, 2, 1⟩
abbrev HRW_DEFMAP0.CACHE : Fld := ⟨.HRW_DEFMAP0, 3, 1⟩
abbrev HRW_DEFMAP0.ATOMIC : Fld := ⟨.HRW_DEFMAP0, 4, 1⟩
abbrev HRW_DEFMAP0.LOCK : Fld := ⟨.HRW_DEFMAP0, 5, 1⟩
abbrev HRW_DEFMAP0.PARITY_ERR : Fld := ⟨.HRW_DEFMAP0, 6, 1⟩
abbrev HRW_DEFMAP0.BASE : Fld := ⟨.HRW_DEFMAP0, 12, 40⟩
/-! HRW_PORT_RULE1 (R518, 15_hedgerow.md). -/
abbrev HRW_PORT_RULE1.LIMIT : Fld := ⟨.HRW_PORT_RULE1, 12, 40⟩
/-! HRW_POOL_RULE1 (R518, 15_hedgerow.md). -/
abbrev HRW_POOL_RULE1.LIMIT : Fld := ⟨.HRW_POOL_RULE1, 12, 40⟩
/-! HRW_ENG_RULE1 (R518, 15_hedgerow.md). -/
abbrev HRW_ENG_RULE1.LIMIT : Fld := ⟨.HRW_ENG_RULE1, 12, 40⟩
/-! HRW_DEFMAP1 (R518, 15_hedgerow.md). -/
abbrev HRW_DEFMAP1.LIMIT : Fld := ⟨.HRW_DEFMAP1, 12, 40⟩
/-! HRW_POOL_RULE2 (R519, 15_hedgerow.md). -/
abbrev HRW_POOL_RULE2.HOSTS : Fld := ⟨.HRW_POOL_RULE2, 0, 64⟩
/-! HRW_ENG_RULE2 (R519, 15_hedgerow.md). -/
abbrev HRW_ENG_RULE2.REQ_VALUE : Fld := ⟨.HRW_ENG_RULE2, 0, 10⟩
abbrev HRW_ENG_RULE2.REQ_MASK : Fld := ⟨.HRW_ENG_RULE2, 16, 10⟩
/-! HRW_PORT_DENY_STAT (R520, 15_hedgerow.md). -/
abbrev HRW_PORT_DENY_STAT.DENIES : Fld := ⟨.HRW_PORT_DENY_STAT, 0, 32⟩
abbrev HRW_PORT_DENY_STAT.NOCACHE : Fld := ⟨.HRW_PORT_DENY_STAT, 32, 32⟩
/-! HRW_POOL_DENY_STAT (R520, 15_hedgerow.md). -/
abbrev HRW_POOL_DENY_STAT.DENIES : Fld := ⟨.HRW_POOL_DENY_STAT, 0, 32⟩
abbrev HRW_POOL_DENY_STAT.NOCACHE : Fld := ⟨.HRW_POOL_DENY_STAT, 32, 32⟩
/-! HRW_ENG_DENY_STAT (R520, 15_hedgerow.md). -/
abbrev HRW_ENG_DENY_STAT.DENIES : Fld := ⟨.HRW_ENG_DENY_STAT, 0, 32⟩
abbrev HRW_ENG_DENY_STAT.NOCACHE : Fld := ⟨.HRW_ENG_DENY_STAT, 32, 32⟩
/-! HRW_PORT_DENY_ADDR (R520, 15_hedgerow.md). -/
abbrev HRW_PORT_DENY_ADDR.ADDR : Fld := ⟨.HRW_PORT_DENY_ADDR, 0, 52⟩
/-! HRW_POOL_DENY_ADDR (R520, 15_hedgerow.md). -/
abbrev HRW_POOL_DENY_ADDR.ADDR : Fld := ⟨.HRW_POOL_DENY_ADDR, 0, 52⟩
/-! HRW_ENG_DENY_ADDR (R520, 15_hedgerow.md). -/
abbrev HRW_ENG_DENY_ADDR.ADDR : Fld := ⟨.HRW_ENG_DENY_ADDR, 0, 52⟩
/-! HRW_PORT_DENY_INFO (R520, 15_hedgerow.md). -/
abbrev HRW_PORT_DENY_INFO.REQ : Fld := ⟨.HRW_PORT_DENY_INFO, 0, 10⟩
abbrev HRW_PORT_DENY_INFO.ACCESS : Fld := ⟨.HRW_PORT_DENY_INFO, 10, 2⟩
abbrev HRW_PORT_DENY_INFO.NOMATCH : Fld := ⟨.HRW_PORT_DENY_INFO, 12, 1⟩
abbrev HRW_PORT_DENY_INFO.LOCKED_RULE : Fld := ⟨.HRW_PORT_DENY_INFO, 13, 1⟩
abbrev HRW_PORT_DENY_INFO.RULE : Fld := ⟨.HRW_PORT_DENY_INFO, 14, 10⟩
abbrev HRW_PORT_DENY_INFO.VALID : Fld := ⟨.HRW_PORT_DENY_INFO, 63, 1⟩
/-! HRW_POOL_DENY_INFO (R520, 15_hedgerow.md). -/
abbrev HRW_POOL_DENY_INFO.REQ : Fld := ⟨.HRW_POOL_DENY_INFO, 0, 10⟩
abbrev HRW_POOL_DENY_INFO.ACCESS : Fld := ⟨.HRW_POOL_DENY_INFO, 10, 2⟩
abbrev HRW_POOL_DENY_INFO.NOMATCH : Fld := ⟨.HRW_POOL_DENY_INFO, 12, 1⟩
abbrev HRW_POOL_DENY_INFO.LOCKED_RULE : Fld := ⟨.HRW_POOL_DENY_INFO, 13, 1⟩
abbrev HRW_POOL_DENY_INFO.RULE : Fld := ⟨.HRW_POOL_DENY_INFO, 14, 10⟩
abbrev HRW_POOL_DENY_INFO.VALID : Fld := ⟨.HRW_POOL_DENY_INFO, 63, 1⟩
/-! HRW_ENG_DENY_INFO (R520, 15_hedgerow.md). -/
abbrev HRW_ENG_DENY_INFO.REQ : Fld := ⟨.HRW_ENG_DENY_INFO, 0, 10⟩
abbrev HRW_ENG_DENY_INFO.ACCESS : Fld := ⟨.HRW_ENG_DENY_INFO, 10, 2⟩
abbrev HRW_ENG_DENY_INFO.NOMATCH : Fld := ⟨.HRW_ENG_DENY_INFO, 12, 1⟩
abbrev HRW_ENG_DENY_INFO.LOCKED_RULE : Fld := ⟨.HRW_ENG_DENY_INFO, 13, 1⟩
abbrev HRW_ENG_DENY_INFO.RULE : Fld := ⟨.HRW_ENG_DENY_INFO, 14, 10⟩
abbrev HRW_ENG_DENY_INFO.VALID : Fld := ⟨.HRW_ENG_DENY_INFO, 63, 1⟩
/-! MEM_REGION_CTRL (R540, 16_stored_data_integrity.md). -/
abbrev MEM_REGION_CTRL.LOCK : Fld := ⟨.MEM_REGION_CTRL, 0, 1⟩
abbrev MEM_REGION_CTRL.BUSY : Fld := ⟨.MEM_REGION_CTRL, 1, 1⟩
abbrev MEM_REGION_CTRL.LOCK_ERR : Fld := ⟨.MEM_REGION_CTRL, 4, 4⟩
/-! MEM_SCRUB_CFG (R540, 16_stored_data_integrity.md). -/
abbrev MEM_SCRUB_CFG.SCRUB_INTERVAL : Fld := ⟨.MEM_SCRUB_CFG, 0, 16⟩
abbrev MEM_SCRUB_CFG.SCRUB_EN : Fld := ⟨.MEM_SCRUB_CFG, 16, 1⟩
/-! MEM_REGION (R541, 16_stored_data_integrity.md). -/
abbrev MEM_REGION.CODE : Fld := ⟨.MEM_REGION, 0, 1⟩
abbrev MEM_REGION.BANKS : Fld := ⟨.MEM_REGION, 8, 8⟩
abbrev MEM_REGION.LAP_ALARM : Fld := ⟨.MEM_REGION, 16, 1⟩
/-! MEM_REGION_LAP (R541, 16_stored_data_integrity.md). -/
abbrev MEM_REGION_LAP.LAP : Fld := ⟨.MEM_REGION_LAP, 0, 32⟩
abbrev MEM_REGION_LAP.LAP_LIMIT : Fld := ⟨.MEM_REGION_LAP, 32, 32⟩
/-! MEM_SUBST (R542, 16_stored_data_integrity.md). -/
abbrev MEM_SUBST.BANK : Fld := ⟨.MEM_SUBST, 0, 8⟩
abbrev MEM_SUBST.EN : Fld := ⟨.MEM_SUBST, 8, 1⟩
/-! MEM_SCRUB_STAT (R542, 16_stored_data_integrity.md). -/
abbrev MEM_SCRUB_STAT.BANK : Fld := ⟨.MEM_SCRUB_STAT, 0, 8⟩
abbrev MEM_SCRUB_STAT.WORD : Fld := ⟨.MEM_SCRUB_STAT, 8, 16⟩
abbrev MEM_SCRUB_STAT.LAPS : Fld := ⟨.MEM_SCRUB_STAT, 32, 32⟩
/-! MEM_CELOG_STAT (R543, 16_stored_data_integrity.md). -/
abbrev MEM_CELOG_STAT.USED : Fld := ⟨.MEM_CELOG_STAT, 0, 9⟩
abbrev MEM_CELOG_STAT.OVERFLOW : Fld := ⟨.MEM_CELOG_STAT, 16, 16⟩
/-! MEM_CELOG0 (R543, 16_stored_data_integrity.md). -/
abbrev MEM_CELOG0.BANK : Fld := ⟨.MEM_CELOG0, 0, 8⟩
abbrev MEM_CELOG0.MACRO : Fld := ⟨.MEM_CELOG0, 8, 5⟩
abbrev MEM_CELOG0.ROW : Fld := ⟨.MEM_CELOG0, 13, 12⟩
abbrev MEM_CELOG0.BIT : Fld := ⟨.MEM_CELOG0, 25, 8⟩
abbrev MEM_CELOG0.KIND : Fld := ⟨.MEM_CELOG0, 33, 1⟩
abbrev MEM_CELOG0.SCRUB : Fld := ⟨.MEM_CELOG0, 34, 1⟩
abbrev MEM_CELOG0.COUNT : Fld := ⟨.MEM_CELOG0, 40, 8⟩
abbrev MEM_CELOG0.VALID : Fld := ⟨.MEM_CELOG0, 63, 1⟩
/-! MEM_CELOG1 (R543, 16_stored_data_integrity.md). -/
abbrev MEM_CELOG1.FIRST_NOW : Fld := ⟨.MEM_CELOG1, 0, 64⟩
/-! MEM_CELOG2 (R543, 16_stored_data_integrity.md). -/
abbrev MEM_CELOG2.LAST_NOW : Fld := ⟨.MEM_CELOG2, 0, 64⟩
/-! MEM_BANK_CFG (R544, 16_stored_data_integrity.md). -/
abbrev MEM_BANK_CFG.REGION : Fld := ⟨.MEM_BANK_CFG, 0, 4⟩
abbrev MEM_BANK_CFG.POSITION : Fld := ⟨.MEM_BANK_CFG, 4, 8⟩
/-! MEM_BANK_STAT (R544, 16_stored_data_integrity.md). -/
abbrev MEM_BANK_STAT.STATE : Fld := ⟨.MEM_BANK_STAT, 0, 2⟩
abbrev MEM_BANK_STAT.SPARE0 : Fld := ⟨.MEM_BANK_STAT, 4, 5⟩
abbrev MEM_BANK_STAT.SPARE1 : Fld := ⟨.MEM_BANK_STAT, 9, 5⟩
abbrev MEM_BANK_STAT.MACRO_OUT : Fld := ⟨.MEM_BANK_STAT, 18, 18⟩
abbrev MEM_BANK_STAT.RESULT : Fld := ⟨.MEM_BANK_STAT, 40, 4⟩
/-! MEM_BANK_CTRL (R544, 16_stored_data_integrity.md). -/
abbrev MEM_BANK_CTRL.OP : Fld := ⟨.MEM_BANK_CTRL, 0, 2⟩
abbrev MEM_BANK_CTRL.MACRO : Fld := ⟨.MEM_BANK_CTRL, 4, 5⟩
abbrev MEM_BANK_CTRL.GO : Fld := ⟨.MEM_BANK_CTRL, 63, 1⟩
/-! MEM_BANK_CNT (R544, 16_stored_data_integrity.md). -/
abbrev MEM_BANK_CNT.CE : Fld := ⟨.MEM_BANK_CNT, 0, 32⟩
abbrev MEM_BANK_CNT.UE : Fld := ⟨.MEM_BANK_CNT, 32, 16⟩
/-! FLT_CTRL (R562, 17_fault_collection.md). -/
abbrev FLT_CTRL.ENTER : Fld := ⟨.FLT_CTRL, 0, 1⟩
abbrev FLT_CTRL.EXIT : Fld := ⟨.FLT_CTRL, 1, 1⟩
abbrev FLT_CTRL.QUIET : Fld := ⟨.FLT_CTRL, 16, 14⟩
/-! FLT_STATUS (R562, 17_fault_collection.md). -/
abbrev FLT_STATUS.FAULT_STATE : Fld := ⟨.FLT_STATUS, 0, 1⟩
abbrev FLT_STATUS.HOLD : Fld := ⟨.FLT_STATUS, 1, 1⟩
abbrev FLT_STATUS.RECOVERIES : Fld := ⟨.FLT_STATUS, 16, 16⟩
/-! FLT_LAST_UCF (R563, 17_fault_collection.md). -/
abbrev FLT_LAST_UCF.NOW : Fld := ⟨.FLT_LAST_UCF, 0, 64⟩
/-! FLT_HIST_STAT (R563, 17_fault_collection.md). -/
abbrev FLT_HIST_STAT.NEXT : Fld := ⟨.FLT_HIST_STAT, 0, 6⟩
abbrev FLT_HIST_STAT.NOTIFY_DROPPED : Fld := ⟨.FLT_HIST_STAT, 16, 16⟩
abbrev FLT_HIST_STAT.SEQ : Fld := ⟨.FLT_HIST_STAT, 32, 32⟩
/-! FLT_THREAD_REACT (R564, 17_fault_collection.md). -/
abbrev FLT_THREAD_REACT.CE : Fld := ⟨.FLT_THREAD_REACT, 0, 4⟩
abbrev FLT_THREAD_REACT.DE : Fld := ⟨.FLT_THREAD_REACT, 4, 4⟩
abbrev FLT_THREAD_REACT.UCC : Fld := ⟨.FLT_THREAD_REACT, 8, 4⟩
abbrev FLT_THREAD_REACT.UCF : Fld := ⟨.FLT_THREAD_REACT, 12, 4⟩
/-! FLT_UNIT_REACT (R564, 17_fault_collection.md). -/
abbrev FLT_UNIT_REACT.CE : Fld := ⟨.FLT_UNIT_REACT, 0, 4⟩
abbrev FLT_UNIT_REACT.DE : Fld := ⟨.FLT_UNIT_REACT, 4, 4⟩
abbrev FLT_UNIT_REACT.UCC : Fld := ⟨.FLT_UNIT_REACT, 8, 4⟩
abbrev FLT_UNIT_REACT.UCF : Fld := ⟨.FLT_UNIT_REACT, 12, 4⟩
/-! FLT_UNIT_STAT (R565, 17_fault_collection.md). -/
abbrev FLT_UNIT_STAT.WIRE_FAULT : Fld := ⟨.FLT_UNIT_STAT, 0, 1⟩
abbrev FLT_UNIT_STAT.CONDITION : Fld := ⟨.FLT_UNIT_STAT, 1, 1⟩
abbrev FLT_UNIT_STAT.PENDING : Fld := ⟨.FLT_UNIT_STAT, 2, 3⟩
abbrev FLT_UNIT_STAT.DROPPED : Fld := ⟨.FLT_UNIT_STAT, 16, 16⟩
/-! FLT_UNIT_CNT (R565, 17_fault_collection.md). -/
abbrev FLT_UNIT_CNT.CE : Fld := ⟨.FLT_UNIT_CNT, 0, 32⟩
abbrev FLT_UNIT_CNT.DE : Fld := ⟨.FLT_UNIT_CNT, 32, 16⟩
abbrev FLT_UNIT_CNT.UC : Fld := ⟨.FLT_UNIT_CNT, 48, 16⟩
/-! FLT_UNIT_LAST (R565, 17_fault_collection.md). -/
abbrev FLT_UNIT_LAST.CODE : Fld := ⟨.FLT_UNIT_LAST, 0, 14⟩
abbrev FLT_UNIT_LAST.SEV : Fld := ⟨.FLT_UNIT_LAST, 14, 2⟩
/-! SLT_CFG (R598, 18_slot_power.md). -/
abbrev SLT_CFG.FORCE_EN : Fld := ⟨.SLT_CFG, 0, 1⟩
abbrev SLT_CFG.FORCE_PROFILE : Fld := ⟨.SLT_CFG, 1, 4⟩
abbrev SLT_CFG.GPF_ON_WARN : Fld := ⟨.SLT_CFG, 5, 1⟩
abbrev SLT_CFG.RETRY_MAX : Fld := ⟨.SLT_CFG, 6, 4⟩
abbrev SLT_CFG.RETRY_TIME : Fld := ⟨.SLT_CFG, 10, 10⟩
abbrev SLT_CFG.DEBOUNCE : Fld := ⟨.SLT_CFG, 20, 8⟩
abbrev SLT_CFG.GPF_TIMEOUT : Fld := ⟨.SLT_CFG, 32, 8⟩
abbrev SLT_CFG.WINDOW : Fld := ⟨.SLT_CFG, 40, 10⟩
/-! SLT_CMD (R599, 18_slot_power.md). -/
abbrev SLT_CMD.OP : Fld := ⟨.SLT_CMD, 0, 3⟩
/-! SLT_ON_INSTANT (R599, 18_slot_power.md). -/
abbrev SLT_ON_INSTANT.INSTANT : Fld := ⟨.SLT_ON_INSTANT, 0, 64⟩
/-! SLT_STAT (R600, 18_slot_power.md). -/
abbrev SLT_STAT.STATE : Fld := ⟨.SLT_STAT, 0, 4⟩
abbrev SLT_STAT.PRESENT : Fld := ⟨.SLT_STAT, 4, 1⟩
abbrev SLT_STAT.REQ : Fld := ⟨.SLT_STAT, 5, 1⟩
abbrev SLT_STAT.PG : Fld := ⟨.SLT_STAT, 6, 1⟩
abbrev SLT_STAT.EWARN : Fld := ⟨.SLT_STAT, 7, 1⟩
abbrev SLT_STAT.FEED_A : Fld := ⟨.SLT_STAT, 8, 1⟩
abbrev SLT_STAT.FEED_B : Fld := ⟨.SLT_STAT, 9, 1⟩
abbrev SLT_STAT.FORCED : Fld := ⟨.SLT_STAT, 10, 1⟩
abbrev SLT_STAT.ARMED : Fld := ⟨.SLT_STAT, 11, 1⟩
abbrev SLT_STAT.CAUSE : Fld := ⟨.SLT_STAT, 12, 4⟩
abbrev SLT_STAT.FAULTS : Fld := ⟨.SLT_STAT, 16, 4⟩
abbrev SLT_STAT.PROFILE : Fld := ⟨.SLT_STAT, 20, 4⟩
abbrev SLT_STAT.CMD_RESULT : Fld := ⟨.SLT_STAT, 24, 3⟩
abbrev SLT_STAT.RETRY_LEFT : Fld := ⟨.SLT_STAT, 32, 16⟩
abbrev SLT_STAT.IDENT_VALID : Fld := ⟨.SLT_STAT, 48, 1⟩
/-! SLT_VCFG (R601, 18_slot_power.md). -/
abbrev SLT_VCFG.WARN_MV : Fld := ⟨.SLT_VCFG, 0, 16⟩
abbrev SLT_VCFG.HYST_MV : Fld := ⟨.SLT_VCFG, 16, 16⟩
abbrev SLT_VCFG.RESET_MV : Fld := ⟨.SLT_VCFG, 32, 16⟩
/-! SLT_BOARD (R601, 18_slot_power.md). -/
abbrev SLT_BOARD.SENSE_UOHM : Fld := ⟨.SLT_BOARD, 0, 13⟩
abbrev SLT_BOARD.THETA : Fld := ⟨.SLT_BOARD, 16, 12⟩
abbrev SLT_BOARD.TAU_MS : Fld := ⟨.SLT_BOARD, 32, 12⟩
abbrev SLT_BOARD.T_AMB : Fld := ⟨.SLT_BOARD, 44, 8⟩
abbrev SLT_BOARD.T_MAX : Fld := ⟨.SLT_BOARD, 52, 8⟩
/-! SLT_MEAS (R602, 18_slot_power.md). -/
abbrev SLT_MEAS.CURRENT : Fld := ⟨.SLT_MEAS, 0, 16⟩
abbrev SLT_MEAS.V_OUT : Fld := ⟨.SLT_MEAS, 16, 16⟩
abbrev SLT_MEAS.V_A : Fld := ⟨.SLT_MEAS, 32, 16⟩
abbrev SLT_MEAS.V_B : Fld := ⟨.SLT_MEAS, 48, 16⟩
/-! SLT_MEAS2 (R602, 18_slot_power.md). -/
abbrev SLT_MEAS2.V_BUS : Fld := ⟨.SLT_MEAS2, 0, 16⟩
abbrev SLT_MEAS2.POWER_MW : Fld := ⟨.SLT_MEAS2, 16, 32⟩
abbrev SLT_MEAS2.PEAK_MA : Fld := ⟨.SLT_MEAS2, 48, 16⟩
/-! SLT_ENERGY (R602, 18_slot_power.md). -/
abbrev SLT_ENERGY.ENERGY : Fld := ⟨.SLT_ENERGY, 0, 64⟩
/-! SLT_ENERGY_WIN (R602, 18_slot_power.md). -/
abbrev SLT_ENERGY_WIN.ENERGY : Fld := ⟨.SLT_ENERGY_WIN, 0, 56⟩
abbrev SLT_ENERGY_WIN.UNSYNC : Fld := ⟨.SLT_ENERGY_WIN, 62, 1⟩
abbrev SLT_ENERGY_WIN.VALID : Fld := ⟨.SLT_ENERGY_WIN, 63, 1⟩
/-! SLT_ENERGY_END (R602, 18_slot_power.md). -/
abbrev SLT_ENERGY_END.COURSE : Fld := ⟨.SLT_ENERGY_END, 0, 64⟩
/-! SLT_FET_TEMP (R602, 18_slot_power.md). -/
abbrev SLT_FET_TEMP.T_A : Fld := ⟨.SLT_FET_TEMP, 0, 16⟩
abbrev SLT_FET_TEMP.T_B : Fld := ⟨.SLT_FET_TEMP, 16, 16⟩
/-! SLT_IDENT (R603, 18_slot_power.md). -/
abbrev SLT_IDENT.BYTES : Fld := ⟨.SLT_IDENT, 0, 64⟩
/-! SLT_PROFILE (R603, 18_slot_power.md). -/
abbrev SLT_PROFILE.ISET : Fld := ⟨.SLT_PROFILE, 0, 10⟩
abbrev SLT_PROFILE.SLOPE : Fld := ⟨.SLT_PROFILE, 10, 8⟩
abbrev SLT_PROFILE.TRIP : Fld := ⟨.SLT_PROFILE, 18, 2⟩
abbrev SLT_PROFILE.FAULT_TIME : Fld := ⟨.SLT_PROFILE, 20, 9⟩
abbrev SLT_PROFILE.VALID : Fld := ⟨.SLT_PROFILE, 31, 1⟩
/-! SB_CFG (R604, 18_slot_power.md). -/
abbrev SB_CFG.MODE : Fld := ⟨.SB_CFG, 0, 2⟩
abbrev SB_CFG.IDENT_ADDR : Fld := ⟨.SB_CFG, 8, 7⟩
/-! SB_XFER (R604, 18_slot_power.md). -/
abbrev SB_XFER.ADDR : Fld := ⟨.SB_XFER, 0, 7⟩
abbrev SB_XFER.WRITE : Fld := ⟨.SB_XFER, 7, 1⟩
abbrev SB_XFER.OFFSET : Fld := ⟨.SB_XFER, 8, 16⟩
abbrev SB_XFER.OFS2 : Fld := ⟨.SB_XFER, 24, 1⟩
abbrev SB_XFER.LEN : Fld := ⟨.SB_XFER, 25, 7⟩
abbrev SB_XFER.GO : Fld := ⟨.SB_XFER, 32, 1⟩
abbrev SB_XFER.STATUS : Fld := ⟨.SB_XFER, 33, 3⟩
/-! SB_DATA (R604, 18_slot_power.md). -/
abbrev SB_DATA.BYTES : Fld := ⟨.SB_DATA, 0, 64⟩
/-! ETH_CFG (R633, 19_ethernet_and_chain.md). -/
abbrev ETH_CFG.EN : Fld := ⟨.ETH_CFG, 0, 1⟩
abbrev ETH_CFG.SPEED : Fld := ⟨.ETH_CFG, 1, 2⟩
abbrev ETH_CFG.MTU : Fld := ⟨.ETH_CFG, 3, 14⟩
abbrev ETH_CFG.VLAN_EN : Fld := ⟨.ETH_CFG, 17, 1⟩
abbrev ETH_CFG.VLAN_ID : Fld := ⟨.ETH_CFG, 18, 12⟩
/-! ETH_STAT (R633, 19_ethernet_and_chain.md). -/
abbrev ETH_STAT.LINK : Fld := ⟨.ETH_STAT, 0, 1⟩
abbrev ETH_STAT.SECURED : Fld := ⟨.ETH_STAT, 1, 1⟩
abbrev ETH_STAT.FEC_UNCORR : Fld := ⟨.ETH_STAT, 16, 16⟩
/-! ETH_MACSEC (R633, 19_ethernet_and_chain.md). -/
abbrev ETH_MACSEC.CIPHER : Fld := ⟨.ETH_MACSEC, 0, 1⟩
abbrev ETH_MACSEC.REQUIRE : Fld := ⟨.ETH_MACSEC, 1, 1⟩
abbrev ETH_MACSEC.CAK_VALID : Fld := ⟨.ETH_MACSEC, 2, 1⟩
/-! ETH_CAK (R634, 19_ethernet_and_chain.md). -/
abbrev ETH_CAK.KEY : Fld := ⟨.ETH_CAK, 0, 64⟩
/-! ETH_CKN (R634, 19_ethernet_and_chain.md). -/
abbrev ETH_CKN.NAME : Fld := ⟨.ETH_CKN, 0, 64⟩
/-! ETH_ADDR (R634, 19_ethernet_and_chain.md). -/
abbrev ETH_ADDR.ADDRESS : Fld := ⟨.ETH_ADDR, 0, 64⟩
/-! ETH_MGR_ALLOW (R634, 19_ethernet_and_chain.md). -/
abbrev ETH_MGR_ALLOW.ADDRESS : Fld := ⟨.ETH_MGR_ALLOW, 0, 64⟩
/-! ETH_PTP (R635, 19_ethernet_and_chain.md). -/
abbrev ETH_PTP.PROFILE : Fld := ⟨.ETH_PTP, 0, 1⟩
abbrev ETH_PTP.TRANSPORT : Fld := ⟨.ETH_PTP, 1, 1⟩
abbrev ETH_PTP.DOMAIN : Fld := ⟨.ETH_PTP, 2, 7⟩
abbrev ETH_PTP.ASYM_NS : Fld := ⟨.ETH_PTP, 16, 16⟩
/-! ETH_SESSION (R636, 19_ethernet_and_chain.md). -/
abbrev ETH_SESSION.OPEN : Fld := ⟨.ETH_SESSION, 0, 1⟩
abbrev ETH_SESSION.KEEPALIVE_MS : Fld := ⟨.ETH_SESSION, 16, 16⟩
abbrev ETH_SESSION.SESSION : Fld := ⟨.ETH_SESSION, 32, 32⟩
/-! ETH_FMAPI (R636, 19_ethernet_and_chain.md). -/
abbrev ETH_FMAPI.SET : Fld := ⟨.ETH_FMAPI, 0, 4⟩
abbrev ETH_FMAPI.LEAD : Fld := ⟨.ETH_FMAPI, 4, 16⟩
/-! ETH_CNT (R636, 19_ethernet_and_chain.md). -/
abbrev ETH_CNT.MBOX_DROPPED : Fld := ⟨.ETH_CNT, 0, 16⟩
abbrev ETH_CNT.STALE : Fld := ⟨.ETH_CNT, 16, 16⟩
abbrev ETH_CNT.REFUSED : Fld := ⟨.ETH_CNT, 32, 16⟩
/-! ETH_TELEM0 (R637, 19_ethernet_and_chain.md). -/
abbrev ETH_TELEM0.BASE : Fld := ⟨.ETH_TELEM0, 0, 48⟩
/-! ETH_TELEM1 (R637, 19_ethernet_and_chain.md). -/
abbrev ETH_TELEM1.COUNT : Fld := ⟨.ETH_TELEM1, 0, 8⟩
abbrev ETH_TELEM1.STRIDE_LOG2 : Fld := ⟨.ETH_TELEM1, 8, 4⟩
abbrev ETH_TELEM1.PERIOD : Fld := ⟨.ETH_TELEM1, 16, 16⟩
abbrev ETH_TELEM1.ERR : Fld := ⟨.ETH_TELEM1, 32, 1⟩
/-! CHN_STATUS (R638, 19_ethernet_and_chain.md). -/
abbrev CHN_STATUS.ADDR : Fld := ⟨.CHN_STATUS, 0, 6⟩
abbrev CHN_STATUS.VALID : Fld := ⟨.CHN_STATUS, 6, 1⟩
abbrev CHN_STATUS.HEAD : Fld := ⟨.CHN_STATUS, 7, 1⟩
abbrev CHN_STATUS.END : Fld := ⟨.CHN_STATUS, 8, 1⟩
abbrev CHN_STATUS.MISMATCH : Fld := ⟨.CHN_STATUS, 9, 1⟩
abbrev CHN_STATUS.IN_SEEN : Fld := ⟨.CHN_STATUS, 10, 6⟩
/-! CHN_PID_RULE (R638, 19_ethernet_and_chain.md). -/
abbrev CHN_PID_RULE.BASE : Fld := ⟨.CHN_PID_RULE, 0, 12⟩
abbrev CHN_PID_RULE.STRIDE : Fld := ⟨.CHN_PID_RULE, 12, 8⟩
abbrev CHN_PID_RULE.GRAIN : Fld := ⟨.CHN_PID_RULE, 20, 2⟩
/-! CHN_BOOT (R638, 19_ethernet_and_chain.md). -/
abbrev CHN_BOOT.BOOTED : Fld := ⟨.CHN_BOOT, 0, 1⟩
abbrev CHN_BOOT.RECOVERY : Fld := ⟨.CHN_BOOT, 1, 1⟩
abbrev CHN_BOOT.TRY : Fld := ⟨.CHN_BOOT, 2, 1⟩
abbrev CHN_BOOT.TRY_SLOT : Fld := ⟨.CHN_BOOT, 3, 1⟩
abbrev CHN_BOOT.A_STATUS : Fld := ⟨.CHN_BOOT, 4, 4⟩
abbrev CHN_BOOT.B_STATUS : Fld := ⟨.CHN_BOOT, 8, 4⟩
abbrev CHN_BOOT.VERSION : Fld := ⟨.CHN_BOOT, 32, 32⟩
/-! CHN_PID_CALC (R638, 19_ethernet_and_chain.md). -/
abbrev CHN_PID_CALC.PID : Fld := ⟨.CHN_PID_CALC, 0, 12⟩
abbrev CHN_PID_CALC.OVER : Fld := ⟨.CHN_PID_CALC, 12, 1⟩
/-! RST_CTRL (R656, 20_resets_and_power_states.md). -/
abbrev RST_CTRL.SOFT : Fld := ⟨.RST_CTRL, 0, 1⟩
abbrev RST_CTRL.STANDBY : Fld := ⟨.RST_CTRL, 1, 1⟩
/-! RST_STANDBY_CFG (R656, 20_resets_and_power_states.md). -/
abbrev RST_STANDBY_CFG.WAKE_AT_EN : Fld := ⟨.RST_STANDBY_CFG, 0, 1⟩
abbrev RST_STANDBY_CFG.WAKE_ON_MBOX : Fld := ⟨.RST_STANDBY_CFG, 1, 1⟩
abbrev RST_STANDBY_CFG.WAKE_ON_FAULT : Fld := ⟨.RST_STANDBY_CFG, 2, 1⟩
/-! RST_WAKE_AT (R657, 20_resets_and_power_states.md). -/
abbrev RST_WAKE_AT.INSTANT : Fld := ⟨.RST_WAKE_AT, 0, 64⟩
/-! RST_STANDBY_STAT (R657, 20_resets_and_power_states.md). -/
abbrev RST_STANDBY_STAT.RESULT : Fld := ⟨.RST_STANDBY_STAT, 0, 4⟩
abbrev RST_STANDBY_STAT.WAKE_CAUSE : Fld := ⟨.RST_STANDBY_STAT, 4, 2⟩
abbrev RST_STANDBY_STAT.ENTRIES : Fld := ⟨.RST_STANDBY_STAT, 32, 16⟩
/-! RST_CAUSE (R658, 20_resets_and_power_states.md). -/
abbrev RST_CAUSE.BROWNOUT : Fld := ⟨.RST_CAUSE, 0, 1⟩
abbrev RST_CAUSE.RAIL : Fld := ⟨.RST_CAUSE, 1, 4⟩
abbrev RST_CAUSE.BROWNOUTS : Fld := ⟨.RST_CAUSE, 16, 16⟩
/-! RST_SUPPLY_STAT (R659, 20_resets_and_power_states.md). -/
abbrev RST_SUPPLY_STAT.WARN : Fld := ⟨.RST_SUPPLY_STAT, 0, 13⟩
abbrev RST_SUPPLY_STAT.BROWNOUT : Fld := ⟨.RST_SUPPLY_STAT, 32, 13⟩
/-! RST_SUPPLY_MIN (R659, 20_resets_and_power_states.md). -/
abbrev RST_SUPPLY_MIN.MIN_MV : Fld := ⟨.RST_SUPPLY_MIN, 0, 16⟩
/-! DBG_CTRL (R672, 21_debug_and_test.md). -/
abbrev DBG_CTRL.LOCK : Fld := ⟨.DBG_CTRL, 0, 1⟩
/-! DBG_STAT (R672, 21_debug_and_test.md). -/
abbrev DBG_STAT.TEST : Fld := ⟨.DBG_STAT, 0, 1⟩
abbrev DBG_STAT.LOCKED : Fld := ⟨.DBG_STAT, 1, 1⟩
abbrev DBG_STAT.JTAG_BLOCKED : Fld := ⟨.DBG_STAT, 2, 1⟩
abbrev DBG_STAT.DAP_REFUSED : Fld := ⟨.DBG_STAT, 16, 16⟩
abbrev DBG_STAT.DAP_ACCESSES : Fld := ⟨.DBG_STAT, 32, 32⟩
/-! DBG_TMX_SEL (R673, 21_debug_and_test.md). -/
abbrev DBG_TMX_SEL.GROUP : Fld := ⟨.DBG_TMX_SEL, 0, 8⟩
abbrev DBG_TMX_SEL.EN : Fld := ⟨.DBG_TMX_SEL, 8, 1⟩
abbrev DBG_TMX_SEL.DIV : Fld := ⟨.DBG_TMX_SEL, 9, 3⟩
/-! DBG_TMX_STAT (R673, 21_debug_and_test.md). -/
abbrev DBG_TMX_STAT.BLOCKED : Fld := ⟨.DBG_TMX_STAT, 0, 1⟩
abbrev DBG_TMX_STAT.GROUP_OUT : Fld := ⟨.DBG_TMX_STAT, 8, 8⟩
/-! RST_TEMP (R699, 22_electrical_and_package.md). -/
abbrev RST_TEMP.TEMP : Fld := ⟨.RST_TEMP, 0, 16⟩
abbrev RST_TEMP.PEAK : Fld := ⟨.RST_TEMP, 16, 16⟩
abbrev RST_TEMP.ALERT : Fld := ⟨.RST_TEMP, 32, 1⟩
/-! RST_THERM_CFG (R699, 22_electrical_and_package.md). -/
abbrev RST_THERM_CFG.ALERT_C : Fld := ⟨.RST_THERM_CFG, 0, 8⟩
abbrev RST_THERM_CFG.ALERT_PIN : Fld := ⟨.RST_THERM_CFG, 8, 1⟩
/-! FLT_HIST0 (R566, 17_fault_collection.md). -/
abbrev FLT_HIST0.NOW : Fld := ⟨.FLT_HIST0, 0, 64⟩
/-! FLT_HIST1 (R566, 17_fault_collection.md). -/
abbrev FLT_HIST1.DETAIL : Fld := ⟨.FLT_HIST1, 0, 64⟩
/-! FLT_HIST2 (R566, 17_fault_collection.md). -/
abbrev FLT_HIST2.UNIT : Fld := ⟨.FLT_HIST2, 0, 9⟩
abbrev FLT_HIST2.SEV : Fld := ⟨.FLT_HIST2, 9, 2⟩
abbrev FLT_HIST2.CODE : Fld := ⟨.FLT_HIST2, 11, 14⟩
abbrev FLT_HIST2.TKIND : Fld := ⟨.FLT_HIST2, 25, 4⟩
abbrev FLT_HIST2.TNUM : Fld := ⟨.FLT_HIST2, 29, 12⟩
abbrev FLT_HIST2.REACT : Fld := ⟨.FLT_HIST2, 41, 4⟩
abbrev FLT_HIST2.TIME_STATE : Fld := ⟨.FLT_HIST2, 45, 3⟩
abbrev FLT_HIST2.OVERFLOW : Fld := ⟨.FLT_HIST2, 48, 1⟩
/-! FLT_HIST3 (R566, 17_fault_collection.md). -/
abbrev FLT_HIST3.SEQ : Fld := ⟨.FLT_HIST3, 0, 32⟩
abbrev FLT_HIST3.VALID : Fld := ⟨.FLT_HIST3, 32, 1⟩

end Sys2Proof.Machine
end

