-- ==== Sys2Proof/Machine/Store.lean ====
section
/-! DEFINITION. Bit fields of a word, and the sparse stores State is built from: tables by number, byte memory in
canonical form, and the register cells. -/

namespace Sys2Proof.Machine

/-- Ones in bits `lo` to `lo + w - 1`. -/
def mask (lo w : Nat) : Word := BitVec.ofNat 64 ((2 ^ w - 1) * 2 ^ lo)

/-- The value of bits `lo` to `lo + w - 1`. -/
def bitsOf (v : Word) (lo w : Nat) : Nat := (v >>> lo).toNat % 2 ^ w

/-- `v` with bits `lo` to `lo + w - 1` replaced by the low `w` bits of `n`. -/
def putBits (v : Word) (lo w n : Nat) : Word :=
  (v &&& ~~~ mask lo w) ||| (BitVec.ofNat 64 (n * 2 ^ lo) &&& mask lo w)

/-- Addition that stops at the largest value of `w` bits (a saturating counter). -/
def satAdd (w a b : Nat) : Nat := min (a + b) (2 ^ w - 1)

/-- A table by number: the entries that were set, rising by number. An absent entry has the table's default. -/
abbrev Tab (α : Type) := List (Nat × α)

/-- Entry `k` of a table whose unset entries hold `dflt`. -/
def Tab.get {α : Type} (dflt : α) : Tab α → Nat → α
  | [], _ => dflt
  | (k', v) :: t, k => if k = k' then v else Tab.get dflt t k

/-- The table with entry `k` set. -/
def Tab.set {α : Type} : Tab α → Nat → α → Tab α
  | [], k, v => [(k, v)]
  | (k', v') :: t, k, v =>
    if k < k' then (k, v) :: (k', v') :: t else if k = k' then (k, v) :: t else (k', v') :: Tab.set t k v

/-- The table with entry `k` back at the default. -/
def Tab.erase {α : Type} (t : Tab α) (k : Nat) : Tab α := t.filter fun e => e.1 != k

/-- Byte memory: the cells that hold something other than zero, addresses strictly rising. An unlisted address reads 0
(SRAM is zeroed before use, R642, R103). -/
abbrev Mem := List Host.Cell

/-- The byte at an address. -/
def Mem.read : Mem → Nat → Byte
  | [], _ => 0
  | (a', b) :: m, a => if a = a' then b else Mem.read m a

/-- A cell put in its place. -/
def Mem.insert : Mem → Nat → Byte → Mem
  | [], a, b => [(a, b)]
  | (a', b') :: m, a, b =>
    if a < a' then (a, b) :: (a', b') :: m else if a = a' then (a, b) :: m else (a', b') :: Mem.insert m a b

/-- The memory with one byte written. Writing 0 removes the cell, so equal memories are equal lists. -/
def Mem.write (m : Mem) (a : Nat) (b : Byte) : Mem :=
  if b = 0 then m.filter (fun c => c.1 != a) else Mem.insert m a b

/-- The canonical form: addresses strictly rising from `lo` on, no zero listed. -/
def Mem.wfFrom : Nat → Mem → Bool
  | _, [] => true
  | lo, (a, b) :: m => decide (lo ≤ a) && b != 0 && Mem.wfFrom (a + 1) m

/-- The canonical form of byte memory. -/
def Mem.wf (m : Mem) : Bool := Mem.wfFrom 0 m

/-- Bytes written from an address on, the first at the lowest address. -/
def Mem.writeList (m : Mem) (a : Nat) : List Byte → Mem
  | [] => m
  | b :: bs => Mem.writeList (m.write a b) (a + 1) bs

/-- `n` bytes from an address on. -/
def Mem.readList (m : Mem) (a : Nat) : Nat → List Byte
  | 0 => []
  | n + 1 => m.read a :: Mem.readList m (a + 1) n

/-- The little-endian value of a list of bytes (R5). -/
def leNat : List Byte → Nat
  | [] => 0
  | b :: bs => b.toNat + 256 * leNat bs

/-- The `n` little-endian bytes of a value (R5). -/
def leBytes : Nat → Nat → List Byte
  | 0, _ => []
  | n + 1, v => BitVec.ofNat 8 v :: leBytes n (v / 256)

/-- The big-endian value of a list of bytes (keys, R85, R86). -/
def beNat (bs : List Byte) : Nat := leNat bs.reverse

/-- An element put in its place in a sorted list, after its equals. -/
def sortInsert {α : Type} (before : α → α → Bool) (x : α) : List α → List α
  | [] => [x]
  | y :: ys => if before x y then x :: y :: ys else y :: sortInsert before x ys

/-- A list sorted, equals left in their order. -/
def sorted {α : Type} (before : α → α → Bool) (xs : List α) : List α :=
  xs.foldl (fun acc x => sortInsert before x acc) []

/-- Numbers in rising order. -/
def rising (xs : List Nat) : List Nat := sorted (fun a b => decide (a < b)) xs

/-- A register and the value it holds. -/
abbrev RegCell := Reg × Word

/-- The order of register cells: by name, instance and element. -/
def Reg.before (a b : Reg) : Bool :=
  decide (a.k.ctorIdx < b.k.ctorIdx) ||
    (decide (a.k = b.k) && (decide (a.i < b.i) || (decide (a.i = b.i) && decide (a.j < b.j))))

/-- The value listed for a register, if any. -/
def regFind : List RegCell → Reg → Option Word
  | [], _ => none
  | (r', v) :: t, r => if r = r' then some v else regFind t r

/-- A register cell put in its place. -/
def regInsert : List RegCell → Reg → Word → List RegCell
  | [], r, v => [(r, v)]
  | (r', v') :: t, r, v =>
    if r = r' then (r, v) :: t else if r.before r' then (r, v) :: (r', v') :: t else (r', v') :: regInsert t r v

end Sys2Proof.Machine
end

