-- ==== Sys2Proof/Machine/State.lean ====
section
/-! DEFINITION. The state of the block as plain data: the register file (the one home of everything a register shows), the
state the spec gives the device beside its registers, and the queue of waiting commands. -/

namespace Sys2Proof.Machine

/-- What the fuses of one device hold (R4, R151, R152; the variant of R2). The key fuses are in `KeyEntry`. -/
structure Fuses where
  revLetter : Nat
  revDigit : Nat
  /-- true: G512M; false: G512L. -/
  variantM : Bool
  serial : Word
  deriving DecidableEq, Repr, Inhabited

/-- One entry of the device key store (R85): a P-384 public key, whether the entry holds one, whether it is revoked. -/
structure KeyEntry where
  x : Nat
  y : Nat
  used : Bool
  revoked : Bool
  deriving DecidableEq, Repr, Inhabited

/-- The flags of a thread (R63). -/
structure Flags where
  z : Bool
  n : Bool
  c : Bool
  v : Bool
  deriving DecidableEq, Repr, Inhabited

/-- The states of a thread (R61). -/
inductive TState where
  | free | run | wait | parked | faulted
  deriving DecidableEq, Repr, Inhabited

/-- A register access of a thread: CLD, CST or CAS (R112, R134). -/
inductive CsOp where
  | load (rd : Nat)
  | store (value : Word)
  | cas (rd : Nat) (expected replacement : Word)
  deriving DecidableEq, Repr

/-- A table search under way (R135): where the result goes, the search block, the first index, the mode, and how many
epoch flips the device had made when it started. -/
structure Search where
  rd : Nat
  base : Nat
  stride : Nat
  count : Nat
  first : Nat
  key : Word
  msk : Word
  mode : Nat
  flips : Nat
  deriving DecidableEq, Repr

/-- A fault record (R548). Severity 0 CE, 1 DE, 2 UC-C, 3 UC-F; target kind 0 none, 1 port, 2 fold, 3 slot. -/
structure FaultRec where
  sev : Nat
  code : Nat
  tkind : Nat
  tnum : Nat
  detail : Word
  deriving DecidableEq, Repr

/-- What a thread in WAIT waits for (R61). `ready` is no wait. -/
inductive Wait where
  | ready
  | event (rd : Nat) (deadline : Word)
  | instant (rd : Nat) (due : Word)
  | message (rd : Nat) (addr : Nat) (limit : Word) (since : Nat)
  | fence
  | regAccess (op : CsOp) (width addr : Nat)
  | poolRead (rd width tag : Nat)
  | search (s : Search)
  | faultSlot (r : FaultRec)
  deriving DecidableEq, Repr

/-- One logical thread (R59, R61, R63): its state and context, its registers and flags, the image it runs, what it waits
for, whether a hot update has marked it, whether a posted pool write failed since its last FNC, since when a fold
thread has run (R76, LIMIT), and the threads of its engine whose YLD waits for this one to issue (R116). A FREE thread reads
FID 0x100 (R102). -/
structure Thread where
  state : TState := .free
  engine : Nat := 0
  slot : Nat := 0
  /-- PRIV: false 0 (manager), true 1 (fold). -/
  priv : Bool := false
  fid : Nat := 0x100
  gpr : Tab Word := []
  flags : Flags := ⟨false, false, false, false⟩
  evmask : Word := 0
  evpend : Word := 0
  epc : BitVec 32 := 0
  ecause : Word := 0
  /-- ECAUSE.CODE of the last exception (R102, ECODE). -/
  ecode : Nat := 0
  pc : BitVec 32 := 0
  image : Option Nat := none
  wait : Wait := .ready
  marked : Bool := false
  postFail : Bool := false
  started : Nat := 0
  owes : List Nat := []
  deriving DecidableEq, Repr

/-- A loaded image (R81, R87): its header fields, its runs of program-store and scratch pages, and for a fold image the
fold it belongs to; and the digest of its bytes (R618). -/
structure Image where
  id : Nat
  version : Nat
  flags : Nat
  codeLen : Nat
  scratchSize : Nat
  entry : Nat
  excEntry : Nat
  foldEntry : Nat
  updateEntry : Nat
  codePage : Nat
  codePages : Nat
  scratchPage : Nat
  scratchPages : Nat
  fold : Option Nat
  digest : List Byte := []
  deriving DecidableEq, Repr

/-- A mailbox message (R137, R139): the image it is to or from, its channel and bytes; for a device message its sequence
number and how often it was sent. -/
structure Mail where
  image : Nat
  channel : Nat
  bytes : List Byte
  seq : Nat
  sent : Nat
  sentAt : Nat := 0
  deriving DecidableEq, Repr

/-- A hot update that waits for its threads (R91, R93): the new image, NOW when the waiting began, and the Ethernet port and
SEQ of the IMAGE_DATA message that is still to be answered. -/
structure Update where
  image : Image
  since : Nat
  port : Nat
  seq : Nat
  deriving DecidableEq, Repr

/-- A control-space write that a thread issued and that still waits for its block when the thread is killed (R62, R169): the
thread and its PRIV, the operation, its width and address. -/
structure Orphan where
  thread : Nat
  priv : Bool
  op : CsOp
  width : Nat
  addr : Nat
  deriving DecidableEq, Repr

/-- The Wygel machine beside its threads: loaded images, program store and scratch, the
16-byte program-store words that are uncorrectable and the 8-byte scratch words that hold poison, the key store and slot bindings, the image being received with its
TOTAL, and once it is whole the Ethernet port and SEQ of its last message, a hot update that waits for its
threads, the mailbox queues, and the control-space writes of killed threads that still wait for their block. -/
structure Wygel where
  images : List Image := []
  pstore : Mem := []
  pstoreBad : List Nat := []
  scratch : Mem := []
  scratchPoison : List Nat := []
  keys : List KeyEntry
  slotEntry : List Nat
  rxImage : List Byte := []
  rxTotal : Nat := 0
  rxWhole : Option (Nat × Nat) := none
  update : Option Update := none
  rxMail : List Mail := []
  txMail : List Mail := []
  orphans : List Orphan := []
  deriving DecidableEq, Repr

/-- The time unit beside its registers (R29 to R34): the TAI second it counts for the next RT_PPS edge, the measured
offsets of the latest source updates (newest first), and for EST_ERR the estimate and the instant at which LOCKED was
left. -/
structure TimeUnit where
  tod : Option Nat := none
  /-- NOW at the latest RT_PPS edge less the TAI instant that the edge marks, in ns, where the second was known (R29, R31). -/
  edge : Option Int := none
  offsets : List Int := []
  leftErr : Nat := 0
  leftAt : Nat := 0
  /-- NOW after the latest step on entry to LOCKED (R33, R37, R124). -/
  steppedAt : Option Nat := none
  /-- By how much that step moved NOW, and all steps together. -/
  lastStep : Int := 0
  stepSum : Int := 0
  /-- How often NOW has been stepped (R37). -/
  steps : Nat := 0
  /-- NOW when LOCKED was last entered from outside LOCKED and HOLDOVER (R593). -/
  goodSince : Nat := 0
  deriving DecidableEq, Repr

/-- A staged write (R127, R165): address, width in bytes, value, and the thread that staged it. -/
structure StagedWrite where
  addr : Nat
  width : Nat
  value : Word
  thread : Nat
  deriving DecidableEq, Repr

/-- The commit machinery beside TIM_COMMIT registers (R38 to R44): the writes of each set in staging order, the pending sets
in the order their commits were issued, the epoch bit and how often it has flipped, the instant of the last flip, whether
the writes of the next instant are loaded, whether the old epoch drains or the resync runs, and the registers in which the
inactive copy differs from the active one. -/
structure Commits where
  sets : Tab (List StagedWrite) := []
  order : List Nat := []
  epoch : Bool := false
  flips : Nat := 0
  lastFlip : Option Nat := none
  loaded : Bool := false
  draining : Bool := false
  resyncing : Bool := false
  inactive : List RegCell := []
  deriving DecidableEq, Repr

/-- One fault source (R547, R549): its waiting records, oldest first, each with its OVERFLOW mark; whether its dual-rail pair reads complementary values (R546); and the records the collector itself raises for the unit,
which a wire fault does not hold back (R545). -/
structure FaultSrc where
  own : List FaultRec := []
  queue : List (FaultRec × Bool) := []
  pairOk : Bool := true
  deriving DecidableEq, Repr

/-- The fault collector beside its registers (R550, R554, R557): the sources, the source served last, and the targets
contained in the course named, so that several records of one course cause one containment. -/
structure Collector where
  srcs : Tab FaultSrc := []
  last : Nat := 475
  doneCourse : Nat := 0
  doneTargets : List (Nat × Nat) := []
  deriving DecidableEq, Repr

/-- Where the independent error sampler stands while a receiver is margined (R189, R211): voltage or timing, left or down or the
other side, the steps, the eye. -/
structure MarginPoint where
  voltage : Bool
  low : Bool
  steps : Nat
  eye : Nat
  deriving DecidableEq, Repr

/-- A lane beside its registers: consecutive adapter visits below EYE_MIN (R187), whether the partner's margining command holds
the receiver (R190), where the error sampler stands; the rate last reached with the coefficients stored for it (R181), the
rate at which the bring-up in progress has agreed coefficients (R183); the receiver's stored settings (R186, R199), and from
which lap on the adapter visits it (R188). -/
structure LaneHid where
  misses : Nat := 0
  remote : Bool := false
  sampler : Option MarginPoint := none
  stored : Option (Nat × Nat × Nat) := none
  eqRate : Option Nat := none
  settings : Word := 0
  fromLap : Nat := 0
  deriving DecidableEq, Repr

/-- Where a request started (R44, R501): a port, a thread, the debug access port, a chunk of an entry of work held by a mover, the
directory itself, a lender's service of a borrower's message that came on a port, a port that has left UP since, while the
request was being sent (R319), a line of the migration of a slot, or a chunk of the zero-fill of a frame. -/
inductive FlightSrc where
  | port (p : Nat)
  | thread (t : Nat)
  | dap
  | chunk (mover : Nat) (work : Nat)
  | directory
  | lender (p : Nat) (tag dLend dBorrow : Nat)
  | gone (p : Nat)
  | copy (mover slot line : Nat)
  | fill (mover key chunk : Nat)
  deriving DecidableEq, Repr

/-- Where a request in flight stands: in the ingress hold of its port, waiting on a BUSY line or on its own snoops,
waiting for a way of a full set (in a wait slot, or in the overflow list), held by a migration's final stall, released from it, held behind
an earlier message of its line (R433), in an egress queue, or sent and unanswered. -/
inductive FPhase where
  | held
  | lineWait
  | snoopWait
  | setWait (overflow : Bool)
  | stalled
  | resumed
  | behind
  | queued
  | sent
  deriving DecidableEq, Repr

/-- The request kinds the directory tells apart (R407), with what a CXL.io or CXL.cache request does. -/
inductive AccKind where
  | readS | readE | readU | invE | writeBack (mv : Meta) | writeU | cleanEvict
  | ioRead | ioNonPosted | ioAtomic | ioPosted | cacheRead | cacheWrite
  deriving DecidableEq, Repr

/-- A request in flight: its tag, epoch stamp and source; the virtual switch it counts for (if any); its kind and address
(a pool address, or the address of a routed message); the requester's tag and the data; NOW of its admission; where it
stands; egress port, class, flow, the Ridge reservation it took and the pool Hedgerow rule that decided it; the logical
device and DPA it goes to; for an answer that has arrived, the data and poison; the VC of the
Thatchlink slot that its message, or its answer's, holds; the byte ranges (offset and length) that
Hedgerow denied (R509); whether the directory has recorded its host as a new sharer for it (R419); the header bytes of its
message and of its response beyond the first 16 (R303); the CacheID of the device that a CXL.cache request comes from (R229); and
the crossbar attachment it travels through (R18). -/
structure Flight where
  tag : Nat
  epoch : Bool
  src : FlightSrc
  vsw : Option Nat := none
  kind : AccKind
  write : Bool
  addr : Nat
  len : Nat := 64
  hostTag : Nat := 0
  data : Nat := 0
  poison : Bool := false
  admitted : Nat
  phase : FPhase := .queued
  egress : Nat := 128
  cls : Nat := 1
  flow : Nat := 0
  rsv : Option Nat := none
  region : Option Nat := none
  routed : Bool := false
  ld : Nat := 0
  dpa : Nat := 0
  answer : Option (Nat × Bool) := none
  vc : Option Nat := none
  denied : List (Nat × Nat) := []
  recorded : Bool := false
  extra : Nat := 0
  respExtra : Nat := 0
  cacheId : Option Nat := none
  via : Nat := 26
  deriving DecidableEq, Repr

/-- What a message in the shared buffer is: a request in flight (by tag); a response to a requester's tag with data (if it
carries any) and poison; a back-invalidate snoop (host, line address as the host sees it, kind 0 Inv, 1 Data, 2 Cur); a
directory-coordination or migration message (type, body); a write to host memory by the folds (address, bytes, poison), or a
read (address, length); a message that is neither request nor response, routed by PID (R239). -/
inductive QBody where
  | request (tag : Nat)
  | response (hostTag : Nat) (data : Option Nat) (poison : Bool) (rsv : Option Nat)
  | snoop (v hpa kind : Nat)
  | coord (typ : Nat) (body : List Byte) (poison : Bool)
  | hostWrite (fold addr : Nat) (bytes : List Byte) (poison : Bool)
  | hostRead (fold addr len : Nat)
  | routed (dpid : Nat) (m : PortMsg)
  deriving DecidableEq, Repr

/-- The part of the shared buffer a message's cells were taken from (R306, R307). -/
inductive BufPart where
  | ridge | min | shared
  deriving DecidableEq, Repr

/-- A queue entry (R305): message, source port, egress port, class and flow, channel, bytes and cells, buffer part, the
owning fold and its generation for a mover's cells, the age stamp while age discard is on, the
epoch, for a message that holds a slot of its ingress Thatchlink's receive pool, its VC, and the bytes of its header beyond the
first 16 (R303). -/
structure QMsg where
  body : QBody
  ingress : Option Nat
  egress : Nat
  cls : Nat
  flow : Nat
  chan : Chan
  len : Nat
  part : BufPart := .shared
  gen : Option (Nat × Nat) := none
  stamp : Option Nat := none
  ep : Bool
  vc : Option Nat := none
  extra : Nat := 0
  deriving DecidableEq, Repr

/-- A shaper's token count (R344): in 1/1,024 byte, as of an instant of the device's own time. -/
structure Shaper where
  tokens : Int := 0
  asOf : Nat := 0
  deriving DecidableEq, Repr

/-- The class tag of one class of a port (R340): the tag last served, the tag set for the message the flow level has chosen,
and that message. -/
structure ClassTag where
  prev : Nat := 0
  tag : Nat := 0
  choice : Option QMsg := none
  deriving DecidableEq, Repr

/-- The switch core beside its registers: queued messages in the order of their admission, messages held at ingress with
their ingress port (none for a source inside the device), requests in flight in order of arrival, the next tag, the
shapers, and the tags and transmissions of each port. -/
structure SwitchCore where
  buf : List QMsg := []
  holds : List (Option Nat × QMsg) := []
  flights : List Flight := []
  nextTag : Nat := 1
  shapers : Tab Shaper := []
  /-- By port × 8 + class. -/
  classTags : Tab ClassTag := []
  /-- The tag each flow queue was last served with (R340), by port × 512 + queue. -/
  flowPrev : Tab Nat := []
  /-- By port (on a Thatchlink by 128 + port × 8 + class): the message whose transmission has begun, and one that a Ridge message suspended (R353). -/
  sending : Tab QMsg := []
  suspended : Tab QMsg := []
  /-- Requests for data sent on a port whose own ingress port has left UP since: tag and egress port (R321). -/
  orphans : List (Nat × Nat) := []
  /-- The crossbar attachment of each configured port, as assigned when its configuration was committed (R21). -/
  attach : Tab Nat := []
  deriving DecidableEq, Repr

/-- A committed HDM decoder of a pool device (R230): the HPA it maps, its size, and the DPA it maps to. -/
structure Decoder where
  hpa : Nat
  size : Nat
  dpa : Nat
  deriving DecidableEq, Repr

/-- A grant's extent (R232): first binding-window GiB, length, first field, region, and the tag of a shared extent. -/
structure Extent where
  region : Nat
  dpaGib : Nat
  len : Nat
  field : Nat
  tag : Nat
  deriving DecidableEq, Repr

/-- A virtual switch's pool device beside its registers: its two decoders, the open offer with NOW when it was made, the
release that waits for its requests (extents, and the requests by tag), the extents the host has accepted (R236), the virtual bridges
whose containment the host has enabled (R246), and whether a reset of the mailbox has taken the release's command away, so that
nothing answers it (R236). -/
structure PoolDev where
  decoders : Tab Decoder := []
  offer : Option (List Extent × Nat) := none
  release : Option (List Extent × List Nat) := none
  accepted : List Extent := []
  dpc : List Nat := []
  quiet : Bool := false
  deriving DecidableEq, Repr

/-- The states of a frame (R369), with what it is kept for: FREE and unzeroed or zeroed, reserved for a commit's PLACE or
as a GATHER's target, WHOLE, CARVED, or orphaned (R394). -/
inductive FrameState where
  | dirty | zeroed | reserved | whole | carved | orphan
  deriving DecidableEq, Repr

/-- The states of a sward frame of a CARVED frame (R369). -/
inductive SFrameState where
  | inUse | dirty | zeroed
  deriving DecidableEq, Repr

/-- Why a migration runs (R388, R392, R385, R389): tiering, a drain, a GATHER, or a manager's MIGRATE job (its entry of work). -/
inductive MigrWhy where
  | tier | drain | gather | job (id : Nat)
  deriving DecidableEq, Repr

/-- A running migration beside its TMP_MIGR_SLOT register (R389): the sward's table entry, source and target sward frames,
the target's device, how many lines have the copied bit 0, whether a stall instant is set, why it
runs, the mover that runs it, the line-copied bitmap, and the line the pass looks at next. -/
structure Migration where
  entry : Nat
  field : Nat
  srcDev : Nat
  src : Nat
  dstDev : Nat
  dst : Nat
  left : Nat
  stallAt : Option Nat
  why : MigrWhy
  mover : Nat := 0
  bits : Nat := 0
  scan : Nat := 0
  deriving DecidableEq, Repr

/-- A GATHER under way (R385): field, target device and frame, the swards still to move, whether a move aborted. -/
structure Gather where
  field : Nat
  dev : Nat
  frame : Nat
  todo : List Nat
  cut : Bool
  deriving DecidableEq, Repr

/-- A candidate for migration (R387): field, sward (none for a WHOLE field), and promotion or demotion. -/
structure Candidate where
  field : Nat
  sward : Nat
  promote : Bool
  deriving DecidableEq, Repr

/-- The thatch map beside its tables: frames and sward frames, running migrations by slot, candidates, a GATHER, the fields
that wait for a boundary to split, and each tier's device used last. -/
structure Thatch where
  frames : Tab FrameState := []
  sframes : Tab SFrameState := []
  migrations : Tab Migration := []
  candidates : List Candidate := []
  gather : Option Gather := none
  splitting : List Nat := []
  /-- Released fields (PHASE ZEROING) with the frames and sward frames each still waits for (R383). -/
  releasing : Tab (List Nat) := []
  /-- WHOLE fields a drain has split, with the frame each gathers into (R392): device and frame. -/
  drainInto : Tab (Nat × Nat) := []
  /-- The zero-fills under way (R382), by the number of the frame or sward frame: the next 4 KiB chunk, and chunks to be written
  again. -/
  fills : Tab (Nat × List Nat) := []
  /-- By device, exactly: the swards placed on it, and those orphaned (R392, R394). -/
  placedOf : Tab Nat := []
  orphanOf : Tab Nat := []
  lastDev : Tab Nat := []
  /-- The borrower's d and Thatchlink port remembered for a LENT entry (R380). -/
  lentTo : Tab (Nat × Nat) := []
  /-- Lender entries whose DEV_LOST is not acknowledged, with CAUSE (R380). -/
  devLost : Tab Nat := []
  /-- Borrower entries whose LEASE_CHECK is unanswered (R380). -/
  leaseOpen : List Nat := []
  deriving DecidableEq, Repr

/-- Why a snoop was sent (R411, R417, R423, R425, R430): for a request (its tag), to evict for a request, by a walk that
ends a binding or follows lost memory, or by a sweep. -/
inductive SnoopWhy where
  | request (tag : Nat)
  | evict (tag : Nat)
  | walk (lost : Bool)
  | sweep
  deriving DecidableEq, Repr

/-- An outstanding snoop: the line's pool address, the host, its kind (0 Inv, 1 Data, 2 Cur), why, NOW when it left the
egress port, and the host physical address it carries (R414). -/
structure Snoop where
  line : Nat
  host : Nat
  kind : Nat
  why : SnoopWhy
  sent : Option Nat := none
  hpa : Nat := 0
  deriving DecidableEq, Repr

/-- The directory beside its registers: outstanding snoops, whether the owner of a line being snooped answered BIRspS, ways
being swept with the lines still to sweep, banks retired, the hosts, (host, field) bindings and lost devices whose walk
runs, and the old bindings a walk keeps (host, field, HPA base). -/
structure Directory where
  snoops : List Snoop := []
  keptS : List Nat := []
  sweeps : List (Nat × List Nat) := []
  walkHosts : List Nat := []
  walkEnds : List (Nat × Nat × Option Nat) := []
  walkLost : Bool := false
  retired : List Nat := []
  deriving DecidableEq, Repr

/-- Where an entry of work came from (R141, R443): a ring entry of a fold, or a job launched with DMVK by a thread (of a
fold, or a manager job with its slot), with its handle and the scratch bytes its completion goes to. -/
inductive WorkOwner where
  | ring (f q index : Nat)
  | job (fold : Option Nat) (slot handle thread cpl : Nat)
  deriving DecidableEq, Repr

/-- How far an entry is: its ring fetch is outstanding, fetched and not started, started on a mover (or between movers),
finished with its completion still to be written (R459), a MIGRATE that waits or runs (R461), or thawed with its descriptor
to be read again (R488): its record's KIND, STATUS, and OFFSET or RESULT. -/
inductive WorkState where
  | fetching
  | fetched
  | started (mover : Option Nat)
  | finished (status result : Nat)
  | migrate
  | refetch (kind status at' : Nat)
  deriving DecidableEq, Repr

/-- An entry of work: a number of its own, its owner, its fold's generation when it was fetched, its 64-byte descriptor,
how far it is, the offset of the next chunk, the status that ends it once its outstanding chunks are done, the first
poisoned offset, and the CRC register. -/
structure Work where
  id : Nat
  owner : WorkOwner
  gen : Nat := 0
  raw : List Byte := []
  state : WorkState := .fetching
  next : Nat := 0
  ending : Option (Nat × Nat) := none
  poisonAt : Option Nat := none
  crc : BitVec 32 := 0
  deriving DecidableEq, Repr

/-- A completion that waits in a holding slot (R460): its CQ, its 16 bytes but PHASE, and URGENT. -/
structure HeldCpl where
  cq : Nat
  bytes : List Byte
  urgent : Bool
  deriving DecidableEq, Repr

/-- A CQ's moderation timer (R462): running since NOW, or stopped by a freeze with its time left in µs. -/
inductive ModTimer where
  | stopped
  | running (since : Nat)
  | frozen (left : Nat)
  deriving DecidableEq, Repr

/-- A fold beside its registers: each SQ's NEXT, the SQ fetched from last, the full push slots (q × 4 + i), the holding
slots, the moderation timers, whether every holding slot was taken (a stall), its VF's D3hot, Bus Master Enable, PME_En
and MSI-X function mask, the STATE held before a freeze and the migration state before a thaw was accepted, the saved bale, the
received part of a bale stream, and the entries a freeze recorded (SQ, index, KIND, STATUS, OFFSET or RESULT, CRC register).
-/
structure Fold where
  next : Tab Nat := []
  lastSq : Nat := 7
  pushFull : List Nat := []
  held : List HeldCpl := []
  timers : Tab ModTimer := []
  stalled : Bool := false
  d3hot : Bool := false
  busMaster : Bool := false
  pmeEn : Bool := false
  fnMask : Bool := false
  before : Nat := 0
  freezeAt : Nat := 0
  armed : Bool := false
  bale : List Byte := []
  baleSent : Nat := 0
  migWas : Nat := 0
  baleRx : List Byte := []
  baleAck : Option Nat := none
  records : List (Nat × Nat × Nat × Nat × Nat × Nat) := []
  deriving DecidableEq, Repr

/-- The Service Function of a virtual switch (R438): VF Enable and NumVFs. -/
structure ServiceFn where
  vfEnable : Bool := false
  numVFs : Nat := 0
  deriving DecidableEq, Repr

/-- The folds and the data movers beside their registers: each fold, each Service Function, the work in hand in the order
it was fetched or launched, the next entry's number, the manager job handle, and the round of R478: the fold whose turn it is,
what it has left of its quantum, and what the others kept of theirs. -/
structure Folds where
  folds : Tab Fold := []
  services : Tab ServiceFn := []
  work : List Work := []
  nextId : Nat := 1
  handle : Nat := 0
  turn : Nat := 255
  turnLeft : Nat := 0
  kept : Tab Nat := []
  deriving DecidableEq, Repr

/-- The SRAM beside its registers: the words that hold poison (bank × 65,536 + word), how many words of each bank the lap of
its region has visited, NOW at each region's lap's start (R523, R533), the copies that run (bank: logical macro and
spare, R536), and the earliest start of each scrubber's next visit, in ninths of an ns (R532). -/
structure Integrity where
  poison : List Nat := []
  visited : Tab Nat := []
  lapStart : Tab Nat := []
  copies : Tab (Nat × Nat) := []
  visitDue : Tab Nat := []
  deriving DecidableEq, Repr

/-- A DATA flit (R268, R275, R276): sequence, VC, whether it was sent into the shared pool, whether its payload begins with the
rest of a message. In a transmitter: what it carries, how often it was sent again since the last ACK progress, and whether
SENT counts it. In a receiver: its payload; once it is released, how many messages end in it that the core has not admitted
yet, whether one goes on in the next flit of its VC, and how many of its messages the core has not taken yet. -/
structure TlkFlit where
  seq : Nat
  vc : Nat
  pool : Bool
  cont : Bool := false
  parts : List TlkPart := []
  sends : Nat := 0
  counted : Bool := true
  payload : List Byte := []
  ends : Nat := 0
  opens : Bool := false
  left : Nat := 0
  deriving DecidableEq, Repr

/-- The link layer of a Thatchlink port beside its registers. Transmitter: the replay store (oldest first), sequences to
resend, SENT and the LIMIT received per VC, when the replay timer started, since when a VC waits for credits and which, the bytes
left of each VC's message under way. Receiver: missing sequences with NOW of their last NAK, flits held, flits released whose
messages the core has not all admitted, freed dedicated slots per VC, slots freed since the last CREDIT record (number
and NOW of the first), NOW of the last CREDIT record, the bytes still to come of each VC's open message, returns withheld, by how
much the second XOFF condition is raised (R287). Records waiting: NAKs, CREDITs due, PONGs (identifier and tag), INIT, RESUME.
Start and recovery: whether the round trip is being measured, the PINGs unanswered (identifier and NOW), those answered, NOW of
the last, samples, INIT seen, VCs whose CREDIT was seen; NOW of the state's start; NOW of recent CRC failures; the partner's
fallow notice as received; whether any DATA flit has been released. -/
structure TlkPort where
  replay : List TlkFlit := []
  resend : List Nat := []
  sent : Tab Nat := []
  limit : Tab Nat := []
  replayAt : Nat := 0
  creditWait : Option (Nat × Nat) := none
  txLeft : Tab Nat := []
  missing : Tab Nat := []
  held : List TlkFlit := []
  released : List TlkFlit := []
  freed : Tab Nat := []
  fresh : Tab (Nat × Nat) := []
  creditAt : Tab Nat := []
  rxLeft : Tab Nat := []
  withheld : Tab Nat := []
  raised : Nat := 0
  naks : List Nat := []
  due : List Nat := []
  pongs : List (Nat × Nat) := []
  initDue : Bool := false
  resumeDue : Bool := false
  measuring : Bool := false
  pinged : Tab Nat := []
  answered : List Nat := []
  pingAt : Option Nat := none
  samples : List Nat := []
  initSeen : Bool := false
  creditSeen : List Nat := []
  resumeSeen : Bool := true
  since : Nat := 0
  crcAt : List Nat := []
  noticeRx : Option Nat := none
  any : Bool := false
  deriving DecidableEq, Repr

/-- The Thatchlinks: each port's link layer, and the replay store and receive pool each port holds (R263). -/
structure Tlk where
  ports : Tab TlkPort := []
  stores : Tab Nat := []
  pools : Tab Nat := []
  deriving DecidableEq, Repr

/-- A port's lanes beside their registers: the link power state (0 L0, 1 ASPM L1, 2 PCI-PM L1), lanes active under L0p (0:
not narrowed), the flit slots of the fallow window (with flits, all) and NOW of its start, the width a notice announces (0 for
sleep) and how many flits still carry it, NOW of the last flit sent, the width held before SLEEP, whether WAKING comes from SLEEP, the lanes the partner's
own direction uses when it is narrowed, and the stage sets whose accepted commits hold the direction
(R197 to R204); the IDE key in use, 256 bits that nothing reads (R241, R242); and whether a Type 1 or Type 2 device, which uses CXL.cache, has
trained behind a downstream port (R229). -/
structure PortHid where
  l1 : Nat := 0
  l0p : Nat := 0
  used : Nat := 0
  slots : Nat := 0
  windowAt : Nat := 0
  notice : Option Nat := none
  count : Nat := 0
  lastFlit : Nat := 0
  before : Nat := 0
  fromSleep : Bool := false
  rxWidth : Option Nat := none
  heldFor : List Nat := []
  ideKey : List Word := []
  cacheDev : Bool := false
  deriving DecidableEq, Repr

/-- What a slot channel keeps over a loss of presence (R583): the serial of the identity in force (none without one),
whether it was LATCHED, and the retry time left in ns. FAULTS stays in its register. -/
structure SlotKept where
  serial : Option Word
  latched : Bool
  left : Nat
  deriving DecidableEq, Repr

/-- A slot channel beside its registers: NOW when its state began, the failed identity reads, what is kept, when the retry
timer ends, the armed instant, whether the gate is driven at full strength, the lowest V_BUS of a dip in mV and the instant of its latest command, the flush
that runs (since NOW), the feeds turned off by heat and by reverse current (1 A, 2 B), whether the FET temperatures have
started, with both estimates in 10⁻¹⁰ °C (R587), the energy window in force with its start, how often NOW had been
stepped then, what its samples have metered in 5 × 10⁻⁶ µJ (R592), and the fraction of a µJ that SLT_ENERGY does not show;
and Power Fault Detected as the virtual bridge shows it (R595). -/
structure SlotHid where
  since : Nat := 0
  tries : Nat := 0
  kept : Option SlotKept := none
  retryEnd : Nat := 0
  onAt : Nat := 0
  top : Bool := false
  low : Nat := 0
  lowAt : Nat := 0
  gpf : Option Nat := none
  hot : List Nat := []
  rev : List Nat := []
  warmed : Bool := false
  tempA : Int := 0
  tempB : Int := 0
  window : Nat := 1
  winStart : Nat := 0
  winSteps : Nat := 0
  winMetered : Nat := 0
  fraction : Nat := 0
  pfd : Bool := false
  deriving DecidableEq, Repr

/-- The manager's session over the Fabric Control Protocol beside ETH_SESSION (R611, R612): when something last arrived
in it, the replies to its last 64 SEQs (newest first: SEQ, type, status, payload), the SEQs whose reply is still to come,
and the device's own next SEQ. -/
structure Fcp where
  lastHeard : Nat := 0
  replies : List (Nat × Nat × Nat × List Byte) := []
  executing : List Nat := []
  txSeq : Nat := 0
  deriving DecidableEq, Repr

/-- Where the device stands between power and its boot (R643, R623, R685): held in a power-on or a warm reset, released with
its SRAM being zeroed and no control-space access answered yet, restored but before its boot image (PHASE BOOT, R170),
running, or held by THERMTRIP. -/
inductive Boot where
  | heldPower | heldWarm | zeroing | restored | up | tripped
  deriving DecidableEq, Repr, Inhabited

/-- An access of the debug access port that is busy (R665): read or write, its address and data, the tag of an aperture
access in flight; for an aperture access that Hedgerow denied, none. -/
structure DapAccess where
  write : Bool
  addr : Nat
  data : Word
  tag : Option Nat := none
  denied : Bool := false
  deriving DecidableEq, Repr

/-- The gable die's services beside their registers. Boot and resets (R643, R622): where the device stands, whether the next
release takes a new chain address (R628), the digest of the booted image. Standby (R648, R650): entry in progress, the
wake cause of an exit in progress, mailbox messages held for it. Supplies and heat (R653, R685): rails below brownout,
sensors at 115 °C at their last sample. Test access (R661, R664): the instruction, a busy access, and the latest access's
address, data, STATUS and CAUSE. The chain (R626, R628): the address of the latest frame, an armed reset (instant,
RENUMBER). MACsec (R607): the installed CAK and CKN of each port. The stage set of an FM-API background operation
(R617). -/
structure Gable where
  boot : Boot := .zeroing
  booted : List Byte := []
  entering : Bool := false
  wake : Option Nat := none
  heldMail : List Mail := []
  railsLow : List Nat := []
  hot : List Nat := []
  ir : Nat := 2
  dap : Option DapAccess := none
  dapAddr : Nat := 0
  dapData : Word := 0
  dapStatus : Nat := 0
  dapCause : Nat := 0
  chainLast : Option Nat := none
  chainArm : Option (Nat × Bool) := none
  cak : Tab (List Word) := []
  background : Option Nat := none
  deriving DecidableEq, Repr

/-- The return codes of the pool device's mailbox commands (R231, R234) and of the FM-API (R616, R617). -/
inductive RetCode where
  | success | backgroundStarted | invalidInput | unsupported | internalError | retry | busy | exhausted
  deriving DecidableEq, Repr

/-- What the device sends or drives outward, in the order in which it does so. -/
inductive OutMsg where
  /-- A Fabric Control Protocol reply (R606, R609, R610): the Ethernet port, type, status, SEQ, payload. -/
  | fcpReply (port typ status seq : Nat) (payload : List Byte)
  /-- An EVENT message (R610, R612): the device's SEQ, kind and words. -/
  | fcpEvent (seq kind : Nat) (words : List Word)
  /-- An MBOX message to the manager (R614). -/
  | mbox (m : Mail)
  /-- A message put on an egress link (R338): the port and the message; for a request, all that is known of it; for a CXL.mem
  response of the pool device, its DevLoad (R225). -/
  | link (p : Nat) (body : QBody) (req : Option Flight) (devLoad : Option Nat)
  /-- A Thatchlink flit (R268, R271, R273): its port, its link header, what a DATA payload carries, the records of a CONTROL
  flit. -/
  | flit (p : Nat) (h : TlkHeader) (parts : List TlkPart) (records : List TlkRecord)
  /-- A mode-4 port's offer in alternate protocol negotiation (R264): vendor ID, protocol, Details. -/
  | offer (p vendor protocol details : Nat)
  /-- The generator of a lane in test (R192, R193): rate code and pattern, and the first symbols it sends. -/
  | prbs (lane rate pattern : Nat) (symbols : List (Fin 4))
  /-- Viral passed to the host behind an upstream port (R225). -/
  | viral (p : Nat)
  /-- The slot capability a virtual bridge shows (R249): switch, bridge; power controller, hot-plug capable, hot-plug surprise,
  attention button, MRL sensor, indicators. -/
  | slotCap (v vb : Nat) (power capable surprise button mrl indicators : Bool)
  /-- The pool device's CDAT (R237): the switch, and per region its number, DPA base and length in GiB, latency and bandwidth
  figures. -/
  | cdat (v : Nat) (regions : List (Nat × Nat × Nat × Nat × Nat))
  /-- The configuration of a Service Function (R438): the switch; vendor and the device IDs of the function and of its virtual
  functions, class code, TotalVFs, First VF Offset, VF Stride, page sizes, VF BAR0's size, MSI-X vectors. -/
  | serviceFn (v vendor device vfDevice classCode totalVFs offset stride : Nat) (pages : List Nat) (bar vectors : Nat)
  /-- What a host's read of a fold's BAR0 brought (R441): switch, fold, offset, value. -/
  | vfData (v fold off : Nat) (value : Word)
  /-- Transmitted bits of a lane flipped by its injector (R195). -/
  | inject (lane bits : Nat)
  /-- A completion of the pool device's mailbox toward the host of a virtual switch (R231, R233, R234, R236). -/
  | mailbox (v : Nat) (code : RetCode) (payload : List Byte)
  /-- A dynamic capacity event record toward a host: Add Capacity (R233), or a request to release; whether more follow. -/
  | capacity (v : Nat) (add : Bool) (e : Extent) (more : Bool)
  /-- A PME message from a fold's upstream port with its VF's requester ID (R465). -/
  | pme (fold : Nat)
  /-- A BALE_DATA segment to the peer's chain alias: peer, fold there, offset, total length, bytes; a BALE_ACK: fold, STATUS,
  result of R492 (R620). -/
  | baleData (peer fold offset total : Nat) (bytes : List Byte)
  | baleAck (fold status result : Nat)
  /-- Bytes written to the boot flash at an offset, a sector erased first (R624). -/
  | flash (offset : Nat) (erase : Bool) (bytes : List Byte)
  /-- A frame on ADDR_OUT (R625): its 10 bits in the order sent, the first in bit 9. -/
  | addrOut (bits : BitVec 10)
  /-- Pins that boundary scan samples (R660, R667): TMX[15:0], the period of TMX_CLK in core clocks (0: low), SLT_PG and the
  slots whose SLT_EWARN_N is asserted. -/
  | pins (tmx : BitVec 16) (tmxClk : Nat) (pg ewarn : BitVec 32)
  /-- A slot's gate charged at a slope (R571, R572): the slot, I_SET in 10 mA, S in 0.1 V/ms, I_TRIP in mA. -/
  | slotRamp (slot limit slope trip : Nat)
  /-- A TELEMETRY message (R612, R615): the device's SEQ and the payload. -/
  | telemetry (seq : Nat) (payload : List Byte)
  /-- An FM-API request passed to what lies behind a port: the port, the logical device (none: the port's device), the
  request (R616). -/
  | tunnel (p : Nat) (ld : Option Nat) (request : List Byte)
  /-- The end of an FM-API background operation (R617). -/
  | background (code : RetCode)
  /-- A capture of the DAP_ACCESS data register: ADDR, DATA, STATUS, CAUSE (R664); and of the IDCODE register (R662). -/
  | dapCapture (addr : Nat) (data : Word) (status cause : Nat)
  | idcode (value : BitVec 32)
  /-- A two-step Sync with its Follow_Up of the boundary clock (R28, R619): the Ethernet port, whether the Peer-to-Peer
  profile, whether directly over IEEE 802.3, the domain, and NOW. -/
  | ptpSync (port : Nat) (peerToPeer ieee8023 : Bool) (domain now : Nat)
  /-- A transfer on a sideband bus (R569, R604): the bus, its MODE, the target address, whether a write, the memory offset,
  whether of two bytes, the length in bytes, and the bytes written. -/
  | sideband (bus mode addr : Nat) (write : Bool) (offset : Nat) (twoByte : Bool) (len : Nat) (bytes : List Byte)
  /-- Something the spec says is logged, with no place of its own in a register: what, and a number (assumption 17). -/
  | log (what : String) (n : Nat)
  deriving DecidableEq, Repr

/-- The whole device but its command queue. -/
structure Dev where
  /-- The control-space registers: the ones that hold something other than their reset value. -/
  regs : List RegCell := []
  fuses : Fuses
  /-- The next free value's number (Config.freeValue); the model's own field, no state of the device. -/
  freeCtr : Nat := 0
  out : List OutMsg := []
  threads : Tab Thread := []
  wygel : Wygel
  time : TimeUnit := {}
  commits : Commits := {}
  faults : Collector := {}
  lanes : Tab LaneHid := []
  /-- The background adapter of each quadrant (R186): one more than the place of the lane it visited last, and its lap. -/
  adapters : Tab (Nat × Nat) := []
  ports : Tab PortHid := []
  /-- Quadrants whose reference pair has not run for 1 ms (R173). -/
  refStopped : List Nat := []
  fcp : Fcp := {}
  core : SwitchCore := {}
  pools : Tab PoolDev := []
  thatch : Thatch := {}
  dir : Directory := {}
  folds : Folds := {}
  integ : Integrity := {}
  tlk : Tlk := {}
  slots : Tab SlotHid := []
  /-- The interface to the slot power die has failed past retry (R15). -/
  slotDieFailed : Bool := false
  /-- The interface to the gable die has failed past retry: Ethernet and rack time are lost (R16). -/
  gableFailed : Bool := false
  gable : Gable := {}
  /-- The register writes that wait until the soft reset has restored their blocks, in the order they came (R169). -/
  held : List Instr := []
  /-- The calibration and test registers that have been written, by address / 8 (R149). -/
  calibration : Tab Word := []
  deriving DecidableEq, Repr

/-- The block: the device and the queue of the commands that wait, first in, first out. -/
structure State where
  dev : Dev
  pending : List Instr
  deriving DecidableEq, Repr

/-- Reasons a step stops with a fault: none, since every command of this block answers a next state. -/
inductive Fault where
  /-- No meaning raises it. Safe. -/
  | unreachable
  deriving DecidableEq, Repr

/-- Reasons a step is refused. -/
inductive Refusal where
  /-- A command that has no meaning yet, by its mnemonic; only an arm of `exec` answers it. Safe. -/
  | notModelled (mnemonic : String)
  deriving DecidableEq, Repr

/-- The outcome of a command's or a step's run. -/
abbrev Result := Host.Outcome State Fault Refusal

/-- The key store as made (R85): entries 0 to 3 hold the keys bound to slots 0 to 3, the rest are blank. -/
def keysAtManufacture : List KeyEntry :=
  (List.range 16).map fun e =>
    if e < 4 then ⟨(Config.fusedKey e).1, (Config.fusedKey e).2, true, false⟩ else ⟨0, 0, false, false⟩

/-- The device right after the release of a power-on reset: every register at its reset value, the SRAM being zeroed. -/
def Dev.reset : Dev where
  fuses := ⟨Config.revLetter, Config.revDigit, Config.variantM, Config.serial⟩
  wygel := { keys := keysAtManufacture, slotEntry := [0, 1, 2, 3] }

/-- The block right after a power-on reset, with no command waiting. -/
def State.reset : State := ⟨Dev.reset, []⟩

end Sys2Proof.Machine
end

