-- ==== Sys2Proof/Machine/Ops.lean ====
section
/-! DEFINITION. The named operations every meaning is built from: registers and their fields, rack time, free values,
what the device sends, events, fault records, threads, taking a Wygel exception and returning from it, scratch. -/

namespace Sys2Proof.Machine

/-! Registers -/

/-- The lane rate ceiling in fuses (R2, R153): code 6 on a G512L, 5 on a G512M. -/
def maxRate (fu : Fuses) : Nat := if fu.variantM then 5 else 6

/-- The block table of R147: instances, and log2 of the stride (0 for a single-instance block). -/
def blockInfo (b : Nat) : Option (Nat × Nat) :=
  if b ≤ 0x04 then some (1, 0)
  else match b with
    | 0x05 => some (412, 6)
    | 0x06 => some (1, 0)
    | 0x07 => some (256, 8)
    | 0x08 => some (2, 20)
    | 0x09 => some (1, 0)
    | 0x0A => some (1, 0)
    | 0x10 => some (512, 12)
    | 0x11 => some (128, 16)
    | 0x12 => some (64, 16)
    | 0x13 => some (128, 12)
    | 0x14 => some (1, 0)
    | 0x15 => some (128, 17)
    | 0x16 => some (9216, 5)
    | 0x18 => some (1, 0)
    | 0x19 => some (131072, 4)
    | 0x1A => some (4194304, 3)
    | 0x1B => some (4096, 4)
    | 0x1C => some (1, 0)
    | 0x1D => some (8388608, 4)
    | 0x20 => some (256, 16)
    | 0x21 => some (32, 12)
    | 0x24 => some (128, 12)
    | 0x25 => some (1, 0)
    | 0x26 => some (1, 0)
    | 0x28 => some (32, 12)
    | 0x29 => some (48, 12)
    | _ => none

/-- The regions of R525: first bank, number of banks, default code (0 strong, 1 light). -/
def regionInfo (r : Nat) : Option (Nat × Nat × Nat) :=
  match r with
  | 0 => some (0, 128, 0)
  | 1 => some (128, 34, 0)
  | 2 => some (162, 48, 1)
  | 3 => some (210, 8, 1)
  | 4 => some (218, 4, 1)
  | 5 => some (222, 16, 1)
  | 6 => some (238, 4, 0)
  | 7 => some (242, 4, 1)
  | 8 => some (246, 4, 0)
  | 9 => some (250, 1, 0)
  | 15 => some (251, 5, 1)
  | _ => none

/-- The region a bank lies in by default (R525). -/
def bankRegion (b : Nat) : Nat :=
  if b < 128 then 0 else if b < 162 then 1 else if b < 210 then 2 else if b < 218 then 3 else if b < 222 then 4
  else if b < 238 then 5 else if b < 242 then 6 else if b < 246 then 7 else if b < 250 then 8 else if b < 251 then 9
  else 15

/-- The fixed part of a register's reset value. -/
def RK.base (k : RK) : Word := k.fields.foldl (fun v f => putBits v f.lo f.w f.rst) 0

/-- A register's reset value: its field map's, and the part that comes from fuses or from its index. Engines 14 and 15
are RESERVE with the reset value of WGL_CTRL.RESERVE (R60). -/
def Reg.resetVal (fu : Fuses) (r : Reg) : Word :=
  match r.k with
  | .CSP_BLOCK_DESC =>
    match blockInfo r.j with
    | some (n, s) => putBits (putBits (putBits (putBits 0 0 24 n) 32 6 s) 40 8 1) 48 1 1
    | none => 0
  | .CSP_ID => putBits (putBits (putBits (RK.base .CSP_ID) 16 4 fu.revLetter) 20 4 fu.revDigit) 24 1 fu.variantM.toNat
  | .CSP_SERIAL => fu.serial
  | .CSP_CAP => putBits (RK.base .CSP_CAP) 10 3 (maxRate fu)
  | .LAN_CTRL => putBits (RK.base .LAN_CTRL) 0 3 (maxRate fu)
  | .CXP_PORT_CFG => putBits (RK.base .CXP_PORT_CFG) 5 3 (maxRate fu)
  | .CXP_POOL_REGION => putBits (putBits 0 48 2 (r.j % 4)) 50 1 (if 4 ≤ r.j then 1 else 0)
  | .TLK_VC_CFG => putBits (RK.base .TLK_VC_CFG) 0 10 (if r.j = 0 then 64 else 16)
  | .WGL_ENG_CTRL => if 14 ≤ r.j then 1 else 0
  | .MEM_REGION =>
    match regionInfo r.j with
    | some (_, n, c) => putBits (putBits 0 0 1 c) 8 8 n
    | none => 0
  | .MEM_BANK_CFG =>
    match regionInfo (bankRegion r.i) with
    | some (b, _, _) => putBits (putBits 0 0 4 (bankRegion r.i)) 4 8 (r.i - b)
    | none => 0
  | .MEM_SCRUB_STAT => putBits 0 0 8 (16 * r.j)
  | .SB_CFG => putBits (RK.base .SB_CFG) 0 2 (if r.i < 32 then 2 else 0)
  | k => k.base

/-- What a register holds. -/
def Dev.rd (d : Dev) (r : Reg) : Word := (regFind d.regs r).getD (r.resetVal d.fuses)

/-- A register given a value. One that is back at its reset value is not listed. -/
def Dev.wr (d : Dev) (r : Reg) (v : Word) : Dev :=
  { d with regs :=
      if v = r.resetVal d.fuses then d.regs.filter (fun c => c.1 != r) else regInsert d.regs r v }

/-- A field of the register of its name at instance `i`, element `j`. -/
def Dev.fget (d : Dev) (f : Fld) (i : Nat := 0) (j : Nat := 0) : Nat := bitsOf (d.rd ⟨f.k, i, j⟩) f.lo f.w

/-- The field given the low bits of `n`. -/
def Dev.fset (d : Dev) (f : Fld) (n : Nat) (i : Nat := 0) (j : Nat := 0) : Dev :=
  d.wr ⟨f.k, i, j⟩ (putBits (d.rd ⟨f.k, i, j⟩) f.lo f.w n)

/-- Is the field non-zero? -/
def Dev.fon (d : Dev) (f : Fld) (i : Nat := 0) (j : Nat := 0) : Bool := d.fget f i j != 0

/-- A saturating counter raised by `n`. -/
def Dev.fadd (d : Dev) (f : Fld) (n : Nat) (i : Nat := 0) (j : Nat := 0) : Dev :=
  d.fset f (satAdd f.w (d.fget f i j) n) i j

/-- A wrapping counter raised by `n`. -/
def Dev.finc (d : Dev) (f : Fld) (n : Nat) (i : Nat := 0) (j : Nat := 0) : Dev := d.fset f (d.fget f i j + n) i j

/-- A field lowered by `n`, stopping at 0. -/
def Dev.fsub (d : Dev) (f : Fld) (n : Nat) (i : Nat := 0) (j : Nat := 0) : Dev := d.fset f (d.fget f i j - n) i j

/-- A bit of a field read, counted from the field's lowest. -/
def Dev.fbit (d : Dev) (f : Fld) (b : Nat) (i : Nat := 0) (j : Nat := 0) : Bool := (d.fget f i j).testBit b

/-- A bit of a field written. -/
def Dev.fputBit (d : Dev) (f : Fld) (b : Nat) (on : Bool) (i : Nat := 0) (j : Nat := 0) : Dev :=
  d.wr ⟨f.k, i, j⟩ (putBits (d.rd ⟨f.k, i, j⟩) (f.lo + b) 1 on.toNat)

/-- The part of a value that a reset of kind `k` sets: each field its map lists for `k` back at the reset value. -/
def Reg.restored (fu : Fuses) (k : RstKind) (r : Reg) (v : Word) : Word :=
  r.k.fields.foldl
    (fun v f => if f.res.contains k then putBits v f.lo f.w (bitsOf (r.resetVal fu) f.lo f.w) else v) v

/-- One register restored as a reset of kind `k` does (R7). -/
def Dev.restoreReg (k : RstKind) (d : Dev) (r : Reg) : Dev := d.wr r (r.restored d.fuses k (d.rd r))

/-- Every register that `sel` chooses restored by a reset of kind `k` (R7, R167). -/
def Dev.restore (d : Dev) (k : RstKind) (sel : Reg → Bool) : Dev :=
  ((d.regs.map (·.1)).filter sel).foldl (Dev.restoreReg k) d

/-- The 48-bit control-space address of a register (05_control_space.md, R144, R145). -/
def Reg.addr (r : Reg) : Nat :=
  let p := r.k.place
  let stride := match blockInfo p.block with | some (_, s) => 2 ^ s | none => 0
  p.block * 2 ^ 40 + r.i * stride + p.off + r.j * p.stride

/-- Does offset `x` of an instance of block `b` name an element of the register? -/
def RK.at? (b i x : Nat) (k : RK) : Option Reg :=
  let p := k.place
  if p.block = b ∧ p.off ≤ x ∧ (x - p.off) % p.stride = 0 ∧ (x - p.off) / p.stride < p.count then
    if b = 0x08 ∧ 0x8000 ≤ p.off ∧ i ≠ 0 then none
    else if k = .SCH_CLASS_CFG ∧ x = p.off then none
    else some ⟨k, i, (x - p.off) / p.stride⟩
  else none

/-- The register at a 48-bit address whose low three bits are ignored; none where nothing is mapped (R143, R144). -/
def regAt (a : Nat) : Option Reg :=
  let b := a / 2 ^ 40
  let x := a % 2 ^ 40 / 8 * 8
  match blockInfo b with
  | none => none
  | some (n, s) =>
    let i := if s = 0 then 0 else x / 2 ^ s
    let o := if s = 0 then x else x % 2 ^ s
    if n ≤ i then none else RK.all.findSome? (RK.at? b i o)

/-! Rack time (02_rack_time.md) -/

/-- NOW, in ns. -/
def Dev.now (d : Dev) : Nat := d.fget TIM_NOW.NOW

/-- The device's own time in ns: what NOW would read had it never been stepped. -/
def Dev.ownNow (d : Dev) : Nat := ((d.now : Int) - d.time.stepSum).toNat

/-- NOW moved on to `t`, if `t` lies ahead: the arrival of something due at `t` is the passage of time (assumption 2). -/
def Dev.upTo (d : Dev) (t : Nat) : Dev := if d.now < t then d.fset TIM_NOW.NOW t else d

/-- The next instant after NOW whose NOW is a multiple of `n`. -/
def nextMultiple (now n : Nat) : Nat := (now / n + 1) * n

/-- NOW moved on to the next swath boundary (R35), if it is not on one. -/
def Dev.toSwath (d : Dev) : Dev := if d.now % 1024 = 0 then d else d.upTo (nextMultiple d.now 1024)

/-- NOW moved on to the next course boundary, if it is not on one. -/
def Dev.toCourse (d : Dev) : Dev := if d.now % 1048576 = 0 then d else d.upTo (nextMultiple d.now 1048576)

/-- The course index of NOW. -/
def Dev.course (d : Dev) : Nat := d.now / 1048576

/-- Is the device in LOCKED or HOLDOVER? -/
def Dev.timeGood (d : Dev) : Bool := d.fget TIM_STATUS.STATE == 2 || d.fget TIM_STATUS.STATE == 3

/-- Is the device in the device fault state (R555)? -/
def Dev.inFault (d : Dev) : Bool := d.fon FLT_STATUS.FAULT_STATE

/-- The physical bank that holds a place of the default region table: the reserve bank that stands in for it once the
region table is locked, or the bank itself (R526). -/
def Dev.bankOf (d : Dev) (b : Nat) : Nat :=
  if d.fon CSP_STATUS.REGION_LOCK then
    match (List.range 5).find? fun k => d.fon MEM_SUBST.EN 0 k && d.fget MEM_SUBST.BANK 0 k == b with
    | some k => 251 + k
    | none => b
  else b

/-- Has the bank that holds a place begun to leave service (R537)? -/
def Dev.placeRetired (d : Dev) (b : Nat) : Bool := decide (2 ≤ d.fget MEM_BANK_STAT.STATE (d.bankOf b))

/-! Free values and what the device sends -/

/-- The free value the next open value takes. -/
def Dev.free (d : Dev) : Word := Config.freeValue d.freeCtr

/-- That free value is used up. -/
def Dev.used (d : Dev) : Dev := { d with freeCtr := d.freeCtr + 1 }

/-- The device sends something. -/
def Dev.send (d : Dev) (m : OutMsg) : Dev := { d with out := d.out ++ [m] }

/-- Is a manager session open (R611)? -/
def Dev.session (d : Dev) : Bool := d.fon ETH_SESSION.OPEN

/-- An EVENT message, sent while a session is open (R610). -/
def Dev.fcpEvent (d : Dev) (kind : Nat) (ws : List Word) : Dev :=
  if d.session then
    { d.send (.fcpEvent d.fcp.txSeq kind ws) with fcp := { d.fcp with txSeq := d.fcp.txSeq + 1 } }
  else d

/-! Threads (03_wygel_machine.md) -/

/-- A logical thread. -/
def Dev.thr (d : Dev) (t : Nat) : Thread := Tab.get {} d.threads t

/-- A logical thread given its record. -/
def Dev.setThr (d : Dev) (t : Nat) (th : Thread) : Dev := { d with threads := Tab.set d.threads t th }

/-- Every listed thread changed. -/
def Dev.mapThr (d : Dev) (f : Nat → Thread → Thread) : Dev :=
  { d with threads := d.threads.map fun e => (e.1, f e.1 e.2) }

/-- A thread is live in any state but FREE (R61). -/
def Thread.live (th : Thread) : Bool := th.state != .free

/-- Is it a manager thread (FID 0x100)? -/
def Thread.manager (th : Thread) : Bool := th.fid == 0x100

/-- General register `r`; g0 reads zero (R63). -/
def Thread.g (th : Thread) (r : Nat) : Word := if r = 0 then 0 else Tab.get 0 th.gpr r

/-- General register `r` written; a write to g0 is discarded (R63). -/
def Thread.setG (th : Thread) (r : Nat) (v : Word) : Thread :=
  if r = 0 then th else { th with gpr := Tab.set th.gpr r v }

/-- The program counter moved past the instruction. -/
def Thread.advance (th : Thread) : Thread := { th with pc := th.pc + 4 }

/-- The thread stopped in FAULTED with its registers kept; a hot update that waits counts it no longer (R93). -/
def Thread.stopped (th : Thread) : Thread := { th with state := .faulted, wait := .ready, marked := false }

/-- Event `e` latched in every thread that is live, that `sel` chooses and whose EVMASK accepts it (R66, R67). -/
def Dev.latch (d : Dev) (e : Nat) (sel : Nat → Thread → Bool) : Dev :=
  d.mapThr fun t th =>
    if th.live && sel t th && th.evmask.getLsbD e then { th with evpend := th.evpend ||| mask e 1 } else th

/-- An event for every live thread (COMMIT, MBOX). -/
def Dev.eventAll (d : Dev) (e : Nat) : Dev := d.latch e fun _ _ => true

/-- An event for every live manager thread (FAULT, TIME, SLOT, MIGR, FOLD and manager software). -/
def Dev.eventMgr (d : Dev) (e : Nat) : Dev := d.latch e fun _ th => th.manager

/-- The images that are loaded under an ID. -/
def Dev.imageOf (d : Dev) (id : Nat) : Option Image := d.wygel.images.find? fun im => im.id == id && im.fold.isNone

/-- The image whose code a thread runs: its own, or the supervisor image's while a fold thread is in the fold handler,
which runs at PRIV 0 (R77, assumption 12). -/
def Dev.codeOf (d : Dev) (th : Thread) : Option Image :=
  if th.manager then th.image.bind d.imageOf
  else if th.priv then d.wygel.images.find? fun im => im.fold == some th.fid
  else d.imageOf (d.fget WGL_CTRL.SUPV_IMG)

/-- The handler of a thread (R77): its own image's exception entry, or for a fold thread the fold entry of a supervisor
image with FLAGS bit 0 set; none where it is absent (R78, R98). -/
def Dev.handlerOf (d : Dev) (th : Thread) : Option Nat :=
  if th.manager then
    match th.image.bind d.imageOf with
    | some im => if im.excEntry = 0xFFFFFFFF then none else some im.excEntry
    | none => none
  else
    match d.imageOf (d.fget WGL_CTRL.SUPV_IMG) with
    | some im => if im.flags.testBit 0 && im.foldEntry != 0xFFFFFFFF then some im.foldEntry else none
    | none => none

/-! Fault records: raising one (17_fault_collection.md, R548, R549). The collector takes them in Collect.lean. -/

/-- A fault source. -/
def Dev.src (d : Dev) (u : Nat) : FaultSrc := Tab.get {} d.faults.srcs u

/-- A fault source given its record. -/
def Dev.setSrc (d : Dev) (u : Nat) (s : FaultSrc) : Dev :=
  { d with faults := { d.faults with srcs := Tab.set d.faults.srcs u s } }

/-- Records waiting, the oldest of them marked OVERFLOW. -/
def markOverflow : List (FaultRec × Bool) → List (FaultRec × Bool)
  | (r, _) :: rest => (r, true) :: rest
  | [] => []

/-- A unit raises a record: it holds up to 4; a fifth is counted in DROPPED and sets OVERFLOW in the next one that the unit
passes on (R549). -/
def Dev.raise (d : Dev) (u : Nat) (r : FaultRec) : Dev :=
  let s := d.src u
  if s.queue.length < 4 then d.setSrc u { s with queue := s.queue ++ [(r, false)] }
  else (d.setSrc u { s with queue := markOverflow s.queue }).fadd FLT_UNIT_STAT.DROPPED 1 u

/-- The unit's CONDITION bit (R551). -/
def Dev.condition (d : Dev) (u : Nat) (on : Bool) : Dev := d.fset FLT_UNIT_STAT.CONDITION on.toNat u

/-- A CE record without a target. -/
def recCE (code detail : Nat) : FaultRec := ⟨0, code, 0, 0, BitVec.ofNat 64 detail⟩
/-- A DE record without a target. -/
def recDE (code detail : Nat) : FaultRec := ⟨1, code, 0, 0, BitVec.ofNat 64 detail⟩
/-- A UC-C record of a port. -/
def recPort (code p detail : Nat) : FaultRec := ⟨2, code, 1, p, BitVec.ofNat 64 detail⟩
/-- A UC-C record of a fold. -/
def recFold (code f detail : Nat) : FaultRec := ⟨2, code, 2, f, BitVec.ofNat 64 detail⟩
/-- A UC-C record of a slot. -/
def recSlot (code s detail : Nat) : FaultRec := ⟨2, code, 3, s, BitVec.ofNat 64 detail⟩

/-! Taking a Wygel exception, and returning from one (R76 to R79) -/

/-- A thread stops for good with its registers kept, and a thread fault goes to the collector; a fold thread also sets its
fold's program status (R78). The detail holds the logical thread in bits [15:8] and the code in [7:0] (assumption 13). -/
def Dev.threadFault (d : Dev) (t code : Nat) : Dev :=
  let th := d.thr t
  let d := d.setThr t { th.stopped with ecode := code }
  let d := if th.manager then d else d.fset FLD_PROG_STAT.STATE 3 th.fid
  d.raise (202 + th.engine)
    ⟨1, 0x90, if th.manager then 0 else 2, if th.manager then 0 else th.fid, BitVec.ofNat 64 (t * 256 + code)⟩

/-- Taking exception `code` with the program counter EPC holds and the detail: EPC and ECAUSE are saved, PRIV becomes 0 and
the thread goes on at its handler (R77). With no handler, or with EXL already 1, it goes to FAULTED and keeps them (R78). -/
def Dev.takeException (d : Dev) (t code : Nat) (epc : BitVec 32) (detail : Nat) : Dev :=
  let th := d.thr t
  match d.handlerOf th with
  | none => d.threadFault t code
  | some h =>
    if th.ecause.getLsbD 9 then d.threadFault t code
    else
      d.setThr t { th with
        state := .run, wait := .ready, ecode := code, epc := epc, priv := false, pc := BitVec.ofNat 32 h &&& 0xFFFFFFFC,
        ecause := putBits (putBits (putBits (putBits 0 0 8 code) 8 1 th.priv.toNat) 9 1 1) 32 32 detail }

/-- Returning from an exception: the PC from EPC (a multiple of 4, R64), PRIV from ECAUSE.PPRIV, EXL cleared (R79). -/
def Thread.eret (th : Thread) : Thread :=
  { th with pc := th.epc &&& 0xFFFFFFFC, priv := th.ecause.getLsbD 8, ecause := th.ecause &&& ~~~ mask 9 1 }

/-! Scratch (R70, R71, R111) -/

/-- The scratch bytes an image's base and a thread's 22-bit address name: `none` for an address outside a fold thread's
window (R70). A thread at PRIV 0 reaches all of scratch. The base is that of the image's pages, which a hot update keeps
whatever its SCRATCH_SIZE (R92). -/
def Dev.scratchAddr (d : Dev) (th : Thread) (a width : Nat) : Option Nat :=
  match d.codeOf th with
  | some im =>
    let base := if im.scratchPages = 0 then 0 else im.scratchPage * 4096
    if th.priv then (if a + width ≤ im.scratchSize then some (base + a) else none)
    else some ((base + a) % 2 ^ 22)
  | none => some (a % 2 ^ 22)

/-- Does an access touch a poisoned 8-byte word of scratch? -/
def Dev.scratchPoisoned (d : Dev) (a width : Nat) : Bool :=
  d.wygel.scratchPoison.any fun w => decide (w * 8 < a + width ∧ a < w * 8 + 8)

/-- Bytes stored to scratch. A poisoned 8-byte word is clean again once a store covers all of it (R111). -/
def Dev.scratchStore (d : Dev) (a : Nat) (bs : List Byte) : Dev :=
  { d with wygel := { d.wygel with
      scratch := d.wygel.scratch.writeList a bs,
      scratchPoison := d.wygel.scratchPoison.filter fun w => !(decide (a ≤ w * 8 ∧ w * 8 + 8 ≤ a + bs.length)) } }

/-- `n` bytes of scratch. -/
def Dev.scratchLoad (d : Dev) (a n : Nat) : List Byte := d.wygel.scratch.readList a n

end Sys2Proof.Machine
end

