-- ==== Sys2Proof/Machine/Epoch.lean ====
section
/-! DEFINITION. The two copies of every staged register (02_rack_time.md, R24, R43): the register file holds the copy in
force; from an instant to the end of its resync the other copy is kept where it differs. -/

namespace Sys2Proof.Machine

/-- The bits of a register that are staged: the ones that have two copies. -/
def RK.stagedMask (k : RK) : Word :=
  k.fields.foldl (fun m f => if f.acc = .st ∨ f.acc = .stlk then m ||| mask f.lo f.w else m) 0

/-- The register in the copy that epoch bit `e` names. Word 0 of a field entry has two copies though no commit stages it
(R373, R374). -/
def Dev.rdE (d : Dev) (e : Bool) (r : Reg) : Word :=
  if e = d.commits.epoch then d.rd r
  else
    match regFind d.commits.inactive r with
    | none => d.rd r
    | some v => if r.k = .TMP_FIELD0 then v else (v &&& r.k.stagedMask) ||| (d.rd r &&& ~~~ r.k.stagedMask)

/-- A field in the copy that epoch bit `e` names. -/
def Dev.cfg (d : Dev) (e : Bool) (f : Fld) (i : Nat := 0) (j : Nat := 0) : Nat := bitsOf (d.rdE e ⟨f.k, i, j⟩) f.lo f.w

/-- Is the field non-zero in the copy of epoch `e`? -/
def Dev.cfgOn (d : Dev) (e : Bool) (f : Fld) (i : Nat := 0) (j : Nat := 0) : Bool := d.cfg e f i j != 0

/-- A field written in both copies by the device itself (R233, R234, R375). -/
def Dev.fsetBoth (d : Dev) (f : Fld) (n : Nat) (i : Nat := 0) (j : Nat := 0) : Dev :=
  let d := d.fset f n i j
  { d with commits := { d.commits with
      inactive := d.commits.inactive.map fun c => if c.1 = ⟨f.k, i, j⟩ then (c.1, putBits c.2 f.lo f.w n) else c } }

/-- A register cleared in both copies. -/
def Dev.clearBoth (d : Dev) (r : Reg) : Dev :=
  let d := d.wr r 0
  { d with commits := { d.commits with inactive := d.commits.inactive.filter fun c => c.1 != r } }

/-- The elements (instance, index) of a register name that hold something other than their reset value in either copy. -/
def Dev.listed (d : Dev) (k : RK) : List (Nat × Nat) :=
  let cells := (d.regs ++ d.commits.inactive).filter fun c => c.1.k == k
  cells.foldl (fun acc c => if acc.contains (c.1.i, c.1.j) then acc else acc ++ [(c.1.i, c.1.j)]) []

/-- Does a commit that is neither applied nor withdrawn write a register (R38, R41)? A write names the 8-byte register its
address lies in. -/
def Dev.pendingWrites (d : Dev) (r : Reg) : Bool :=
  ((List.range 16).filter fun n => decide (2 ≤ d.fget TIM_COMMIT_STAT.STATE 0 n)).any fun n => (Tab.get [] d.commits.sets n).any fun w => decide (w.addr / 8 * 8 = r.addr)

/-- The virtual bridges of a switch (R226, R258): VB_COUNT of them, 0 acting as 1. -/
def Dev.vbCount (d : Dev) (e : Bool) (v : Nat) : Nat := max 1 (d.cfg e CXP_VSW_CFG.VB_COUNT v)

/-- KIND of a virtual bridge in the copy of epoch `e`: 1 a downstream port, 2 a logical device, 0 unbound; bridge 0 holds the pool
device, and a bridge at or above VB_COUNT does not exist. -/
def Dev.vbKindAt (d : Dev) (e : Bool) (v b : Nat) : Nat :=
  if b = 0 ∨ d.vbCount e v ≤ b then 0 else d.cfg e CXP_VB.KIND v b % 3

/-- KIND of a virtual bridge in force. -/
def Dev.vbKind (d : Dev) (v b : Nat) : Nat := d.vbKindAt d.commits.epoch v b

/-- The virtual bridges bound to a port, or to a logical device behind it, in the copy of epoch `e`: virtual switch and bridge. -/
def Dev.bridgesOn (d : Dev) (e : Bool) (p : Nat) : List (Nat × Nat) :=
  (d.listed .CXP_VB).filter fun x => d.vbKindAt e x.1 x.2 != 0 && d.cfg e CXP_VB.PORT x.1 x.2 == p

/-- The logical device of a bridge; 0 where the bridge holds a whole port. -/
def Dev.vbLd (d : Dev) (e : Bool) (v b : Nat) : Nat := if d.vbKindAt e v b = 2 then d.cfg e CXP_VB.LD v b else 0

/-- Does the configuration in force carry Ridge reservations on a port's egress? -/
def Dev.carriesRidge (d : Dev) (p : Nat) : Bool :=
  (d.listed .SCH_RIDGE_RES).any fun x => x.1 == p && d.fon SCH_RIDGE_RES.VALID p x.2

/-- Is a port's direction held for Ridge reservations in force, or of an accepted commit (R200, R201, R204)? -/
def Dev.ridgeHeld (d : Dev) (p : Nat) : Bool := d.carriesRidge p || (Tab.get ({} : PortHid) d.ports p).heldFor != []

/-- The holds of the commits that `gone` names end; the policy resumes with the next window (R201). -/
def Dev.endHolds (d : Dev) (gone : Nat → Bool) : Dev :=
  let held := (d.ports.filter fun e => e.2.heldFor != []).map (·.1)
  let strip := fun (x : PortHid) => { x with heldFor := x.heldFor.filter fun n => !(gone n) }
  let d := { d with ports := d.ports.map fun e => (e.1, strip e.2) }
  held.foldl (fun d p => if d.fon LAN_FALLOW_STAT.HELD (4 * p) then
    d.fset LAN_FALLOW_STAT.HELD (d.ridgeHeld p).toNat (4 * p) else d) d

/-- How an FM-API background operation ends with a final commit status (R617). -/
def backgroundCode (status : Nat) : RetCode :=
  if status = 1 then .success else if status = 8 then .invalidInput
  else if status = 4 ∨ status = 9 ∨ status = 10 then .internalError else .busy

/-- A commit of set `n` has a final status: the FM-API background operation that waits for it ends (R617). -/
def Dev.commitFinal (d : Dev) (n status : Nat) : Dev :=
  if d.gable.background = some n then
    ({ d with gable := { d.gable with background := none } } : Dev).send (.background (backgroundCode status))
  else d

/-- The frame that a GATHER has taken (R385), by its key of the frame table. -/
def Dev.gatherFrame (d : Dev) : Option Nat := d.thatch.gather.map fun g => g.dev * 2 ^ 24 + g.frame

/-- Frames that commits had reserved are free again (R374): those `sel` names, a GATHER's own apart. -/
def Dev.endReserved (d : Dev) (sel : Nat → Bool) : Dev :=
  let keep := d.gatherFrame
  let fs := d.thatch.frames.map fun (e : Nat × FrameState) =>
    if e.2 == .reserved && sel e.1 && some e.1 != keep then (e.1, FrameState.zeroed) else e
  { d with thatch := { d.thatch with frames := fs } }

end Sys2Proof.Machine
end

