-- ==== Sys2Proof/Machine/Flags.lean ====
section
/-! DEFINITION. The flag computations of 04_wygel_instructions.md (R107, R108, R109): each gives the result and the flags. -/

namespace Sys2Proof.Machine

/-- Z and N of a result with C and V given (R107). -/
def flagsOf (r : Word) (c v : Bool) : Flags := ⟨decide (r = 0), r.msb, c, v⟩

/-- Addition: C is the carry out, V signed overflow. -/
def addFlags (a b : Word) : Word × Flags :=
  let r := a + b
  (r, flagsOf r (decide (2 ^ 64 ≤ a.toNat + b.toNat)) (a.msb == b.msb && r.msb != a.msb))

/-- Subtraction: C is the borrow, V signed overflow. -/
def subFlags (a b : Word) : Word × Flags :=
  let r := a - b
  (r, flagsOf r (decide (a.toNat < b.toNat)) (a.msb != b.msb && r.msb != a.msb))

/-- A result with C = V = 0. -/
def logicFlags (r : Word) : Word × Flags := (r, flagsOf r false false)

/-- Shift left by `n` from 0 to 63: C is the last bit out, 0 if the count is 0. -/
def shlFlags (a : Word) (n : Nat) : Word × Flags :=
  let r := a <<< n
  (r, flagsOf r (n != 0 && a.getLsbD (64 - n)) false)

/-- Shift right with zeros in. -/
def shrFlags (a : Word) (n : Nat) : Word × Flags :=
  let r := a >>> n
  (r, flagsOf r (n != 0 && a.getLsbD (n - 1)) false)

/-- Shift right with the sign in. -/
def sarFlags (a : Word) (n : Nat) : Word × Flags :=
  let r := a.sshiftRight n
  (r, flagsOf r (n != 0 && a.getLsbD (n - 1)) false)

/-- The high 64 bits of the unsigned product. -/
def mulHigh (a b : Word) : Word := BitVec.ofNat 64 (a.toNat * b.toNat / 2 ^ 64)

/-- Unsigned division; by zero, all ones with V = 1. -/
def divuFlags (a b : Word) : Word × Flags :=
  if b = 0 then (BitVec.allOnes 64, flagsOf (BitVec.allOnes 64) false true) else (a / b, flagsOf (a / b) false false)

/-- Unsigned remainder; by zero, the dividend with V = 1. -/
def remuFlags (a b : Word) : Word × Flags :=
  if b = 0 then (a, flagsOf a false true) else (a % b, flagsOf (a % b) false false)

/-- The flags as a word, Z, N, C, V from bit 0 upward (R117). -/
def Flags.toWord (f : Flags) : Word :=
  BitVec.ofNat 64 (f.z.toNat + 2 * f.n.toNat + 4 * f.c.toNat + 8 * f.v.toNat)

/-- The flags from a word (R117). -/
def Flags.ofWord (w : Word) : Flags := ⟨w.getLsbD 0, w.getLsbD 1, w.getLsbD 2, w.getLsbD 3⟩

/-- Does condition `c` of R115 hold? `none` for a COND that R115 does not list. -/
def condHolds (c : Nat) (f : Flags) : Option Bool :=
  match c with
  | 0 => some true
  | 1 => some f.z
  | 2 => some (!f.z)
  | 3 => some f.c
  | 4 => some (!f.c)
  | 5 => some f.n
  | 6 => some (!f.n)
  | 7 => some f.v
  | 8 => some (!f.v)
  | 9 => some (f.n != f.v)
  | 10 => some (f.n == f.v)
  | 11 => some (f.z || f.n != f.v)
  | 12 => some (!f.z && f.n == f.v)
  | 13 => some (!f.c && !f.z)
  | 14 => some (f.c || f.z)
  | _ => none

end Sys2Proof.Machine
end

