-- ==== Sys2Proof/Machine/Crypto.lean ====
section
/-! DEFINITION. The cryptographic functions the spec names by their standards: SHA-384 and ECDSA P-384 (R82, R618) and AES-256-CMAC
(R489). The spec cites them and gives none of their steps; they are those of FIPS 180-4, FIPS 186-5, FIPS 197 and
SP 800-38B (PRESUMED, assumption 9). -/

namespace Sys2Proof.Machine

/-! SHA-384 -/

/-- The 80 round constants: the first 64 bits of the fractions of the cube roots of the first 80 primes. -/
def shaK : List (BitVec 64) :=
  [0x428a2f98d728ae22, 0x7137449123ef65cd, 0xb5c0fbcfec4d3b2f, 0xe9b5dba58189dbbc, 0x3956c25bf348b538] ++
  [0x59f111f1b605d019, 0x923f82a4af194f9b, 0xab1c5ed5da6d8118, 0xd807aa98a3030242, 0x12835b0145706fbe] ++
  [0x243185be4ee4b28c, 0x550c7dc3d5ffb4e2, 0x72be5d74f27b896f, 0x80deb1fe3b1696b1, 0x9bdc06a725c71235] ++
  [0xc19bf174cf692694, 0xe49b69c19ef14ad2, 0xefbe4786384f25e3, 0x0fc19dc68b8cd5b5, 0x240ca1cc77ac9c65] ++
  [0x2de92c6f592b0275, 0x4a7484aa6ea6e483, 0x5cb0a9dcbd41fbd4, 0x76f988da831153b5, 0x983e5152ee66dfab] ++
  [0xa831c66d2db43210, 0xb00327c898fb213f, 0xbf597fc7beef0ee4, 0xc6e00bf33da88fc2, 0xd5a79147930aa725] ++
  [0x06ca6351e003826f, 0x142929670a0e6e70, 0x27b70a8546d22ffc, 0x2e1b21385c26c926, 0x4d2c6dfc5ac42aed] ++
  [0x53380d139d95b3df, 0x650a73548baf63de, 0x766a0abb3c77b2a8, 0x81c2c92e47edaee6, 0x92722c851482353b] ++
  [0xa2bfe8a14cf10364, 0xa81a664bbc423001, 0xc24b8b70d0f89791, 0xc76c51a30654be30, 0xd192e819d6ef5218] ++
  [0xd69906245565a910, 0xf40e35855771202a, 0x106aa07032bbd1b8, 0x19a4c116b8d2d0c8, 0x1e376c085141ab53] ++
  [0x2748774cdf8eeb99, 0x34b0bcb5e19b48a8, 0x391c0cb3c5c95a63, 0x4ed8aa4ae3418acb, 0x5b9cca4f7763e373] ++
  [0x682e6ff3d6b2b8a3, 0x748f82ee5defb2fc, 0x78a5636f43172f60, 0x84c87814a1f0ab72, 0x8cc702081a6439ec] ++
  [0x90befffa23631e28, 0xa4506cebde82bde9, 0xbef9a3f7b2c67915, 0xc67178f2e372532b, 0xca273eceea26619c] ++
  [0xd186b8c721c0c207, 0xeada7dd6cde0eb1e, 0xf57d4f7fee6ed178, 0x06f067aa72176fba, 0x0a637dc5a2c898a6] ++
  [0x113f9804bef90dae, 0x1b710b35131c471b, 0x28db77f523047d84, 0x32caab7b40c72493, 0x3c9ebe0a15c9bebc] ++
  [0x431d67c49c100d4c, 0x4cc5d4becb3e42b6, 0x597f299cfc657e2a, 0x5fcb6fab3ad6faec, 0x6c44198c4a475817]

/-- The initial hash value: the first 64 bits of the fractions of the square roots of the ninth to sixteenth primes. -/
def sha384Start : List (BitVec 64) :=
  [0xcbbb9d5dc1059ed8, 0x629a292a367cd507, 0x9159015a3070dd17, 0x152fecd8f70e5939, 0x67332667ffc00b31] ++
  [0x8eb44a8768581511, 0xdb0c2e0d64f98fa7, 0x47b5481dbefa4fa4]

/-- The message schedule, newest word first, with `n` more words. -/
def shaSchedule : Nat → List (BitVec 64) → List (BitVec 64)
  | 0, w => w
  | n + 1, w =>
    let at' := fun k => w.getD k 0
    let x := at' 1
    let y := at' 14
    let s1 := x.rotateRight 19 ^^^ x.rotateRight 61 ^^^ (x >>> 6)
    let s0 := y.rotateRight 1 ^^^ y.rotateRight 8 ^^^ (y >>> 7)
    shaSchedule n ((s1 + at' 6 + s0 + at' 15) :: w)

/-- One round on the eight working words. -/
def shaRound (v : List (BitVec 64)) (kw : BitVec 64 × BitVec 64) : List (BitVec 64) :=
  match v with
  | [a, b, c, d, e, f, g, h] =>
    let t1 := h + (e.rotateRight 14 ^^^ e.rotateRight 18 ^^^ e.rotateRight 41) + ((e &&& f) ^^^ (~~~e &&& g)) + kw.1 + kw.2
    let t2 := (a.rotateRight 28 ^^^ a.rotateRight 34 ^^^ a.rotateRight 39) + ((a &&& b) ^^^ (a &&& c) ^^^ (b &&& c))
    [t1 + t2, a, b, c, d + t1, e, f, g]
  | v => v

/-- A hash value after one block of 128 bytes. -/
def shaBlock (h : List (BitVec 64)) (block : List Byte) : List (BitVec 64) :=
  let w := (List.range 16).map fun k => BitVec.ofNat 64 (beNat ((block.drop (8 * k)).take 8))
  let v := (shaK.zip (shaSchedule 64 w.reverse).reverse).foldl shaRound h
  List.zipWith (· + ·) h v

/-- A padded message hashed, block by block. -/
def shaBlocks : Nat → List Byte → List (BitVec 64) → List (BitVec 64)
  | 0, _, h => h
  | n + 1, bs, h => shaBlocks n (bs.drop 128) (shaBlock h (bs.take 128))

/-- A value as `n` big-endian bytes. -/
def beBytes (n v : Nat) : List Byte := (leBytes n v).reverse

/-- SHA-384: the 48 bytes of the digest. -/
def sha384 (m : List Byte) : List Byte :=
  let n := (m.length + 17 + 127) / 128
  let padded := m ++ 0x80 :: List.replicate (128 * n - m.length - 17) 0 ++ beBytes 16 (8 * m.length)
  ((shaBlocks n padded sha384Start).take 6).flatMap fun w => beBytes 8 w.toNat

/-! ECDSA P-384 -/

/-- The prime of the P-384 curve, its constant b, the order of its base point, and the base point. -/
def p384 : Nat := 2 ^ 384 - 2 ^ 128 - 2 ^ 96 + 2 ^ 32 - 1
def p384b : Nat :=
  0xb3312fa7e23ee7e4988e056be3f82d19181d9c6efe8141120314088f5013875ac656398d8a2ed19d2a85c8edd3ec2aef
def p384n : Nat :=
  0xffffffffffffffffffffffffffffffffffffffffffffffffc7634d81f4372ddf581a0db248b0a77aecec196accc52973
def p384g : Nat × Nat :=
  (0xaa87ca22be8b05378eb1c71ef320ad746e1d3b628ba79b9859f741e082542a385502f25dbf55296c3a545e3872760ab7,
   0x3617de4a96262c6f5d9e98bf9292dc29f8f41dbd289a147ce9da3113b5f0b8c00a60b1ce1d7e819d7a431d7c90ea0e5f)

/-- Do x and y name a point on the P-384 curve (R86)? -/
def onP384 (x y : Nat) : Bool :=
  decide (x < p384) && decide (y < p384) && (y * y + 3 * x) % p384 == (x * x * x + p384b) % p384

/-- The lowest `n` bits of `e` as an exponent of `a`, modulo `m`. -/
def powMod (m a e : Nat) : Nat → Nat
  | 0 => 1 % m
  | n + 1 =>
    let x := powMod m (a * a % m) (e / 2) n
    if e % 2 = 1 then a * x % m else x

/-- The inverse modulo a prime of 384 bits. -/
def invMod (m a : Nat) : Nat := powMod m a (m - 2) 384

/-- The sum of two points of the curve; none is the point at infinity. -/
def ecAdd : Option (Nat × Nat) → Option (Nat × Nat) → Option (Nat × Nat)
  | none, b => b
  | a, none => a
  | some (x1, y1), some (x2, y2) =>
    if x1 = x2 ∧ (y1 + y2) % p384 = 0 then none
    else
      let k :=
        if x1 = x2 then (3 * x1 * x1 + (p384 - 3)) * invMod p384 (2 * y1 % p384) % p384
        else (y2 + p384 - y1) * invMod p384 ((x2 + p384 - x1) % p384) % p384
      let x := (k * k + 2 * p384 - x1 - x2) % p384
      some (x, (k * (x1 + p384 - x) + p384 - y1) % p384)

/-- The multiple of a point by the lowest `n` bits of `k`. -/
def ecMul (k : Nat) (pt : Option (Nat × Nat)) : Nat → Option (Nat × Nat)
  | 0 => none
  | n + 1 =>
    let x := ecMul (k / 2) (ecAdd pt pt) n
    if k % 2 = 1 then ecAdd pt x else x

/-- Does a signature, r and then s of 48 big-endian bytes each, verify over a message under the key (x, y) (R82)? -/
def signatureOk (x y : Nat) (message signature : List Byte) : Bool :=
  let r := beNat (signature.take 48)
  let s := beNat (signature.drop 48)
  if !(onP384 x y) || r == 0 || decide (p384n ≤ r) || s == 0 || decide (p384n ≤ s) then false
  else
    let w := invMod p384n s
    let u1 := beNat (sha384 message) * w % p384n
    let u2 := r * w % p384n
    match ecAdd (ecMul u1 (some p384g) 384) (ecMul u2 (some (x, y)) 384) with
    | none => false
    | some (v, _) => v % p384n == r

/-! AES-256-CMAC -/

/-- A byte of the field of AES times x. -/
def aesTwice (a : Byte) : Byte := (a <<< 1) ^^^ (if a.getLsbD 7 then 0x1B else 0)

/-- The product of `a` and the lowest `n` bits of `b` in the field of AES. -/
def aesMul (a b : Byte) : Nat → Byte
  | 0 => 0
  | n + 1 => (if b.getLsbD 0 then a else 0) ^^^ aesMul (aesTwice a) (b >>> 1) n

/-- The inverse in that field, a^254 (0 for 0). -/
def aesInv (a : Byte) : Byte :=
  let sq := fun x => aesMul x x 8
  let a2 := sq a
  let a4 := sq a2
  let a8 := sq a4
  let a16 := sq a8
  let a32 := sq a16
  let a64 := sq a32
  [a4, a8, a16, a32, a64, sq a64].foldl (fun x y => aesMul x y 8) a2

/-- The S-box. -/
def aesSub (a : Byte) : Byte :=
  let b := aesInv a
  b ^^^ b.rotateLeft 1 ^^^ b.rotateLeft 2 ^^^ b.rotateLeft 3 ^^^ b.rotateLeft 4 ^^^ 0x63

/-- Two lists of bytes, exclusive-or. -/
def xorBytes (a b : List Byte) : List Byte := List.zipWith (· ^^^ ·) a b

/-- The key schedule, its four-byte words newest first, with `n` more words from word `i` on. -/
def aesWords : Nat → Nat → List (List Byte) → List (List Byte)
  | 0, _, w => w
  | n + 1, i, w =>
    let t := w.headD []
    let t :=
      if i % 8 = 0 then xorBytes ((t.drop 1 ++ t.take 1).map aesSub) [BitVec.ofNat 8 (2 ^ (i / 8 - 1)), 0, 0, 0]
      else if i % 8 = 4 then t.map aesSub else t
    aesWords n (i + 1) (xorBytes (w.getD 7 []) t :: w)

/-- The 15 round keys of a 32-byte key. -/
def aesKeys (key : List Byte) : List (List Byte) :=
  let w := (aesWords 52 8 ((List.range 8).map fun k => (key.drop (4 * k)).take 4).reverse).reverse
  (List.range 15).map fun r => ((w.drop (4 * r)).take 4).flatten

/-- SubBytes and ShiftRows on a block, its columns one after another. -/
def aesShift (b : List Byte) : List Byte :=
  (List.range 16).map fun i => aesSub (b.getD ((i + 4 * (i % 4)) % 16) 0)

/-- MixColumns. -/
def aesMix (b : List Byte) : List Byte :=
  (List.range 16).map fun i =>
    let at' := fun k => b.getD (i / 4 * 4 + (i + k) % 4) 0
    aesTwice (at' 0) ^^^ aesTwice (at' 1) ^^^ at' 1 ^^^ at' 2 ^^^ at' 3

/-- AES-256 of one block of 16 bytes under its round keys. -/
def aesBlock (keys : List (List Byte)) (b : List Byte) : List Byte :=
  let x := ((keys.drop 1).take 13).foldl (fun x k => xorBytes (aesMix (aesShift x)) k) (xorBytes b (keys.headD []))
  xorBytes (aesShift x) (keys.getD 14 [])

/-- A block doubled for the subkeys of CMAC. -/
def cmacDouble (b : List Byte) : List Byte :=
  let v := beNat b
  beBytes 16 (if v < 2 ^ 127 then 2 * v else (2 * v - 2 ^ 128) ^^^ 0x87)

/-- CBC over `n` whole blocks. -/
def cmacChain (keys : List (List Byte)) : Nat → List Byte → List Byte → List Byte
  | 0, _, x => x
  | n + 1, m, x => cmacChain keys n (m.drop 16) (aesBlock keys (xorBytes x (m.take 16)))

/-- AES-256-CMAC (R489) with a key of four words, bytes 8k to 8k + 7 in word k: the 16 bytes of the MAC. -/
def cmac (key : List Word) (m : List Byte) : List Byte :=
  let keys := aesKeys (key.flatMap fun w => leBytes 8 w.toNat)
  let zero := List.replicate 16 0
  let k1 := cmacDouble (aesBlock keys zero)
  let n := (m.length + 15) / 16 - 1
  let rest := m.drop (16 * n)
  let tail :=
    if rest.length = 16 then xorBytes rest k1
    else xorBytes (rest ++ 0x80 :: List.replicate (15 - rest.length) 0) (cmacDouble k1)
  aesBlock keys (xorBytes (cmacChain keys n m zero) tail)

end Sys2Proof.Machine
end

