-- ==== Sys2Proof/Machine/Operands.lean ====
section
/-! DEFINITION. The operand forms of the Wygel formats (R104): immediates, scratch and control-space addresses, the instant
of the timed format; and the four special-purpose register numbers of R117 as thread state. -/

namespace Sys2Proof.Machine

/-- A 16-bit immediate extended with its sign (sext). -/
def sext16 (i : BitVec 16) : Word := i.signExtend 64

/-- A 16-bit immediate extended with zeros (zext). -/
def zext16 (i : BitVec 16) : Word := i.zeroExtend 64

/-- The scratch address g[ra] + sext(IMM16), modulo 2^22 (R110). -/
def scratchEA (th : Thread) (ra : Nat) (imm : BitVec 16) : Nat := (th.g ra + sext16 imm).toNat % 2 ^ 22

/-- The control-space address g[ra] + sext(OFF16), bits [63:48] ignored (R112). -/
def controlEA (th : Thread) (ra : Nat) (off : BitVec 16) : Nat := (th.g ra + sext16 off).toNat % 2 ^ 48

/-- The branch target PC + 4 × sext(OFF21) (R115). -/
def branchTarget (pc : BitVec 32) (off : BitVec 21) : BitVec 32 := pc + 4 * off.signExtend 32

/-- A register's value as a program counter: a multiple of 4 (R64; assumption 14). A value beyond 32 bits lies outside
every code section, as the largest program counter does. -/
def toPC (v : Word) : BitVec 32 := if v.toNat < 2 ^ 32 then v.setWidth 32 &&& 0xFFFFFFFC else 0xFFFFFFFC

/-- An instant g[ra] + SW × 1,024 ns (R123). -/
def instantOf (v : Word) (sw : BitVec 9) : Nat := (v.toNat + sw.toNat * 1024) % 2 ^ 64

/-- The commit instant: g[ra] with bits [9:0] taken as zero, plus SW × 1,024 ns (R130). -/
def commitInstant (v : Word) (sw : BitVec 9) : Nat := (v.toNat / 1024 * 1024 + sw.toNat * 1024) % 2 ^ 64

/-- Special register `n` of a thread (R117); NOW comes from the time unit. -/
def specialReg (now : Nat) (th : Thread) (n : Nat) : Word :=
  match n with
  | 0 => BitVec.ofNat 64 now
  | 1 => BitVec.ofNat 64 th.priv.toNat
  | 2 => BitVec.ofNat 64 th.fid
  | 3 => th.evmask
  | 4 => th.epc.zeroExtend 64
  | 5 => th.ecause
  | _ => BitVec.ofNat 64 (th.flags.z.toNat + 2 * th.flags.n.toNat + 4 * th.flags.c.toNat + 8 * th.flags.v.toNat)

/-- The bits of EVMASK a thread may change: all of them, or 56 to 63 at PRIV 1 (R63, R117). -/
def evmaskWritable (th : Thread) : Word := if th.priv then mask 56 8 else BitVec.allOnes 64

end Sys2Proof.Machine
end

