-- ==== Sys2Proof/Machine/Session.lean ====
section
/-! DEFINITION. The Fabric Control Protocol's requests (19_ethernet_and_chain.md, R609 to R612): which session they need,
each SEQ executed at most once, the kept replies. -/

namespace Sys2Proof.Machine

/-- The reply to a request: status and payload. Status 0 OK, 1 BADTYPE, 2 BADLEN, 3 NOSESSION, 4 BUSY, 5 STALE, 6 REFUSED,
7 FULL, 8 NOTLOADED (R609). -/
structure Reply where
  status : Nat
  payload : List Byte
  deriving DecidableEq, Repr

/-- A reply with no payload. -/
def Reply.code (n : Nat) : Reply := ⟨n, []⟩

/-! Identifiers and addresses (R605, R630, R631, R634) -/

/-- SERIAL[39:0] (R630). -/
def Dev.serial40 (d : Dev) : Nat := bitsOf (d.rd ⟨.CSP_SERIAL, 0, 0⟩) 0 40

/-- The EUI-64: 0x0A, 0x00, 0x00 and SERIAL[39:0], most significant byte first. -/
def Dev.eui64 (d : Dev) : BitVec 64 := BitVec.ofNat 64 (0x0A0000 * 2 ^ 40 + d.serial40)

/-- The MAC address of Ethernet port `p`: 0x0A + 0x10 × p and SERIAL[39:0]. -/
def Dev.macOf (d : Dev) (p : Nat) : BitVec 48 := BitVec.ofNat 48 ((0x0A + 0x10 * p) * 2 ^ 40 + d.serial40)

/-- An IPv6 address written as one number, as R634 holds it: byte 0, the most significant, in bits 7:0. -/
def inet (n : Nat) : BitVec 128 := BitVec.ofNat 128 (beNat (leBytes 16 n))

/-- The link-local address: fe80:: with the EUI-64 as interface identifier, bit 1 of its first byte inverted. -/
def Dev.linkLocal (d : Dev) : BitVec 128 := inet (0xFE80 * 2 ^ 112 + (d.eui64 ^^^ (2#64 <<< 56)).toNat)

/-- The chain alias of chain address `a`: fe80::1d4a:0:0:a. -/
def chainAlias (a : Nat) : BitVec 128 := inet (0xFE80 * 2 ^ 112 + 0x1D4A * 2 ^ 48 + a)

/-- The multicast group ff02::1d4a:1 (R628). -/
def chainGroup : BitVec 128 := inet (0xFF02 * 2 ^ 112 + 0x1D4A0001)

/-- The MAC address of that group: 33:33 and the address's last four bytes (PRESUMED, assumption 189). -/
def chainGroupMac : BitVec 48 := 0x33331D4A0001

/-- A configured address of a port; zero is unused. -/
def Dev.ethAddr (d : Dev) (p k : Nat) : BitVec 128 :=
  BitVec.ofNat 128 ((d.rd ⟨.ETH_ADDR, p, 2 * k⟩).toNat + (d.rd ⟨.ETH_ADDR, p, 2 * k + 1⟩).toNat * 2 ^ 64)

/-- Is an IPv6 address one of a port: link-local, the chain alias while CHAIN_VALID is 1, or a configured one? -/
def Dev.ownAddr (d : Dev) (p : Nat) (a : BitVec 128) : Bool :=
  a == d.linkLocal || (d.fon CHN_STATUS.VALID && a == chainAlias (d.fget CHN_STATUS.ADDR)) ||
    (a != 0 && (a == d.ethAddr p 0 || a == d.ethAddr p 1))

/-- Is a frame for the device: no fragment (R606), tagged as VLAN_EN and VLAN_ID say (R633), to the port's MAC address and an
address of its own, or to the group of R628? A frame tagged otherwise is discarded (DESIGN CHOICE, assumption 190). -/
def Dev.frameFor (d : Dev) (p : Nat) (f : EthFrame) : Bool :=
  !f.fragment &&
    f.vlan == (if d.fon ETH_CFG.VLAN_EN p then some (BitVec.ofNat 12 (d.fget ETH_CFG.VLAN_ID p)) else none) &&
    ((f.mac == d.macOf p && d.ownAddr p f.dest) || (f.mac == chainGroupMac && f.dest == chainGroup))

/-- ETH_CFG.MTU in force: outside 4,400 to 9,000 it acts as the nearer limit (R633). -/
def Dev.mtu (d : Dev) (p : Nat) : Nat := min 9000 (max 4400 (d.fget ETH_CFG.MTU p))

/-- Does a message with `n` bytes of payload fit the MTU, with the IPv6 header of 40 bytes, the UDP header of 8 and its own of 16?
One that does not is not sent: the device never fragments (R606; DESIGN CHOICE, assumption 191). -/
def Dev.fits (d : Dev) (p n : Nat) : Bool := decide (64 + n ≤ d.mtu p)

/-- The reply sent, on the port its request arrived on (R606). -/
def Dev.reply (d : Dev) (port typ seq : Nat) (r : Reply) : Dev :=
  if d.fits port r.payload.length then d.send (.fcpReply port typ r.status seq r.payload) else d

/-- The reply kept for its SEQ, whose request is executed: the last 64 SEQs are kept (R612). -/
def Dev.keep (d : Dev) (typ seq : Nat) (r : Reply) : Dev :=
  { d with fcp := { d.fcp with
      replies := ((seq, typ, r.status, r.payload) :: d.fcp.replies).take 64,
      executing := d.fcp.executing.filter (· != seq) } }

/-- A request's reply that came later: kept and sent. -/
def Dev.finish (d : Dev) (port typ seq : Nat) (r : Reply) : Dev := (d.keep typ seq r).reply port typ seq r

/-- Is a SEQ older than every one of 64 kept (R612)? -/
def Dev.staleSeq (d : Dev) (seq : Nat) : Bool :=
  d.fcp.replies.length == 64 && d.fcp.replies.all fun r => decide (seq < r.1)

/-- Does a message reach the device: is its boot over (R623), with the Ethernet ports enabled (R671, R633), the link up and
the gable die's interface there (R16), in a frame for the device? One in the secured channel needs the channel. -/
def Dev.reached (d : Dev) (via : FcpFrom) : Bool :=
  !d.gableFailed && d.gable.boot == .up && d.fget CSP_STATUS.PHASE != 3 && d.fon ETH_CFG.EN via.port &&
    d.fon ETH_STAT.LINK via.port && d.frameFor via.port via.frame && (!via.secured || d.fon ETH_STAT.SECURED via.port)

/-- Does the device take part in bale streams: it neither boots, nor is it in test mode or in recovery, and its gable die's
interface is there (R16, R620, R624)? -/
def Dev.streams (d : Dev) : Bool :=
  !d.gableFailed && d.gable.boot == .up && d.fget CSP_STATUS.PHASE != 3 && !d.fon CHN_BOOT.RECOVERY

/-- A message crosses the gable die's interface; a second retry of a flit of it is a corrected error of that interface (R13). -/
def Dev.gableCross (d : Dev) (via : FcpFrom) : Dev := if via.retried then d.raise 168 (recCE 0x30 8) else d

/-- A message of type `typ` arrives: what comes outside the secured channel that REQUIRE asks for is discarded and counted
(R608, R636); in recovery a type that is not accepted is refused (R624). -/
def Dev.arrive (d : Dev) (via : FcpFrom) (typ seq : Nat) (act : Dev → Dev) : Dev :=
  if !(d.reached via) then d
  else
    let d := d.gableCross via
    if !via.secured && d.fon ETH_MACSEC.REQUIRE via.port then d.fadd ETH_CNT.REFUSED 1
    else if d.fon CHN_BOOT.RECOVERY && !([0x01, 0x02, 0x03, 0x10, 0x70, 0x31].contains typ) then
      d.reply via.port typ seq (.code 6)
    else act d

/-- The session ends, and drops the transmit queue (R611, R614). -/
def Dev.endSession (d : Dev) : Dev :=
  let d := ((d.fset ETH_SESSION.OPEN 0).fset ETH_SESSION.SESSION 0).fset ETH_SESSION.KEEPALIVE_MS 0
  { d with fcp := { d.fcp with replies := [], executing := [] }, wygel := { d.wygel with txMail := [] } }

/-- A request of type `typ` that needs the open session: NOSESSION without it, the kept reply for a repeated SEQ, STALE for
an old one, else executed once (R610, R612). `act` answers the reply, or none where it comes later. -/
def Dev.fcpRequest (via : FcpFrom) (typ session seq : Nat) (act : Dev → Dev × Option Reply) (d : Dev) : Dev :=
  d.arrive via typ seq fun d =>
    let port : Nat := via.port
    if !(d.session && d.fget ETH_SESSION.SESSION == session) then
      (d.fadd ETH_CNT.REFUSED 1).reply port typ seq (.code 3)
    else
      let d := { d with fcp := { d.fcp with lastHeard := d.now } }
      match d.fcp.replies.find? fun r => r.1 == seq with
      | some r => d.reply port r.2.1 seq ⟨r.2.2.1, r.2.2.2⟩
      | none =>
        if d.fcp.executing.contains seq then d
        else if d.staleSeq seq then (d.fadd ETH_CNT.STALE 1).reply port typ seq (.code 5)
        else
          match act { d with fcp := { d.fcp with executing := d.fcp.executing ++ [seq] } } with
          | (d, some r) => d.finish port typ seq r
          | (d, none) => d

end Sys2Proof.Machine
end

