-- ==== Sys2Proof/Machine/Images.lean ====
section
/-! DEFINITION. Program images (03_wygel_machine.md): the header and its rules (R81 to R84), the order of the checks (R700),
placing pages and threads, loading (R87), key updates (R86), hot update (R91 to R93) and engine drain (R94, R95). -/

namespace Sys2Proof.Machine

/-- The path an image arrives by (R84). -/
inductive ImgPath where
  | fcp
  | boot
  | fold (f : Nat)
  deriving DecidableEq, Repr

/-- A little-endian header field of an image. -/
def imgField (bs : List Byte) (off n : Nat) : Nat := leNat ((bs.drop off).take n)

/-- `n` rounded up to a multiple of 64. -/
def up64 (n : Nat) : Nat := (n + 63) / 64 * 64

/-- Are all bytes from `a` up to `b` zero? -/
def zeroBytes (bs : List Byte) (a b : Nat) : Bool := ((bs.drop a).take (b - a)).all fun x => x == 0

/-- MAGIC and FORMAT (R81). -/
def imgMagicOk (bs : List Byte) : Bool := imgField bs 0 4 == 0x4C475957 && imgField bs 4 2 == 1

/-- The header rules of R81 and the limits of R83 for an image of TYPE 1 or 2. -/
def imgProgramOk (bs : List Byte) (codeMax scratchMax startMin startMax : Nat) : Bool :=
  let codeLen := imgField bs 0x14 4
  let dataLen := imgField bs 0x1C 4
  let scratch := imgField bs 0x20 4
  let start := imgField bs 0x34 1
  codeLen % 4 == 0 && decide (4 ≤ codeLen) && decide (codeLen ≤ codeMax) && decide (dataLen ≤ scratch) &&
    (scratch != 0 || dataLen == 0) && decide (scratch ≤ scratchMax) && decide (startMin ≤ start) &&
    decide (start ≤ startMax) && decide (imgField bs 7 1 < 4)

/-- The header rules of R83 for a key-update image. -/
def imgKeyOk (bs : List Byte) : Bool :=
  imgField bs 0x14 4 == 0 && imgField bs 0x1C 4 == 100 && imgField bs 0x20 4 == 0 && imgField bs 0x34 1 == 0 &&
    imgField bs 7 1 == 0 && imgField bs 0x24 4 == 0xFFFFFFFF && imgField bs 0x28 4 == 0xFFFFFFFF &&
    imgField bs 0x2C 4 == 0xFFFFFFFF && imgField bs 0x30 4 == 0xFFFFFFFF

/-- Every header rule and limit of R81 to R84, with the path rule (check 2 of R700; a boot slot also needs a thread,
R622). -/
def imgHeaderOk (bs : List Byte) (path : ImgPath) : Bool :=
  let codeEnd := imgField bs 0x10 4 + imgField bs 0x14 4
  let dataOff := imgField bs 0x18 4
  let dataEnd := dataOff + imgField bs 0x1C 4
  let typeOk := match path with
    | .fcp => (imgField bs 6 1 == 1 && imgProgramOk bs 0x100000 0x100000 0 4) || (imgField bs 6 1 == 3 && imgKeyOk bs)
    | .boot => imgField bs 6 1 == 1 && imgProgramOk bs 0x100000 0x100000 1 4
    | .fold _ => imgField bs 6 1 == 2 && imgProgramOk bs 0x4000 0x4000 1 1
  typeOk && imgField bs 8 4 != 0xFFFFFFFF && imgField bs 0x10 4 == 0x80 && dataOff == up64 codeEnd &&
    decide (imgField bs 0x35 1 ≤ 3) && decide (imgField bs 0x36 1 ≤ 1) && zeroBytes bs 0x37 0x38 &&
    zeroBytes bs 0x3C 0x80 && imgField bs 0x38 4 == up64 dataEnd + 96 && imgField bs 0x38 4 == bs.length &&
    zeroBytes bs codeEnd dataOff && zeroBytes bs dataEnd (up64 dataEnd)

/-- The bytes the signature covers, and the signature (R82). -/
def imgSigned (bs : List Byte) : List Byte × List Byte := (bs.take (bs.length - 96), bs.drop (bs.length - 96))

/-- The key store entry bound to a key slot. -/
def Dev.slotKey (d : Dev) (slot : Nat) : KeyEntry :=
  d.wygel.keys.getD (d.wygel.slotEntry.getD slot 0) ⟨0, 0, false, false⟩

/-- A fold's installed key: FLD_KEY words hold x and then y, 48 big-endian bytes each (assumption 15). -/
def Dev.foldKeyBytes (d : Dev) (f : Nat) : List Byte :=
  ((List.range 12).map fun k => leBytes 8 (d.rd ⟨.FLD_KEY, f, k⟩).toNat).flatten

/-- Check 4 of R700: the signature, against the bound key or the fold's key; an unsigned fold image needs UNSIGNED_OK
(R466). -/
def Dev.sigOk (d : Dev) (bs : List Byte) (path : ImgPath) : Bool :=
  let (m, s) := imgSigned bs
  match path with
  | .fold f =>
    if d.fon FLD_KEY_CFG.KEY_VALID f then
      signatureOk (beNat ((d.foldKeyBytes f).take 48)) (beNat ((d.foldKeyBytes f).drop 48)) m s
    else d.fon FLD_CFG.UNSIGNED_OK f
  | _ => let k := d.slotKey (imgField bs 0x35 1); signatureOk k.x k.y m s

/-- The blank fuse entry a key update burns next. -/
def Dev.blankKey (d : Dev) : Option Nat := d.wygel.keys.findIdx? fun k => !k.used

/-- The checks of R86 on a key-update record: the load status. -/
def Dev.keyRecordStatus (d : Dev) (bs : List Byte) : Nat :=
  let r := (bs.drop (imgField bs 0x18 4)).take 100
  let slot := imgField r 0 1
  if 4 ≤ slot ∨ slot = imgField bs 0x35 1 then 2
  else if !(zeroBytes r 1 4) then 2
  else if !(onP384 (beNat ((r.drop 4).take 48)) (beNat ((r.drop 52).take 48))) then 2
  else if d.blankKey.isNone then 9 else 0

/-- Burning the new key: the slot's old entry is revoked, the slot bound to the new one (R86). -/
def Dev.burnKey (d : Dev) (bs : List Byte) : Dev :=
  let r := (bs.drop (imgField bs 0x18 4)).take 100
  let slot := imgField r 0 1
  match d.blankKey with
  | none => d
  | some e =>
    let old := d.wygel.slotEntry.getD slot 0
    let ks := d.wygel.keys.set e ⟨beNat ((r.drop 4).take 48), beNat ((r.drop 52).take 48), true, false⟩
    let ks := ks.set old { (ks.getD old ⟨0, 0, false, false⟩) with revoked := true }
    { d with wygel := { d.wygel with keys := ks, slotEntry := d.wygel.slotEntry.set slot e } }

/-- Pages of 4 KiB that `n` bytes take. -/
def pagesFor (n : Nat) : Nat := (n + 4095) / 4096

/-- The lowest run of `n` free pages out of 1,024 that overlaps none of the runs in use (assumption 16). -/
def firstFit (used : List (Nat × Nat)) (n : Nat) : Option Nat :=
  if n = 0 then some 0
  else (0 :: used.map fun u => u.1 + u.2).filter
      (fun s => decide (s + n ≤ 1024) && used.all fun u => decide (u.2 = 0 ∨ s + n ≤ u.1 ∨ u.1 + u.2 ≤ s))
    |>.foldl (fun best s => match best with | none => some s | some b => some (min b s)) none

/-- The images whose pages are in use, the one a hot update holds among them. -/
def Dev.allImages (d : Dev) : List Image :=
  d.wygel.images ++ match d.wygel.update with | some u => [u.image] | none => []

/-- The pages of four banks that retirement took (R537), as runs. -/
def Dev.retiredRuns (d : Dev) (first : Nat) : List (Nat × Nat) :=
  ((List.range 4).filter fun k => d.placeRetired (first + k)).map fun k => (k * 256, 256)

/-- The program-store runs in use. -/
def Dev.codeRuns (d : Dev) : List (Nat × Nat) :=
  (d.allImages.map fun im => (im.codePage, im.codePages)) ++ d.retiredRuns 238

/-- The scratch runs in use. -/
def Dev.scratchRuns (d : Dev) : List (Nat × Nat) :=
  (d.allImages.map fun im => (im.scratchPage, im.scratchPages)) ++ d.retiredRuns 242

/-- The live threads. -/
def Dev.liveThreads (d : Dev) : List (Nat × Thread) := d.threads.filter fun e => e.2.live

/-- The slots of an engine that live threads hold. -/
def Dev.slotsHeld (d : Dev) (e : Nat) : List Nat := (d.liveThreads.filter fun x => x.2.engine == e).map fun x => x.2.slot

/-- Free contexts of an ACTIVE engine; 0 of any other. -/
def Dev.freeSlots (d : Dev) (e : Nat) : Nat := if d.fget WGL_ENG_CTRL.STATE 0 e = 0 then 4 - (d.slotsHeld e).length else 0

/-- The ACTIVE engine with the most free contexts, the lowest-numbered among equals (R120). -/
def Dev.bestEngine (d : Dev) : Option Nat :=
  (List.range 16).foldl
    (fun best e =>
      if d.freeSlots e = 0 then best
      else match best with | none => some e | some b => if d.freeSlots b < d.freeSlots e then some e else some b) none

/-- All free contexts on ACTIVE engines. -/
def Dev.freeContexts (d : Dev) : Nat := ((List.range 16).map d.freeSlots).sum

/-- The lowest-numbered free logical thread, with the engine and slot a new thread takes (assumption 16). -/
def Dev.newContext (d : Dev) : Option (Nat × Nat × Nat) :=
  match d.bestEngine, (List.range 64).find? fun t => !(d.thr t).live with
  | some e, some t =>
    match (List.range 4).find? fun s => !((d.slotsHeld e).contains s) with
    | some s => some (t, e, s)
    | none => none
  | _, _ => none

/-- A thread started at a code offset with a value in g1, every other register 0 (R87, R120); none without a context. -/
def Dev.startThread (d : Dev) (im : Image) (entry : Word) (g1 : Word) : Dev × Option Nat :=
  match d.newContext with
  | none => (d, none)
  | some (t, e, s) =>
    (d.setThr t { state := .run, engine := e, slot := s, priv := im.fold.isSome, fid := im.fold.getD 0x100,
                  gpr := Tab.set [] 1 g1, pc := toPC entry, image := some im.id, started := d.now }, some t)

/-- `n` threads of an image started at ENTRY, g1 the index within the image. -/
def Dev.startThreads (im : Image) (entry n : Nat) (d : Dev) : Dev :=
  (List.range n).foldl (fun d i => (d.startThread im (BitVec.ofNat 64 entry) (BitVec.ofNat 64 i)).1) d

/-- The image record an image's bytes describe, in the given runs. -/
def imgRecord (bs : List Byte) (codePage scratchPage scratchPages : Nat) (fold : Option Nat) : Image where
  id := imgField bs 8 4
  version := imgField bs 0xC 4
  flags := imgField bs 7 1
  codeLen := imgField bs 0x14 4
  scratchSize := imgField bs 0x20 4
  entry := imgField bs 0x24 4
  excEntry := imgField bs 0x28 4
  foldEntry := imgField bs 0x2C 4
  updateEntry := imgField bs 0x30 4
  codePage := codePage
  codePages := pagesFor (imgField bs 0x14 4)
  scratchPage := scratchPage
  scratchPages := scratchPages
  fold := fold
  digest := sha384 bs

/-- The fold contexts in use (R90). -/
def Dev.foldThreads (d : Dev) : Nat := (d.liveThreads.filter fun e => !e.2.manager).length

/-- Is the load a hot update of a loaded manager image (R91, R700)? -/
def Dev.hotTarget (d : Dev) (bs : List Byte) (path : ImgPath) : Option Image :=
  match path with
  | .fold _ => none
  | _ => if (imgField bs 7 1).testBit 1 then d.imageOf (imgField bs 8 4) else none

/-- The checks of R700 in their order: the load status, 0 when all pass. FOLD_THREADS above 32, to which R98 gives no meaning,
acts as 32 (DESIGN CHOICE, assumption 173). -/
def Dev.loadStatus (d : Dev) (bs : List Byte) (path : ImgPath) : Nat :=
  let isFold := match path with | .fold _ => true | _ => false
  let isKey := imgField bs 6 1 == 3
  let same := d.wygel.images.filter fun im => im.id == imgField bs 8 4
  let hot := d.hotTarget bs path
  if !(imgMagicOk bs) then 1
  else if !(imgHeaderOk bs path) then 2
  else if !isFold && (d.slotKey (imgField bs 0x35 1)).revoked then 4
  else if !(d.sigOk bs path) then 3
  else if !isKey && same.any (fun im => decide (imgField bs 0xC 4 < im.version)) then 5
  else if !isKey && !same.isEmpty && !((imgField bs 7 1).testBit 1) then 8
  else if hot.any (fun im => decide (im.scratchSize < imgField bs 0x20 4)) then 2
  else if isKey then d.keyRecordStatus bs
  else if (firstFit d.codeRuns (pagesFor (imgField bs 0x14 4))).isNone then 6
  else if hot.isNone && (firstFit d.scratchRuns (pagesFor (imgField bs 0x20 4))).isNone then 6
  else if hot.isNone && decide (d.freeContexts < imgField bs 0x34 1) then 7
  else if isFold && decide (min 32 (d.fget WGL_CTRL.FOLD_THREADS) ≤ d.foldThreads) then 7
  else 0

/-- Code bytes copied into the program store: the run is overwritten whole. -/
def Dev.copyCode (d : Dev) (bs : List Byte) (page : Nat) : Dev :=
  let len := imgField bs 0x14 4
  let pad := pagesFor len * 4096 - len
  { d with wygel := { d.wygel with
      pstore := d.wygel.pstore.writeList (page * 4096) ((bs.drop 0x80).take len ++ List.replicate pad 0),
      pstoreBad := d.wygel.pstoreBad.filter fun w => !(decide (page * 256 ≤ w ∧ w < (page + pagesFor len) * 256)) } }

/-- The data section copied to the start of the scratch run, the rest of the scratch size zeroed (R87). -/
def Dev.copyData (d : Dev) (bs : List Byte) (page : Nat) : Dev :=
  let len := imgField bs 0x1C 4
  let size := imgField bs 0x20 4
  d.scratchStore (page * 4096) ((bs.drop (imgField bs 0x18 4)).take len ++ List.replicate (size - len) 0)

/-- WGL_LOAD_STAT after a load (R99). -/
def Dev.loadDone (d : Dev) (status id : Nat) : Dev :=
  (d.fset WGL_LOAD_STAT.STATUS status).fset WGL_LOAD_STAT.IMAGE_ID id

/-- An image's pages and record given up. -/
def Dev.dropImage (d : Dev) (id : Nat) (fold : Option Nat) : Dev :=
  { d with wygel := { d.wygel with images := d.wygel.images.filter fun im => !(im.id == id && im.fold == fold) } }

/-- A marked thread held at a safe point (R91). -/
def Dev.park (d : Dev) (t : Nat) : Dev := d.setThr t { d.thr t with state := .parked }

/-- The threads that a hot update counts: the marked live threads of its manager image. One that halts, faults or is killed
while it waits is marked no longer (R91, R93). -/
def Dev.updateThreads (d : Dev) (id : Nat) : List (Nat × Thread) :=
  d.liveThreads.filter fun e => e.2.manager && e.2.image == some id && e.2.marked

/-- Once every live thread of the image is parked, all switch together: each resumes at UPDATE_ENTRY of the new code,
the old pages are freed, and the load is answered OK (R91). -/
def Dev.trySwitch (d : Dev) : Dev :=
  match d.wygel.update with
  | none => d
  | some u =>
    if (d.updateThreads u.image.id).all fun e => e.2.state == .parked then
      let d := d.mapThr fun _ th =>
        if th.state == .parked && th.manager && th.image == some u.image.id then
          { th with state := .run, marked := false, wait := .ready, pc := toPC (BitVec.ofNat 64 u.image.updateEntry) }
        else th
      let d := d.dropImage u.image.id none
      let d := { d with wygel := { d.wygel with images := d.wygel.images ++ [u.image], update := none } }
      (d.loadDone 0 u.image.id).finish u.port 0x10 u.seq ⟨0, [0]⟩
    else d

/-- A hot update marks every live thread of the image, one that is FAULTED already among them, which never parks (R91); one that
waits in EVW parks at once. -/
def Dev.beginUpdate (d : Dev) (im : Image) (port seq : Nat) : Dev :=
  let d := { d with wygel := { d.wygel with update := some ⟨im, d.now, port, seq⟩ } }
  let d := d.mapThr fun _ th =>
    if th.live && th.manager && th.image == some im.id then
      match th.wait with
      | .event _ _ => { th with marked := true, state := .parked }
      | _ => { th with marked := true }
    else th
  d.trySwitch

/-- A hot update given up with TIMEOUT: each parked thread resumes its YLD or EVW, the new pages are freed (R93). -/
def Dev.abortUpdate (d : Dev) : Dev :=
  match d.wygel.update with
  | none => d
  | some u =>
    let d := d.mapThr fun _ th =>
      if th.manager && th.image == some u.image.id && th.marked then
        if th.state == .parked then { th with marked := false, state := if th.wait == .ready then .run else .wait }
        else { th with marked := false }
      else th
    let d := { d with wygel := { d.wygel with update := none } }
    (d.loadDone 0xA u.image.id).finish u.port 0x10 u.seq ⟨0, [0xA]⟩

/-- The load of an image that passed every check (R87, R91, R86): kept, copied and started. A hot update's status comes
when it switches or times out; then `true` says that the reply waits. -/
def Dev.acceptImage (d : Dev) (bs : List Byte) (path : ImgPath) (port seq : Nat) : Dev × Bool :=
  if imgField bs 6 1 = 3 then (d.burnKey bs, false)
  else
    let code := (firstFit d.codeRuns (pagesFor (imgField bs 0x14 4))).getD 0
    let fold := match path with | .fold f => some f | _ => none
    match d.hotTarget bs path with
    | some old =>
      let im := imgRecord bs code old.scratchPage old.scratchPages none
      ((d.copyCode bs code).beginUpdate im port seq, true)
    | none =>
      let size := imgField bs 0x20 4
      let scr := (firstFit d.scratchRuns (pagesFor size)).getD 0
      let im := imgRecord bs code scr (pagesFor size) fold
      let d := (d.copyCode bs code).copyData bs scr
      let d := { d with wygel := { d.wygel with images := d.wygel.images ++ [im] } }
      (d.startThreads im im.entry (imgField bs 0x34 1), false)

/-- A load: the checks, then the image kept or nothing of it; WGL_LOAD_STAT written. The status, none while a hot update
waits for its threads. -/
def Dev.loadImage (d : Dev) (bs : List Byte) (path : ImgPath) (port seq : Nat) : Dev × Option Nat :=
  let st := d.loadStatus bs path
  if st = 0 then
    let (d, waits) := d.acceptImage bs path port seq
    if waits then (d, none) else (d.loadDone 0 (imgField bs 8 4), some 0)
  else (d.loadDone st (imgField bs 8 4), some st)

/-- A fold image is freed, and its fold's program reads IDLE, when its thread leaves the live states (R90, R466). -/
def Dev.freeFoldImage (d : Dev) (f : Nat) : Dev :=
  { d with wygel := { d.wygel with images := d.wygel.images.filter fun im => im.fold != some f } }

/-- A job whose launching thread is gone names no thread (64): its completion will be dropped (R142). -/
def WorkOwner.orphan (t : Nat) : WorkOwner → WorkOwner
  | .job f s h t' c => .job f s h (if t' = t then 64 else t') c
  | .ring f q i => .ring f q i

/-- A thread's context released (R61): FREE, its waits and outstanding reads dropped; WGL_THR_STAT reads as at reset, which the
spec gives for reset alone (DESIGN CHOICE, assumption 174). A fold thread's image goes with it, and a hot update that waits for
the thread counts it no longer (R90, R93). -/
def Dev.release (d : Dev) (t : Nat) : Dev :=
  let th := d.thr t
  let d := { d with threads := Tab.erase d.threads t }
  let ws := d.folds.work.map fun w => { w with owner := w.owner.orphan t }
  let d := { d with folds := { d.folds with work := ws } }
  let d := if th.live && !th.manager then d.freeFoldImage th.fid else d
  let d := if th.live && !th.manager && th.state != .faulted then d.fset FLD_PROG_STAT.STATE 0 th.fid else d
  d.trySwitch

/-- The lowest-numbered RESERVE engine promoted to ACTIVE, if there is one (R94, R96). -/
def Dev.promote (d : Dev) : Dev :=
  match (List.range 16).find? fun e => d.fget WGL_ENG_CTRL.STATE 0 e == 1 with
  | some e => d.fset WGL_ENG_CTRL.STATE 0 0 e
  | none => d

/-- A DRAINING engine with no live thread left is OUT; DRAIN and NOROOM clear (R94, R101). -/
def Dev.drainCheck (d : Dev) (e : Nat) : Dev :=
  if d.fget WGL_ENG_CTRL.STATE 0 e = 2 ∧ d.slotsHeld e = [] then
    ((d.fset WGL_ENG_CTRL.STATE 3 0 e).fset WGL_ENG_CTRL.DRAIN 0 0 e).fset WGL_ENG_CTRL.NOROOM 0 0 e
  else d

/-- Every DRAINING engine looked at again. -/
def Dev.drainAll (d : Dev) : Dev := (List.range 16).foldl Dev.drainCheck d

/-- A thread ended: released, and a draining engine that is empty now goes OUT. -/
def Dev.endThread (d : Dev) (t : Nat) : Dev := (d.release t).drainAll

/-- A register write that a thread has issued and that still waits for its block goes on without the thread (R62); a read is
discarded. -/
def Dev.orphanWrite (d : Dev) (t : Nat) : Dev :=
  match (d.thr t).wait with
  | .regAccess (.load _) _ _ => d
  | .regAccess op width a => { d with wygel := { d.wygel with orphans := d.wygel.orphans ++ [⟨t, (d.thr t).priv, op, width, a⟩] } }
  | _ => d

/-- A kill stops the thread whatever it does (R61, R62). Writes it has issued complete and stay made; its reads are discarded
when they return, because no thread waits for them. -/
def Dev.kill (d : Dev) (t : Nat) : Dev := if (d.thr t).live then (d.orphanWrite t).endThread t else d

end Sys2Proof.Machine
end

