-- ==== Sys2Proof/Machine/Issue.lean ====
section
/-! DEFINITION. Issuing a Wygel instruction: the fetch, the ILLEGAL and PRIV checks every instruction shares (R68, R80,
R105, R106), and the shapes the arithmetic and memory groups share. A thread that is not in RUN issues nothing. -/

namespace Sys2Proof.Machine

/-- Is the device held in a power-on or warm reset, or by THERMTRIP (R642, R643, R685)? -/
def Dev.inReset (d : Dev) : Bool := d.gable.boot == .heldPower || d.gable.boot == .heldWarm || d.gable.boot == .tripped

/-- The effect of a command that starts or ends a reset (R639, R643, R685) or the boot (R623), the queue left as it is. No
command changes a fuse (R655). -/
def onReset (s : State) (f : Dev → Dev) : Result := .next { s with dev := { f s.dev with fuses := s.dev.fuses } }

/-- The effect of any other command, whatever state the device is in: where the device stands between power and its boot is
the resets' alone to change (R639). -/
def onAny (s : State) (f : Dev → Dev) : Result :=
  onReset s fun d => let e := f d
    { e with gable := { e.gable with boot := d.gable.boot } }

/-- A command's effect on the device, the queue left as it is. While the device is held in reset nothing acts (R642). -/
def onDev (s : State) (f : Dev → Dev) : Result := onAny s fun d => if d.inReset then d else f d

/-- Does control space answer: is every register restored (R170), and the device not in manufacturing test mode, in which it
answers only the test access port (R671)? -/
def Dev.answers (d : Dev) : Bool := (d.gable.boot == .up || d.gable.boot == .restored) && d.fget CSP_STATUS.PHASE != 3

/-- The effect of a write of a control-space register in a block that answers through a soft reset (R169). -/
def onReg (s : State) (f : Dev → Dev) : Result := onAny s fun d => if d.answers then f d else d

/-- The effect of command `c`, a write of a register in any other block: while a soft reset is in progress it waits, and it is
carried out after it (R169; assumption 172). -/
def onWaitingReg (c : Instr) (s : State) (f : Dev → Dev) : Result :=
  onAny s fun d =>
    if !d.answers then d else if d.fget CSP_STATUS.PHASE = 4 then { d with held := d.held ++ [c] } else f d

/-- The 16-byte program-store word a thread fetches from. -/
def fetchWord (im : Image) (pc : BitVec 32) : Nat := (im.codePage * 4096 + pc.toNat) / 16

/-- An uncorrectable program-store word: the thread is FAULTED at once, with no handler, and the cluster of the page's bank
logs a DE event naming the page (R80, R525). -/
def Dev.fetchFault (d : Dev) (t page : Nat) : Dev :=
  let th := d.thr t
  let d := d.setThr t th.stopped
  let d := if th.manager then d else d.fset FLD_PROG_STAT.STATE 3 th.fid
  d.raise (170 + (238 + page / 256) / 16) (recDE 0x91 page)

/-- A wake cause arrives (R648, R650): 1 the instant, 2 an MBOX, 3 a fault record. An entry in progress stops with RESULT WOKEN;
in Standby the exit starts. -/
def Dev.wakeBy (d : Dev) (cause : Nat) : Dev :=
  if d.gable.entering then
    (({ d with gable := { d.gable with entering := false } } : Dev).fset RST_STANDBY_STAT.RESULT 7).fset RST_CTRL.STANDBY 0
  else if d.fget CSP_STATUS.PHASE = 2 ∧ d.gable.wake.isNone then { d with gable := { d.gable with wake := some cause } }
  else d

/-- Are all threads held: in Device Standby, or on the way into it (R648)? -/
def Dev.threadsHeld (d : Dev) : Bool := d.gable.entering || d.fget CSP_STATUS.PHASE == 2

/-- Must a thread that has given up its engine wait: is another ready thread of the engine still to issue since its YLD
(R116)? -/
def Dev.mustYield (d : Dev) (t : Nat) : Bool :=
  d.threads.any fun e => e.2.state == .run && e.2.engine == (d.thr t).engine && e.2.owes.contains t

/-- A thread issues: whoever waited for that may go on (R116). -/
def Dev.turn (d : Dev) (t : Nat) : Dev := d.setThr t { d.thr t with owes := [] }

/-- A thread issues an instruction. `legal` says that no field its entry marks zero is set (R105), `mgr` that it is for
PRIV 0 only (R68). -/
def Dev.issue (t : Nat) (legal mgr : Bool) (act : Dev → Thread → Dev) (d : Dev) : Dev :=
  if (d.thr t).state != .run || d.threadsHeld || d.mustYield t then d
  else
    let d := d.turn t
    let th := d.thr t
    match d.codeOf th with
    | none => (d.takeException t 3 th.pc th.pc.toNat).trySwitch
    | some im =>
      if im.codeLen ≤ th.pc.toNat then (d.takeException t 3 th.pc th.pc.toNat).trySwitch
      else if d.wygel.pstoreBad.contains (fetchWord im th.pc) then
        (d.fetchFault t (im.codePage + th.pc.toNat / 4096)).trySwitch
      else if !legal then (d.takeException t 1 th.pc th.pc.toNat).trySwitch
      else if mgr && th.priv then (d.takeException t 2 th.pc th.pc.toNat).trySwitch
      else (act d th).trySwitch

/-- The instruction's own exception: EPC is the faulting instruction (R76). -/
def Dev.trap (d : Dev) (t code detail : Nat) : Dev := d.takeException t code (d.thr t).pc detail

/-- The instruction ends: the thread goes on at the next one. -/
def Dev.retire (d : Dev) (t : Nat) (th : Thread) : Dev := d.setThr t th.advance

/-- The three-register operations (R108). -/
def Dev.alu3 (t rd ra rb : Nat) (f : Word → Word → Word × Flags) : Dev → Dev :=
  Dev.issue t true false fun d th =>
    let (r, fl) := f (th.g ra) (th.g rb)
    d.retire t { th.setG rd r with flags := fl }

/-- The register-immediate operations on an extended immediate (R109). -/
def Dev.aluImm (t rd ra : Nat) (legal : Bool) (b : Word) (f : Word → Word → Word × Flags) : Dev → Dev :=
  Dev.issue t legal false fun d th =>
    let (r, fl) := f (th.g ra) b
    d.retire t { th.setG rd r with flags := fl }

/-- A compare: the flags alone; RD must be zero (R105). -/
def Dev.compare (t rd : Nat) (a b : Thread → Word) : Dev → Dev :=
  Dev.issue t (rd == 0) false fun d th => d.retire t { th with flags := (subFlags (a th) (b th)).2 }

/-- Scratch loads (R110): ALIGN, then SCRATCH, then POISON; the value extended with zeros. -/
def Dev.loadScratch (t rd ra : Nat) (imm : BitVec 16) (width : Nat) : Dev → Dev :=
  Dev.issue t true false fun d th =>
    let a := scratchEA th ra imm
    if a % width ≠ 0 then d.trap t 4 a
    else match d.scratchAddr th a width with
      | none => d.trap t 5 a
      | some p =>
        if d.scratchPoisoned p width then d.trap t 8 a
        else d.retire t (th.setG rd (BitVec.ofNat 64 (leNat (d.scratchLoad p width))))

/-- Scratch stores (R110, R111): ALIGN, then SCRATCH; the low bytes of g[rd]. -/
def Dev.storeScratch (t rd ra : Nat) (imm : BitVec 16) (width : Nat) : Dev → Dev :=
  Dev.issue t true false fun d th =>
    let a := scratchEA th ra imm
    if a % width ≠ 0 then d.trap t 4 a
    else match d.scratchAddr th a width with
      | none => d.trap t 5 a
      | some p => (d.scratchStore p (leBytes width (th.g rd).toNat)).retire t th

end Sys2Proof.Machine
end

