-- ==== Sys2Proof/Machine/Hedgerow.lean ====
section
/-! DEFINITION. Hedgerow access control (15_hedgerow.md): which rule decides an access, its permissions, the default map,
the debug access port and locked rules, and the recording of a denial. -/

namespace Sys2Proof.Machine

/-- The units that check (R500). -/
inductive HUnit where
  | port (p : Nat)
  | engine
  | pool
  deriving DecidableEq, Repr

/-- What an access needs (R502). -/
inductive HNeed where
  | read | readCached | memInv | write | atomic
  deriving DecidableEq, Repr

/-- A rule as a unit compares it (R505): its number, its words 0, 1 and 2. -/
structure HRule where
  num : Nat
  w0 : Word
  w1 : Word
  w2 : Word
  deriving DecidableEq, Repr

/-- VALID, READ, WRITE, CACHE, ATOMIC, LOCK and PARITY_ERR of a rule's word 0 (R518). -/
def HRule.bit (r : HRule) (b : Nat) : Bool := r.w0.getLsbD b

/-- Is the rule locked? -/
def HRule.locked (r : HRule) : Bool := r.bit 5

/-- Does the rule's range cover an address (R505)? A rule whose parity failed counts as VALID (R517). -/
def HRule.covers (r : HRule) (a : Nat) : Bool :=
  (r.bit 0 || r.bit 6) && decide (bitsOf r.w0 12 40 ≤ a % 2 ^ 52 / 4096 ∧ a % 2 ^ 52 / 4096 ≤ bitsOf r.w1 12 40)

/-- A rule's permissions; a rule whose parity failed grants nothing (R517). -/
def HRule.grants (r : HRule) (need : HNeed) : Bool :=
  !(r.bit 6) && match need with
    | .read => r.bit 1
    | .readCached => r.bit 1
    | .memInv => r.bit 2 && r.bit 3
    | .write => r.bit 2
    | .atomic => r.bit 1 && r.bit 2 && r.bit 4

/-- The register names of a unit's rule words. -/
def HUnit.words : HUnit → RK × RK × Option RK
  | .port _ => (.HRW_PORT_RULE0, .HRW_PORT_RULE1, none)
  | .engine => (.HRW_ENG_RULE0, .HRW_ENG_RULE1, some .HRW_ENG_RULE2)
  | .pool => (.HRW_POOL_RULE0, .HRW_POOL_RULE1, some .HRW_POOL_RULE2)

/-- The unit's instance of its block. -/
def HUnit.inst : HUnit → Nat
  | .port p => p
  | _ => 0

/-- A unit's rules in the copy of epoch `e`, those whose word 0 differs from its reset value (an unlisted rule is not
VALID), in order of number (R516). -/
def Dev.hrules (d : Dev) (e : Bool) (u : HUnit) : List HRule :=
  let (k0, k1, k2) := u.words
  let nums := ((d.listed k0).filter fun x => x.1 == u.inst).map (·.2)
  (rising nums).map fun n =>
    ⟨n, d.rdE e ⟨k0, u.inst, n⟩, d.rdE e ⟨k1, u.inst, n⟩, match k2 with | some k => d.rdE e ⟨k, u.inst, n⟩ | none => 0⟩

/-- Does a rule name a requester (R501, R505)? A rule whose parity failed names every one. -/
def HUnit.names (u : HUnit) (req : Nat) (r : HRule) : Bool :=
  r.bit 6 || match u with
    | .port _ => true
    | .pool => decide (req < 64) && r.w2.getLsbD req
    | .engine => (BitVec.ofNat 10 req &&& BitVec.ofNat 10 (bitsOf r.w2 16 10)) ==
        (BitVec.ofNat 10 (bitsOf r.w2 0 10) &&& BitVec.ofNat 10 (bitsOf r.w2 16 10))

/-- The rule that decides: the lowest-numbered locked one that matches, else the lowest-numbered unlocked one (R506). -/
def decidingRule (rs : List HRule) : Option HRule :=
  match rs.find? HRule.locked with
  | some r => some r
  | none => rs.head?

/-- What a check answers: allowed (with the deciding rule's number, and whether a read for S or E goes uncached, R503), or
denied with the NOMATCH, LOCKED_RULE and RULE of HRW_DENY_INFO. -/
inductive HVerdict where
  | allow (rule : Option Nat) (noCache : Bool)
  | deny (noMatch lockedRule : Bool) (rule : Nat)
  deriving DecidableEq, Repr

/-- A deciding rule's answer. -/
def HRule.decides (r : HRule) (need : HNeed) : HVerdict :=
  if r.grants need then .allow (some r.num) (need == .readCached && !(r.bit 3)) else .deny false r.locked r.num

/-- Is a requester privileged (R501)? -/
def privileged (req : Nat) : Bool := decide (0x200 ≤ req)

/-- The default map as a rule (R510); in a denial its number is 0x3FF. -/
def Dev.defaultMap (d : Dev) (e : Bool) : HRule :=
  ⟨0x3FF, d.rdE e ⟨.HRW_DEFMAP0, 0, 0⟩, d.rdE e ⟨.HRW_DEFMAP1, 0, 0⟩, 0⟩

/-- One part of an access checked by one unit (R506, R510). -/
def Dev.hcheck (d : Dev) (e : Bool) (u : HUnit) (req a : Nat) (need : HNeed) : HVerdict :=
  match decidingRule ((d.hrules e u).filter fun r => r.covers a && u.names req r) with
  | some r => r.decides need
  | none =>
    if u = .engine ∧ privileged req then
      let m := d.defaultMap e
      if m.covers a then m.decides need else .deny true false 0
    else .deny true false 0

/-- Was the part allowed? -/
def HVerdict.ok : HVerdict → Bool
  | .allow _ _ => true
  | .deny _ _ _ => false

/-- The ACCESS code of a denial (R520): 3 for the access that needs CACHE. -/
def HNeed.code : HNeed → Nat
  | .read | .readCached => 0
  | .write => 1
  | .atomic => 2
  | .memInv => 3

/-- The HRW_DENY_INFO word of a denial. -/
def denyInfo (req : Nat) (need : HNeed) (noMatch lockedRule : Bool) (rule : Nat) : Word :=
  putBits (putBits (putBits (putBits (putBits (putBits 0 0 10 req) 10 2 need.code) 12 1 noMatch.toNat)
    13 1 lockedRule.toNat) 14 10 rule) 63 1 1

/-- The denial registers of a unit. -/
def HUnit.denyRegs : HUnit → Fld × RK × RK
  | .port _ => (HRW_PORT_DENY_STAT.DENIES, .HRW_PORT_DENY_ADDR, .HRW_PORT_DENY_INFO)
  | .engine => (HRW_ENG_DENY_STAT.DENIES, .HRW_ENG_DENY_ADDR, .HRW_ENG_DENY_INFO)
  | .pool => (HRW_POOL_DENY_STAT.DENIES, .HRW_POOL_DENY_ADDR, .HRW_POOL_DENY_INFO)

/-- The reporting unit of a Hedgerow unit (R545). -/
def HUnit.reporter : HUnit → Nat
  | .port p => p
  | _ => 408

/-- A denial counted, recorded unless one is held, and raised: UC-C on the requester's port, or a CE of the unit for any
other requester (R512). -/
def Dev.deny (d : Dev) (u : HUnit) (req a : Nat) (need : HNeed) (noMatch lockedRule : Bool) (rule : Nat)
    (port : Option Nat) : Dev :=
  let (cnt, ka, ki) := u.denyRegs
  let info := denyInfo req need noMatch lockedRule rule
  let d := d.fadd cnt 1 u.inst
  let d :=
    if (d.rd ⟨ki, u.inst, 0⟩).getLsbD 63 then d
    else (d.wr ⟨ka, u.inst, 0⟩ (BitVec.ofNat 64 (a % 2 ^ 52))).wr ⟨ki, u.inst, 0⟩ info
  match port with
  | some p => d.raise u.reporter (recPort 0x80 p info.toNat)
  | none => d.raise u.reporter (recCE 0x80 info.toNat)

/-- A part checked by one unit, a denial recorded with the requester's port (if it has one), a read served uncached counted
in NOCACHE (R503). -/
def Dev.hpass (d : Dev) (e : Bool) (u : HUnit) (req a : Nat) (need : HNeed) (port : Option Nat) : Dev × HVerdict :=
  match d.hcheck e u req a need with
  | .deny nm lk r => (d.deny u req a need nm lk r port, .deny nm lk r)
  | .allow r true =>
    let f := match u with
      | .port _ => HRW_PORT_DENY_STAT.NOCACHE
      | .engine => HRW_ENG_DENY_STAT.NOCACHE
      | .pool => HRW_POOL_DENY_STAT.NOCACHE
    (d.fadd f 1 u.inst, .allow r true)
  | .allow r false => (d, .allow r false)

/-- The 4 KiB parts of an access, each by its first byte (R507). -/
def accessParts (a len : Nat) : List Nat :=
  let n := (a + max 1 len - 1) / 4096 - a / 4096
  a :: (List.range n).map fun i => (a / 4096 + i + 1) * 4096

/-- A CXL.io request of several parts: each part decided by itself, one denial logged for the first denied part (R507,
R509). Answers which parts are allowed. -/
def Dev.hparts (d : Dev) (e : Bool) (u : HUnit) (req a len : Nat) (need : HNeed) (port : Option Nat) :
    Dev × List (Nat × Bool) :=
  let vs := (accessParts a len).map fun x => (x, d.hcheck e u req x need)
  let d := match vs.find? fun v => !v.2.ok with
    | some (x, .deny nm lk r) => d.deny u req x need nm lk r port
    | _ => d
  (d, vs.map fun v => (v.1, v.2.ok))

/-- The debug access port's identifier (R501). -/
abbrev dapReq : Nat := 0x2C0

/-- Step 1 of R515 in one unit: the locked rules that cover the part; none, or the unit's answer. -/
def Dev.dapLocked (d : Dev) (e : Bool) (u : HUnit) (a : Nat) (need : HNeed) : Option HVerdict :=
  let rs := (d.hrules e u).filter fun r => r.locked && r.covers a
  if rs.isEmpty then none
  else match rs.find? (u.names dapReq) with
    | some r => some (r.decides need)
    | none => some (.deny false true ((rs.head?.map (·.num)).getD 0))

/-- The debug access port's check of an aperture part (R515): locked rules of both units first, then as a privileged
requester. -/
def Dev.dapCheck (d : Dev) (e : Bool) (a : Nat) (need : HNeed) : Dev × Bool :=
  match d.dapLocked e .engine a need, d.dapLocked e .pool a need with
  | none, none =>
    let (d, v) := d.hpass e .engine dapReq a need none
    (d, v.ok)
  | some (.deny nm _ r), _ => (d.deny .engine dapReq a need nm true r none, false)
  | _, some (.deny nm _ r) => (d.deny .pool dapReq a need nm true r none, false)
  | _, _ => (d, true)

/-- RULE_PARITY_FAIL (R517): the rule of unit `which` (0 to 127 port units, 128 engine, 129 pool, 130 the default map)
matches every requester and grants nothing until a commit rewrites it. The DE record's detail is the unit in bits [31:16]
and the rule in [15:0]. -/
def execRuleParityFail (which : Fin 131) (rule : Fin 1024) (s : State) : Result :=
  onDev s fun d =>
    let (f, i, j, rep) :=
      if (which : Nat) < 128 then (HRW_PORT_RULE0.PARITY_ERR, (which : Nat), (rule : Nat) % 32, (which : Nat))
      else if (which : Nat) = 128 then (HRW_ENG_RULE0.PARITY_ERR, 0, (rule : Nat) % 256, 408)
      else if (which : Nat) = 129 then (HRW_POOL_RULE0.PARITY_ERR, 0, (rule : Nat), 408)
      else (HRW_DEFMAP0.PARITY_ERR, 0, 0, 408)
    (d.fset f 1 i j).raise rep (recDE 0x81 (which * 65536 + j))

end Sys2Proof.Machine
end

