-- ==== Sys2Proof/Machine/Work.lean ====
section
/-! DEFINITION. Entries of data-mover work (13_folds_and_data_movers.md): descriptors and when they are malformed (R448,
R452), chunks (R455), ending an entry (R456, R457), the completion's layout (R458), in-flight slots and halting a fold. -/

namespace Sys2Proof.Machine

/-! The states of FLD_STAT.STATE and FLD_SQ_STAT.STATE (R467, R469). -/
abbrev fdDisabled : Nat := 0
abbrev fdEnabled : Nat := 1
abbrev fdSuspended : Nat := 2
abbrev fdHalted : Nat := 3
abbrev fdResetting : Nat := 4
abbrev fdFrozen : Nat := 5
abbrev sqDisabled : Nat := 0
abbrev sqEnabled : Nat := 1
abbrev sqStopping : Nat := 2
abbrev sqHalted : Nat := 3

/-- A fold's record beside its registers. -/
def Dev.fold (d : Dev) (f : Nat) : Fold := Tab.get {} d.folds.folds f

/-- A fold's record given. -/
def Dev.setFold (d : Dev) (f : Nat) (x : Fold) : Dev :=
  { d with folds := { d.folds with folds := Tab.set d.folds.folds f x } }

/-- A Service Function's record. -/
def Dev.service (d : Dev) (v : Nat) : ServiceFn := Tab.get {} d.folds.services v

/-- The state of a fold. -/
def Dev.foldState (d : Dev) (f : Nat) : Nat := d.fget FLD_STAT.STATE f

/-! Descriptors (R448) -/

/-- A little-endian field of a descriptor. -/
def descField (raw : List Byte) (off n : Nat) : Nat := leNat ((raw.drop off).take n)

abbrev opCopy : Nat := 1
abbrev opFill : Nat := 2
abbrev opZero : Nat := 3
abbrev opCompare : Nat := 4
abbrev opCrc : Nat := 5
abbrev opMigrate : Nat := 0x10

/-- OPCODE. -/
def dOp (raw : List Byte) : Nat := descField raw 0 1
/-- TAG. -/
def dTag (raw : List Byte) : Nat := descField raw 2 2
/-- LEN. -/
def dLen (raw : List Byte) : Nat := descField raw 4 4
/-- SRC. -/
def dSrc (raw : List Byte) : Nat := descField raw 8 8
/-- DST. -/
def dDst (raw : List Byte) : Nat := descField raw 0x10 8
/-- TARGET. -/
def dTarget (raw : List Byte) : Nat := descField raw 0x20 8
/-- A bit of FLAGS: 0 SRC_SPACE, 1 DST_SPACE, 2 FENCE, 3 URGENT. -/
def dFlag (raw : List Byte) (b : Nat) : Bool := (descField raw 1 1).testBit b

/-- Does the opcode read a source, the second operand of COMPARE apart? -/
def dHasSrc (raw : List Byte) : Bool := dOp raw == opCopy || dOp raw == opCompare || dOp raw == opCrc

/-- Does the opcode have a destination or second operand? -/
def dHasDst (raw : List Byte) : Bool :=
  dOp raw == opCopy || dOp raw == opFill || dOp raw == opZero || dOp raw == opCompare

/-- Does the opcode write its destination? -/
def dWrites (raw : List Byte) : Bool := dOp raw == opCopy || dOp raw == opFill || dOp raw == opZero

/-- Do the ranges of a COPY overlap in the same space? -/
def dOverlap (raw : List Byte) : Bool :=
  dOp raw == opCopy && dFlag raw 0 == dFlag raw 1 && decide (dSrc raw < dDst raw + dLen raw) &&
    decide (dDst raw < dSrc raw + dLen raw)

/-- What a descriptor is judged as (R452): a ring entry at its index, a manager job, or a fold job. -/
inductive WorkKind where
  | ring (index : Nat)
  | manager
  | foldJob
  deriving DecidableEq, Repr

/-- Are the fields that R448 requires to be zero all zero? -/
def dReservedOk (raw : List Byte) (k : WorkKind) : Bool :=
  let op := dOp raw
  let pat := descField raw 0x18 8
  decide (descField raw 1 1 < 16) && (dHasSrc raw || dSrc raw == 0) && (dHasDst raw || dDst raw == 0) &&
    (op == opFill || (if op = opCrc then decide (pat < 2 ^ 32) else pat == 0)) &&
    (if op = opMigrate then decide (dTarget raw < 2 ^ 35) && dLen raw == 0 else dTarget raw == 0) &&
    descField raw 0x28 20 == 0 && descField raw 0x3E 2 == 0 &&
    match k with
    | .ring _ => true
    | .manager => descField raw 0x3C 2 == 0 && !(dFlag raw 0) && !(dFlag raw 1)
    | .foldJob => descField raw 0x3C 2 == 0

/-- The cause for which an entry is malformed, the first of R452 that applies. -/
def malformed (raw : List Byte) (k : WorkKind) : Option Nat :=
  let op := dOp raw
  let len := dLen raw
  if !((decide (1 ≤ op) && decide (op ≤ 5)) || (op == opMigrate && k == .manager)) then some 1
  else if !(dReservedOk raw k) then some 2
  else if op ≠ opMigrate ∧ (len = 0 ∨ 0x40000000 < len) then some 3
  else if (match k with | .ring i => descField raw 0x3C 2 != i | _ => false) then some 4
  else if (dHasSrc raw && decide (2 ^ 52 < dSrc raw + len)) || (dHasDst raw && decide (2 ^ 52 < dDst raw + len)) ||
      (dOverlap raw && decide (dSrc raw < dDst raw)) then some 5
  else none

/-- The length of the chunk at an offset: to the end, crossing no 4 KiB boundary of either address (R455). -/
def chunkLen (raw : List Byte) (o : Nat) : Nat :=
  let room := fun a => 4096 - (a + o) % 4096
  let n := dLen raw - o
  let n := if dHasSrc raw then min n (room (dSrc raw)) else n
  if dHasDst raw then min n (room (dDst raw)) else n

/-! CRC-32C (R451) -/

/-- One bit step of the reflected CRC-32C register. -/
def crc32cBit (c : BitVec 32) : BitVec 32 := if c.getLsbD 0 then (c >>> 1) ^^^ 0x82F63B78 else c >>> 1

/-- One byte taken into the CRC-32C register. -/
def crc32cByte (c : BitVec 32) (b : Byte) : BitVec 32 :=
  let c := c ^^^ b.setWidth 32
  crc32cBit (crc32cBit (crc32cBit (crc32cBit (crc32cBit (crc32cBit (crc32cBit (crc32cBit c)))))))

/-- The register after a run of bytes. -/
def crc32c (c : BitVec 32) (bs : List Byte) : BitVec 32 := bs.foldl crc32cByte c

/-! CRC-64 (R267) -/

/-- One bit step of the reflected CRC-64 register. -/
def crc64Bit (c : Word) : Word := if c.getLsbD 0 then (c >>> 1) ^^^ 0xC96C5795D7870F42 else c >>> 1

/-- One byte taken into the CRC-64 register. -/
def crc64Byte (c : Word) (b : Byte) : Word :=
  let c := c ^^^ b.setWidth 64
  crc64Bit (crc64Bit (crc64Bit (crc64Bit (crc64Bit (crc64Bit (crc64Bit (crc64Bit c)))))))

/-- CRC-64 over bytes: the polynomial of ECMA-182, 0x42F0E1EBA9EA3693, input and output reflected, initial value and final XOR
all ones. -/
def crc64 (bs : List Byte) : Word := bs.foldl crc64Byte (BitVec.allOnes 64) ^^^ BitVec.allOnes 64

/-! Entries -/

/-- The fold an entry belongs to. -/
def WorkOwner.fold : WorkOwner → Option Nat
  | .ring f _ _ => some f
  | .job f _ _ _ _ => f

/-- An entry by its number. -/
def Dev.work (d : Dev) (id : Nat) : Option Work := d.folds.work.find? fun w => w.id == id

/-- An entry changed. -/
def Dev.setWork (d : Dev) (id : Nat) (f : Work → Work) : Dev :=
  { d with folds := { d.folds with work := d.folds.work.map fun w => if w.id = id then f w else w } }

/-- An entry gone. -/
def Dev.dropWork (d : Dev) (id : Nat) : Dev :=
  { d with folds := { d.folds with work := d.folds.work.filter fun w => w.id != id } }

/-- The in-flight slots all folds hold. -/
def Dev.slotsInFlight (d : Dev) : Nat :=
  ((d.listed .FLD_STAT).map fun x => d.fget FLD_STAT.IN_FLIGHT x.1).sum

/-- A fold takes a slot. -/
def Dev.takeSlot (d : Dev) (f : Nat) : Dev := d.fadd FLD_STAT.IN_FLIGHT 1 f

/-- A fold's slot freed. -/
def Dev.freeSlotOf (d : Dev) (f : Nat) : Dev := d.fsub FLD_STAT.IN_FLIGHT 1 f

/-- The 16 bytes of a completion (R458), PHASE in the last one. -/
def cplBytes (tag sq status result head gen : Nat) (phase : Bool) : List Byte :=
  leBytes 2 tag ++ leBytes 1 sq ++ leBytes 1 status ++ leBytes 4 result ++ leBytes 2 head ++ leBytes 1 gen ++
    leBytes 4 0 ++ leBytes 1 phase.toNat

/-- A job's completion written to scratch, with event DMV for its launching thread; dropped when that thread is gone
(R140, R142). -/
def Dev.jobDone (d : Dev) (raw : List Byte) (handle thread cpl status result gen : Nat) : Dev :=
  if thread < 64 ∧ (d.thr thread).live then
    (d.scratchStore cpl (cplBytes (dTag raw) 0 status result handle gen true)).latch 2 fun t _ => t == thread
  else d

/-- An entry ends with a status and RESULT: a ring entry keeps its slot until its completion is written in ring order
(R459); a job's completion is written at once and its slot freed (R140). -/
def Dev.workEnd (d : Dev) (id status result : Nat) : Dev :=
  match d.work id with
  | none => d
  | some w =>
    match w.owner with
    | .ring _ _ _ => d.setWork id fun w => { w with state := .finished status result }
    | .job f _ h t c =>
      let d := d.dropWork id
      let d := match f with | some f => d.freeSlotOf f | none => d
      d.jobDone w.raw h t c status result w.gen

/-- The final RESULT of an entry whose chunks are all done (R448, R456). -/
def Work.okEnd (w : Work) : Nat × Nat :=
  match w.poisonAt with
  | some o => (3, o)
  | none => (0, if dOp w.raw = opCrc then (w.crc ^^^ 0xFFFFFFFF).toNat else 0)

/-- The accesses of an entry's outstanding chunks, in the order of their issue. Their host tag is twice the chunk's offset, and
one more for the second operand of COMPARE. -/
def Dev.chunkFlights (d : Dev) (id : Nat) : List Flight :=
  d.core.flights.filter fun x => match x.src with | .chunk _ i => i == id | _ => false

/-- An entry with no chunk outstanding ends: with the status that stopped it, or when its last chunk is done (R457). -/
def Dev.workCheck (d : Dev) (id : Nat) : Dev :=
  match d.work id with
  | none => d
  | some w =>
    match w.state with
    | .started _ =>
      if !(d.chunkFlights id).isEmpty then d
      else match w.ending with
        | some (s, r) => d.workEnd id s r
        | none =>
          if w.next = dLen w.raw then d.workEnd id w.okEnd.1 w.okEnd.2 else d
    | _ => d

/-- An entry is to end at a chunk: the first chunk that fails decides the status (R456). -/
def Work.endAt (w : Work) (status o : Nat) : Work :=
  match w.ending with
  | some (_, r) => if o < r then { w with ending := some (status, o) } else w
  | none => { w with ending := some (status, o) }

/-- An outstanding chunk of an entry ended with an error: its flight is gone (R320, R419, R44, R456). -/
def Dev.chunkFailed (d : Dev) (fl : Flight) (status : Nat) : Dev :=
  match fl.src with
  | .chunk m id =>
    let d := if status = 7 then d.fadd DMV_ERR.TIMEOUTS 1 m else d
    (d.setWork id fun w => w.endAt status (fl.hostTag / 2)).workCheck id
  | _ => d

/-! Halting a fold (R453) -/

/-- The fetched entries of a fold that have not started are discarded and their slots freed (R443, R453, R479, R485);
`q` chooses one SQ or all. -/
def Dev.dropUnstarted (d : Dev) (f : Nat) (q : Option Nat) : Dev :=
  let gone := d.folds.work.filter fun w =>
    (w.state == .fetching || w.state == .fetched) && match w.owner with
      | .ring f' q' _ => f' == f && (q.isNone || q == some q')
      | .job (some f') _ _ _ _ => f' == f && q.isNone
      | _ => false
  gone.foldl (fun d w => (d.dropWork w.id).freeSlotOf f) d

/-- A fold halts: fetching stops, unstarted entries go, its SQs and it read HALTED, and a UC-C fault of the fold is raised
(R453). The halt fields hold the cause, the SQ and the index. -/
def Dev.haltFold (d : Dev) (f cause q index : Nat) : Dev :=
  let d := d.dropUnstarted f none
  let d := (List.range 8).foldl (fun d q =>
    if d.fget FLD_SQ_STAT.STATE f q = sqEnabled ∨ d.fget FLD_SQ_STAT.STATE f q = sqStopping then
      d.fset FLD_SQ_STAT.STATE sqHalted f q else d) d
  let d := (d.fset FLD_STAT.STATE fdHalted f).fset FLD_STAT.HALT_CAUSE cause f
  let d := (d.fset FLD_STAT.HALT_SQ q f).fset FLD_STAT.HALT_INDEX index f
  d.raise 409 (recFold 0x70 f cause)

/-- The fold's own virtual switch and the upstream port it uses. -/
def Dev.foldVsw (d : Dev) (f : Nat) : Nat := d.fget FLD_CFG.VSW f

/-- The upstream port of a virtual switch. -/
def Dev.usp (d : Dev) (v : Nat) : Nat := d.fget CXP_VSW_CFG.USP v

/-- The VF number of a fold within its virtual switch (R439). -/
def Dev.vfIndex (d : Dev) (f : Nat) : Nat :=
  ((List.range f).filter fun g => d.fon FLD_CFG.ASSIGNED g && d.fget FLD_CFG.VSW g == d.fget FLD_CFG.VSW f).length

/-- The state R440 gives a fold that is neither halted, resetting nor frozen. -/
def Dev.foldRest (d : Dev) (f : Nat) : Nat :=
  let s := d.service (d.foldVsw f)
  if !(d.fon FLD_CFG.ASSIGNED f && s.vfEnable && decide (d.vfIndex f < s.numVFs)) then fdDisabled
  else if (d.fold f).d3hot || !(d.fold f).busMaster then fdSuspended else fdEnabled

/-- A fold whose state R440 alone gives takes it (only a fold reset leaves HALTED, R453); one that leaves DISABLED is not
counted until a course boundary (R476). -/
def Dev.foldRefresh (d : Dev) (f : Nat) : Dev :=
  if d.foldState f < fdHalted then d.fset FLD_STAT.STATE (d.foldRest f) f else d

/-! Host memory out of reach (R320) -/

/-! The values of FLD_MIG_STAT.STATE (R499). -/
abbrev mgIdle : Nat := 0
abbrev mgFreezePending : Nat := 1
abbrev mgFreezing : Nat := 2
abbrev mgFrozen : Nat := 3
abbrev mgSaving : Nat := 4
abbrev mgSaved : Nat := 5
abbrev mgRestoring : Nat := 6
abbrev mgThawPending : Nat := 7

/-- The migration state of a fold. -/
def Dev.migState (d : Dev) (f : Nat) : Nat := d.fget FLD_MIG_STAT.STATE f

/-- RESULT of a fold's migration operation. -/
def Dev.migResult (d : Dev) (f r : Nat) : Dev := d.fset FLD_MIG_STAT.RESULT r f

/-- A SAVE ends: the fold SAVED with the bale's length and records, or FROZEN again with the RESULT of what failed. -/
def Dev.saveEnd (d : Dev) (f r : Nat) : Dev :=
  let x := d.fold f
  let d := (d.fset FLD_MIG_STAT.STATE (if r = 0 then mgSaved else mgFrozen) f).migResult f r
  let d := if r = 0 then (d.fset FLD_MIG_STAT.LEN x.bale.length f).fset FLD_MIG_STAT.RECORDS x.records.length f else d
  d.setFold f { x with bale := [], baleSent := 0, baleAck := none }

/-- A ring fetch of an entry brought an error or poison: its slot is freed and the fold halts (R453). -/
def Dev.fetchBad (d : Dev) (id f q i : Nat) : Dev := ((d.dropWork id).freeSlotOf f).haltFold f 7 q i

/-- The fetch of a fold program failed: the program is IDLE, with a LOAD_STATUS that the spec does not state. -/
def Dev.progBad (d : Dev) (f : Nat) : Dev :=
  ((d.fset FLD_PROG_STAT.STATE 0 f).fset FLD_PROG_STAT.LOAD_STATUS (bitsOf d.free 0 4) f).used

/-- The entry of a fold whose ring fetch reads a host address: its number, SQ and index. -/
def Dev.fetchAt (d : Dev) (f a : Nat) : Option (Nat × Nat × Nat) :=
  d.folds.work.findSome? fun w =>
    match w.owner, w.state with
    | .ring g q i, .fetching | .ring g q i, .refetch _ _ _ =>
      if g = f ∧ d.fget FLD_SQ_BASE.BASE f q * 64 + 64 * i = a then some (w.id, q, i) else none
    | _, _ => none

/-- A fold's read of host memory came back with poison of the device's own (R320): a ring fetch halts the fold, a program is
not loaded, a bale is not restored (RESULT HOSTERR, R492). -/
def Dev.hostReadLost (d : Dev) (f a : Nat) : Dev :=
  match d.fetchAt f a with
  | some (id, q, i) => d.fetchBad id f q i
  | none =>
    if d.fget FLD_PROG_STAT.STATE f = 1 ∧ d.fget FLD_PROG_ADDR.ADDR f = a then d.progBad f
    else if d.migState f = mgRestoring && !(d.fold f).armed && d.fget FLD_MIG_ADDR.ADDR f * 64 == a then
      (d.fset FLD_MIG_STAT.STATE mgIdle f).migResult f 6
    else d

/-- A fold's write of host memory was dropped (R320): a SAVE of which it was a part ends with HOSTERR (R490). -/
def Dev.hostWriteLost (d : Dev) (f a : Nat) : Dev :=
  let base := d.fget FLD_MIG_ADDR.ADDR f * 64
  if d.migState f = mgSaving && !(d.fon FLD_MIG_CTRL.DEST f) && decide (base ≤ a) && decide (a < base + (d.fold f).bale.length) then
    d.saveEnd f 6
  else d

/-! Fold reset, the first step (R479) -/

/-- A fold reset starts: RESETTING, the next generation, nothing fetched any more, unstarted entries, push slots and holding
slots gone, the fold thread ended. A second cause during a reset is merged into it; a freeze is undone with RESULT RESET
(R482). -/
def Dev.foldReset (d : Dev) (f : Nat) : Dev :=
  if d.foldState f = fdResetting then d
  else
    let d := d.dropUnstarted f none
    let mig := d.fget FLD_MIG_STAT.STATE f
    let d := if mig ≠ 0 then (d.fset FLD_MIG_STAT.STATE 0 f).fset FLD_MIG_STAT.RESULT 13 f else d
    let d := (d.fset FLD_STAT.STATE fdResetting f).finc FLD_STAT.GEN 1 f
    let d := (d.fset FLD_RESET.DONE 0 f).fadd FLD_RESET.RESETS 1 f
    let x := d.fold f
    let d := d.setFold f { x with
      pushFull := [], held := [], timers := [], stalled := false, records := [], bale := [], baleRx := [], baleAck := none, armed := false }
    let d := d.fset FLD_CNT.HOLD_USED 0 f
    match d.threads.find? fun e => e.2.live && e.2.fid == f with
    | some (t, _) => d.kill t
    | none => d

end Sys2Proof.Machine
end

