-- ==== Sys2Proof/Machine/Thatch.lean ====
section
/-! DEFINITION. The thatch map (11_thatch_map.md): binding and placement lookups (R370, R376), frames and sward frames
(R369), counting accesses (R386, R387), splitting and merging (R384, R385), release (R383), and losing a device (R393). -/

namespace Sys2Proof.Machine

/-! The modes of a field, the states of a sward and of a device (R395, R396, R402). -/
abbrev fUnused : Nat := 0
abbrev fLost : Nat := 1
abbrev fWhole : Nat := 2
abbrev fSplit : Nat := 3
abbrev swLost : Nat := 1
abbrev swPlaced : Nat := 2
abbrev swMigrating : Nat := 3
abbrev dvAbsent : Nat := 0
abbrev dvActive : Nat := 1
abbrev dvDraining : Nat := 2
abbrev dvLost : Nat := 3
abbrev dvLent : Nat := 4

/-- MODE of a field in force. -/
def Dev.fmode (d : Dev) (f : Nat) : Nat := d.fget TMP_FIELD0.MODE f

/-- The state of a device. -/
def Dev.dvState (d : Dev) (v : Nat) : Nat := d.fget TMP_DEV_STAT.STATE 0 v

/-- Is the device ACTIVE or DRAINING: are its frames the allocator's? -/
def Dev.dvInPool (d : Dev) (v : Nat) : Bool := d.dvState v == dvActive || d.dvState v == dvDraining

/-- The devices that are in the pool, in order of number. -/
def Dev.poolDevs (d : Dev) : List Nat :=
  (List.range 256).filter fun v => d.dvInPool v

/-! Binding (R370) -/

/-- A binding entry of virtual switch `v`, by its instance of block 0x1B. -/
def bindInst (v e : Nat) : Nat := v * 64 + e

/-- The valid entry of `v` whose window holds DPA `a`, in the copy of epoch `ep`: its field run's pool address. -/
def Dev.bindLookup (d : Dev) (ep : Bool) (v a : Nat) : Option Nat :=
  ((List.range 64).find? fun e =>
      d.cfgOn ep TMP_BIND0.VALID (bindInst v e) &&
        decide (d.cfg ep TMP_BIND0.DPA_GIB (bindInst v e) ≤ a / 2 ^ 30 ∧
          a / 2 ^ 30 < d.cfg ep TMP_BIND0.DPA_GIB (bindInst v e) + d.cfg ep TMP_BIND0.LEN_GIB (bindInst v e))).map
    fun e =>
      ((d.cfg ep TMP_BIND1.FIELD (bindInst v e) + a / 2 ^ 30 - d.cfg ep TMP_BIND0.DPA_GIB (bindInst v e)) * 2 ^ 30 +
        a % 2 ^ 30) % 2 ^ 47

/-- A virtual switch's pool device. -/
def Dev.pool (d : Dev) (v : Nat) : PoolDev := Tab.get {} d.pools v

/-- A pool device given its record. -/
def Dev.setPool (d : Dev) (v : Nat) (p : PoolDev) : Dev := { d with pools := Tab.set d.pools v p }

/-- The DPA a host physical address decodes to in the pool device of `v` (R230). -/
def Dev.hdmDecode (d : Dev) (v hpa : Nat) : Option Nat :=
  ((d.pool v).decoders.find? fun x => decide (x.2.hpa ≤ hpa ∧ hpa < x.2.hpa + x.2.size)).map
    fun x => x.2.dpa + (hpa - x.2.hpa)

/-- The pool address a host physical address of `v` means. -/
def Dev.hostPool (d : Dev) (ep : Bool) (v hpa : Nat) : Option Nat := (d.hdmDecode v hpa).bind (d.bindLookup ep v)

/-- The host physical address that a pool address has for `v`, in the copy of epoch `ep` (R414). -/
def Dev.hostAddr (d : Dev) (ep : Bool) (v pool : Nat) : Option Nat :=
  ((List.range 64).findSome? fun e =>
      let i := bindInst v e
      let f := pool / 2 ^ 30
      if d.cfgOn ep TMP_BIND0.VALID i && decide (d.cfg ep TMP_BIND1.FIELD i ≤ f) &&
          decide (f < d.cfg ep TMP_BIND1.FIELD i + d.cfg ep TMP_BIND0.LEN_GIB i) then
        some ((d.cfg ep TMP_BIND0.DPA_GIB i + (f - d.cfg ep TMP_BIND1.FIELD i)) * 2 ^ 30 + pool % 2 ^ 30)
      else none).bind
    fun dpa => ((d.pool v).decoders.find? fun x => decide (x.2.dpa ≤ dpa ∧ dpa < x.2.dpa + x.2.size)).map
      fun x => x.2.hpa + (dpa - x.2.dpa)

/-- Does a valid binding entry of `v`, in the copy in force, name a field? -/
def Dev.binds (d : Dev) (v f : Nat) : Bool :=
  (List.range 64).any fun e =>
    let i := bindInst v e
    d.fon TMP_BIND0.VALID i && decide (d.fget TMP_BIND1.FIELD i ≤ f ∧ f < d.fget TMP_BIND1.FIELD i + d.fget TMP_BIND0.LEN_GIB i)

/-! Placement (R376) -/

/-- What the placement lookup finds. -/
inductive Where where
  | unplaced
  | lost
  | at (dev : Nat) (dpa : Nat)
  deriving DecidableEq, Repr

/-- The sward entry (instance of block 0x1A) of a pool address in a field of slot `k`. -/
def swardInst (slot pool : Nat) : Nat := slot * 512 + pool / 2 ^ 21 % 512

/-- A place on a device, unless the device is LOST. -/
def Dev.onDevice (d : Dev) (ep : Bool) (v a : Nat) : Where :=
  if d.dvState v = dvLost then .lost else .at v (d.cfg ep TMP_DEV_RANGE.BASE_GIB 0 v * 2 ^ 30 + a)

/-- The destination of a pool address for a request of epoch `ep` (R376). -/
def Dev.place (d : Dev) (ep : Bool) (p : Nat) : Where :=
  let f := p / 2 ^ 30
  let m := d.cfg ep TMP_FIELD0.MODE f
  if m = fUnused then .unplaced
  else if m = fLost then .lost
  else if m = fWhole then d.onDevice ep (d.cfg ep TMP_FIELD0.DEV f) (d.cfg ep TMP_FIELD0.FRAME f * 2 ^ 30 + p % 2 ^ 30)
  else
    let w := swardInst (d.cfg ep TMP_FIELD0.SLOT f) p
    if d.fget TMP_SWARD.STATE w = swLost then .lost
    else d.onDevice ep (d.fget TMP_SWARD.DEV w) (d.fget TMP_SWARD.FRAME2M w * 2 ^ 21 + p % 2 ^ 21)

/-- Is the field of a pool address in shared scope for epoch `ep` (R406)? -/
def Dev.shared (d : Dev) (ep : Bool) (p : Nat) : Bool := d.cfgOn ep TMP_FIELD1.SHARED (p / 2 ^ 30)

/-! Frames (R369) -/

/-- The key of a frame. -/
def frameKey (dev frame : Nat) : Nat := dev * 2 ^ 24 + frame

/-- The key of a sward frame. -/
def sframeKey (dev f2m : Nat) : Nat := dev * 2 ^ 33 + f2m

/-- A frame's state; a frame of a pool device that nothing has used yet is FREE and unzeroed. -/
def Dev.frame (d : Dev) (dev frame : Nat) : FrameState := Tab.get .dirty d.thatch.frames (frameKey dev frame)

/-- A sward frame's state within a CARVED frame. -/
def Dev.sframe (d : Dev) (dev f2m : Nat) : SFrameState := Tab.get .inUse d.thatch.sframes (sframeKey dev f2m)

/-- Is the frame FREE? A reserved one is FREE and zeroed until its commit's instant (R374). -/
def FrameState.isFree : FrameState → Bool
  | .dirty | .zeroed | .reserved => true
  | _ => false

/-- Is the frame FREE and zeroed? -/
def FrameState.isZeroed : FrameState → Bool
  | .zeroed | .reserved => true
  | _ => false

/-- A frame put in a state, with its tier's FREE_GIB and ZEROED_GIB (R399). -/
def Dev.setFrame (d : Dev) (dev frame : Nat) (st : FrameState) : Dev :=
  let old := d.frame dev frame
  let t := d.fget TMP_DEV_CFG.TIER 0 dev
  let d := { d with thatch := { d.thatch with frames := Tab.set d.thatch.frames (frameKey dev frame) st } }
  if d.dvInPool dev then
    let d := (d.fsub TMP_TIER_STAT.FREE_GIB old.isFree.toNat 0 t).fadd TMP_TIER_STAT.FREE_GIB st.isFree.toNat 0 t
    (d.fsub TMP_TIER_STAT.ZEROED_GIB old.isZeroed.toNat 0 t).fadd TMP_TIER_STAT.ZEROED_GIB st.isZeroed.toNat 0 t
  else d

/-- A sward frame put in a state. -/
def Dev.setSFrame (d : Dev) (dev f2m : Nat) (st : SFrameState) : Dev :=
  { d with thatch := { d.thatch with
      sframes := if st = .inUse then Tab.erase d.thatch.sframes (sframeKey dev f2m)
        else Tab.set d.thatch.sframes (sframeKey dev f2m) st } }

/-- The sward frames of one frame given up: their records dropped. -/
def Dev.dropSFrames (d : Dev) (dev frame : Nat) : Dev :=
  { d with thatch := { d.thatch with
      sframes := d.thatch.sframes.filter fun e => !(decide (e.1 / 2 ^ 33 = dev ∧ e.1 % 2 ^ 33 / 512 = frame)) } }

/-- A frame CARVED with all its sward frames free and zeroed (R388). -/
def Dev.carve (d : Dev) (dev frame : Nat) : Dev :=
  (List.range 512).foldl (fun d s => d.setSFrame dev (frame * 512 + s) .zeroed) (d.setFrame dev frame .carved)

/-- A CARVED frame whose 512 sward frames are all free and zeroed is a FREE, zeroed frame (R369). -/
def Dev.uncarve (d : Dev) (dev frame : Nat) : Dev :=
  if d.frame dev frame = .carved ∧ (List.range 512).all (fun s => d.sframe dev (frame * 512 + s) == .zeroed) then
    (d.dropSFrames dev frame).setFrame dev frame .zeroed
  else d

/-- The devices of a tier that take placements, in round-robin order after the one used last (R381). -/
def Dev.tierDevs (d : Dev) (t : Nat) : List Nat :=
  let ds := (List.range 256).filter fun v => d.dvState v == dvActive && d.fget TMP_DEV_CFG.TIER 0 v == t
  let last := Tab.get 255 d.thatch.lastDev t
  (ds.filter fun v => decide (last < v)) ++ ds.filter fun v => decide (v ≤ last)

/-- The lowest-numbered FREE zeroed frame of a device. -/
def Dev.zeroedFrame (d : Dev) (dev : Nat) : Option Nat :=
  (d.thatch.frames.find? fun e => decide (e.1 / 2 ^ 24 = dev) && e.2 == .zeroed).map fun e => e.1 % 2 ^ 24

/-- A FREE zeroed frame of a tier, in the allocator's order (R381). -/
def Dev.takeFrame (d : Dev) (t : Nat) (skip : Nat → Bool := fun _ => false) : Option (Nat × Nat) :=
  (d.tierDevs t).findSome? fun v => if skip v then none else (d.zeroedFrame v).map fun f => (v, f)

/-- The device a tier used last. -/
def Dev.usedDev (d : Dev) (t v : Nat) : Dev :=
  { d with thatch := { d.thatch with lastDev := Tab.set d.thatch.lastDev t v } }

/-- May tiering or a drain take a zeroed frame of a tier: is more than RESERVE_GIB zeroed (R381, R388)? -/
def Dev.aboveReserve (d : Dev) (t : Nat) : Bool :=
  decide (d.fget TMP_TIER_CFG.RESERVE_GIB 0 t < d.fget TMP_TIER_STAT.ZEROED_GIB 0 t)

/-- The first free zeroed sward frame of a tier's CARVED frames, in order of device and sward frame (R388). -/
def Dev.freeSFrame (d : Dev) (t : Nat) : Option (Nat × Nat) :=
  (d.thatch.sframes.find? fun e =>
      e.2 == .zeroed && d.dvState (e.1 / 2 ^ 33) == dvActive && d.fget TMP_DEV_CFG.TIER 0 (e.1 / 2 ^ 33) == t).map
    fun e => (e.1 / 2 ^ 33, e.1 % 2 ^ 33)

/-- A target sward frame on tier `t`, taken: a free one of a CARVED frame, else the first of a frame carved for it, with
or without regard to RESERVE_GIB (R388). -/
def Dev.takeSFrame (d : Dev) (t : Nat) (reserve : Bool) : Option (Dev × Nat × Nat) :=
  match d.freeSFrame t with
  | some (v, b) => some (d.setSFrame v b .inUse, v, b)
  | none =>
    if reserve && !d.aboveReserve t then none
    else match d.takeFrame t with
      | none => none
      | some (v, f) => some ((((d.carve v f).setSFrame v (f * 512) .inUse).usedDev t v), v, f * 512)

/-! PLACED_SWARDS, USED_FIELDS and the slots (R392, R398) -/

/-- MODE of a field written in both copies, with USED_FIELDS. -/
def Dev.setMode (d : Dev) (f m : Nat) : Dev :=
  let old := d.fmode f
  let d := d.fsetBoth TMP_FIELD0.MODE m f
  if old = fUnused ∧ m ≠ fUnused then d.fadd TMP_ALLOC_STAT.USED_FIELDS 1
  else if old ≠ fUnused ∧ m = fUnused then d.fsub TMP_ALLOC_STAT.USED_FIELDS 1
  else d

/-- A device's placed swards given; PLACED_SWARDS saturates. -/
def Dev.setPlaced (d : Dev) (v n : Nat) : Dev :=
  ({ d with thatch := { d.thatch with placedOf := Tab.set d.thatch.placedOf v n } } : Dev).fset TMP_DEV_STAT.PLACED_SWARDS
    (min 0x7FFFF n) 0 v

/-- Swards placed on a device. -/
def Dev.placed (d : Dev) (v n : Nat) : Dev := d.setPlaced v (Tab.get 0 d.thatch.placedOf v + n)

/-- Swards no longer placed on a device. -/
def Dev.unplaced (d : Dev) (v n : Nat) : Dev := d.setPlaced v (Tab.get 0 d.thatch.placedOf v - n)

/-- Swards orphaned on a device, counted in whole GiB rounded up (R394). -/
def Dev.orphaned (d : Dev) (v n : Nat) : Dev :=
  let c := Tab.get 0 d.thatch.orphanOf v + n
  ({ d with thatch := { d.thatch with orphanOf := Tab.set d.thatch.orphanOf v c } } : Dev).fset TMP_DEV_STAT.ORPHAN_GIB
    ((c + 511) / 512) 0 v

/-- The slots that SPLIT fields hold. -/
def Dev.slotsUsed (d : Dev) : List Nat :=
  ((d.listed .TMP_FIELD0).filter fun x => d.fmode x.1 == fSplit).map fun x => d.fget TMP_FIELD0.SLOT x.1

/-- The lowest-numbered free split-field slot; the slots of a retired bank are none (R537). -/
def Dev.freeSlot (d : Dev) : Option Nat :=
  let us := d.slotsUsed
  (List.range 8192).find? fun k => !us.contains k && !d.placeRetired (130 + k / 256)

/-- The sward entries of a slot cleared. -/
def Dev.clearSlot (d : Dev) (k : Nat) : Dev :=
  { d with regs := d.regs.filter fun c => !(c.1.k == .TMP_SWARD && c.1.i / 512 == k) }

/-- The field whose slot is `k`. -/
def Dev.fieldOfSlot (d : Dev) (k : Nat) : Option Nat :=
  ((d.listed .TMP_FIELD0).find? fun x => d.fmode x.1 == fSplit && d.fget TMP_FIELD0.SLOT x.1 == k).map (·.1)

/-! Counting accesses (R386, R387) -/

/-- A candidate queued, unless its sward is in the queue already or the queue is full (R387). -/
def Dev.candidate (d : Dev) (c : Candidate) : Dev :=
  if d.thatch.candidates.any fun x => x.field == c.field && x.sward == c.sward then d
  else if 256 ≤ d.thatch.candidates.length then d.fadd TMP_MIGR_STAT1.CAND_DROPPED 1
  else { d with thatch := { d.thatch with candidates := d.thatch.candidates ++ [c] } }

/-- A field marked to split at the next swath boundary (R384). -/
def Dev.wantSplit (d : Dev) (f : Nat) : Dev :=
  if d.thatch.splitting.contains f then d
  else { d with thatch := { d.thatch with splitting := d.thatch.splitting ++ [f] } }

/-- Does a sampled increment happen: with probability 2^-SAMPLE_LOG2, decided by a free value (R386)? -/
def Dev.sampled (d : Dev) (t : Nat) : Bool := d.free.toNat % 2 ^ (d.fget TMP_TIER_CFG.SAMPLE_LOG2 0 t) == 0

/-- A CXL.mem request counted in its field's or sward's COUNT; reaching PROMOTE makes a candidate, or a WHOLE field split
(R384, R386, R387). -/
def Dev.countAccess (d : Dev) (p : Nat) : Dev :=
  let f := p / 2 ^ 30
  let m := d.fmode f
  let pinned := d.fon TMP_FIELD1.PIN f
  if m = fWhole then
    let t := d.fget TMP_DEV_CFG.TIER 0 (d.fget TMP_FIELD0.DEV f)
    let hit := d.sampled t
    let d := d.used
    if !hit then d
    else
      let old := d.fget TMP_FIELD1.COUNT f
      let d := d.fadd TMP_FIELD1.COUNT 1 f
      if old + 1 = d.fget TMP_TIER_CFG.PROMOTE 0 t ∧ d.fon TMP_ALLOC_CFG.AUTO_SPLIT ∧ !pinned then d.wantSplit f else d
  else if m = fSplit then
    let w := swardInst (d.fget TMP_FIELD0.SLOT f) p
    if d.fget TMP_SWARD.STATE w < swPlaced then d
    else
      let t := d.fget TMP_DEV_CFG.TIER 0 (d.fget TMP_SWARD.DEV w)
      let hit := d.sampled t
      let d := d.used
      if !hit then d
      else
        let old := d.fget TMP_SWARD.COUNT w
        let d := d.fadd TMP_SWARD.COUNT 1 w
        if old + 1 = d.fget TMP_TIER_CFG.PROMOTE 0 t ∧ 1 ≤ t ∧ !pinned then
          d.candidate ⟨f, p / 2 ^ 21 % 512, true⟩
        else d
  else d

/-! Zero-fill and release (R382, R383) -/

/-- What a released field waits for, as one number: a frame (even) or a sward frame (odd). -/
def relKey (sward : Bool) (dev n : Nat) : Nat := if sward then 2 * sframeKey dev n + 1 else 2 * frameKey dev n

/-- Is the frame or sward frame that such a number names on a device? -/
def fillKeyOn (v k : Nat) : Bool := if k % 2 = 1 then k / 2 / 2 ^ 33 == v else k / 2 / 2 ^ 24 == v

/-- A released field none of whose frames is still to be zeroed becomes UNUSED (R383). -/
def Dev.endRelease (d : Dev) (f : Nat) : Dev :=
  let d := { d with thatch := { d.thatch with releasing := Tab.erase d.thatch.releasing f } }
  let d := if d.fmode f = fSplit then
      (d.clearSlot (d.fget TMP_FIELD0.SLOT f)).fadd TMP_ALLOC_STAT.FREE_SLOTS 1 else d
  let d := d.setMode f fUnused
  let d := (((d.fsetBoth TMP_FIELD0.DEV 0 f).fsetBoth TMP_FIELD0.FRAME 0 f).fsetBoth TMP_FIELD0.SLOT 0 f).fsetBoth
    TMP_FIELD0.MIGRATING 0 f
  ((d.fsetBoth TMP_FIELD0.ORIGIN 0 f).fset TMP_FIELD1.PHASE 0 f).fset TMP_FIELD1.COUNT 0 f

/-- Released fields stop waiting for the frames `gone` names; those left with none end, at the next swath boundary, once no commit
that is neither applied nor withdrawn writes them (R375). -/
def Dev.releaseStep (d : Dev) (gone : Nat → Bool) : Dev :=
  let rel := d.thatch.releasing.map fun e => (e.1, e.2.filter fun k => !gone k)
  let d := { d with thatch := { d.thatch with releasing := rel } }
  let ends := rel.filter fun e => e.2.isEmpty && !(d.pendingWrites ⟨.TMP_FIELD1, e.1, 0⟩)
  ends.foldl (fun d e => d.endRelease e.1) (if ends.isEmpty then d else d.toSwath)

/-- The place of a SPLIT field's sward: device and sward frame, unless it is LOST or unused. -/
def Dev.swardAt (d : Dev) (w : Nat) : Option (Nat × Nat) :=
  if d.fget TMP_SWARD.STATE w < swPlaced then none else some (d.fget TMP_SWARD.DEV w, d.fget TMP_SWARD.FRAME2M w)

/-- The running migration of a sward entry, with its slot. -/
def Dev.migrationOf (d : Dev) (w : Nat) : Option (Nat × Migration) :=
  d.thatch.migrations.find? fun e => e.2.entry == w

/-- A field's MIGRATING bit: 1 while one of its swards migrates (R375). -/
def Dev.fieldMigrating (d : Dev) (f : Nat) : Dev :=
  d.fsetBoth TMP_FIELD0.MIGRATING (d.thatch.migrations.any fun e => e.2.field == f).toNat f

/-! Copies and fills under way (R382, R389) -/

/-- A migration's record changed. -/
def Dev.setMigr (d : Dev) (k : Nat) (m : Migration) : Dev :=
  { d with thatch := { d.thatch with migrations := Tab.set d.thatch.migrations k m } }

/-- A migration by its slot. -/
def Dev.migr (d : Dev) (k : Nat) : Option Migration := (d.thatch.migrations.find? fun e => e.1 == k).map (·.2)

/-- A line's copied bit set or cleared, with the count of lines whose bit is 0. -/
def Migration.mark (m : Migration) (i : Nat) (on : Bool) : Migration :=
  if m.bits.testBit i = on then m
  else if on then { m with bits := m.bits + 2 ^ i, left := m.left - 1 }
  else { m with bits := m.bits - 2 ^ i, left := m.left + 1 }

/-- A line of a migration is to be copied again. -/
def Dev.recopy (d : Dev) (k i : Nat) : Dev :=
  match d.migr k with
  | some m => d.setMigr k (m.mark i false)
  | none => d

/-- A write admitted to a line of a sward that migrates clears its bit (R389, step 3). -/
def Dev.writeCopied (d : Dev) (pool : Nat) : Dev :=
  match d.thatch.migrations.find? fun e => e.2.field == pool / 2 ^ 30 && e.2.entry % 512 == pool / 2 ^ 21 % 512 with
  | some (k, _) => d.recopy k (pool / 64 % 32768)
  | none => d

/-- The accesses of a migration's copy in flight. -/
def Dev.copyFlights (d : Dev) (k : Nat) : List Flight :=
  d.core.flights.filter fun x => match x.src with | .copy _ s _ => s == k | _ => false

/-- The accesses of a zero-fill in flight. -/
def Dev.fillFlights (d : Dev) (key : Nat) : List Flight :=
  d.core.flights.filter fun x => match x.src with | .fill _ q _ => q == key | _ => false

/-- The accesses that `sel` names taken out of flight. -/
def Dev.dropFlights (d : Dev) (sel : FlightSrc → Bool) : Dev :=
  { d with core := { d.core with flights := d.core.flights.filter fun x => !(sel x.src) } }

/-- How far the zero-fill of a frame or sward frame is. -/
def Dev.fillOf (d : Dev) (key : Nat) : Nat × List Nat := Tab.get (0, []) d.thatch.fills key

/-- How far a zero-fill is, given. -/
def Dev.setFill (d : Dev) (key : Nat) (x : Nat × List Nat) : Dev :=
  { d with thatch := { d.thatch with fills := Tab.set d.thatch.fills key x } }

/-- A zero-fill ended or abandoned. -/
def Dev.fillDrop (d : Dev) (key : Nat) : Dev :=
  let d := d.dropFlights fun s => match s with | .fill _ q _ => q == key | _ => false
  { d with thatch := { d.thatch with fills := Tab.erase d.thatch.fills key } }

/-- A chunk of a zero-fill is to be written again. -/
def Dev.refill (d : Dev) (key chunk : Nat) : Dev :=
  let (n, cs) := d.fillOf key
  d.setFill key (n, (cs.filter (· != chunk)) ++ [chunk])

/-- A sward frame that left use: unzeroed, waiting for zero-fill. On a device that is LOST there is nothing to fill. -/
def Dev.sframeLeft (d : Dev) (dev f2m : Nat) : Dev :=
  if d.dvInPool dev then (d.fillDrop (relKey true dev f2m)).setSFrame dev f2m .dirty else d

/-- A frame that left use. -/
def Dev.frameLeft (d : Dev) (dev frame : Nat) : Dev :=
  if d.dvInPool dev then (d.fillDrop (relKey false dev frame)).setFrame dev frame .dirty else d

/-- Requests held by a stall of a sward go on (R389, R390). -/
def Dev.stallEnd (d : Dev) (m : Migration) : Dev :=
  { d with core := { d.core with
      flights := d.core.flights.map fun x => if x.phase = .stalled ∧ x.addr / 2 ^ 30 = m.field ∧ x.addr / 2 ^ 21 % 512 = m.entry % 512 then
          { x with phase := .resumed } else x } }

/-- A migration slot freed (R404), with what its copy has in flight. -/
def Dev.migrSlotFree (d : Dev) (k : Nat) : Dev :=
  let d := d.dropFlights fun s => match s with | .copy _ q _ => q == k | _ => false
  let d := { d with thatch := { d.thatch with migrations := Tab.erase d.thatch.migrations k } }
  (d.wr ⟨.TMP_MIGR_SLOT, 0, k⟩ 0).fsub TMP_MIGR_STAT0.ACTIVE 1

/-- Where the swards of a SPLIT field stand. -/
def Dev.swardPlaces (d : Dev) (f : Nat) : List (Nat × Nat) :=
  if d.fmode f = fSplit then
    (List.range 512).filterMap fun s => d.swardAt (d.fget TMP_FIELD0.SLOT f * 512 + s)
  else []

/-- The sward frames of a GATHER's target frame that no sward came to are free and zeroed, those of an aborted copy apart,
which wait for zero-fill (R385). -/
def Dev.gatherRest (d : Dev) (f dev fr : Nat) : Dev :=
  let used := d.swardPlaces f
  if d.dvInPool dev && d.frame dev fr == .carved then
    let d := (List.range 512).foldl (fun d s =>
      let b := fr * 512 + s
      if d.sframe dev b == .inUse && !(used.contains (dev, b)) then d.setSFrame dev b .zeroed else d) d
    d.uncarve dev fr
  else d

/-- A GATHER that did not bring every sward over completes with PARTIAL. -/
def Dev.gatherPartial (d : Dev) (g : Gather) : Dev :=
  let d := { d with thatch := { d.thatch with gather := none } }
  ((d.fset TMP_CMD_STAT.STATE 2).fset TMP_CMD_STAT.RESULT 5).gatherRest g.field g.dev g.frame

/-- A GATHER that `sel` names cannot go on: its field or its device is gone. -/
def Dev.gatherDrop (d : Dev) (sel : Gather → Bool) : Dev :=
  match d.thatch.gather with
  | some g => if sel g then d.gatherPartial g else d
  | none => d

/-- A GATHER's move ended: switched or aborted (R385). -/
def Dev.gatherMoved (d : Dev) (m : Migration) (ok : Bool) : Dev :=
  match d.thatch.gather with
  | some g =>
    if m.why = .gather ∧ g.field = m.field then
      let g := { g with todo := g.todo.filter fun s => s != m.entry % 512, cut := g.cut || !ok }
      let d := { d with thatch := { d.thatch with gather := some g } }
      if g.todo = [] ∧ g.cut then d.gatherPartial g else d
    else d
  | none => d

/-- A MIGRATE job whose migration has ended (R456, R461). -/
def Dev.migrJobEnd (d : Dev) (m : Migration) (status result : Nat) : Dev :=
  match m.why with
  | .job id => d.workEnd id status result
  | _ => d

/-- A migration ended with its placement left on the source and its target zero-filled: aborted with a cause of R390 (1
STALL_OVERRUN, 2 PASSES, 3 TARGET_LOST, 4 RELEASE, 5 MANAGER), or 0 when its source is lost. -/
def Dev.abortMigration (d : Dev) (k cause : Nat) : Dev :=
  match d.thatch.migrations.find? fun e => e.1 == k with
  | none => d
  | some (_, m) =>
    let d := if d.fget TMP_SWARD.STATE m.entry = swMigrating then d.fset TMP_SWARD.STATE swPlaced m.entry else d
    let d := (d.sframeLeft m.dstDev m.dst).migrSlotFree k
    let d := (d.fadd TMP_MIGR_STAT1.ABORTED 1).fieldMigrating m.field
    let d := ((d.gatherMoved m false).stallEnd m).eventMgr 6
    if cause = 0 then d.migrJobEnd m 9 0 else d.migrJobEnd m 8 cause

/-- The migrations of a field aborted. -/
def Dev.abortField (d : Dev) (f : Nat) : Dev :=
  let d := (d.thatch.migrations.filter fun e => e.2.field == f).foldl (fun d e => d.abortMigration e.1 4) d
  let d := { d with thatch := { d.thatch with drainInto := Tab.erase d.thatch.drainInto f } }
  d.gatherDrop fun g => g.field == f

/-- A field released: its migrations abort, its frames leave use and are zero-filled, and it is UNUSED once they are
(R383). -/
def Dev.releaseField (d : Dev) (f : Nat) : Dev :=
  let d := d.abortField f
  let m := d.fmode f
  let d := d.fset TMP_FIELD1.PHASE 2 f
  if m = fWhole then
    let v := d.fget TMP_FIELD0.DEV f
    let fr := d.fget TMP_FIELD0.FRAME f
    let live := d.dvInPool v
    let d := ((d.frameLeft v fr).unplaced v 512)
    let d := { d with thatch := { d.thatch with
        releasing := Tab.set d.thatch.releasing f (if live then [relKey false v fr] else []) } }
    d.releaseStep fun _ => false
  else if m = fSplit then
    let k := d.fget TMP_FIELD0.SLOT f
    let held := (List.range 512).filterMap fun s => d.swardAt (k * 512 + s)
    let d := held.foldl (fun d x => (d.sframeLeft x.1 x.2).unplaced x.1 1) d
    let keys := (held.filter fun x => d.dvInPool x.1).map fun x => relKey true x.1 x.2
    let d := { d with thatch := { d.thatch with releasing := Tab.set d.thatch.releasing f keys } }
    d.releaseStep fun _ => false
  else
    let d := { d with thatch := { d.thatch with releasing := Tab.set d.thatch.releasing f [] } }
    d.releaseStep fun _ => false

/-- Is a field part of an open offer (R233)? -/
def Dev.fieldOffered (d : Dev) (f : Nat) : Bool :=
  d.pools.any fun e => match e.2.offer with
    | some (xs, _) => xs.any fun x => decide (x.field ≤ f ∧ f < x.field + x.len)
    | none => false

/-- A granted field that no binding names and no offer holds is released (R383). -/
def Dev.releaseUnbound (d : Dev) (f : Nat) : Dev :=
  if d.fget TMP_FIELD1.BIND_COUNT f = 0 ∧ d.fon TMP_FIELD0.ORIGIN f ∧ d.fget TMP_FIELD1.PHASE f ≠ 2 ∧ !d.fieldOffered f then
    d.releaseField f
  else d

/-- BIND_COUNT of a field changed by one; a granted field that no binding names any more is released (R372, R383). -/
def Dev.bindCount (d : Dev) (up : Bool) (f : Nat) : Dev :=
  if up then d.fadd TMP_FIELD1.BIND_COUNT 1 f
  else
    let d := d.fsub TMP_FIELD1.BIND_COUNT 1 f
    d.releaseUnbound f

/-- A binding entry of `v` comes into force or leaves it: BIND_COUNT of its fields and HELD_GIB of its tier (R372,
R403). -/
def Dev.bindEffect (d : Dev) (up : Bool) (v region field len : Nat) : Dev :=
  let d := if up then d.fadd TMP_QUOTA.HELD_GIB len 0 (v * 4 + region % 4)
    else d.fsub TMP_QUOTA.HELD_GIB len 0 (v * 4 + region % 4)
  (List.range len).foldl (fun d n => d.bindCount up (field + n)) d

/-! Splitting and merging (R384, R385) -/

/-- A WHOLE field splits: the lowest free slot, its sward entries PLACED on the frame's sward frames, the frame CARVED.
Without a slot NOSLOT is counted and nothing changes. -/
def Dev.splitField (d : Dev) (f : Nat) : Dev × Bool :=
  match d.freeSlot with
  | none => (d.fadd TMP_MIGR_STAT1.NOSLOT 1, false)
  | some k =>
    let v := d.fget TMP_FIELD0.DEV f
    let fr := d.fget TMP_FIELD0.FRAME f
    let d := (List.range 512).foldl (fun d s =>
      d.wr ⟨.TMP_SWARD, k * 512 + s, 0⟩
        (putBits (putBits (putBits 0 0 2 swPlaced) 8 8 v) 16 33 (fr * 512 + s))) d
    let d := (d.dropSFrames v fr).setFrame v fr .carved
    let d := (d.setMode f fSplit).fsetBoth TMP_FIELD0.SLOT k f
    ((d.fsub TMP_ALLOC_STAT.FREE_SLOTS 1), true)

/-- Do all 512 swards of a SPLIT field stand PLACED in order in one frame: the device and frame (R385)? -/
def Dev.mergeable (d : Dev) (f : Nat) : Option (Nat × Nat) :=
  let k := d.fget TMP_FIELD0.SLOT f
  let v := d.fget TMP_SWARD.DEV (k * 512)
  let fr := d.fget TMP_SWARD.FRAME2M (k * 512) / 512
  if d.fmode f = fSplit ∧ d.dvInPool v ∧ (List.range 512).all (fun s =>
      d.fget TMP_SWARD.STATE (k * 512 + s) == swPlaced && d.fget TMP_SWARD.DEV (k * 512 + s) == v &&
        d.fget TMP_SWARD.FRAME2M (k * 512 + s) == fr * 512 + s) then some (v, fr) else none

/-- A SPLIT field merges to WHOLE (R385). -/
def Dev.mergeField (d : Dev) (f : Nat) : Dev :=
  match d.mergeable f with
  | none => d
  | some (v, fr) =>
    let d := (d.clearSlot (d.fget TMP_FIELD0.SLOT f)).fadd TMP_ALLOC_STAT.FREE_SLOTS 1
    let d := ((d.setMode f fWhole).fsetBoth TMP_FIELD0.DEV v f).fsetBoth TMP_FIELD0.FRAME fr f
    let d := (d.fsetBoth TMP_FIELD0.SLOT 0 f).fset TMP_FIELD1.COUNT 0 f
    (d.dropSFrames v fr).setFrame v fr .whole

/-! Lost memory (R378, R393, R394) -/

/-- A write that met a lost placement: counted, and a DE fault naming the field (R378). -/
def Dev.lostWrite (d : Dev) (p : Nat) : Dev :=
  (d.fadd TMP_ALLOC_STAT.LOST_WRITES 1).raise 406 (recDE 0x50 (p / 2 ^ 30))

/-- A device becomes LOST: from now on every placement on it is lost, and the lost walk starts. A migration whose target
it is aborts; one whose source it is ends with its sward LOST (R390, R393). -/
def Dev.loseDevice (d : Dev) (v : Nat) : Dev :=
  if !(d.dvInPool v || d.dvState v == dvLent) then d
  else
    let t := d.fget TMP_DEV_CFG.TIER 0 v
    let lent := d.dvState v == dvLent
    let mine := d.thatch.frames.filter fun e => e.1 / 2 ^ 24 == v
    let size := d.fget TMP_DEV_CFG.SIZE_GIB 0 v
    let d := if lent || d.thatch.leaseOpen.contains v then d else
      (d.fsub TMP_TIER_STAT.FREE_GIB (size - (mine.filter fun e => !e.2.isFree).length) 0 t).fsub
        TMP_TIER_STAT.ZEROED_GIB (mine.filter fun e => e.2.isZeroed).length 0 t
    let d := d.fset TMP_DEV_STAT.STATE dvLost 0 v
    let d := if lent then d else d.fset TMP_DEV_STAT.WALK 1 0 v
    let gone := d.thatch.migrations
    let d := (gone.filter fun e => e.2.srcDev == v).foldl (fun d e =>
      ((d.fset TMP_SWARD.STATE swLost e.2.entry).unplaced v 1).abortMigration e.1 0) d
    let d := (gone.filter fun e => e.2.dstDev == v && e.2.srcDev != v).foldl (fun d e => d.abortMigration e.1 3) d
    let d := { d with thatch := { d.thatch with drainInto := d.thatch.drainInto.filter fun e => e.2.1 != v } }
    let d := d.gatherDrop fun g => g.dev == v
    let d := { d with thatch := { d.thatch with
        frames := d.thatch.frames.filter (fun e => e.1 / 2 ^ 24 != v),
        sframes := d.thatch.sframes.filter (fun e => e.1 / 2 ^ 33 != v),
        leaseOpen := d.thatch.leaseOpen.filter (· != v),
        fills := d.thatch.fills.filter fun e => !(fillKeyOn v e.1) } }
    let d := d.dropFlights fun s => match s with | .fill _ q _ => fillKeyOn v q | _ => false
    d.releaseStep (fillKeyOn v)

/-- The local devices behind a port. -/
def Dev.devsAt (d : Dev) (p : Nat) : List Nat :=
  (List.range 256).filter fun v => d.dvState v != dvAbsent && d.fget TMP_DEV_CFG.PORT 0 v == p

/-- Every sward and field of a lost device is written LOST when its walk ends; the device's PLACED_SWARDS reads 0
(R393). -/
def Dev.lostWalk (d : Dev) (v : Nat) : Dev :=
  let fs := (d.listed .TMP_FIELD0).map (·.1)
  let d := fs.foldl (fun d f =>
    if d.fmode f = fWhole ∧ d.fget TMP_FIELD0.DEV f = v then d.setMode f fLost else d) d
  let ws := (d.listed .TMP_SWARD).map (·.1)
  let d := ws.foldl (fun d w =>
    if swPlaced ≤ d.fget TMP_SWARD.STATE w ∧ d.fget TMP_SWARD.DEV w = v then d.fset TMP_SWARD.STATE swLost w else d) d
  (d.setPlaced v 0).fset TMP_DEV_STAT.WALK 0 0 v

/-- An uncorrectable word of the field table: the field is LOST in both copies, its slot freed with its swards, what it
held orphaned (R394). -/
def Dev.fieldWordLost (d : Dev) (f : Nat) : Dev :=
  let m := d.fmode f
  let d := d.abortField f
  let orphan := fun (d : Dev) (x : Nat × Nat) => (d.unplaced x.1 x.2).orphaned x.1 x.2
  let d :=
    if m = fWhole then
      let v := d.fget TMP_FIELD0.DEV f
      (orphan d (v, 512)).setFrame v (d.fget TMP_FIELD0.FRAME f) .orphan
    else if m = fSplit then
      let k := d.fget TMP_FIELD0.SLOT f
      let held := (List.range 512).filterMap fun s => d.swardAt (k * 512 + s)
      let d := held.foldl (fun d x => orphan d (x.1, 1)) d
      (d.clearSlot k).fadd TMP_ALLOC_STAT.FREE_SLOTS 1
    else d
  (d.setMode f fLost).raise 406 (recDE 0x51 f)

/-- An uncorrectable word of the sward table: both sward entries it holds are LOST (R394). -/
def Dev.swardWordLost (d : Dev) (w : Nat) : Dev :=
  let pair := [w / 2 * 2, w / 2 * 2 + 1]
  let d := pair.foldl (fun d w =>
    match d.swardAt w with
    | none => d
    | some (v, _) =>
      let d := match d.migrationOf w with | some (k, _) => d.abortMigration k 4 | none => d
      ((d.fset TMP_SWARD.STATE swLost w).unplaced v 1).orphaned v 1) d
  d.raise 406 (recDE 0x51 w)

/-! The movers' maintenance work (R382, R389, R454) -/

/-- The frames and sward frames that wait to be zero-filled. -/
def Dev.zeroWaiting (d : Dev) : Nat :=
  let vs := d.poolDevs.filter fun v => !(d.thatch.leaseOpen.contains v)
  (vs.map fun v =>
    let mine := d.thatch.frames.filter fun e => e.1 / 2 ^ 24 == v
    d.fget TMP_DEV_CFG.SIZE_GIB 0 v - mine.length + (mine.filter fun e => e.2 == .dirty).length).sum +
    (d.thatch.sframes.filter fun e => e.2 == .dirty).length

/-- ZERO_MOVERS in force: 1 to 16, 0 acts as 1 (R398). -/
def Dev.zeroMovers (d : Dev) : Nat := min 16 (max 1 (d.fget TMP_ALLOC_CFG.ZERO_MOVERS))

/-- Is a mover in service: enabled, and no wire fault of its unit standing (R454, R545)? -/
def Dev.moverOn (d : Dev) (m : Nat) : Bool := d.fon DMV_CTRL.EN m && !(d.fon FLT_UNIT_STAT.WIRE_FAULT (218 + m))

/-- The movers that zero-fill: the lowest-numbered in service (assumption 19). -/
def Dev.zeroFilling (d : Dev) : List Nat :=
  ((List.range 32).filter d.moverOn).take (min d.zeroMovers d.zeroWaiting)

/-- A mover's maintenance work: its migrations, and a zero-fill. -/
def Dev.moverMaint (d : Dev) (m : Nat) : Nat :=
  (d.thatch.migrations.filter fun e => e.2.mover == m).length + (d.zeroFilling.contains m).toNat

/-- A mover's active entries (R474): descriptor entries and maintenance work. -/
def Dev.moverActive (d : Dev) (m : Nat) : Nat :=
  (d.folds.work.filter fun w => w.state == .started (some m)).length + d.moverMaint m

/-- The enabled mover with the fewest active entries, below 8, the lowest-numbered among equals (R454). -/
def Dev.bestMover (d : Dev) : Option Nat :=
  let ms := ((List.range 32).filter d.moverOn).map fun m => (m, d.moverActive m)
  match ms with
  | [] => none
  | x :: xs =>
    let b := xs.foldl (fun b y => if y.2 < b.2 then y else b) x
    if b.2 < 8 then some b.1 else none

/-- Started entries and migrations that no mover runs go to the movers that take them (R454). A migration without a mover
names mover 32. -/
def Dev.reassign (d : Dev) : Dev :=
  let d := (d.thatch.migrations.filter fun e => e.2.mover == 32).foldl (fun d e =>
    let m : Migration := { e.2 with mover := d.bestMover.getD 32 }
    { d with thatch := { d.thatch with migrations := Tab.set d.thatch.migrations e.1 m } }) d
  (d.folds.work.filter fun w => w.state == .started none).foldl (fun d w =>
    match d.bestMover with
    | some m => d.setWork w.id fun w => { w with state := .started (some m) }
    | none => d) d

/-- A mover that has left service: its active entries continue on other movers, from their next chunk (R454). -/
def Dev.moverLost (d : Dev) (m : Nat) : Dev :=
  let ws := d.folds.work.map fun w => if w.state = .started (some m) then { w with state := .started none } else w
  let lose := fun (x : Migration) => if x.mover = m then { x with mover := 32 } else x
  let ms := d.thatch.migrations.map fun (e : Nat × Migration) => (e.1, lose e.2)
  let d := { d with folds := { d.folds with work := ws } }
  ({ d with thatch := { d.thatch with migrations := ms } } : Dev).reassign

/-- A mover is taken out of service. -/
def Dev.moverOut (d : Dev) (m : Nat) : Dev := (d.fset DMV_CTRL.EN 0 m).moverLost m

end Sys2Proof.Machine
end

