-- ==== Sys2Proof/Machine/TlkStore.lean ====
section
/-! DEFINITION. The receive pool of a Thatchlink port (08_thatchlink.md, R282 to R290): its slots, the credits it returns,
and the XOFF bits it sends. -/

namespace Sys2Proof.Machine

/-- The link layer of a Thatchlink port. -/
def Dev.tlkPort (d : Dev) (p : Nat) : TlkPort := Tab.get {} d.tlk.ports p

/-- The link layer of a Thatchlink port given. -/
def Dev.setTlk (d : Dev) (p : Nat) (x : TlkPort) : Dev := { d with tlk := { d.tlk with ports := Tab.set d.tlk.ports p x } }

/-- The dedicated slots of VC `c` (A_c). -/
def Dev.tlkA (d : Dev) (p c : Nat) : Nat := d.fget TLK_VC_CFG.CREDITS p c

/-- The slots of the shared part (S). -/
def Dev.tlkS (d : Dev) (p : Nat) : Nat := 512 - ((List.range 8).map (d.tlkA p)).sum

/-- The flits that hold a slot. -/
def TlkPort.taken (x : TlkPort) : List TlkFlit := x.held ++ x.released

/-- The shared slots that VC `c` holds. -/
def TlkPort.sharedOf (x : TlkPort) (c : Nat) : Nat := (x.taken.filter fun f => f.pool && f.vc == c).length

/-- Free shared slots, less those that missing sequences reserve (R279, R284). -/
def Dev.tlkFree (d : Dev) (p : Nat) : Nat :=
  let x := d.tlkPort p
  d.tlkS p - (x.taken.filter (·.pool)).length - x.missing.length

/-- The XOFF bits sent (R284): set on either condition, cleared when both are XON_GAP slots clear. A short port's second
condition is raised (R287). -/
def Dev.tlkXoff (d : Dev) (p : Nat) : Dev :=
  let x := d.tlkPort p
  let low := d.fget TLK_FC_CFG.HEADROOM p + x.raised
  let gap := d.fget TLK_CFG.XON_GAP p
  let free := d.tlkFree p
  (List.range 8).foldl (fun d c =>
    let n := x.sharedOf c
    let most := d.fget TLK_VC_CFG.SHARE_MAX p c
    if most ≤ n ∨ free ≤ low then d.fputBit TLK_STATUS.XOFF_TX c true p
    else if n + gap ≤ most ∧ low + gap ≤ free then d.fputBit TLK_STATUS.XOFF_TX c false p
    else d) d

/-- LIMIT of a VC (R283); returns that a lowered A_c withholds do not count yet (R290). -/
def Dev.tlkLimit (d : Dev) (p c : Nat) : Nat :=
  let x := d.tlkPort p
  (Tab.get 0 x.freed c + d.tlkA p c + Tab.get 0 x.withheld c) % 65536

/-- A CREDIT record of a VC is due. -/
def TlkPort.creditDue (x : TlkPort) (c : Nat) : TlkPort := if x.due.contains c then x else { x with due := x.due ++ [c] }

/-- A slot freed: returned in LIMIT unless withheld, and counted toward the VC's next record (R283, R290). -/
def Dev.tlkFreed (d : Dev) (p : Nat) (f : TlkFlit) : Dev :=
  let x := d.tlkPort p
  let c := f.vc
  let x := if f.pool then x else
    { x with
      freed := Tab.set x.freed c (Tab.get 0 x.freed c + 1),
      withheld := Tab.set x.withheld c (Tab.get 0 x.withheld c - 1) }
  let (n, t) := Tab.get (0, d.now) x.fresh c
  let x := { x with fresh := Tab.set x.fresh c (n + 1, t) }
  let x := if max 1 (d.fget TLK_CFG.CREDIT_BATCH p) ≤ n + 1 then x.creditDue c else x
  d.setTlk p x

/-- The released flits of a VC once the core has admitted one more message: the flits whose last message that was are taken
out. A flit in which no message ends only carries on the one that ends later. -/
def takeAdmitted (c : Nat) : List TlkFlit → List TlkFlit × List TlkFlit
  | [] => ([], [])
  | f :: fs =>
    if f.vc ≠ c then let (keep, out) := takeAdmitted c fs; (f :: keep, out)
    else if f.ends = 0 then
      if fs.any fun g => g.vc == c then let (keep, out) := takeAdmitted c fs; (keep, f :: out) else (f :: fs, [])
    else if f.ends = 1 ∧ !f.opens then (fs, [f])
    else ({ f with ends := f.ends - 1 } :: fs, [])

/-- The core has admitted the next message of a VC (R277, R283). -/
def Dev.tlkAdmitted (d : Dev) (p c : Nat) : Dev :=
  let x := d.tlkPort p
  let (keep, out) := takeAdmitted c x.released
  let d := d.setTlk p { x with released := keep }
  (out.foldl (fun d f => d.tlkFreed p f) d).tlkXoff p

/-- A message that holds a slot of its ingress Thatchlink's receive pool is admitted, or dropped. -/
def Dev.slotDone (d : Dev) (ingress vc : Option Nat) : Dev :=
  match ingress, vc with
  | some p, some c => d.tlkAdmitted p c
  | _, _ => d

end Sys2Proof.Machine
end

