-- ==== Sys2Proof/Machine/Switch.lean ====
section
/-! DEFINITION. The switch core (09_switch_core.md) with the Ridge lookup (10_scheduling.md, R348 to R352): cells and
admission, the class map, shapers, what ends a request, and flushing a port. -/

namespace Sys2Proof.Machine

/-! Cells (R303) and the parts of the buffer (R306, R307) -/

/-- The cells a message of `len` bytes takes. -/
def cellsOf (len : Nat) : Nat := max 1 ((len + 255) / 256)

/-- A message's cells. -/
def QMsg.cells (m : QMsg) : Nat := cellsOf m.len

/-- Is the port configured? -/
def Dev.configured (d : Dev) (p : Nat) : Bool := d.fon CXP_PORT_CFG.MODE p

/-- Is the port UP? -/
def Dev.portUp (d : Dev) (p : Nat) : Bool := d.fget CXP_LINK_STAT.STATE p == 2

/-- Is the link of a port in L1, where it carries no traffic (R203, R205)? -/
def Dev.inL1 (d : Dev) (p : Nat) : Bool := (Tab.get {} d.ports p).l1 != 0

/-- The minimums of the configured ports together. -/
def Dev.minSum (d : Dev) : Nat :=
  (((d.listed .CXP_PORT_CFG).filter fun x => d.configured x.1).map fun x => d.fget SWC_PORT_MIN.MIN 0 x.1).sum

/-- The size of the shared part. -/
def Dev.sharedSize (d : Dev) : Nat := d.fget SWC_BUF_STAT.CELLS_TOTAL - 4096 - d.minSum

/-- The messages that hold cells: queued, or being sent. -/
def Dev.inBuffer (d : Dev) : List QMsg :=
  d.core.buf ++ d.core.sending.map (·.2) ++ d.core.suspended.map (·.2)

/-- Free cells of the shared part. -/
def Dev.sharedFree (d : Dev) : Nat :=
  d.sharedSize - ((d.inBuffer.filter fun m => m.part == .shared).map QMsg.cells).sum

/-- The shared cells of one queue. -/
def Dev.queueShared (d : Dev) (p c f : Nat) : Nat :=
  ((d.core.buf.filter fun m => m.part == .shared && m.egress == p && m.cls == c && m.flow == f).map QMsg.cells).sum

/-- The exponent field of class `c` in SWC_ALPHA. -/
def alphaFld (c : Nat) : Fld := ⟨.SWC_ALPHA, 4 * c, 4⟩

/-- The threshold of every flow queue of class `c` (R307). -/
def Dev.threshold (d : Dev) (c : Nat) : Nat :=
  let k := min 9 (d.fget (alphaFld c))
  if 6 ≤ k then d.sharedFree * 2 ^ (k - 6) else d.sharedFree / 2 ^ (6 - k)

/-- The part a message is admitted from, if it can be (R306, R307). -/
def Dev.admitPart (d : Dev) (m : QMsg) : Option BufPart :=
  let n := m.cells
  if m.cls = 0 then
    if d.fget SWC_BUF_STAT.RIDGE_USED + n ≤ 4096 then some .ridge
    else if n ≤ d.sharedFree then some .shared else none
  else if d.fget SWC_PORT_MIN.MIN_USED 0 m.egress + n ≤ d.fget SWC_PORT_MIN.MIN 0 m.egress then some .min
  else if d.queueShared m.egress m.cls m.flow + n ≤ d.threshold m.cls ∧ n ≤ d.sharedFree then some .shared
  else none

/-- The flow queue number of a class and flow (R337). -/
def queueNo (c f : Nat) : Nat := (c - 1) * 64 + f

/-- A queue's cells counted in its DEPTH (R362, R366). -/
def Dev.depth (d : Dev) (m : QMsg) (up : Bool) : Dev :=
  if m.cls = 0 then
    if up then d.fadd SCH_RIDGE_Q.DEPTH m.cells m.egress else d.fsub SCH_RIDGE_Q.DEPTH m.cells m.egress
  else if up then d.fadd SCH_QUEUE_STAT.DEPTH m.cells m.egress (queueNo m.cls m.flow)
  else d.fsub SCH_QUEUE_STAT.DEPTH m.cells m.egress (queueNo m.cls m.flow)

/-- The shared cells of all queues of a port, for SHARED_PEAK (R335). -/
def Dev.portShared (d : Dev) (p : Nat) : Nat :=
  ((d.core.buf.filter fun m => m.part == .shared && m.egress == p && m.cls != 0).map QMsg.cells).sum

/-- Cells taken from a part. -/
def Dev.takeCells (d : Dev) (m : QMsg) : Dev :=
  let d := d.fsub SWC_BUF_STAT.CELLS_FREE m.cells
  match m.part with
  | .ridge => d.fadd SWC_BUF_STAT.RIDGE_USED m.cells
  | .min => d.fadd SWC_PORT_MIN.MIN_USED m.cells 0 m.egress
  | .shared => if m.cls = 0 then d.fadd SWC_EVENT_CNT.RIDGE_OVERFLOW 1 else d

/-- A message's cells freed: each returns to the part it came from (R308). -/
def Dev.freeCells (d : Dev) (m : QMsg) : Dev :=
  let d := d.fadd SWC_BUF_STAT.CELLS_FREE m.cells
  match m.part with
  | .ridge => d.fsub SWC_BUF_STAT.RIDGE_USED m.cells
  | .min => d.fsub SWC_PORT_MIN.MIN_USED m.cells 0 m.egress
  | .shared => d

/-! Tags (R340, R341) -/

/-- Is tag `a` earlier than tag `b` in serial-number arithmetic? -/
def tagBefore (a b : Nat) : Bool :=
  let x := (b + 2 ^ 32 - a % 2 ^ 32) % 2 ^ 32
  decide (1 ≤ x ∧ x < 2 ^ 31)

/-- The later of two tags. -/
def tagMax (a b : Nat) : Nat := if tagBefore a b then b else a

/-- A head tag that lags V by more than 2^30 is set to V (R341). -/
def tagLag (v f : Nat) : Nat :=
  let x := (v + 2 ^ 32 - f % 2 ^ 32) % 2 ^ 32
  if 2 ^ 30 < x ∧ x < 2 ^ 31 then v else f

/-- The weight in force: 0 acts as 1, above 4,096 as 4,096 (R343). -/
def weightOf (w : Nat) : Nat := min 4096 (max 1 w)

/-- A tag set for a message of `len` bytes (R340). -/
def tagNext (v prev len w : Nat) : Nat := (tagMax v prev + (len * 4096 + weightOf w - 1) / weightOf w) % 2 ^ 32

/-- A message's length for the scheduler (R339). -/
def Dev.schedLen (d : Dev) (m : QMsg) : Nat := m.len + d.cfg m.ep SCH_PORT_CFG.OVERHEAD m.egress

/-- A flow queue's head got a tag (R340), by the weight in force when it is set, whatever its message's epoch (R343). -/
def Dev.tagHead (d : Dev) (m : QMsg) : Dev :=
  if m.cls = 0 then d
  else
    let q := queueNo m.cls m.flow
    d.fset SCH_QUEUE_STAT.TAG
      (tagNext (d.fget SCH_CLASS_CFG.FLOW_V m.egress m.cls) (Tab.get 0 d.core.flowPrev (m.egress * 512 + q))
        (d.schedLen m) (d.fget SCH_QUEUE_CFG.WEIGHT m.egress q)) m.egress q

/-- The head of a queue. -/
def Dev.head (d : Dev) (p c f : Nat) : Option QMsg :=
  d.core.buf.find? fun m => m.egress == p && m.cls == c && (c == 0 || m.flow == f)

/-- Messages have left the buffer from anywhere in their queues (`old` the buffer before): a queue whose head they were has a new
one, which is tagged (R340). -/
def Dev.retag (d : Dev) (old : List QMsg) : Dev :=
  let firsts := fun (b : List QMsg) => b.foldl (fun (acc : List QMsg) m =>
    if acc.any fun x => x.egress == m.egress && x.cls == m.cls && x.flow == m.flow then acc else acc ++ [m]) []
  let was := firsts old
  ((firsts d.core.buf).filter fun m => !(was.contains m)).foldl Dev.tagHead d

/-! Age stamps (R326) -/

/-- The device's own count of swaths, never stepped (R326), 32 bits. -/
def Dev.ownSwath (d : Dev) : Nat := d.ownNow / 1024 % 2 ^ 32

/-- The stamp a request of epoch `e` gets at its admission while age discard is on for its class and port (R326). -/
def Dev.ageStamp (d : Dev) (e : Bool) (p c : Nat) : Option Nat :=
  if d.fon SWC_AGE_CFG.EN && (d.rdE e ⟨.SWC_AGE_CFG, 0, 0⟩).getLsbD c && decide (1 ≤ c ∧ c ≤ 7) &&
      (d.rdE e ⟨.SWC_AGE_PORTS, 0, p / 64⟩).getLsbD (p % 64) then some d.ownSwath else none

/-- A request in flight, by its tag. -/
def Dev.flight (d : Dev) (tag : Nat) : Option Flight := d.core.flights.find? fun x => x.tag == tag

/-- The stamp of a message: only a request of a port, a thread or the debug access port gets one (R327). -/
def Dev.stampOf (d : Dev) (m : QMsg) : Option Nat :=
  match m.body with
  | .request t =>
    match (d.flight t).map Flight.src with
    | some (.port _) | some (.thread _) | some .dap => d.ageStamp m.ep m.egress m.cls
    | _ => none
  | _ => none

/-- A message put in its queue, its cells taken from a part, and stamped (R326). -/
def Dev.enqueue (d : Dev) (m : QMsg) (part : BufPart) : Dev :=
  let m := { m with part := part, stamp := d.stampOf m }
  let first := (d.head m.egress m.cls m.flow).isNone
  let d := (d.takeCells m).depth m true
  let d := if first then d.tagHead m else d
  let d := { d with core := { d.core with buf := d.core.buf ++ [m] } }
  if part = .shared ∧ m.cls ≠ 0 then
    d.fset SWC_PORT_MIN.SHARED_PEAK (max (d.fget SWC_PORT_MIN.SHARED_PEAK 0 m.egress) (d.portShared m.egress)) 0 m.egress
  else d

/-- Is a message from the same source, of the same class and channel, held at ingress (R309)? The device's own messages,
which no ingress hold takes, wait only behind those to their egress port (R316). -/
def Dev.heldBefore (hs : List (Option Nat × QMsg)) (m : QMsg) : Bool :=
  hs.any fun h => h.1 == m.ingress && h.2.cls == m.cls && h.2.chan == m.chan && (m.ingress.isSome || h.2.egress == m.egress)

/-- A message offered to the buffer: admitted, or held at ingress (R307, R309). Of the messages of one port and class that wait,
the first 16 are in the port's ingress hold; a later one, which came while the hold was full on another channel, is still in
the link's receive buffer, its credits not returned. -/
def Dev.offer (d : Dev) (m : QMsg) : Dev :=
  if Dev.heldBefore d.core.holds m then { d with core := { d.core with holds := d.core.holds ++ [(m.ingress, m)] } }
  else match d.admitPart m with
    | some part => (d.enqueue m part).slotDone m.ingress m.vc
    | none => { d with core := { d.core with holds := d.core.holds ++ [(m.ingress, m)] } }

/-! Shapers (R344 to R346) -/

/-- A shaper's tokens at NOW, in 1/1,024 byte. They grow with the device's own time, whatever steps NOW makes; one that is not
enabled gains none. -/
def Dev.tokens (d : Dev) (n : Nat) : Int :=
  let s := Tab.get {} d.core.shapers n
  if d.fon SCH_SHAPER_CFG.EN n then
    min ((d.fget SCH_SHAPER_CFG.BURST n : Int) * 1024)
      (s.tokens + ((d.fget SCH_SHAPER_CFG.RATE n * 1024 * (d.ownNow - s.asOf) / 1000 : Nat) : Int))
  else s.tokens

/-- Does a shaper allow a message of an epoch (R24)? One that is not enabled allows every message. -/
def Dev.shaperAllows (d : Dev) (e : Bool) (n : Nat) : Bool := !(d.cfgOn e SCH_SHAPER_CFG.EN n) || decide (0 < d.tokens n)

/-- A message's length charged to a shaper. -/
def Dev.charge (d : Dev) (e : Bool) (n len : Nat) : Dev :=
  if d.cfgOn e SCH_SHAPER_CFG.EN n then
    let t := d.tokens n - (len : Int) * 1024
    let d := { d with core := { d.core with shapers := Tab.set d.core.shapers n ⟨t, d.ownNow⟩ } }
    d.finc SCH_SHAPER_BYTES.BYTES len n
  else d

/-- The number of a flow shaper among the shapers (R367). -/
def flowShaper (n : Nat) : Nat := 1024 + n

/-! The class map (R311 to R315) -/

/-- What the class map tests of a message. -/
structure Kinship where
  src : Nat
  region : Option Nat
  chan : Chan
  /-- 1 read request, 2 write request, 3 other. -/
  mtype : Nat
  mover : Bool := false
  deriving DecidableEq, Repr

/-- CHANNEL's code. -/
def chanCode : Chan → Nat
  | .io => 1
  | .cache => 2
  | .mem => 3

/-- Does rule `i` match (R312)? -/
def Dev.ruleMatches (d : Dev) (e : Bool) (i : Nat) (k : Kinship) : Bool :=
  let src := d.cfg e SWC_CLASS_RULE.SRC 0 i
  let ch := d.cfg e SWC_CLASS_RULE.CHANNEL 0 i
  let mt := d.cfg e SWC_CLASS_RULE.MTYPE 0 i
  d.cfgOn e SWC_CLASS_RULE.VALID 0 i && (src == 127 || (src == k.src && decide (src ≤ 66))) &&
    (d.cfgOn e SWC_CLASS_RULE.REGION_ANY 0 i || some (d.cfg e SWC_CLASS_RULE.REGION 0 i) == k.region) &&
    (ch == 0 || ch == chanCode k.chan) && (mt == 0 || k.chan == .io || mt == k.mtype)

/-- The class of a message by the class rules (R311, R314). -/
def Dev.classOf (d : Dev) (e : Bool) (k : Kinship) : Nat :=
  let is := rising ((d.listed .SWC_CLASS_RULE).map (·.2))
  match is.find? fun i => d.ruleMatches e i k && !(k.mover && d.cfg e SWC_CLASS_RULE.CLASS 0 i == 0) with
  | some i => d.cfg e SWC_CLASS_RULE.CLASS 0 i
  | none => d.cfg e SWC_CLASS_CFG.DEFAULT_CLASS

/-- The FLOW_SEL field of class `c`. -/
def flowSelFld (c : Nat) : Fld := ⟨.SWC_CLASS_CFG, 2 * c + 14, 2⟩

/-- The flow of a message of class `c` (R315). -/
def Dev.flowOf (d : Dev) (e : Bool) (c : Nat) (vsw ingress : Option Nat) : Nat :=
  if c = 0 then 0
  else match d.cfg e (flowSelFld c) with
    | 1 => (ingress.map (· % 64)).getD 63
    | 2 => 0
    | _ => vsw.getD 63

/-! The Ridge lookup (R348 to R352) -/

/-- NOW as the gates follow it: after a step, the old phase up to the first course boundary (R37, R352). -/
def Dev.gateNow (d : Dev) : Nat :=
  match d.time.steppedAt with
  | some s =>
    if s ≤ d.now ∧ d.now < nextMultiple s 1048576 ∧ s % 1048576 ≠ 0 then ((d.now : Int) - d.time.lastStep).toNat
    else d.now
  | none => d.now

/-- Is the gate of a port open at NOW in the map of an epoch (R351)? -/
def Dev.gateOpen (d : Dev) (e : Bool) (p : Nat) : Bool :=
  let s := d.gateNow / 1024 % 1024
  (d.rdE e ⟨.SCH_GATE_MAP, p, s / 64⟩).getLsbD (s % 64)

/-- The valid reservations of a port for a source, in order of number. -/
def Dev.reservations (d : Dev) (e : Bool) (p src : Nat) : List Nat :=
  (rising (((d.listed .SCH_RIDGE_RES).filter fun x => x.1 == p).map (·.2))).filter
    fun j => d.cfgOn e SCH_RIDGE_RES.VALID p j && d.cfg e SCH_RIDGE_RES.SRC p j == src

/-- The class a demoted message takes at its egress port (R349). -/
def Dev.excess (d : Dev) (e : Bool) (p : Nat) : Nat := d.cfg e SCH_PORT_CFG.EXCESS_CLASS p

/-- A request classified into class 0 looked up at its egress port: stays class 0 with the reservation it took, or demoted
(R349). -/
def Dev.ridgeRequest (d : Dev) (e : Bool) (p : Nat) (ingress : Option Nat) (len : Nat) : Dev × Nat × Option Nat :=
  if !(d.gateOpen e p) then (d.fadd SCH_RIDGE_CNT0.DEMOTE_GATE 1 p, d.excess e p, none)
  else
    let rs := match ingress with | some i => d.reservations e p i | none => []
    if rs.isEmpty then (d.fadd SCH_RIDGE_CNT1.DEMOTE_NORES 1 p, d.excess e p, none)
    else match rs.find? fun j => d.shaperAllows e (flowShaper (d.cfg e SCH_RIDGE_RES.REQ_SHAPER p j)) with
      | none => (d.fadd SCH_RIDGE_CNT0.DEMOTE_RATE 1 p, d.excess e p, none)
      | some j =>
        (d.charge e (flowShaper (d.cfg e SCH_RIDGE_RES.REQ_SHAPER p j)) (len + d.cfg e SCH_PORT_CFG.OVERHEAD p), 0, some j)

/-- The class of the response to a class-0 request that took reservation `j` of port `pe`: class 0 while the response
shaper allows it, else demoted at the response's egress port `pr` (R349). -/
def Dev.ridgeResponse (d : Dev) (e : Bool) (pe pr j len : Nat) : Dev × Nat :=
  let n := flowShaper (d.cfg e SCH_RIDGE_RES.RESP_SHAPER pe j)
  if d.shaperAllows e n then (d.charge e n (len + d.cfg e SCH_PORT_CFG.OVERHEAD pr), 0)
  else (d.fadd SCH_RIDGE_CNT0.DEMOTE_RATE 1 pr, d.excess e pr)

/-! Crossbar attachments (R18, R21) -/

/-- The configured lanes of a port. -/
def Dev.cfgLanes (d : Dev) (p : Nat) : Nat :=
  if d.configured p then 4 * 2 ^ (min 2 (d.fget CXP_PORT_CFG.WIDTH p)) else 0

/-- The attachment of a port. -/
def Dev.attached (d : Dev) (p : Nat) : Option Nat := (d.core.attach.find? fun e => e.1 == p).map (·.2)

/-- The lanes assigned to an attachment. -/
def Dev.attachLoad (d : Dev) (a : Nat) : Nat := ((d.core.attach.filter fun e => e.2 == a).map fun e => d.cfgLanes e.1).sum

/-- A port given the attachment of its Eave die with the fewest lanes, the lowest-numbered among equals. -/
def Dev.attachPort (d : Dev) (p : Nat) : Dev :=
  let a := 3 * (p / 16)
  let best := [a + 1, a + 2].foldl (fun x y => if d.attachLoad y < d.attachLoad x then y else x) a
  { d with core := { d.core with attach := Tab.set d.core.attach p best } }

/-- The assignment of an Eave die's ports at a commit of a port configuration: a port that is up keeps its attachment; the
others take theirs in order of width, widest first, then of number. -/
def Dev.attachDie (d : Dev) (die : Nat) : Dev :=
  let ps := ((List.range 16).map (16 * die + ·)).filter d.configured
  let keeps := fun p => d.portUp p && (d.attached p).isSome
  let d := { d with core := { d.core with
      attach := d.core.attach.filter fun e => e.1 / 16 != die || (ps.contains e.1 && keeps e.1) } }
  (sorted (fun a b => decide (d.cfgLanes b < d.cfgLanes a)) (ps.filter fun p => !(keeps p))).foldl Dev.attachPort d

/-- The attachment through which a source's requests travel (R18): its port's, the data movers' 24 and 25, 26 for Spar pool
accesses and those of the debug access port (R20), 27 for the directory. -/
def Dev.attachment (d : Dev) (src : FlightSrc) : Nat :=
  match src with
  | .port p | .gone p | .lender p _ _ _ => (d.attached p).getD (3 * (p / 16))
  | .chunk m _ | .copy m _ _ | .fill m _ _ => 24 + m / 16
  | .thread _ | .dap => 26
  | .directory => 27

/-! Requests in flight and their answers -/

/-- A request in flight changed. -/
def Dev.setFlight (d : Dev) (tag : Nat) (f : Flight → Flight) : Dev :=
  { d with core := { d.core with flights := d.core.flights.map fun x => if x.tag = tag then f x else x } }

/-- A request no longer in flight. -/
def Dev.dropFlight (d : Dev) (tag : Nat) : Dev :=
  { d with core := { d.core with flights := d.core.flights.filter fun x => x.tag != tag } }

/-- A new request in flight, with the next tag and its source's attachment. -/
def Dev.launch (d : Dev) (f : Flight) : Dev × Nat :=
  let t := d.core.nextTag
  ({ d with core := { d.core with flights := d.core.flights ++ [{ f with tag := t, via := d.attachment f.src }], nextTag := t + 1 } }, t)

/-- 64 bytes of ones. -/
def onesLine : Nat := 2 ^ 512 - 1

/-- All ones of a request's length. -/
def onesOf (len : Nat) : Nat := 2 ^ (8 * len) - 1

/-- Does a request of a kind return data? -/
def AccKind.returnsData : AccKind → Bool
  | .readS | .readE | .readU | .ioRead | .cacheRead => true
  | _ => false

/-- The channel a request of a kind travels on. -/
def AccKind.chan : AccKind → Chan
  | .ioRead | .ioNonPosted | .ioAtomic | .ioPosted => .io
  | .cacheRead | .cacheWrite => .cache
  | _ => .mem

/-- The answer a requester gets: data with poison; a write's normal completion, or a Cmp that grants no state; a completion
with status Unsupported Request; or none. -/
inductive Answer where
  | data (v : Nat) (poison : Bool)
  | done
  | unsupported
  | silent
  deriving DecidableEq, Repr

/-- A response queued toward the port a request came from, in the request's class (R311, R315, R349). A response toward a
port that is not up is discarded (R321). -/
def Dev.respondPort (d : Dev) (fl : Flight) (p : Nat) (a : Answer) : Dev :=
  let (dat, poi) := match a with
    | .data v x => (some v, x)
    | _ => (none, false)
  if a = .silent then d
  else if !(d.portUp p) then
    if dat.isSome then d.fadd SWC_FLUSH_CNT.DROPPED_WRITES 1 else d
  else
    let len := 16 + fl.respExtra + if dat.isSome then fl.len else 0
    let (d, c) := match fl.cls, fl.rsv with
      | 0, some j => d.ridgeResponse fl.epoch fl.egress p j len
      | c, _ => (d, c)
    let flow := if c = fl.cls then fl.flow else d.flowOf fl.epoch c fl.vsw (some p)
    d.offer { body := .response fl.hostTag dat poi fl.rsv, ingress := if fl.egress < 128 then some fl.egress else none,
              egress := p, cls := c, flow := flow, chan := fl.kind.chan, len := len, ep := fl.epoch, vc := fl.vc, extra := fl.respExtra }

/-- The body of DDATA or DDONE (R432): TAG, the two devices, the line's DPA, STATUS. -/
def ddBody (tag lender borrower dpa status : Nat) : List Byte :=
  leBytes 2 tag ++ leBytes 1 lender ++ leBytes 1 borrower ++ leBytes 6 dpa ++ leBytes 1 status ++ leBytes 5 0

/-- A DDATA or DDONE sent toward the borrower: STATUS, and for a DREAD the line's data, all ones with poison unless STATUS is 0
(R432). Toward a port that is not up it is discarded (R321). -/
def Dev.lenderSend (d : Dev) (e : Bool) (p c flow tag lender borrower dpa status : Nat) (write : Bool)
    (data : Option (Nat × Bool)) : Dev :=
  let (v, x) := if status = 0 then data.getD (onesLine, true) else (onesLine, true)
  let body := ddBody tag lender borrower dpa status
  if !(d.portUp p) then if write then d else d.fadd SWC_FLUSH_CNT.DROPPED_WRITES 1
  else
    d.offer { body := if write then .coord 0x13 body false else .coord 0x12 (body ++ leBytes 64 v) x, ingress := none, egress := p,
              cls := c, flow := flow, chan := .mem, len := if write then 16 else 80, ep := e }

/-- The answer to a DREAD or DWRITE that is stopped before it is in flight, in the class of its VC; one of class 0 took no
reservation. -/
def Dev.lenderReply (d : Dev) (p vc tag lender borrower dpa status : Nat) (write : Bool) : Dev :=
  let e := d.commits.epoch
  let c := if vc = 0 then d.excess e p else vc
  d.lenderSend e p c (d.flowOf e c none (some p)) tag lender borrower dpa status write none

/-- An access that the lender performed for a borrower is complete, or ended without one (R433): the answer takes the class and
flow of the message, or what the lookup of a class-0 response gives (R311, R315, R349). -/
def Dev.lenderAnswer (d : Dev) (fl : Flight) (status : Nat) (data : Option (Nat × Bool)) : Dev :=
  match fl.src with
  | .lender p tag dl db =>
    let d := d.dropFlight fl.tag
    let (d, c) := match fl.cls, fl.rsv with
      | 0, some j => d.ridgeResponse fl.epoch fl.egress p j (if fl.write then 16 else 80)
      | 0, none => (d, d.excess fl.epoch p)
      | c, _ => (d, c)
    let flow := if c = fl.cls then fl.flow else d.flowOf fl.epoch c none (some p)
    d.lenderSend fl.epoch p c flow tag dl db fl.addr status fl.write data
  | _ => d

/-- A request answered: it is in flight no longer, and its requester gets the answer. A thread's or the debug access port's
read, and a chunk, keeps its answer until that requester takes it. -/
def Dev.answer (d : Dev) (fl : Flight) (a : Answer) : Dev :=
  let keep := fun (v : Nat) (x : Bool) => d.setFlight fl.tag fun y => { y with phase := .sent, answer := some (v, x) }
  match fl.src with
  | .port p => (d.dropFlight fl.tag).respondPort fl p a
  | .thread _ | .dap =>
    match a with
    | .data v x => keep v x
    | _ => if fl.write then d.dropFlight fl.tag else keep (onesOf fl.len) true
  | .copy _ _ _ | .fill _ _ _ =>
    match a with
    | .data v x => keep v x
    | _ => if fl.write then keep 0 false else keep onesLine true
  | .chunk _ _ =>
    match a with
    | .data v x => keep v x
    | .unsupported => (d.dropFlight fl.tag).chunkFailed fl 5
    | _ => keep 0 false
  | .directory => d.dropFlight fl.tag
  | .gone _ =>
    match a with
    | .data _ _ => (d.dropFlight fl.tag).fadd SWC_FLUSH_CNT.DROPPED_WRITES 1
    | _ => d.dropFlight fl.tag
  | .lender _ _ _ _ => d.lenderAnswer fl 0 (match a with | .data v x => some (v, x) | _ => none)

/-- A thread's posted write failed: its next FNC returns C = 1 (R116, R320). -/
def Dev.postFailed (d : Dev) (t : Nat) : Dev := d.setThr t { d.thr t with postFail := true }

/-- A read of a thread, the debug access port or a mover that a flush, an age discard or a damaged header ends (`status` 6)
is a CXL.mem read completed with data of the device's own (R320). -/
def Dev.synthRead (d : Dev) (status : Nat) : Dev := if status = 6 then d.fadd SWC_FLUSH_CNT.SYNTH_READS 1 else d

/-- A request ended without an answer from its destination, completed as R320 gives; `status` is what a data mover's entry
ends with. A line of a migration's copy, or a chunk of a zero-fill, is done again. -/
def Dev.endRequest (d : Dev) (fl : Flight) (status : Nat) : Dev :=
  match fl.src with
  | .port _ =>
    match fl.kind with
    | .readS | .readE | .readU | .cacheRead | .ioRead =>
      (d.fadd SWC_FLUSH_CNT.SYNTH_READS 1).answer fl (.data (onesOf fl.len) true)
    | .invE | .cleanEvict => d.answer fl .done
    | .writeBack _ | .writeU | .cacheWrite => (d.fadd SWC_FLUSH_CNT.DROPPED_WRITES 1).answer fl .done
    | .ioNonPosted | .ioAtomic =>
      (if fl.len = 0 then d else d.fadd SWC_FLUSH_CNT.DROPPED_WRITES 1).answer fl .unsupported
    | .ioPosted => (d.fadd SWC_FLUSH_CNT.DROPPED_WRITES 1).answer fl .silent
  | .thread t => if fl.write then (d.dropFlight fl.tag).postFailed t else (d.synthRead status).answer fl (.data (onesOf fl.len) true)
  | .dap => (if fl.write then d else d.synthRead status).answer fl (.data (onesOf fl.len) true)
  | .chunk _ _ =>
    if status = 6 ∧ !fl.write then (d.synthRead 6).answer fl (.data (onesOf fl.len) true)
    else (d.dropFlight fl.tag).chunkFailed fl status
  | .directory | .gone _ => d.dropFlight fl.tag
  | .copy _ k i => (d.dropFlight fl.tag).recopy k i
  | .fill _ key c => ((d.dropFlights fun s => s == fl.src)).refill key c
  | .lender _ _ _ _ => d.lenderAnswer fl 1 none

/-! Flushing a port (R319 to R322) -/

/-- A message of a fold toward its host that a flush or a damaged header ends (R320): a read is completed as one of CXL.io, with
poisoned data of the device's own; a write, which is posted, is dropped. -/
def Dev.hostMsgEnded (d : Dev) (m : QMsg) : Dev :=
  match m.body with
  | .hostRead f a _ => (d.fadd SWC_FLUSH_CNT.SYNTH_READS 1).hostReadLost f a
  | .hostWrite f a _ _ => (d.fadd SWC_FLUSH_CNT.DROPPED_WRITES 1).hostWriteLost f a
  | _ => d

/-- The request a queued message carries. -/
def QBody.tag? : QBody → Option Nat
  | .request t => some t
  | _ => none

/-- Does a message carry response data? -/
def QMsg.answersData (m : QMsg) : Bool :=
  match m.body with
  | .response _ (some _) _ _ => true
  | _ => false

/-- A snoop has left its egress port, or was handed back as failed before it could (R320): its timer starts (R415). -/
def Dev.snoopLeft (d : Dev) (m : QMsg) : Dev :=
  match m.body with
  | .snoop v hpa _ =>
    { d with dir := { d.dir with
      snoops := d.dir.snoops.map fun (s : Snoop) =>
        if s.host = v ∧ s.sent = none ∧ s.hpa = hpa then { s with sent := some d.now } else s } }
  | _ => d

/-- The request that a queued DREAD or DWRITE carries (R432). -/
def Dev.coordFlight (d : Dev) (m : QMsg) : Option Flight :=
  match m.body with
  | .coord typ body _ =>
    if typ = 0x10 ∨ typ = 0x11 then
      d.core.flights.find? fun f => f.tag % 65536 == leNat (body.take 2) && f.egress == m.egress && f.phase == .queued
    else none
  | _ => none

/-- The request in flight that a message carries. -/
def Dev.carried (d : Dev) (m : QMsg) : Option Flight :=
  match m.body with
  | .request t => d.flight t
  | _ => d.coordFlight m

/-- A request for data that was sent, whose own ingress port leaves UP: its response will be discarded (R321). -/
def Dev.orphan (d : Dev) (fl : Flight) : Dev :=
  if fl.kind.returnsData || fl.kind == .ioAtomic then
    { d with core := { d.core with orphans := d.core.orphans ++ [(fl.tag, fl.egress)] } }
  else d

/-- The queues of a port emptied, transmission stopped, its ingress holds dropped, and its own requests removed from other
ports' queues, but for one whose transmission has begun: that one goes on with no requester (R319). -/
def Dev.flushQueues (d : Dev) (p : Nat) : Dev :=
  let own := fun (m : QMsg) => match d.carried m with | some fl => fl.src == .port p | none => false
  let mine := fun (m : QMsg) => m.egress == p || own m
  let buf := d.core.buf
  let gone := buf.filter mine
  let lost := d.core.flights.filter fun f => f.src == .port p && f.egress != p && f.phase == .sent && f.answer.isNone
  let onWire := d.core.sending ++ d.core.suspended
  let abandoned := (onWire.filter fun e => e.2.egress == p).map (·.2)
  let begun := (onWire.filter fun e => e.2.egress != p && own e.2).filterMap fun e => (d.carried e.2).map (·.tag)
  let cut := fun (h : Option Nat × QMsg) => h.1 == some p || mine h.2
  let dropped := d.core.holds.filter cut
  let d := { d with core := { d.core with
      buf := d.core.buf.filter fun m => !mine m,
      sending := d.core.sending.filter fun e => e.2.egress != p,
      suspended := d.core.suspended.filter fun e => e.2.egress != p,
      holds := d.core.holds.filter fun h => !cut h,
      orphans := d.core.orphans.filter fun o => o.2 != p } }
  let d := lost.foldl Dev.orphan d
  let d := (gone ++ abandoned ++ dropped.map (·.2)).foldl Dev.snoopLeft d
  let d := gone.foldl (fun d m => (d.freeCells m).depth m false) (d.retag buf)
  let d := abandoned.foldl Dev.freeCells d
  let d := dropped.foldl (fun d h => d.slotDone h.1 h.2.vc) d
  let d := (gone ++ abandoned ++ dropped.map (·.2)).foldl Dev.hostMsgEnded d
  { d with core := { d.core with
      flights := (d.core.flights.map fun f => if begun.contains f.tag then { f with src := .gone p } else f).filter
        fun f => !(f.src == .port p) } }

/-- The request whose response was freed with the ingress hold of the port it came on is completed by the device (R319,
R320). -/
def Dev.reAnswer (d : Dev) (m : QMsg) : Dev :=
  match m.body with
  | .response t (some _) _ r =>
    (d.fadd SWC_FLUSH_CNT.SYNTH_READS 1).offer
      { m with body := .response t (some (onesOf (m.len - 16 - m.extra))) true r, len := m.len - m.extra, extra := 0,
               ingress := none, vc := none }
  | .response _ none _ _ => d.offer { m with ingress := none, vc := none }
  | _ => d

/-- A response to a request whose ingress port left UP after it was sent: discarded, its data counted (R321). -/
def Dev.orphanAnswer (d : Dev) (p : Nat) (is : Nat → Bool) (dat : Bool) : Dev :=
  let mine := fun (o : Nat × Nat) => o.2 == p && is o.1
  if d.core.orphans.any mine then
    let d := { d with core := { d.core with orphans := d.core.orphans.filter fun o => !(mine o) } }
    if dat then d.fadd SWC_FLUSH_CNT.DROPPED_WRITES 1 else d
  else d

/-- A flush: queues and holds emptied, then every request queued to the port or sent on it and unanswered completed, and
one flush event logged (R319). -/
def Dev.flush (d : Dev) (p : Nat) : Dev :=
  let waiting := d.inBuffer ++ d.core.holds.map (·.2)
  let lost := (waiting.filter fun m => m.egress == p && m.answersData).length
  let cut := (d.core.holds.filter fun h => h.1 == some p && h.2.egress != p).map (·.2)
  let d := (d.flushQueues p).fadd SWC_FLUSH_CNT.DROPPED_WRITES lost
  let d := cut.foldl Dev.reAnswer d
  let toEnd := d.core.flights.filter fun f => f.egress == p && (f.phase == .queued || f.phase == .sent) && f.answer.isNone
  let d := toEnd.foldl (fun d f => d.endRequest f 6) d
  d.send (.log "flush" p)

end Sys2Proof.Machine
end

