-- ==== Sys2Proof/Machine/Sched.lean ====
section
/-! DEFINITION. The scheduler of an egress port (10_scheduling.md, R337 to R346, R353) and what happens to a message at
dequeue (09_switch_core.md, R323 to R327): EGRESS_SLOT and BUFFER_ADMIT. -/

namespace Sys2Proof.Machine

/-! What a dequeued message meets -/

/-- Is a stamped request too old (R326)? -/
def Dev.tooOld (d : Dev) (m : QMsg) : Bool :=
  match m.stamp with
  | some s => d.fon SWC_AGE_CFG.EN &&
      decide (max 1 (d.cfg m.ep SWC_AGE_CFG.LIMIT) < (d.ownSwath + 2 ^ 32 - s) % 2 ^ 32)
  | none => false

/-- Is it a cell of an old fold generation (R325)? -/
def Dev.oldGen (d : Dev) (m : QMsg) : Bool :=
  match m.gen with
  | some (f, g) => d.fget FLD_STAT.GEN f != g
  | none => false

/-- A chunk discarded unsent with its old generation: no completion comes (R325, R479). -/
def Dev.discardChunk (d : Dev) (m : QMsg) : Dev :=
  match m.body.tag?.bind d.flight with
  | some fl =>
    match fl.src with
    | .chunk _ id => (d.dropFlight fl.tag).workCheck id
    | _ => d.dropFlight fl.tag
  | none => d

/-- A message with poison on its data. -/
def QMsg.poisoned (m : QMsg) : QMsg :=
  match m.body with
  | .response t dat _ r => { m with body := .response t dat true r }
  | .coord t b _ => { m with body := .coord t b true }
  | .hostWrite f a bs _ => { m with body := .hostWrite f a bs true }
  | _ => m

/-- A message at dequeue: what is sent of it, if anything, and what is done instead (R323 to R326). -/
def Dev.atDequeue (d : Dev) (m : QMsg) (cs : CellState) : Dev × Option QMsg :=
  let d0 := d.depth m false
  if d.oldGen m then
    (((d0.freeCells m).fadd SWC_DISCARD_CNT.GEN_DISCARDS 1).discardChunk m, none)
  else if d.tooOld m then
    let d := (d0.freeCells m).fadd SWC_DISCARD_CNT.AGE_DISCARDS 1
    (match m.body.tag?.bind d.flight with | some fl => d.endRequest fl 6 | none => d, none)
  else match cs with
    | .whole => (d0, some m)
    | .words n =>
      let d := (d0.fadd SWC_EVENT_CNT.POISON_OUT n).raise 405 (recDE 0x41 m.egress)
      let d := match m.body.tag? with | some t => d.setFlight t fun f => { f with poison := true } | none => d
      (d, some m.poisoned)
    | .header =>
      let d := (d0.fadd SWC_EVENT_CNT.HDR_LOST 1).raise 405 (recDE 0x42 m.egress)
      match m.body with
      | .response t dat _ r => (d, some { m with body := .response t (dat.map fun _ => onesOf (m.len - 16 - m.extra)) true r })
      | .request t =>
        let d := d.freeCells m
        (match d.flight t with | some fl => d.endRequest fl 6 | none => d, none)
      | _ =>
        let d := ((d.freeCells m).snoopLeft m).hostMsgEnded m
        (match d.coordFlight m with | some fl => d.endRequest fl 6 | none => d, none)

/-- Is it a non-posted CXL.io request? -/
def Dev.nonPosted (d : Dev) (m : QMsg) : Bool :=
  match m.body.tag?.bind d.flight with
  | some fl => fl.kind == .ioRead || fl.kind == .ioNonPosted || fl.kind == .ioAtomic
  | none => false

/-- The message a queue offers: its head; where the link's credits block non-posted CXL.io requests, the posted request or
completion right behind those at its head passes them (R316). -/
def Dev.offered (d : Dev) (p c f : Nat) (npBlocked : Bool) : Option QMsg :=
  let q := d.core.buf.filter fun x => x.egress == p && x.cls == c && (c == 0 || x.flow == f)
  match q with
  | [] => none
  | m :: _ =>
    if npBlocked && d.nonPosted m then
      match q.dropWhile d.nonPosted with
      | x :: _ => if x.chan = .io then some x else none
      | [] => none
    else some m

/-- The flows of a class that hold a message. -/
def Dev.flowsOf (d : Dev) (p c : Nat) : List Nat :=
  (d.core.buf.filter fun m => m.egress == p && m.cls == c).foldl
    (fun acc m => if acc.contains m.flow then acc else acc ++ [m.flow]) []

/-- Does a flow queue's shaper, if it has one, allow its message (R338)? -/
def Dev.flowAllowed (d : Dev) (m : QMsg) : Bool :=
  let q := queueNo m.cls m.flow
  !(d.cfgOn m.ep SCH_QUEUE_CFG.SHAPER_EN m.egress q) ||
    d.shaperAllows m.ep (flowShaper (d.cfg m.ep SCH_QUEUE_CFG.SHAPER m.egress q))

/-- The head tags of a class's flows kept within 2^30 of V (R341). -/
def Dev.lagFlows (d : Dev) (p c : Nat) : Dev :=
  (d.flowsOf p c).foldl (fun d f =>
    let q := queueNo c f
    d.fset SCH_QUEUE_STAT.TAG (tagLag (d.fget SCH_CLASS_CFG.FLOW_V p c) (d.fget SCH_QUEUE_STAT.TAG p q)) p q) d

/-- The eligible flow with the smallest tag, the lower number among equals (R338, R342). -/
def Dev.chooseFlow (d : Dev) (p c : Nat) (npBlocked : Bool) : Option (Nat × QMsg) :=
  (rising (d.flowsOf p c)).foldl (fun best f =>
    match d.offered p c f npBlocked with
    | none => best
    | some m =>
      if !(d.flowAllowed m) then best
      else match best with
        | none => some (f, m)
        | some (g, _) =>
          if tagBefore (d.fget SCH_QUEUE_STAT.TAG p (queueNo c f)) (d.fget SCH_QUEUE_STAT.TAG p (queueNo c g)) then
            some (f, m) else best) none

/-- A class's tag record. -/
def Dev.classTag (d : Dev) (p c : Nat) : ClassTag := Tab.get {} d.core.classTags (p * 8 + c)

/-- A class's tag record given. -/
def Dev.setClassTag (d : Dev) (p c : Nat) (t : ClassTag) : Dev :=
  { d with core := { d.core with classTags := Tab.set d.core.classTags (p * 8 + c) t } }

/-- The class tag set for the message the flow level has chosen, when that choice changed, by the weight in force then, and kept
within 2^30 of V (R340, R341, R343). -/
def Dev.classChoice (d : Dev) (p c : Nat) (f : Option (Nat × QMsg)) : Dev :=
  let r := d.classTag p c
  let v := d.fget SCH_RIDGE_Q.CLASS_V p
  match f with
  | none => d.setClassTag p c { r with choice := none }
  | some (_, m) =>
    let r := if r.choice = some m then r
      else { r with tag := tagNext v r.prev (d.schedLen m) (d.fget SCH_CLASS_CFG.WEIGHT p c), choice := some m }
    d.setClassTag p c { r with tag := tagLag v r.tag }

/-- The choice among classes 1 to 7: class, flow and message (R338, R342). `ready` says which classes the link can take. -/
def Dev.chooseClass (d : Dev) (p : Nat) (npBlocked : Bool) (ready : Nat → Bool) : Dev × Option (Nat × Nat × QMsg) :=
  (List.range 8).foldl (fun (acc : Dev × Option (Nat × Nat × QMsg)) c =>
    let (d, best) := acc
    if c = 0 then acc
    else
      let d := d.lagFlows p c
      let ch := d.chooseFlow p c npBlocked
      let d := d.classChoice p c ch
      match ch with
      | none => (d, best)
      | some (f, m) =>
        if !(d.shaperAllows m.ep (p * 8 + c)) || !(ready c) then (d, best)
        else match best with
          | none => (d, some (c, f, m))
          | some (b, _, _) =>
            if tagBefore (d.classTag p c).tag (d.classTag p b).tag then (d, some (c, f, m)) else (d, best)) (d, none)

/-- A message taken out of its queue; the next one of a flow queue is tagged as its head (R340). -/
def Dev.unqueue (d : Dev) (m : QMsg) : Dev :=
  let d := { d with core := { d.core with buf := d.core.buf.erase m } }
  match d.head m.egress m.cls m.flow with
  | some n => d.tagHead n
  | none => d

/-- The flow and class served: V and the served tags, and the shapers charged (R340, R345). -/
def Dev.served (d : Dev) (m : QMsg) : Dev :=
  if m.cls = 0 then d.fadd SCH_RIDGE_CNT1.SERVED 1 m.egress
  else
    let p := m.egress
    let q := queueNo m.cls m.flow
    let tag := d.fget SCH_QUEUE_STAT.TAG p q
    let r := d.classTag p m.cls
    let d := (d.fset SCH_CLASS_CFG.FLOW_V tag p m.cls).fset SCH_RIDGE_Q.CLASS_V r.tag p
    let d := { d with core := { d.core with flowPrev := Tab.set d.core.flowPrev (p * 512 + q) tag } }
    let d := d.setClassTag p m.cls { r with prev := r.tag, choice := none }
    let len := d.schedLen m
    let d := d.charge m.ep (p * 8 + m.cls) len
    if d.cfgOn m.ep SCH_QUEUE_CFG.SHAPER_EN p q then d.charge m.ep (flowShaper (d.cfg m.ep SCH_QUEUE_CFG.SHAPER p q)) len else d

/-- The DevLoad of the pool device's CXL.mem response that leaves toward a host, from the depth in cells of its egress queue
(R225). -/
def Dev.devLoad (d : Dev) (m : QMsg) : Option Nat :=
  match m.body, m.chan with
  | .response _ _ _ _, .mem =>
    if d.fget CXP_PORT_CFG.MODE m.egress = 1 then
      some (Config.devLoad (if m.cls = 0 then d.fget SCH_RIDGE_Q.DEPTH m.egress
        else d.fget SCH_QUEUE_STAT.DEPTH m.egress (queueNo m.cls m.flow))).val
    else none
  | _, _ => none

/-- A flit with a message has left a CXL port: the port is not idle (R203). -/
def Dev.flitLeft (d : Dev) (p : Nat) : Dev :=
  { d with ports := Tab.set d.ports p { Tab.get {} d.ports p with lastFlit := d.now } }

/-- A request sent: it waits for its answer, but a posted one is done with, a chunk's completed (R457), and one whose requester
has left since is forgotten (R319). -/
def Dev.requestSent (d : Dev) (fl : Flight) : Dev :=
  match fl.src with
  | .gone _ => (d.orphan fl).dropFlight fl.tag
  | .chunk _ _ =>
    d.setFlight fl.tag fun f => { f with phase := .sent, answer := if fl.kind = .ioPosted then some (0, false) else f.answer }
  | _ => if fl.kind = .ioPosted then d.dropFlight fl.tag else d.setFlight fl.tag fun f => { f with phase := .sent }

/-- A message's last flit has left: its cells are free, and what it carries is on the link (R308); a DREAD or DWRITE counts as
its request sent; a snoop's timer starts (R415). -/
def Dev.sent (d : Dev) (m : QMsg) : Dev :=
  let load := d.devLoad m
  let fl := d.carried m
  let shown := match m.body with | .request _ => fl | _ => none
  let d := (((d.freeCells m).flitLeft m.egress).snoopLeft m)
  match m.body, fl with
  | .request _, none => d
  | _, _ =>
    let d := d.send (.link m.egress m.body shown load)
    match fl with
    | some fl => d.requestSent fl
    | none => d

/-- A message's transmission begins: sent whole in this slot, or under way. -/
def Dev.startSend (d : Dev) (m : QMsg) (more : Bool) : Dev :=
  let d := d.served m
  if more then { d with core := { d.core with sending := Tab.set d.core.sending m.egress m } } else d.sent m

/-- A message already charged begins. -/
def Dev.beginSend (d : Dev) (m : QMsg) (more : Bool) : Dev :=
  if more then { d with core := { d.core with sending := Tab.set d.core.sending m.egress m } } else d.sent m

/-- A free slot: the Ridge queue's head, else a suspended message goes on, else the fair-queueing choice; a message that
dequeue discards leaves the slot to the next (R338, R353). `n` bounds the discards. -/
def Dev.slotChoice (p : Nat) (more : Bool) (cs : CellState) (npBlocked : Bool) (ready : Nat → Bool) : Nat → Dev → Dev
  | 0, d => d
  | n + 1, d =>
    match (if ready 0 then d.offered p 0 0 npBlocked else none) with
    | some m =>
      match (d.unqueue m).atDequeue m cs with
      | (d, some m) => d.startSend m more
      | (d, none) => Dev.slotChoice p more .whole npBlocked ready n d
    | none =>
      match d.core.suspended.find? fun e => e.1 == p with
      | some (_, m) =>
        let d := { d with core := { d.core with suspended := Tab.erase d.core.suspended p } }
        if more then { d with core := { d.core with sending := Tab.set d.core.sending p m } } else d.sent m
      | none =>
        match d.chooseClass p npBlocked ready with
        | (d, none) => d
        | (d, some (_, _, m)) =>
          match d.atDequeue m cs with
          | (d, some m') => ((d.served m).unqueue m).beginSend m' more
          | (d, none) => Dev.slotChoice p more .whole npBlocked ready n (d.unqueue m)

/-- The message whose transmission has begun on a port. -/
def Dev.underWay (d : Dev) (p : Nat) : Option QMsg := (d.core.sending.find? fun e => e.1 == p).map (·.2)

/-- A flit slot of an egress port (R338, R353): a CXL.mem message of class 0 suspends another message under way; else the
message under way goes on; else a choice is made. -/
def Dev.egressSlot (p : Nat) (more : Bool) (cs : CellState) (npBlocked : Bool) (d : Dev) : Dev :=
  let free := Dev.slotChoice p more cs npBlocked (fun _ => true) (d.core.buf.length + 1)
  match d.underWay p with
  | none => free d
  | some m =>
    let ridge := match d.offered p 0 0 npBlocked with | some r => r.chan == .mem | none => false
    if m.cls != 0 && ridge && !(d.core.suspended.any fun e => e.1 == p) then
      free { d with core := { d.core with
        sending := Tab.erase d.core.sending p, suspended := Tab.set d.core.suspended p m } }
    else if more then d
    else { d with core := { d.core with sending := Tab.erase d.core.sending p } }.sent m

/-- A flit that leaves crossed to its Eave die with a second retry: a corrected error of that die's interface (R13). -/
def Dev.eaveCross (d : Dev) (p : Nat) (retried : Bool) : Dev :=
  if retried then d.raise (160 + p / 16) (recCE 0x30 (p / 16)) else d

/-- EGRESS_SLOT on a port of MODE 1 to 3: `more` says that the message sent in this slot goes on in later ones, `cs` how its
words read. A Thatchlink's slots are TLK_TX_SLOT's. -/
def execEgressSlot (p : Fin 128) (more : Bool) (cs : CellState) (link : SlotLink) (s : State) : Result :=
  onDev s fun d =>
    if d.portUp p && !d.inL1 p && d.configured p && d.fget CXP_PORT_CFG.MODE p != 4 then
      Dev.egressSlot p more cs link.npBlocked (d.eaveCross p link.retried)
    else d

/-- BUFFER_ADMIT: message `n` of those held at ingress tries again; an earlier one of its source, class and channel is in
its way (R308, R309). -/
def execBufferAdmit (n : Nat) (s : State) : Result :=
  onDev s fun d =>
    match d.core.holds[n]? with
    | none => d
    | some (_, m) =>
      if Dev.heldBefore (d.core.holds.take n) m then d
      else match d.admitPart m with
        | none => d
        | some part =>
          ({ d with core := { d.core with holds := d.core.holds.eraseIdx n } }.enqueue m part).slotDone m.ingress m.vc

end Sys2Proof.Machine
end

