-- ==== Sys2Proof/Machine/Route.lean ====
section
/-! DEFINITION. From a pool address to an egress queue (01_architecture.md, R24 steps 7 and 8): placement, the answers of
unplaced and lost memory (R377, R378), classification, and the message to the device or, for shared memory that another
G512 lends, to the lender (R432). -/

namespace Sys2Proof.Machine

/-- MTYPE's code of a request (R312): 1 read request, 2 write request, 3 other. -/
def AccKind.mtype : AccKind → Nat
  | .readS | .readE | .readU | .ioRead | .cacheRead => 1
  | .writeBack _ | .writeU | .ioPosted | .ioNonPosted | .cacheWrite => 2
  | .invE | .cleanEvict | .ioAtomic => 3

/-- Does a request of a kind write? -/
def AccKind.writes (k : AccKind) : Bool := k.mtype == 2 || k == .ioAtomic

/-- The fold an entry of work belongs to, if any. -/
def Dev.workFold (d : Dev) (id : Nat) : Option Nat := (d.work id).bind fun w => w.owner.fold

/-- The source code of the class map for a request (R312). -/
def Dev.sourceCode (d : Dev) (fl : Flight) : Nat :=
  match fl.vsw, fl.src with
  | some v, _ => v
  | none, .port p => if d.fget CXP_PORT_CFG.MODE p = 3 then 66 else 65
  | none, _ => 64

/-- What the class map tests of a request. -/
def Dev.kinship (d : Dev) (fl : Flight) : Kinship where
  src := d.sourceCode fl
  region := fl.region
  chan := fl.kind.chan
  mtype := fl.kind.mtype
  mover := match fl.src with | .chunk _ id => (d.workFold id).isSome | _ => false

/-- Is it a chunk of a manager job's zero-fill (R311)? -/
def Dev.zeroJob (d : Dev) (fl : Flight) : Bool :=
  match fl.src with
  | .chunk _ id =>
    match d.work id with
    | some w => w.owner.fold.isNone && dOp w.raw == opZero
    | none => false
  | _ => false

/-- The class the table of R311 gives a request that no Thatchlink brought. -/
def Dev.mapClass (d : Dev) (fl : Flight) : Nat :=
  match fl.src with
  | .directory => d.cfg fl.epoch SWC_CLASS_CFG.DIR_CLASS
  | .copy _ _ _ | .fill _ _ _ => d.cfg fl.epoch SWC_CLASS_CFG.MIGR_CLASS
  | _ => if d.zeroJob fl then d.cfg fl.epoch SWC_CLASS_CFG.MIGR_CLASS else d.classOf fl.epoch (d.kinship fl)

/-- The ingress port of a source; none inside the device. -/
def FlightSrc.ingress : FlightSrc → Option Nat
  | .port p => some p
  | .lender p _ _ _ => some p
  | .gone p => some p
  | _ => none

/-- The class, flow and reservation of a request toward an egress port (R311, R315, R349). -/
def Dev.classify (d : Dev) (fl : Flight) (egress len : Nat) : Dev × Nat × Nat × Option Nat :=
  let ing := fl.src.ingress
  let pick := match fl.src with
    | .lender _ _ _ _ => if fl.cls = 0 then d.ridgeRequest fl.epoch egress ing len else (d, fl.cls, none)
    | _ =>
      let c := if fl.vc.isSome then fl.cls else d.mapClass fl
      if c = 0 then d.ridgeRequest fl.epoch egress ing len else (d, c, none)
  (pick.1, pick.2.1, pick.1.flowOf fl.epoch pick.2.1 fl.vsw ing, pick.2.2)

/-- The fold and generation whose cells a chunk's message fills (R325). -/
def Dev.chunkGen (d : Dev) (fl : Flight) : Option (Nat × Nat) :=
  match fl.src with
  | .chunk _ id =>
    match d.work id with
    | some w => w.owner.fold.map fun f => (f, w.gen)
    | none => none
  | _ => none

/-- A request queued toward a port, its message's body and length given; it keeps its place among the flights. -/
def Dev.queueFlight (d : Dev) (fl : Flight) (egress ld dpa len : Nat) (body : QBody) : Dev :=
  let (d, c, f, rsv) := d.classify fl egress len
  let d := d.setFlight fl.tag fun x =>
    { x with phase := .queued, egress := egress, cls := c, flow := f, rsv := rsv, ld := ld, dpa := dpa,
             vc := none }
  d.offer { body := body, ingress := fl.src.ingress, egress := egress, cls := c, flow := f, chan := fl.kind.chan,
            len := len, gen := d.chunkGen fl, ep := fl.epoch, vc := fl.vc, extra := fl.extra }

/-- A request's message length (R303). -/
def Flight.msgLen (fl : Flight) : Nat := 16 + fl.extra + if fl.kind.writes then fl.len else 0

/-- The answer of lost memory (R378): all ones with poison to a read; a write's normal completion, its data discarded;
Cmp granting no state to a MemInv (R425). -/
def Dev.lostAnswer (d : Dev) (fl : Flight) : Dev :=
  if fl.kind.returnsData then d.answer fl (.data (onesOf fl.len) true)
  else if fl.kind.writes then (d.lostWrite fl.addr).answer fl .done
  else d.answer fl .done

/-- The answer of an UNUSED field, which only accesses by pool address reach (R377). -/
def Dev.unplacedAnswer (d : Dev) (fl : Flight) : Dev :=
  match fl.src with
  | .chunk _ _ => (d.dropFlight fl.tag).chunkFailed fl 4
  | .port _ => d.lostAnswer fl
  | _ => d.endRequest fl 4

/-- Is a pool address in a sward whose final stall holds new requests (R389)? -/
def Dev.inStall (d : Dev) (p : Nat) : Bool :=
  d.thatch.migrations.any fun e =>
    e.2.field == p / 2 ^ 30 && e.2.entry % 512 == p / 2 ^ 21 % 512 && d.fget TMP_MIGR_SLOT.STATE 0 e.1 == 2

/-- Is a device reached over a Thatchlink (R379)? -/
def Dev.overThatchlink (d : Dev) (ep : Bool) (v : Nat) : Bool :=
  d.cfgOn ep TMP_DEV_CFG.REMOTE 0 v && d.fget CXP_PORT_CFG.MODE (d.cfg ep TMP_DEV_CFG.PORT 0 v) == 4

/-- The body of a DREAD or DWRITE (R432): TAG, the lender's and the borrower's device, DPA, EXPIRY, and the line. -/
def Dev.coordBody (d : Dev) (fl : Flight) (v dpa : Nat) : List Byte :=
  leBytes 2 fl.tag ++ leBytes 1 (d.cfg fl.epoch TMP_DEV_RANGE.PEER_DEV 0 v) ++ leBytes 1 v ++ leBytes 6 dpa ++
    leBytes 2 0 ++ leBytes 4 (fl.admitted + 31000) ++ (if fl.kind.writes then leBytes 64 fl.data else [])

/-- A request whose destination is a place on a device: queued toward it (R24, step 8), or sent to the lender for a shared
line (R432). A port that is not up leaves the request with the answer of lost memory (R321), and the line or chunk of a copy or
zero-fill to be done again. A zero-fill has no pool address. -/
def Dev.toDevice (d : Dev) (fl : Flight) (v dpa : Nat) : Dev :=
  let p := d.cfg fl.epoch TMP_DEV_CFG.PORT 0 v
  let fill := match fl.src with | .fill _ _ _ => true | _ => false
  let copy := match fl.src with | .copy _ _ _ => true | _ => false
  if !(d.portUp p) then if fill || copy then d.endRequest fl 6 else d.lostAnswer fl
  else if d.overThatchlink fl.epoch v && d.shared fl.epoch fl.addr && !fill then
    let w := fl.kind.writes
    d.queueFlight fl p v dpa (if w then 80 else 16) (.coord (if w then 0x11 else 0x10) (d.coordBody fl v dpa) fl.poison)
  else
    let ld := if d.cfgOn fl.epoch TMP_DEV_CFG.REMOTE 0 v then d.cfg fl.epoch TMP_DEV_CFG.PID 0 v
      else d.cfg fl.epoch TMP_DEV_CFG.LD 0 v
    d.queueFlight fl p ld dpa fl.msgLen (.request fl.tag)

/-- The placement lookup of a request in flight and what follows it (R24, R376 to R378, R389). A clean eviction and a
MemInv need no memory. -/
def Dev.routeMem (d : Dev) (tag : Nat) : Dev :=
  match d.flight tag with
  | none => d
  | some fl =>
    match d.place fl.epoch fl.addr with
    | .unplaced => d.unplacedAnswer fl
    | .lost => d.lostAnswer fl
    | .at v a =>
      if fl.kind = .invE ∨ fl.kind = .cleanEvict then d.answer fl .done
      else if d.inStall fl.addr then d.setFlight tag fun x => { x with phase := .stalled }
      else (if fl.kind.writes then d.writeCopied fl.addr else d).toDevice fl v a

/-- May an access that waits at the lender behind an earlier one of its line go on (R433)? -/
def Dev.behindDone (d : Dev) (fl : Flight) : Bool :=
  match fl.src with
  | .lender p _ dl _ => !(d.core.flights.any fun f => decide (f.tag < fl.tag) && f.addr == fl.addr && match f.src with
      | .lender q _ dl' _ => q == p && dl' == dl
      | _ => false)
  | _ => false

/-- A lender's access queued toward its device (R433). -/
def Dev.lenderGo (d : Dev) (tag : Nat) : Dev :=
  match d.flight tag with
  | none => d
  | some fl =>
    match fl.src with
    | .lender _ _ dl _ =>
      let p := d.cfg fl.epoch TMP_DEV_CFG.PORT 0 dl
      if d.portUp p then d.queueFlight fl p (d.cfg fl.epoch TMP_DEV_CFG.LD 0 dl) fl.addr fl.msgLen (.request tag)
      else (d.slotDone fl.src.ingress fl.vc).lenderAnswer fl 1 none
    | _ => d

/-- Requests that a stall held and that are released find their placement again (R389, R390), and a lender's accesses
whose earlier one of the line is done go on (R433). -/
def Dev.settle (d : Dev) : Dev :=
  let d := ((d.core.flights.filter fun f => f.phase == .resumed).map (·.tag)).foldl Dev.routeMem d
  ((d.core.flights.filter fun f => f.phase == .behind).map (·.tag)).foldl (fun d t =>
    match d.flight t with
    | some fl => if d.behindDone fl then d.lenderGo t else d
    | none => d) d

end Sys2Proof.Machine
end

