-- ==== Sys2Proof/Machine/Directory.lean ====
section
/-! DEFINITION. The fabric directory (12_fabric_directory.md): entries, snoops, the transitions of R411, full sets (R417,
R418), dead hosts (R420), walks (R426), damaged ways (R430), and the rows SNOOP_RESPONSE, BI_CONFLICT, DIR_WALK_END,
DIR_SWEEP_END and COMPLETION_LIMIT. -/

namespace Sys2Proof.Machine

/-! Entries (R408 to R410) -/

/-- The set of a line. -/
def dirSet (p : Nat) : Nat := (p / 64 % 2 ^ 19) ^^^ (p / 2 ^ 25 % 2 ^ 19)

/-- The tag of a line. -/
def dirTag (p : Nat) : Nat := p / 2 ^ 25 % 2 ^ 22

/-- The line address a set and a tag name. -/
def dirLine (s tag : Nat) : Nat := tag * 2 ^ 25 + ((s ^^^ (tag % 2 ^ 19)) * 64)

/-- The bank a way of a set lies in (R409). -/
def dirBank (s w : Nat) : Nat := 8 * w + s % 8

/-- An entry's state: 0 I, 1 S, 2 EM. -/
abbrev dI : Nat := 0
abbrev dS : Nat := 1
abbrev dEM : Nat := 2

/-- An entry as the directory works on it (R410). -/
structure DirEntry where
  st : Nat
  busy : Bool
  recent : Bool
  tag : Nat
  owner : Nat
  sharers : BitVec 64
  snoops : Nat
  deriving DecidableEq, Repr

/-- The entry of a way, by its instance 16 × set + way. -/
def Dev.entry (d : Dev) (i : Nat) : DirEntry where
  st := d.fget DIR_ENTRY0.STATE i
  busy := d.fon DIR_ENTRY0.BUSY i
  recent := d.fon DIR_ENTRY0.RECENT i
  tag := d.fget DIR_ENTRY0.TAG i
  owner := d.fget DIR_ENTRY0.OWNER i
  sharers := BitVec.ofNat 64 (d.fget DIR_ENTRY0.SHARERS_LO i + d.fget DIR_ENTRY1.SHARERS_HI i * 2 ^ 32)
  snoops := d.fget DIR_ENTRY1.SNOOPS i

/-- A free entry. -/
def DirEntry.free : DirEntry := ⟨dI, false, false, 0, 0, 0, 0⟩

/-- The two words of an entry. -/
def DirEntry.words (e : DirEntry) : Word × Word :=
  (putBits (putBits (putBits (putBits (putBits (putBits 0 0 2 e.st) 2 1 e.busy.toNat) 3 1 e.recent.toNat) 4 22 e.tag)
      26 6 e.owner) 32 32 (e.sharers.toNat % 2 ^ 32),
    putBits (putBits 0 0 32 (e.sharers.toNat / 2 ^ 32)) 32 7 e.snoops)

/-- The hosts of a sharer set, rising. -/
def hostsOf (s : BitVec 64) : List Nat := (List.range 64).filter fun v => s.getLsbD v

/-- An entry written, with VALID_ENTRIES and each host's HELD and OWNED (R434, R436). -/
def Dev.setEntry (d : Dev) (i : Nat) (e : DirEntry) : Dev :=
  let o := d.entry i
  let d := (d.fsub DIR_STAT.VALID_ENTRIES (o.st != dI).toNat).fadd DIR_STAT.VALID_ENTRIES (e.st != dI).toNat
  let d := (hostsOf o.sharers).foldl (fun d v => d.fsub DIR_HOST_STAT.HELD 1 0 v) d
  let d := (hostsOf e.sharers).foldl (fun d v => d.fadd DIR_HOST_STAT.HELD 1 0 v) d
  let d := if o.st = dEM then d.fsub DIR_HOST_STAT.OWNED 1 0 o.owner else d
  let d := if e.st = dEM then d.fadd DIR_HOST_STAT.OWNED 1 0 e.owner else d
  (d.wr ⟨.DIR_ENTRY0, i, 0⟩ e.words.1).wr ⟨.DIR_ENTRY1, i, 0⟩ e.words.2

/-- A way that cannot be used: being swept, or in a retired bank (R430, R431). -/
def Dev.wayOut (d : Dev) (i : Nat) : Bool :=
  d.dir.sweeps.any (fun s => s.1 == i) || d.dir.retired.contains (dirBank (i / 16) (i % 16))

/-- The way that holds a line. -/
def Dev.findLine (d : Dev) (p : Nat) : Option Nat :=
  (List.range 16).findSome? fun w =>
    let i := dirSet p * 16 + w
    let e := d.entry i
    if e.st ≠ dI ∧ e.tag = dirTag p ∧ !(d.dir.sweeps.any fun s => s.1 == i) then some i else none

/-- The lowest free way of a set (R416). -/
def Dev.freeWay (d : Dev) (s : Nat) : Option Nat :=
  (List.range 16).findSome? fun w =>
    let i := s * 16 + w
    if (d.entry i).st = dI ∧ !(d.entry i).busy ∧ !(d.wayOut i) then some i else none

/-! Snoops (R414) -/

/-- Is a host snoop-dead? -/
def Dev.dead (d : Dev) (v : Nat) : Bool := d.fon DIR_HOST_STAT.DEAD 0 v

/-- The host physical address a snoop carries: the old epoch's where a walk keeps it, else the copy of `ep`; none for a
switch that is disabled. -/
def Dev.snoopAddr (d : Dev) (ep : Bool) (v line : Nat) : Option Nat :=
  match d.dir.walkEnds.find? fun w => w.1 == v && w.2.1 == line / 2 ^ 30 with
  | some (_, _, base) => base.map (· + line % 2 ^ 30)
  | none => if d.cfgOn ep CXP_VSW_CFG.EN v then d.hostAddr ep v line else none

/-- A snoop to a host queued toward its upstream port in DIR_CLASS, through attachment 27; kind 0 Inv, 1 Data, 2 Cur,
3 BIConflictAck. -/
def Dev.queueSnoop (d : Dev) (ep : Bool) (v hpa kind : Nat) : Dev :=
  let c := d.cfg ep SWC_CLASS_CFG.DIR_CLASS
  d.offer { body := .snoop v hpa kind, ingress := none, egress := d.usp v, cls := c, flow := d.flowOf ep c none none,
            chan := .mem, len := 16, ep := ep }

/-- The outstanding snoops changed. -/
def Dev.setSnoops (d : Dev) (ss : List Snoop) : Dev := { d with dir := { d.dir with snoops := ss } }

/-- The ways being swept changed. -/
def Dev.setSweeps (d : Dev) (ss : List (Nat × List Nat)) : Dev := { d with dir := { d.dir with sweeps := ss } }

/-- Every request in flight changed. -/
def Dev.mapFlights (d : Dev) (f : Flight → Flight) : Dev :=
  { d with core := { d.core with flights := d.core.flights.map f } }

/-- Snoops of a line to some hosts; a host that the line has no address for counts as having answered BIRspI, with a DE
fault. Answers the hosts that were snooped. -/
def Dev.snoopAll (d : Dev) (ep : Bool) (line kind : Nat) (why : SnoopWhy) (vs : List Nat) : Dev × List Nat :=
  vs.foldl (fun (acc : Dev × List Nat) v =>
    let (d, out) := acc
    match d.snoopAddr ep v line with
    | none => (d.raise 407 (recDE 0x62 line), out)
    | some hpa =>
      let d := d.setSnoops (d.dir.snoops ++ [{ line := line, host := v, kind := kind, why := why, hpa := hpa }])
      ((d.queueSnoop ep v hpa kind).fadd DIR_CNT0.SNOOPS_SENT 1, out ++ [v])) (d, [])

/-- A line written to memory as all ones with poison (R420). -/
def Dev.poisonLine (d : Dev) (line : Nat) : Dev :=
  let d := d.fadd DIR_CNT1.POISON_WB 1
  let (d, t) := d.launch { tag := 0, epoch := d.commits.epoch, src := .directory, kind := .writeU, write := true, addr := line,
                           data := onesLine, poison := true, admitted := d.now }
  d.routeMem t

/-! Requests -/

/-- Does a request in flight still wait in the directory? -/
def Flight.inDirectory (f : Flight) : Bool :=
  match f.phase with
  | .held | .lineWait | .snoopWait | .setWait _ => true
  | _ => false

/-- The line of a request. -/
def Flight.line (f : Flight) : Nat := f.addr / 64 * 64

/-- The host of a request: none for a thread, the debug access port or a chunk, whose requests act as uncached ones
(R428). -/
def Flight.host (f : Flight) : Option Nat :=
  match f.src with
  | .port _ => f.vsw
  | _ => none

/-- The kind of a request as R407 and R428 class it, given the owner recorded for its line. -/
def Flight.dirKind (f : Flight) (owner : Option Nat) : AccKind :=
  match f.host with
  | none => if f.kind.writes then .writeU else .readU
  | some v =>
    match f.kind with
    | .writeBack m => if owner = some v then .writeBack m else .writeU
    | k => k

/-- The entry as every lookup sees it: dead hosts ignored (R420). -/
def Dev.seen (d : Dev) (e : DirEntry) : BitVec 64 :=
  (hostsOf e.sharers).foldl (fun s v => if d.dead v then s &&& ~~~ (mask v 1) else s) e.sharers

/-- A request goes on to memory. While a write-back that a snoop of its line brought is not yet at memory, it waits
(R411). -/
def Dev.toMemory (d : Dev) (tag : Nat) : Dev :=
  match d.flight tag with
  | none => d
  | some fl =>
    if d.core.flights.any fun f => f.tag != tag && f.kind.writes && f.line == fl.line && (f.phase == .queued || f.phase == .sent)
    then d.setFlight tag fun f => { f with phase := .behind }
    else d.routeMem tag

/-- The entry after a request that needs no snoop any more (R411): the next state, sharers and owner for a request of a
kind by a host, out of the sharers that remain. -/
def DirEntry.after (e : DirEntry) (k : AccKind) (v : Nat) (left : BitVec 64) : DirEntry :=
  match k with
  | .readS => { e with st := dS, sharers := left ||| mask v 1, owner := 0, recent := true }
  | .readE | .invE => { e with st := dEM, sharers := mask v 1, owner := v, recent := true }
  | .writeU => .free
  | .cleanEvict =>
    if left &&& ~~~ mask v 1 = 0 then .free else { e with st := dS, sharers := left &&& ~~~ mask v 1, owner := 0, recent := true }
  | _ => if left = 0 then .free else { e with sharers := left, recent := true }

/-- An entry given BUSY for `n` snoops. -/
def DirEntry.wait (e : DirEntry) (n : Nat) : DirEntry := { e with busy := true, recent := true, snoops := n }

/-- A request waits in a phase. -/
def Dev.waitIn (d : Dev) (tag : Nat) (p : FPhase) : Dev := d.setFlight tag fun f => { f with phase := p }

/-- The wait slots in use. -/
def Dev.slotsWaiting (d : Dev) : Nat := (d.core.flights.filter fun f => f.phase == .setWait false).length

/-- A request that needs a way and finds every one BUSY, or its set being swept (R418): in a wait slot, else back in its
ingress hold, else in the overflow list. -/
def Dev.setWait (d : Dev) (fl : Flight) : Dev :=
  if d.slotsWaiting < 8192 then
    ((d.waitIn fl.tag (.setWait false)).fadd DIR_CNT1.SET_WAITS 1).fset DIR_STAT.WAITING (d.slotsWaiting + 1)
  else match fl.src with
    | .port _ =>
      if d.mapClass fl = 0 then d.waitIn fl.tag (.setWait true) else d.waitIn fl.tag .held
    | _ => d.waitIn fl.tag (.setWait true)

/-- The ways of a set that may be evicted: valid, not BUSY. -/
def Dev.idleWays (d : Dev) (s : Nat) : List Nat :=
  ((List.range 16).map (s * 16 + ·)).filter fun i => (d.entry i).st != dI && !(d.entry i).busy && !(d.wayOut i)

/-- An entry's line evicted: BISnpInv to every host it names, the entry freed at the last answer (R417). Answers whether
it is free at once. -/
def Dev.evict (d : Dev) (i : Nat) (why : SnoopWhy) : Dev × Bool :=
  let e := d.entry i
  let line := dirLine (i / 16) e.tag
  let d := d.fadd DIR_CNT0.EVICTIONS 1
  let d := if e.st = dEM ∧ d.dead e.owner then d.poisonLine line else d
  let (d, vs) := d.snoopAll d.commits.epoch line 0 why (hostsOf (d.seen e))
  if vs.isEmpty then (d.setEntry i .free, true) else (d.setEntry i (e.wait vs.length), false)

/-- A way for a request of set `s`: a free one, or none while one is being emptied for it (R416 to R418). -/
def Dev.needWay (d : Dev) (fl : Flight) (s : Nat) : Dev × Option Nat :=
  match d.freeWay s with
  | some i => (d, some i)
  | none =>
    match d.idleWays s with
    | [] => (d.setWait fl, none)
    | i :: is =>
      let cold := (i :: is).filter fun j => !(d.entry j).recent
      let d := if cold.isEmpty then (i :: is).foldl (fun d j => d.setEntry j { d.entry j with recent := false }) d else d
      let pick := match cold with | j :: _ => j | [] => i
      match d.evict pick (.evict fl.tag) with
      | (d, true) => (d, some pick)
      | (d, false) => (d.waitIn fl.tag .snoopWait, none)

/-- Is a line still to be swept in its set (R430)? -/
def Dev.unswept (d : Dev) (line : Nat) : Bool :=
  d.dir.sweeps.any fun s => s.1 / 16 == dirSet line && s.2.contains line

/-- An entry written for a request; the request remembers whether its host is a new sharer (R419). -/
def Dev.record (d : Dev) (i : Nat) (old new : DirEntry) (fl : Flight) : Dev :=
  let d := d.setEntry i new
  match fl.host with
  | some v =>
    if new.sharers.getLsbD v && !(old.sharers.getLsbD v) then d.setFlight fl.tag fun f => { f with recorded := true } else d
  | none => d

/-- A request completed by the limit of R419: its host, newly recorded for it, is recorded no longer. -/
def Dev.unrecord (d : Dev) (fl : Flight) : Dev :=
  match fl.host, d.findLine fl.addr with
  | some v, some i =>
    let e := d.entry i
    let left := e.sharers &&& ~~~ mask v 1
    if !fl.recorded || e.busy || (e.st == dEM && e.owner != v) then d
    else if e.st = dEM ∨ left = 0 then d.setEntry i .free else d.setEntry i { e with sharers := left }
  | _, _ => d

/-- A request that finds no entry of its line (R411, state I). -/
def Dev.serveMiss (d : Dev) (fl : Flight) (k : AccKind) : Dev :=
  if d.unswept fl.line then d.setWait fl
  else match fl.host with
    | some v =>
      if k = .readS ∨ k = .readE ∨ k = .invE then
        match d.needWay fl (dirSet fl.addr) with
        | (d, some i) => (d.record i .free ({ DirEntry.free with tag := dirTag fl.addr }.after k v 0) fl).toMemory fl.tag
        | (d, none) => d
      else d.toMemory fl.tag
    | none => d.toMemory fl.tag

/-- The hosts a request must snoop, and the snoop's kind (R411). -/
def DirEntry.targets (e : DirEntry) (k : AccKind) (host : Option Nat) (seen : BitVec 64) : List Nat × Nat :=
  let others := (hostsOf seen).filter fun u => host != some u
  if e.st = dEM then
    match k with
    | .readS => (others, 1)
    | .readU => (others, 2)
    | .readE | .invE | .writeU => (others, 0)
    | _ => ([], 0)
  else
    match k with
    | .readE | .invE | .writeU => (others, 0)
    | _ => ([], 0)

/-- A request that hits a line which is not BUSY (R411). -/
def Dev.serveHit (d : Dev) (fl : Flight) (i : Nat) (e : DirEntry) (k : AccKind) : Dev :=
  let seen := d.seen e
  let (hosts, kind) := e.targets k fl.host seen
  let (d, vs) := d.snoopAll fl.epoch fl.line kind (.request fl.tag) hosts
  let left := (hostsOf seen).foldl (fun s u => if hosts.contains u && !(vs.contains u) then s &&& ~~~ mask u 1 else s) seen
  if !vs.isEmpty then (d.setEntry i { (e.wait vs.length) with sharers := left }).waitIn fl.tag .snoopWait
  else
    let next := match k with
      | .writeBack m =>
        if m = .i then .free else if m = .s then { e with st := dS, owner := 0, recent := true } else { e with recent := true }
      | .readU => if left = 0 then .free else { e with sharers := left, recent := true }
      | .readS => if e.st = dEM ∧ fl.host = some e.owner then { e with st := dS, owner := 0, recent := true }
          else e.after k (fl.host.getD 0) left
      | .cleanEvict =>
        if e.st = dEM ∧ fl.host ≠ some e.owner then { e with recent := true } else e.after k (fl.host.getD 0) left
      | .writeU => if e.st = dEM ∧ fl.host = some e.owner then { e with recent := true } else .free
      | _ => e.after k (fl.host.getD 0) left
    (d.record i e next fl).toMemory fl.tag

/-- Does an earlier request of the same line wait in the directory? -/
def Dev.lineWaiter (d : Dev) (fl : Flight) : Bool :=
  (d.core.flights.takeWhile fun f => f.tag != fl.tag).any fun f => f.inDirectory && f.line == fl.line

/-- Is a host being snooped for a line? -/
def Dev.snooped (d : Dev) (v line : Nat) : Bool := d.dir.snoops.any fun s => s.host == v && s.line == line

/-- What a write-back or clean eviction that crosses a snoop of its host does to the BUSY entry at once (R411, R412). -/
def DirEntry.crossed (e : DirEntry) (v : Nat) (k : AccKind) : DirEntry :=
  match k with
  | .cleanEvict | .writeBack .i => { e with st := dS, owner := 0, sharers := e.sharers &&& ~~~ mask v 1 }
  | .writeBack .s => { e with st := dS, owner := 0 }
  | _ => e

/-- A request served by the directory, or set to wait (R411, R412). One to a lost line, but for a clean eviction, bypasses the line's
entry (R425). -/
def Dev.dirServe (d : Dev) (tag : Nat) : Dev :=
  match d.flight tag with
  | none => d
  | some fl =>
    if d.place fl.epoch fl.addr = .lost ∧ fl.kind ≠ .cleanEvict then d.routeMem tag
    else
      let i? := d.findLine fl.addr
      let e? := i?.map d.entry
      let owner := match e? with | some e => if e.st = dEM then some e.owner else none | none => none
      let k := fl.dirKind owner
      let returned := match fl.kind with | .writeBack _ => owner == fl.host || i?.isNone | .cleanEvict => true | _ => false
      let v := fl.host.getD 64
      if returned && d.snooped v fl.line then
        (match i?, e? with | some i, some e => d.setEntry i (e.crossed v k) | _, _ => d).toMemory tag
      else if d.lineWaiter fl then d.waitIn tag .lineWait
      else match i?, e? with
        | some i, some e =>
          if e.busy then d.waitIn tag .lineWait
          else if e.st = dEM ∧ d.dead e.owner then
            let d := (d.poisonLine fl.line).setEntry i .free
            d.serveMiss fl (fl.dirKind none)
          else d.serveHit fl i e k
        | _, _ => d.serveMiss fl k

/-- Is an earlier request of the same port and class back in its ingress hold (R309, R418)? -/
def Dev.behindHeld (d : Dev) (fl : Flight) : Bool :=
  (d.core.flights.takeWhile fun f => f.tag != fl.tag).any fun f =>
    f.src == fl.src && f.phase == .held && d.mapClass f == d.mapClass fl

/-- Can a waiting request be served now? -/
def Dev.canServe (d : Dev) (fl : Flight) : Bool :=
  let busy := match d.findLine fl.addr with | some i => (d.entry i).busy | none => false
  match fl.phase with
  | .lineWait => !busy && !(d.lineWaiter fl) && !(d.dir.snoops.any fun s => s.why == .evict fl.tag)
  | .setWait o =>
    let wants := fl.host.isSome && (fl.kind == .readS || fl.kind == .readE || fl.kind == .invE)
    let room := !wants || (d.findLine fl.addr).isSome || (d.freeWay (dirSet fl.addr)).isSome || !(d.idleWays (dirSet fl.addr)).isEmpty
    !busy && room && !(d.unswept fl.line) && !(d.lineWaiter fl) &&
      !((d.core.flights.takeWhile fun f => f.tag != fl.tag).any fun f =>
          dirSet f.addr == dirSet fl.addr && match f.phase with | .setWait _ => true | _ => false) && (!o || d.slotsWaiting < 8192)
  | .held =>
    !(d.behindHeld fl) &&
      (!(d.shared fl.epoch fl.addr) || (decide (d.slotsWaiting < 8192) && !(d.core.flights.any fun f => f.phase == .setWait true)))
  | .behind => !(d.core.flights.any fun f => f.tag != fl.tag && f.kind.writes && f.line == fl.line &&
      (f.phase == .queued || f.phase == .sent))
  | _ => false

/-- The wait slots free: the requests of the overflow list move in, in their order (R418). -/
def Dev.fillSlots (d : Dev) : Dev :=
  let extra := d.core.flights.filter fun f => f.phase == .setWait true
  let d := (extra.take (8192 - d.slotsWaiting)).foldl
    (fun (d : Dev) f => (d.waitIn f.tag (.setWait false)).fadd DIR_CNT1.SET_WAITS 1) d
  d.fset DIR_STAT.WAITING d.slotsWaiting

/-- The first waiting request that can be served is served, and so on. -/
def Dev.dirStep : Nat → Dev → Dev
  | 0, d => d
  | n + 1, d =>
    let d := d.fillSlots
    match d.core.flights.find? d.canServe with
    | none => d
    | some fl =>
      let again := fl.phase
      let d := if again = .held then
          { d with core := { d.core with flights := (d.core.flights.filter fun f => f.tag != fl.tag) ++ [fl] } } else d
      let d := if again = .behind ∨ !(d.shared fl.epoch fl.addr) then d.routeMem fl.tag else (d.waitIn fl.tag .queued).dirServe fl.tag
      Dev.dirStep n d

/-- Requests that stalls released and requests that the directory can serve go on. -/
def Dev.dirSettle (d : Dev) : Dev :=
  let d := d.settle
  (Dev.dirStep (2 * d.core.flights.length + 2) d).fillSlots

/-! Responses -/

/-- What one host's answer does to an entry (R411): it leaves the sharers, or keeps the line shared, or keeps it. -/
def DirEntry.answered (e : DirEntry) (v kind : Nat) (r : BIRsp) : DirEntry :=
  let n := { e with snoops := e.snoops - 1 }
  if kind = 2 then n
  else if kind = 1 ∧ r = .s then { n with st := dS, owner := 0, sharers := mask v 1 }
  else { n with st := dS, owner := 0, sharers := n.sharers &&& ~~~ mask v 1 }

/-- The last snoop of an entry is answered: the entry is freed, or takes the state its request gives it, and the request
goes on (R411, R412). A request completed before is not recorded (R419), nor one whose line is lost by now (R425). -/
def Dev.lastAnswer (d : Dev) (i : Nat) (e : DirEntry) (why : SnoopWhy) (poisoned : Bool) : Dev :=
  let idle := { e with busy := false, snoops := 0 }
  let left := if e.sharers = 0 then DirEntry.free else idle
  match why with
  | .request tag =>
    match d.flight tag with
    | none => d.setEntry i left
    | some fl =>
      if poisoned ∧ fl.kind.returnsData then (d.setEntry i left).answer fl (.data (onesOf fl.len) true)
      else if d.place fl.epoch fl.addr = .lost then (d.setEntry i left).routeMem tag
      else
        let k := fl.dirKind none
        let next := match fl.host, k with
          | _, .writeU => .free
          | some v, .readS | some v, .readE | some v, .invE => idle.after k v e.sharers
          | _, _ => left
        (d.record i e next fl).toMemory tag
  | .evict tag => (d.setEntry i .free).waitIn tag .lineWait
  | _ => d.setEntry i .free

/-- An entry of a retired bank that was BUSY at the retirement is evicted when it no longer is (R431). -/
def Dev.leaveBank (d : Dev) (i : Nat) : Dev :=
  if d.dir.retired.contains (dirBank (i / 16) (i % 16)) && (d.entry i).st != dI && !(d.entry i).busy then (d.evict i (.walk false)).1
  else d

/-- A snoop answered, or its host given up for dead: the entry of its line changes; a sweep's line is swept (R411, R420,
R430). -/
def Dev.snoopDone (d : Dev) (s : Snoop) (r : BIRsp) (died : Bool) : Dev :=
  let d := d.setSnoops (d.dir.snoops.erase s)
  match s.why with
  | .sweep =>
    if d.dir.snoops.any fun x => x.line == s.line && x.why == .sweep then d
    else d.setSweeps (d.dir.sweeps.map fun w =>
      if w.1 / 16 = dirSet s.line then (w.1, w.2.filter fun l => l != s.line) else w)
  | why =>
    match d.findLine s.line with
    | none => d
    | some i =>
      let e := d.entry i
      let owned := e.st == dEM && e.owner == s.host
      let d := if died && owned then d.poisonLine s.line else d
      let e := if died then { (e.answered s.host 0 .i) with owner := 0 } else e.answered s.host s.kind r
      if e.snoops = 0 then (d.lastAnswer i e why (died && owned)).leaveBank i else d.setEntry i e

/-- SNOOP_RESPONSE: host `v` answers the snoop of a pool line. Answers to no snoop, as after the host was declared dead,
are discarded and logged (R415). -/
def execSnoopResponse (v : Fin 64) (line : BitVec 41) (r : BIRsp) (s : State) : Result :=
  onDev s fun d =>
    let p := line.toNat * 64
    match d.dir.snoops.find? fun x => x.host == (v : Nat) && x.line == p with
    | none => d.send (.log "snoop response discarded" p)
    | some x => (d.snoopDone x r false).dirSettle

/-- BI_CONFLICT: host `v` reports a conflict on a line it is being snooped for; it is acknowledged, and a write-back that
crossed the snoop is applied before the snoop's answer is acted on (R412). -/
def execBiConflict (v : Fin 64) (line : BitVec 41) (s : State) : Result :=
  onDev s fun d =>
    let p := line.toNat * 64
    match d.snooped v p, d.snoopAddr d.commits.epoch v p with
    | true, some hpa => d.queueSnoop d.commits.epoch v hpa 3
    | _, _ => d.send (.log "conflict without snoop" p)

/-! Dead hosts (R420 to R422) -/

/-- The walk bits: a host's walk and the walker (R426). -/
def Dev.walkHost (d : Dev) (v : Nat) : Dev :=
  let d := (d.fset DIR_HOST_STAT.WALK 1 0 v).fset DIR_STAT.WALK 1
  if d.dir.walkHosts.contains v then d else { d with dir := { d.dir with walkHosts := d.dir.walkHosts ++ [v] } }

/-- Steps 1, 3, 4 and 5 of R420: the host is dead with a cause, its outstanding snoops end, its lines are poisoned as they
are met, and a walk starts. -/
def Dev.hostDead (d : Dev) (v cause : Nat) : Dev :=
  let d := (d.fset DIR_HOST_STAT.DEAD 1 0 v).fset DIR_HOST_STAT.CAUSE cause 0 v
  let d := d.walkHost v
  let d := (d.dir.snoops.filter fun s => s.host == v).foldl (fun d s => d.snoopDone s .i true) d
  d.dirSettle

/-- The entries in use. -/
def Dev.validEntries (d : Dev) : List Nat :=
  ((d.listed .DIR_ENTRY0).map (·.1)).filter fun i => (d.entry i).st != dI

/-- What a walk does to one entry: the dead hosts that it serves leave it, a lost line's hosts and ended bindings are
snooped (R420, R423, R425). -/
def Dev.walkEntry (d : Dev) (i : Nat) : Dev :=
  let e := d.entry i
  let line := dirLine (i / 16) e.tag
  let hs := d.dir.walkHosts
  let keep := (hostsOf e.sharers).foldl (fun s v => if hs.contains v then s &&& ~~~ mask v 1 else s) e.sharers
  if e.busy then d.setEntry i { e with sharers := keep }
  else if e.st = dEM ∧ hs.contains e.owner then (d.poisonLine line).setEntry i .free
  else
    let e := { e with sharers := keep }
    let d := d.setEntry i (if keep = 0 then .free else e)
    if keep = 0 then d
    else if d.dir.walkLost ∧ d.place d.commits.epoch line = .lost then
      let d := d.fadd DIR_CNT2.LOST_INVALS 1
      let (d, vs) := d.snoopAll d.commits.epoch line 0 (.walk true) (hostsOf keep)
      if vs.isEmpty then d.setEntry i .free else d.setEntry i (e.wait vs.length)
    else
      let ended := (hostsOf keep).filter fun v => d.dir.walkEnds.any fun w => w.1 == v && w.2.1 == line / 2 ^ 30
      if ended.isEmpty then d
      else
        let (d, vs) := d.snoopAll d.commits.epoch line 0 (.walk false) ended
        let gone := ended.filter fun v => !vs.contains v
        let left := gone.foldl (fun s v => s &&& ~~~ mask v 1) keep
        if left = 0 then d.setEntry i .free
        else if vs.isEmpty then d.setEntry i { e with sharers := left }
        else d.setEntry i { (e.wait vs.length) with sharers := left }

/-- Is an entry BUSY that a walk for lost memory or ended bindings has yet to empty? -/
def Dev.walkStays (d : Dev) : Bool :=
  d.validEntries.any fun i =>
    let e := d.entry i
    let line := dirLine (i / 16) e.tag
    e.busy && e.sharers != 0 && ((d.dir.walkLost && d.place d.commits.epoch line == .lost) ||
      (hostsOf e.sharers).any fun v => d.dir.walkEnds.any fun w => w.1 == v && w.2.1 == line / 2 ^ 30)

/-- DIR_WALK_END: the walker has visited every set for every reason (R426). While a line that lost memory or ended bindings
concern is BUSY, those reasons stay. -/
def execDirWalkEnd (s : State) : Result :=
  onDev s fun d =>
    if !(d.fon DIR_STAT.WALK) then d
    else
      let stays := d.walkStays
      let d := d.validEntries.foldl Dev.walkEntry d
      let d := d.dir.walkHosts.foldl (fun d v => d.fset DIR_HOST_STAT.WALK 0 0 v) d
      let d := { d with dir := { d.dir with walkHosts := [] } }
      (if stays then d
       else ({ d with dir := { d.dir with walkEnds := [], walkLost := false } }).fset DIR_STAT.WALK 0).dirSettle

/-- A walk for lost memory asked for (R425). -/
def Dev.walkForLost (d : Dev) : Dev :=
  ({ d with dir := { d.dir with walkLost := true } }).fset DIR_STAT.WALK 1

/-! Damaged ways (R430) and retired banks (R431) -/

/-- The 32 lines of a field that map to a set. -/
def fieldLines (f s : Nat) : List Nat := (List.range 32).map fun t => dirLine s (f * 32 + t)

/-- The snoops outstanding for a damaged BUSY way count for its sweep from now on, and the requests that waited for them
are served afresh (R430). -/
def Dev.sweepAway (d : Dev) (line : Nat) : Dev :=
  let snoops := d.dir.snoops.map fun (x : Snoop) => if x.line = line then { x with why := .sweep } else x
  let d := d.setSnoops snoops
  d.mapFlights fun f =>
    if f.phase = .snoopWait ∧ !(snoops.any fun x => x.why == .request f.tag || x.why == .evict f.tag) then
      { f with phase := .lineWait }
    else f

/-- A way's word is uncorrectable: every line it may have held is snooped away from every switch that binds its field, and
the directory logs the set and way. -/
def Dev.damageWay (d : Dev) (i : Nat) : Dev :=
  if d.wayOut i then d
  else
    let s := i / 16
    let old := d.entry i
    let oldLine := dirLine s old.tag
    let d := d.setEntry i .free
    let d := if old.busy then d.sweepAway oldLine else d
    let fields := ((d.listed .TMP_FIELD1).map (·.1)).filter fun f => d.shared d.commits.epoch (f * 2 ^ 30) && d.fon TMP_FIELD1.BIND_COUNT f
    let named := ((List.range 16).filter fun w => (d.entry (s * 16 + w)).st != dI).map fun w => dirLine s (d.entry (s * 16 + w)).tag
    let lines := ((fields.map fun f => fieldLines f s).flatten).filter fun l => !named.contains l
    let d := d.setSweeps (d.dir.sweeps ++ [(i, lines)])
    let d := lines.foldl (fun d l =>
      let ending := fun (v : Nat) => d.dir.walkEnds.any fun w => w.1 == v && w.2.1 == l / 2 ^ 30
      let (d, vs) := d.snoopAll d.commits.epoch l 0 .sweep ((List.range 64).filter fun v =>
        ((d.binds v (l / 2 ^ 30) && d.fon CXP_VSW_CFG.EN v) || ending v) && !(d.dead v))
      if vs.isEmpty ∧ !(d.dir.snoops.any fun x => x.line == l) then
        d.setSweeps (d.dir.sweeps.map fun w => if w.1 = i then (w.1, w.2.filter (· != l)) else w)
      else d) d
    (d.fset DIR_STAT.SWEEP 1).raise 407 (recDE 0x61 i)

/-- DIR_SWEEP_END: every line of the way has been swept; the way is written as I and counted. -/
def execDirSweepEnd (way : BitVec 23) (s : State) : Result :=
  onDev s fun d =>
    match d.dir.sweeps.find? fun w => w.1 == way.toNat with
    | some (i, []) =>
      let d := d.setSweeps (d.dir.sweeps.filter fun w => w.1 != i)
      let d := (d.setEntry i .free).fadd DIR_CNT1.SWEEPS 1
      (d.fset DIR_STAT.SWEEP (!d.dir.sweeps.isEmpty).toNat).dirSettle
    | _ => d

/-- A directory bank leaves service: its valid entries are evicted, 65,536 ways go (R431). -/
def Dev.retireDirBank (d : Dev) (b : Nat) : Dev :=
  let mine := d.validEntries.filter fun i => dirBank (i / 16) (i % 16) == b && !(d.entry i).busy
  let d := mine.foldl (fun d i => (d.evict i (.walk false)).1) d
  let d := d.fsub DIR_STAT.ENTRIES_IN_SERVICE 65536
  { d with dir := { d.dir with retired := d.dir.retired ++ [b] } }

/-! The completion limit (R419) -/

/-- COMPLETION_LIMIT: a request the directory serves is unanswered 31 µs after its admission, and is completed as R320 gives
for its requester. -/
def execCompletionLimit (tag : Nat) (s : State) : Result :=
  onDev s fun d =>
    match d.flight tag with
    | none => d
    | some fl =>
      let served := fl.src != .directory && d.shared fl.epoch fl.addr && fl.kind.chan == .mem && fl.answer.isNone &&
        match fl.src with | .lender _ _ _ _ => false | _ => true
      if !served then d
      else
        let d := d.upTo (fl.admitted + 31000)
        let d := (d.fadd DIR_CNT2.LIMIT_COMPLETIONS 1).raise 407 (recDE 0x60 fl.line)
        ((d.unrecord fl).endRequest fl 7).dirSettle

end Sys2Proof.Machine
end

