-- ==== Sys2Proof/Machine/Capacity.lean ====
section
/-! DEFINITION. The pool device each host sees (07_cxl_ports.md, R230 to R236) and the allocator's grants (R381). -/

namespace Sys2Proof.Machine

/-! Regions and decoders (R230) -/

/-- The length of a region in GiB. -/
def Dev.regionGib (d : Dev) (v r : Nat) : Nat := d.fget CXP_POOL_REGION.SIZE_GIB v r

/-- The first GiB of a region: the lengths of the regions before it. -/
def Dev.regionBase (d : Dev) (v r : Nat) : Nat := ((List.range r).map fun k => d.regionGib v k).sum

/-- Does a virtual switch have a pool device: is it enabled (R226)? -/
def Dev.hasPool (d : Dev) (v : Nat) : Bool := d.fon CXP_VSW_CFG.EN v

/-- HDM_DECODER_COMMIT: decoder 0 covers a part of regions 0 to 3, decoder 1 one of regions 4 to 7; more than one interleave
way, or any other range, is a decoder error and is not committed. -/
def execHdmDecoderCommit (v : Fin 64) (n : Fin 2) (hpaGib : BitVec 22) (sizeGib dpaGib : BitVec 20) (ways : BitVec 5)
    (s : State) : Result :=
  onDev s fun d =>
    let lo := d.regionBase v (4 * (n : Nat))
    let hi := d.regionBase v (4 * (n : Nat) + 4)
    if !d.hasPool v then d
    else if ways = 1 ∧ lo ≤ dpaGib.toNat ∧ dpaGib.toNat + sizeGib.toNat ≤ hi then
      let p := d.pool v
      let x : Decoder := ⟨hpaGib.toNat * 2 ^ 30, sizeGib.toNat * 2 ^ 30, dpaGib.toNat * 2 ^ 30⟩
      d.setPool v { p with decoders := Tab.set p.decoders n x }
    else d.send (.log "HDM decoder error" v)

/-! Grants (R232, R381) -/

/-- The free runs (start, length) of lo ≤ n < hi, `us` being the numbers in use, rising. -/
def freeRuns (lo hi : Nat) : List Nat → List (Nat × Nat)
  | [] => if lo < hi then [(lo, hi - lo)] else []
  | u :: us =>
    if u < lo then freeRuns lo hi us
    else if hi ≤ u then freeRuns lo hi us
    else if lo < u then (lo, u - lo) :: freeRuns (u + 1) hi us
    else freeRuns (u + 1) hi us

/-- The longest run, the first among equals. -/
def longestRun (rs : List (Nat × Nat)) : Option (Nat × Nat) :=
  match rs with
  | [] => none
  | r :: rs => some (rs.foldl (fun b x => if b.2 < x.2 then x else b) r)

/-- The run a grant of `n` takes: the lowest one at least that long, else the longest (R381). -/
def pickRun (rs : List (Nat × Nat)) (n : Nat) : Option (Nat × Nat) :=
  match rs.find? fun r => decide (n ≤ r.2) with
  | some r => some (r.1, n)
  | none => longestRun rs

/-- The registers that pending commits write, by address (R38, R41). -/
def Dev.pendingAddrs (d : Dev) : List Nat :=
  ((List.range 16).filter fun n => decide (2 ≤ d.fget TIM_COMMIT_STAT.STATE 0 n)).flatMap fun n =>
    (Tab.get [] d.commits.sets n).map fun w => w.addr / 8 * 8

/-- The fields that pending commits write. -/
def Dev.pendingFields (d : Dev) : List Nat :=
  (d.pendingAddrs.filter fun a => decide (a / 2 ^ 40 = 0x19)).map fun a => a % 2 ^ 40 / 16

/-- The free runs of fields in the grant window. -/
def Dev.fieldRuns (d : Dev) : List (Nat × Nat) :=
  let used := ((d.listed .TMP_FIELD0).filter fun x => d.fmode x.1 != fUnused).map (·.1)
  freeRuns (d.fget TMP_ALLOC_CFG.GRANT_BASE) (d.fget TMP_ALLOC_CFG.GRANT_LIMIT) (rising (used ++ d.pendingFields))

/-- The binding entries of `v` unused in both copies that no pending commit writes (R233). -/
def Dev.freeBinds (d : Dev) (v : Nat) : List Nat :=
  let e := d.commits.epoch
  let ps := d.pendingAddrs
  (List.range 64).filter fun n =>
    let i := bindInst v n
    !(d.cfgOn e TMP_BIND0.VALID i) && !(d.cfgOn (!e) TMP_BIND0.VALID i) &&
      !(ps.contains (Reg.addr ⟨.TMP_BIND0, i, 0⟩)) && !(ps.contains (Reg.addr ⟨.TMP_BIND1, i, 0⟩))

/-- The GiB of `v`'s DPA space that binding entries in either copy, or the extents `more`, take. -/
def Dev.dpaUsed (d : Dev) (v : Nat) (more : List Extent) : List Nat :=
  let span := fun (a n : Nat) => (List.range n).map (a + ·)
  let ep := fun (e : Bool) => (List.range 64).flatMap fun n =>
    let i := bindInst v n
    if d.cfgOn e TMP_BIND0.VALID i then span (d.cfg e TMP_BIND0.DPA_GIB i) (d.cfg e TMP_BIND0.LEN_GIB i) else []
  rising (ep false ++ ep true ++ more.flatMap fun x => span x.dpaGib x.len)

/-- FREE zeroed frames of a tier that a grant may take. -/
def Dev.grantFrames (d : Dev) (t : Nat) : Nat :=
  let ds := d.tierDevs t
  (d.thatch.frames.filter fun e => e.2 == .zeroed && ds.contains (e.1 / 2 ^ 24)).length

/-- The GiB that `v`'s quota of a tier still allows. -/
def Dev.quotaLeft (d : Dev) (v t : Nat) : Nat :=
  d.fget TMP_QUOTA.QUOTA_GIB 0 (v * 4 + t) - d.fget TMP_QUOTA.HELD_GIB 0 (v * 4 + t)

/-- The extents a grant of `want` GiB would take, at most `binds` of them; `runs` are the free runs of fields left. Each is
placed at the lowest free DPA of its region where it fits, cut to the longest gap where it fits nowhere. -/
def Dev.planExtents (d : Dev) (v r tag : Nat) : Nat → Nat → List (Nat × Nat) → List Extent → List Extent
  | 0, _, _, acc => acc
  | binds + 1, want, runs, acc =>
    let base := d.regionBase v r
    let gaps := freeRuns base (base + d.regionGib v r) (d.dpaUsed v acc)
    match pickRun runs want with
    | none => acc
    | some (f, n) =>
      match pickRun gaps n with
      | none => acc
      | some (a, m) =>
        let n := min n m
        if n = 0 then acc
        else
          let runs := runs.flatMap fun x => if x.1 = f then (if n < x.2 then [(f + n, x.2 - n)] else []) else [x]
          d.planExtents v r tag binds (want - n) runs (acc ++ [⟨r, a, n, f, tag⟩])

/-- One granted field: WHOLE on the frame the allocator takes, in both copies, with its tier and scope (R381; assumption
20). -/
def Dev.grantField (t : Nat) (shared : Bool) (d : Dev) (f : Nat) : Dev :=
  match d.takeFrame t with
  | none => d
  | some (v, fr) =>
    let d := (((d.setFrame v fr .whole).usedDev t v).placed v 512).setMode f fWhole
    let d := ((d.fsetBoth TMP_FIELD0.DEV v f).fsetBoth TMP_FIELD0.FRAME fr f).fsetBoth TMP_FIELD0.ORIGIN 1 f
    let d := (d.fsetBoth TMP_FIELD1.TIER t f).fsetBoth TMP_FIELD1.SHARED shared.toNat f
    (d.fset TMP_FIELD1.COUNT 0 f).fset TMP_FIELD1.PHASE 1 f

/-- The GiB of some extents. -/
def gibOf (xs : List Extent) : Nat := (xs.map (·.len)).sum

/-- Add Capacity event records, the more-records flag on all but the last (R233). -/
def Dev.postOffer (d : Dev) (v : Nat) : List Extent → Dev
  | [] => d
  | [x] => d.send (.capacity v true x false)
  | x :: xs => (d.send (.capacity v true x true)).postOffer v xs

/-- An offer opened: extents recorded, counted in OFFERED_GIB, and posted to the host. -/
def Dev.openOffer (d : Dev) (v : Nat) (xs : List Extent) : Dev :=
  let d := d.setPool v { d.pool v with offer := some (xs, d.now) }
  let d := xs.foldl (fun d x => d.fadd CXP_POOL_USED.OFFERED_GIB x.len v x.region) d
  d.postOffer v xs

/-- A grant: the fields of the planned extents granted at a swath boundary (R375), and offered. -/
def Dev.grant (d : Dev) (v r : Nat) (xs : List Extent) : Dev :=
  let d := d.toSwath
  let d := xs.foldl (fun d x =>
    ((List.range x.len).map (x.field + ·)).foldl (Dev.grantField (r % 4) (decide (4 ≤ r))) d) d
  d.openOffer v xs

/-- The extents that a grant of up to `want` GiB in region `r` would take (R232). -/
def Dev.plan (d : Dev) (v r tag want : Nat) : List Extent :=
  let g := min want (min (d.quotaLeft v (r % 4)) (d.grantFrames (r % 4)))
  if g = 0 then [] else d.planExtents v r tag (d.freeBinds v).length g d.fieldRuns []

/-- A mailbox completion without payload. -/
def Dev.mailbox (d : Dev) (v : Nat) (c : RetCode) : Dev := d.send (.mailbox v c [])

/-- Request Capacity (R231). -/
def Dev.requestCapacity (d : Dev) (v region pad lo want : Nat) : Dev :=
  if !(d.fon CXP_POOL_CFG.HOST_REQ_EN v) then d.mailbox v .unsupported
  else if 4 ≤ region ∨ pad ≠ 0 ∨ lo = 0 ∨ want < lo ∨ d.regionGib v region < want then d.mailbox v .invalidInput
  else if (d.pool v).offer.isSome then d.mailbox v .busy
  else
    let xs := d.plan v region 0 want
    if gibOf xs < lo then d.mailbox v .exhausted
    else (d.grant v region xs).send (.mailbox v .success (leBytes 4 (gibOf xs) ++ leBytes 2 xs.length ++ leBytes 2 0))

/-- REQUEST_CAPACITY: REGION, the bytes that must be zero, MIN_GIB, WANT_GIB. -/
def execRequestCapacity (v : Fin 64) (region : BitVec 8) (pad : BitVec 24) (lo want : BitVec 32) (s : State) : Result :=
  onDev s fun d => if d.hasPool v then d.requestCapacity v region.toNat pad.toNat lo.toNat want.toNat else d

/-! Accepting, withdrawing (R233) -/

/-- An accepted extent's binding entry written in both copies (R233). -/
def Dev.bindExtent (d : Dev) (v e : Nat) (x : Extent) : Dev :=
  let i := bindInst v e
  let d := ((d.fsetBoth TMP_BIND0.REGION x.region i).fsetBoth TMP_BIND0.DPA_GIB x.dpaGib i).fsetBoth TMP_BIND0.LEN_GIB x.len i
  let d := (d.fsetBoth TMP_BIND1.FIELD x.field i).fsetBoth TMP_BIND0.VALID 1 i
  let d := (List.range x.len).foldl (fun d n => d.fset TMP_FIELD1.PHASE 0 (x.field + n)) d
  let d := d.bindEffect true v x.region x.field x.len
  let p := d.pool v
  (d.setPool v { p with accepted := p.accepted ++ [x] }).fadd CXP_POOL_USED.USED_GIB x.len v x.region

/-- Extents withdrawn: their fields zero-filled and free again, unless another host binds them (R233). -/
def Dev.withdraw (d : Dev) (xs : List Extent) : Dev :=
  xs.foldl (fun d x => ((List.range x.len).map (x.field + ·)).foldl Dev.releaseUnbound d) d

/-- The open offer ends. -/
def Dev.closeOffer (d : Dev) (v : Nat) (xs : List Extent) : Dev :=
  let d := d.setPool v { d.pool v with offer := none }
  xs.foldl (fun d x => d.fsub CXP_POOL_USED.OFFERED_GIB x.len v x.region) d

/-- Does a reference name an extent? -/
def extNames (r : ExtentRef) (x : Extent) : Bool := r.dpaGib.toNat == x.dpaGib && r.len.toNat == x.len

/-- Accepted extents bound, each with the lowest free binding entry; one that finds none is left over. -/
def Dev.bindAll (d : Dev) (v : Nat) : List Extent → Dev × List Extent
  | [] => (d, [])
  | x :: xs =>
    match d.freeBinds v with
    | [] => let (d, left) := d.bindAll v xs; (d, x :: left)
    | e :: _ => (d.bindExtent v e x).bindAll v xs

/-- ADD_DYNAMIC_CAPACITY_RESPONSE: the accepted extents are bound, the rest are zero-filled and returned. -/
def execAddDynamicCapacityResponse (v : Fin 64) (accepted : List ExtentRef) (s : State) : Result :=
  onDev s fun d =>
    match (d.pool v).offer with
    | none => if d.hasPool v then d.mailbox v .invalidInput else d
    | some (xs, _) =>
      if !(accepted.all fun r => xs.any (extNames r)) then d.mailbox v .invalidInput
      else
        let d := d.closeOffer v xs
        let take := xs.filter fun x => accepted.any fun r => extNames r x
        let (d, left) := d.bindAll v take
        let d := d.withdraw ((xs.filter fun x => !(accepted.any fun r => extNames r x)) ++ left)
        d.mailbox v (if left = [] then .success else .exhausted)

/-- OFFER_TIMEOUT: an offer unanswered for OFFER_TIMEOUT courses (0 acts as 1, R260) is withdrawn. -/
def execOfferTimeout (v : Fin 64) (s : State) : Result :=
  onDev s fun d =>
    match (d.pool v).offer with
    | none => d
    | some (xs, t) =>
      let d := d.upTo (t + max 1 (d.fget CXP_POOL_CFG.OFFER_TIMEOUT v) * 1048576)
      (d.closeOffer v xs).withdraw xs

/-! Release (R234) -/

/-- A binding of a field ends for a switch: for a shared one the walk takes its lines from the host, by the addresses of the
copy of `ep` (R423; assumption 21). -/
def Dev.bindingEnds (d : Dev) (ep : Bool) (v f : Nat) : Dev :=
  if d.shared ep (f * 2 ^ 30) then
    let x := (v, f, d.hostAddr ep v (f * 2 ^ 30))
    ({ d with dir := { d.dir with walkEnds := d.dir.walkEnds ++ [x] } }).fset DIR_STAT.WALK 1
  else d

/-- The binding entry of an accepted extent. -/
def Dev.bindOf (d : Dev) (v : Nat) (x : Extent) : Option Nat :=
  (List.range 64).find? fun e =>
    let i := bindInst v e
    d.fon TMP_BIND0.VALID i && d.fget TMP_BIND0.DPA_GIB i == x.dpaGib && d.fget TMP_BIND1.FIELD i == x.field

/-- The binding entry of an extent cleared in both copies, BIND_COUNT and HELD_GIB lowered; the fields are released later. -/
def Dev.unbindExtent (v : Nat) (d : Dev) (x : Extent) : Dev :=
  let fs := (List.range x.len).map (x.field + ·)
  let own := fun (d : Dev) (f : Nat) => ((List.range 64).filter fun e => d.fon TMP_BIND0.VALID (bindInst v e) &&
    decide (d.fget TMP_BIND1.FIELD (bindInst v e) ≤ f ∧ f < d.fget TMP_BIND1.FIELD (bindInst v e) + d.fget TMP_BIND0.LEN_GIB (bindInst v e))).length
  let d := fs.foldl (fun d f => if own d f ≤ 1 then d.bindingEnds d.commits.epoch v f else d) d
  let d := match d.bindOf v x with
    | some e => (d.clearBoth ⟨.TMP_BIND0, bindInst v e, 0⟩).clearBoth ⟨.TMP_BIND1, bindInst v e, 0⟩
    | none => d
  let d := d.fsub TMP_QUOTA.HELD_GIB x.len 0 (v * 4 + x.region % 4)
  let d := (List.range x.len).foldl (fun d n => d.fsub TMP_FIELD1.BIND_COUNT 1 (x.field + n)) d
  let p := d.pool v
  (d.setPool v { p with accepted := p.accepted.filter fun y => y != x }).fsub CXP_POOL_USED.USED_GIB x.len v x.region

/-- The requests in flight of `v` to an extent's window. -/
def Dev.flightsTo (d : Dev) (v : Nat) (xs : List Extent) : List Nat :=
  (d.core.flights.filter fun f => f.vsw == some v && !f.routed &&
    xs.any fun x => decide (x.field ≤ f.addr / 2 ^ 30 ∧ f.addr / 2 ^ 30 < x.field + x.len)).map (·.tag)

/-- RELEASE_DYNAMIC_CAPACITY. -/
def execReleaseDynamicCapacity (v : Fin 64) (extents : List ExtentRef) (s : State) : Result :=
  onDev s fun d =>
    let p := d.pool v
    let xs := p.accepted.filter fun x => extents.any fun r => extNames r x
    if !d.hasPool v then d
    else if !(extents.all fun r => p.accepted.any (extNames r)) then d.mailbox v .invalidInput
    else if p.release.isSome then d.mailbox v .busy
    else if xs.any fun x => match d.bindOf v x with
        | some e => d.pendingWrites ⟨.TMP_BIND0, bindInst v e, 0⟩ || d.pendingWrites ⟨.TMP_BIND1, bindInst v e, 0⟩
        | none => false then d.mailbox v .retry
    else
      let waits := d.flightsTo v xs
      let d := xs.foldl (Dev.unbindExtent v) d
      d.setPool v { d.pool v with release := some (xs, waits) }

/-- RELEASE_DRAINED: the requests admitted before the clear have completed: the command completes, unless a mailbox reset has taken
it away, and the fields that no binding names any more are zero-filled. -/
def execReleaseDrained (v : Fin 64) (s : State) : Result :=
  onDev s fun d =>
    match (d.pool v).release with
    | none => d
    | some (xs, ts) =>
      if ts.any fun t => (d.flight t).isSome then d
      else
        let quiet := (d.pool v).quiet
        let d := d.setPool v { d.pool v with release := none, quiet := false }
        (if quiet then d else d.mailbox v .success).withdraw xs

/-- The bytes that name an extent: DPA, length in bytes, tag. -/
def Extent.bytes (x : Extent) : List Byte :=
  leBytes 8 (x.dpaGib * 2 ^ 30) ++ leBytes 8 (x.len * 2 ^ 30) ++ leBytes 16 x.tag

/-- GET_DYNAMIC_CAPACITY_EXTENT_LIST (R236). -/
def execGetDynamicCapacityExtentList (v : Fin 64) (s : State) : Result :=
  onDev s fun d =>
    if d.hasPool v then d.send (.mailbox v .success ((d.pool v).accepted.flatMap Extent.bytes)) else d

/-! The manager's adds (R235) -/

/-- The shared range that a tag names: the extents of some host that carry it, placed in `v`'s region. -/
def Dev.taggedRange (d : Dev) (tag : Nat) : List (Nat × Nat) :=
  let xs := d.pools.flatMap fun e => e.2.accepted ++ (match e.2.offer with | some (xs, _) => xs | none => [])
  (xs.filter fun x => decide (4 ≤ x.region) && x.tag == tag).foldl
    (fun acc x => if acc.contains (x.field, x.len) then acc else acc ++ [(x.field, x.len)]) []

/-- The runs of a shared range placed in a region of `v`, each at the lowest free DPA where it fits; none if one fits
nowhere. -/
def Dev.placeRuns (d : Dev) (v r tag : Nat) : List (Nat × Nat) → List Extent → Option (List Extent)
  | [], acc => some acc
  | (f, n) :: rs, acc =>
    let base := d.regionBase v r
    let gaps := freeRuns base (base + d.regionGib v r) (d.dpaUsed v acc)
    match gaps.find? fun g => decide (n ≤ g.2) with
    | some (a, _) => d.placeRuns v r tag rs (acc ++ [⟨r, a, n, f, tag⟩])
    | none => none

/-- Initiate Dynamic Capacity Add of `gib` GiB in region `r` with a tag (R235): in regions 4 to 7 a tag that names a range
already shared offers that range; anything else is granted anew, whole or not at all (assumption 20). -/
def Dev.initiateAdd (d : Dev) (v r gib tag : Nat) : Dev × RetCode :=
  let old := if 4 ≤ r then d.taggedRange tag else []
  if !d.hasPool v ∨ 8 ≤ r ∨ gib = 0 ∨ d.regionGib v r < gib then (d, .invalidInput)
  else if (d.pool v).offer.isSome then (d, .busy)
  else if old ≠ [] then
    match d.placeRuns v r tag old [] with
    | some xs =>
      if gibOf xs ≤ d.quotaLeft v (r % 4) ∧ xs.length ≤ (d.freeBinds v).length ∧
          old.all (fun x => d.fget TMP_FIELD1.TIER x.1 == r % 4) then (d.openOffer v xs, .success)
      else (d, .exhausted)
    | none => (d, .exhausted)
  else
    let xs := d.plan v r tag gib
    if gibOf xs = gib then (d.grant v r xs, .success) else (d, .exhausted)

/-- Initiate Dynamic Capacity Release (R616): the host is asked to release the extents. -/
def Dev.initiateRelease (d : Dev) (v : Nat) (extents : List ExtentRef) : Dev × RetCode :=
  let xs := (d.pool v).accepted.filter fun x => extents.any fun r => extNames r x
  if !d.hasPool v ∨ !(extents.all fun r => (d.pool v).accepted.any (extNames r)) then (d, .invalidInput)
  else (xs.foldl (fun d x => d.send (.capacity v false x false)) d, .success)

end Sys2Proof.Machine
end

