-- ==== Sys2Proof/Machine/Integrity.lean ====
section
/-! DEFINITION. Stored-data integrity (16_stored_data_integrity.md): errors of a stored word and what consuming it does, the
corrected-error log, scrubbing, locking the region table, retiring macros and banks; the rows SCRUB_VISIT, REGION_LOCK,
REGION_LOCK_DONE, RETIRE_MACRO, MACRO_COPY_DONE, RETIRE_BANK and BANK_RELEASED. -/

namespace Sys2Proof.Machine

/-! The states of MEM_BANK_STAT.STATE (R544). -/
abbrev bkInService : Nat := 0
abbrev bkCopying : Nat := 1
abbrev bkRetiring : Nat := 2
abbrev bkRetired : Nat := 3

/-- The physical macro of logical macro `m` of a bank (16_stored_data_integrity.md, "Regions and banks"). -/
def Dev.physMacro (d : Dev) (b m : Nat) : Nat :=
  if d.fget MEM_BANK_STAT.SPARE0 b = m then 16 else if d.fget MEM_BANK_STAT.SPARE1 b = m then 17 else m

/-- The place of a word as MEM_CELOG word 0 shows it. -/
def Dev.wordPlace (d : Dev) (b w : Nat) : Nat := b + d.physMacro b (w / 4096) * 2 ^ 8 + w % 4096 * 2 ^ 13

/-- An error entered in the corrected-error log (R534): the bit, whether uncorrectable, whether a scrubber found it. -/
def Dev.celog (d : Dev) (place bit : Nat) (ue scrub : Bool) : Dev :=
  let valid := fun i => d.fon MEM_CELOG0.VALID 0 i
  match (List.range 256).find? fun i => valid i && (d.rd ⟨.MEM_CELOG0, 0, i⟩).toNat % 2 ^ 25 == place with
  | some i =>
    let d := (d.fadd MEM_CELOG0.COUNT 1 0 i).wr ⟨.MEM_CELOG2, 0, i⟩ (BitVec.ofNat 64 d.now)
    if ue then d.fset MEM_CELOG0.KIND 1 0 i else d
  | none =>
    match (List.range 256).find? fun i => !valid i with
    | none => d.fadd MEM_CELOG_STAT.OVERFLOW 1
    | some i =>
      let w := putBits (putBits (putBits (putBits (putBits (BitVec.ofNat 64 place) 25 8 bit) 33 1 ue.toNat) 34 1 scrub.toNat)
        40 8 1) 63 1 1
      let d := (d.wr ⟨.MEM_CELOG0, 0, i⟩ w).wr ⟨.MEM_CELOG1, 0, i⟩ (BitVec.ofNat 64 d.now)
      (d.wr ⟨.MEM_CELOG2, 0, i⟩ (BitVec.ofNat 64 d.now)).fadd MEM_CELOG_STAT.USED 1

/-- A word's number within its region. -/
def Dev.regionWord (d : Dev) (b w : Nat) : Nat := d.fget MEM_BANK_CFG.POSITION b * 65536 + w

/-- Is a word of the directory, the map, the program store or scratch, of which the model follows every write, poisoned? -/
def Dev.holdsPoison (d : Dev) (b w : Nat) : Bool :=
  let n := d.regionWord b w
  match d.fget MEM_BANK_CFG.REGION b with
  | 0 | 1 => d.integ.poison.contains (b * 65536 + w)
  | 6 => d.wygel.pstoreBad.contains n
  | 7 => d.wygel.scratchPoison.contains (2 * n) && d.wygel.scratchPoison.contains (2 * n + 1)
  | _ => false

/-- A log entry that holds an uncorrectable word reads as not valid (R531). -/
def Dev.logLost (d : Dev) (w : Nat) : Dev :=
  match Config.logEntry w with
  | some (.history i) => d.fset FLT_HIST3.VALID 0 0 i
  | some (.corrected i) => if d.fon MEM_CELOG0.VALID 0 i then (d.fset MEM_CELOG0.VALID 0 0 i).fsub MEM_CELOG_STAT.USED 1 else d
  | none => d

/-- A word that turned uncorrectable is poisoned from then on (R530); of the program store and of scratch where threads read it
(R80, R111). -/
def Dev.storePoison (d : Dev) (b w : Nat) : Dev :=
  let n := d.regionWord b w
  match d.fget MEM_BANK_CFG.REGION b with
  | 6 => { d with wygel := { d.wygel with pstoreBad := d.wygel.pstoreBad ++ [n] } }
  | 7 => { d with wygel := { d.wygel with scratchPoison := d.wygel.scratchPoison ++ [2 * n, 2 * n + 1] } }
  | r =>
    let d := { d with integ := { d.integ with poison := d.integ.poison.filter (· != b * 65536 + w) ++ [b * 65536 + w] } }
    if r = 9 then d.logLost n else d

/-- Is a bank's code the light one: its region's, which is the default until the region table is locked (R525, R526)? -/
def Dev.lightCode (d : Dev) (b : Nat) : Bool :=
  let r := d.fget MEM_BANK_CFG.REGION b
  if d.fon CSP_STATUS.REGION_LOCK then d.fon MEM_REGION.CODE 0 r
  else match regionInfo r with | some (_, _, dflt) => dflt == 1 | none => true

/-- How a word reads under its bank's code (R522): two wrong bits, which the strong code corrects, the light one only detects. -/
def Dev.readAs (d : Dev) (b : Nat) (r : WordRead) : WordRead :=
  if r = .corrected 0xFF ∧ d.lightCode b then .uncorrectable else r

/-- A read of word `w` of bank `b` and its error, corrected (R528) or poisoned (R530). A bank out of service raises no
events (R539). -/
def Dev.wordRead (d : Dev) (b w : Nat) (r : WordRead) (scrub : Bool) : Dev :=
  if bkRetired ≤ d.fget MEM_BANK_STAT.STATE b then d
  else
    let place := d.wordPlace b w
    match d.readAs b r with
    | .good => d
    | .corrected bit =>
      ((d.fadd MEM_BANK_CNT.CE 1 b).celog place bit false scrub).raise (170 + b / 16) (recCE 0x10 place)
    | .uncorrectable =>
      if d.holdsPoison b w then d
      else (((d.fadd MEM_BANK_CNT.UE 1 b).celog place 0xFF true scrub).raise (170 + b / 16) (recDE 0x11 place)).storePoison b w

/-- Does a word hold poison? -/
def Dev.wordPoisoned (d : Dev) (b w : Nat) : Bool := d.integ.poison.contains (b * 65536 + w)

/-- A word written whole is clean (R523). -/
def Dev.wordClean (d : Dev) (b w : Nat) : Dev :=
  { d with integ := { d.integ with poison := d.integ.poison.filter (· != b * 65536 + w) } }

/-! Where poison bites in the tables a request reads (R531) -/

/-- The bank and word of a directory way (R409), of a field's table word, of a sward's. -/
def Dev.dirWord (d : Dev) (i : Nat) : Nat × Nat := (d.bankOf (dirBank (i / 16) (i % 16)), i / 128)
def Dev.fieldWord (d : Dev) (f : Nat) : Nat × Nat := (d.bankOf (128 + f / 65536), f % 65536)
def Dev.swardWord (d : Dev) (w : Nat) : Nat × Nat := (d.bankOf (130 + w / 131072), w / 2 % 65536)

/-- The directory ways of a line's set consumed: each poisoned way is damaged and, swept or not, its word rewritten
(R430, R531). -/
def Dev.consumeDir (d : Dev) (p : Nat) : Dev :=
  (List.range 16).foldl (fun d w =>
    let i := dirSet p * 16 + w
    let (b, x) := d.dirWord i
    if d.wordPoisoned b x then (d.wordClean b x).damageWay i else d) d

/-- The map words of a pool address consumed: a poisoned one loses the field or the swards of the word (R394, R531). -/
def Dev.consumeMap (d : Dev) (p : Nat) : Dev :=
  let f := p / 2 ^ 30
  let (b, x) := d.fieldWord f
  let d := if d.wordPoisoned b x then ((d.wordClean b x).fieldWordLost f).walkForLost else d
  if d.fmode f = fSplit then
    let w := swardInst (d.fget TMP_FIELD0.SLOT f) p
    let (b, x) := d.swardWord w
    if d.wordPoisoned b x then ((d.wordClean b x).swardWordLost w).walkForLost else d
  else d

/-- The error an access meets in one table word of its pool address. -/
def Dev.tableRead (d : Dev) (p : Nat) (t : TableWord) (r : WordRead) : Dev :=
  let (b, x) := match t with
    | .dirWay w => d.dirWord (dirSet p * 16 + w)
    | .field => d.fieldWord (p / 2 ^ 30)
    | .sward => d.swardWord (swardInst (d.fget TMP_FIELD0.SLOT (p / 2 ^ 30)) p)
  d.wordRead b x r false

/-! Scrubbing (R532, R533) -/

/-- Is bank `b` visited: not out of service, and its unit's scrubber running? -/
def Dev.scrubbed (d : Dev) (b : Nat) : Bool := decide (d.fget MEM_BANK_STAT.STATE b < bkRetired)

/-- The next place after (bank, word) in cluster `c`: the next word, else word 0 of the next bank in service. -/
def Dev.nextVisit (d : Dev) (c b w : Nat) : Nat × Nat × Bool :=
  if w < 65535 then (b, w + 1, false)
  else
    let later := ((List.range 16).map (16 * c + ·)).filter fun x => decide (b < x) && d.scrubbed x
    match later with
    | x :: _ => (x, 0, false)
    | [] => ((((List.range 16).map (16 * c + ·)).find? d.scrubbed).getD (16 * c), 0, true)

/-- The banks of a region in service. -/
def Dev.regionBanks (d : Dev) (r : Nat) : List Nat :=
  (List.range 256).filter fun b => d.fget MEM_BANK_CFG.REGION b == r && d.scrubbed b

/-- A lap of a region longer than LAP_LIMIT, completed or in progress, sets LAP_ALARM and raises a CE fault (R533). -/
def Dev.lapAlarm (d : Dev) (r len : Nat) : Dev :=
  if d.fget MEM_REGION_LAP.LAP_LIMIT 0 r < len ∧ !(d.fon MEM_REGION.LAP_ALARM 0 r) then
    (d.fset MEM_REGION.LAP_ALARM 1 0 r).raise (170 + (d.regionBanks r).headD 0 / 16) (recCE 0x13 r)
  else d

/-- How long a region's lap has run, in swaths. -/
def Dev.lapLen (d : Dev) (r : Nat) : Nat := (d.now - Tab.get 0 d.integ.lapStart r) / 1024

/-- A visit counted in its region's lap; a lap that has visited every word ends (R533). -/
def Dev.lapVisit (d : Dev) (b : Nat) : Dev :=
  let r := d.fget MEM_BANK_CFG.REGION b
  let vis := Tab.set d.integ.visited b (min 65536 (Tab.get 0 d.integ.visited b + 1))
  let d := { d with integ := { d.integ with visited := vis } }
  if (d.regionBanks r).all fun x => Tab.get 0 vis x == 65536 then
    let len := d.lapLen r
    let d := d.fset MEM_REGION_LAP.LAP len 0 r
    { d with integ := { d.integ with
        visited := vis.filter fun e => d.fget MEM_BANK_CFG.REGION e.1 != r,
        lapStart := Tab.set d.integ.lapStart r d.now } }.lapAlarm r len
  else d

/-- The start of a scrubber's next visit: at least SCRUB_INTERVAL core clocks after that of its last (R532), a clock being 4/9 ns of
the device's own time. -/
def Dev.scrubTime (d : Dev) (c : Nat) : Dev :=
  let t := max (9 * d.ownNow) (Tab.get 0 d.integ.visitDue c)
  let d := d.upTo (d.now + (t / 9 - d.ownNow))
  { d with integ := { d.integ with visitDue := Tab.set d.integ.visitDue c (t + 4 * max 1 (d.fget MEM_SCRUB_CFG.SCRUB_INTERVAL)) } }

/-- A scrubber stops while its wire fault stands (R545), and with SCRUB_EN 0. -/
def Dev.scrubberRuns (d : Dev) (c : Nat) : Bool := d.fon MEM_SCRUB_CFG.SCRUB_EN && !(d.fon FLT_UNIT_STAT.WIRE_FAULT (186 + c))

/-- SCRUB_VISIT: scrubber `c` visits its next word, which reads as `r`; a bank that has left service is passed over. The laps in
progress are looked at. -/
def execScrubVisit (c : Fin 16) (r : WordRead) (s : State) : Result :=
  onDev s fun d =>
    if !(d.scrubberRuns c) then d
    else
      let d := d.scrubTime c
      let b := d.fget MEM_SCRUB_STAT.BANK 0 c
      let (b, w, skip) := if d.scrubbed b then (b, d.fget MEM_SCRUB_STAT.WORD 0 c, false) else d.nextVisit c b 65535
      let d := if d.scrubbed b then (d.wordRead b w r true).lapVisit b else d
      let (b', w', lap) := d.nextVisit c b w
      let d := (d.fset MEM_SCRUB_STAT.BANK b' 0 c).fset MEM_SCRUB_STAT.WORD w' 0 c
      let d := (List.range 10).foldl (fun (d : Dev) r => d.lapAlarm r (d.lapLen r)) d
      if lap || skip then d.finc MEM_SCRUB_STAT.LAPS 1 0 c else d

/-! The region table (R526) -/

/-- The substitutions enabled: reserve bank and the bank it replaces. -/
def Dev.substitutions (d : Dev) : List (Nat × Nat) :=
  ((List.range 5).filter fun k => d.fon MEM_SUBST.EN 0 k).map fun k => (251 + k, d.fget MEM_SUBST.BANK 0 k)

/-- Is a region substitutable (R525)? -/
def substitutable (r : Nat) : Bool := r != 6 && r != 9 && r != 15

/-- May a region use a code (R525)? -/
def codeAllowed (r code : Nat) : Bool :=
  match regionInfo r with
  | some (_, _, dflt) => code == dflt || r == 3 || r == 4 || r == 7
  | none => true

/-- The cause for which the region table is refused, 0 for none (R526, R540). -/
def Dev.lockErr (d : Dev) : Nat :=
  let subs := d.substitutions
  if subs.any fun x => !(substitutable (bankRegion x.2)) then 1
  else if subs.any fun x => subs.any fun y => x.1 != y.1 && x.2 == y.2 then 2
  else if (List.range 16).any fun r => !(codeAllowed r (d.fget MEM_REGION.CODE 0 r)) then 3
  else 0

/-- A write of 1 to MEM_REGION_CTRL.LOCK: the check, then the lock is being applied (R526). -/
def Dev.regionLock (d : Dev) : Dev :=
  if d.fon MEM_REGION_CTRL.LOCK || d.fon MEM_REGION_CTRL.BUSY then d
  else
    let e := d.lockErr
    let d := d.fset MEM_REGION_CTRL.LOCK_ERR e
    if e = 0 then d.fset MEM_REGION_CTRL.BUSY 1 else d

/-- REGION_LOCK. -/
def execRegionLock (s : State) : Result := onWaitingReg .regionLock s Dev.regionLock

/-- A bank leaves service for good: BANKS_IN_SERVICE and its region's BANKS fall (R537, R541). -/
def Dev.bankGone (d : Dev) (b : Nat) : Dev :=
  let d := (d.fset MEM_BANK_STAT.STATE bkRetired b).fsub CSP_STATUS.BANKS_IN_SERVICE 1
  d.fsub MEM_REGION.BANKS 1 0 (d.fget MEM_BANK_CFG.REGION b)

/-- The words of the bank at a place of a region zeroed (R526): field or sward words of the map, bytes of scratch. -/
def Dev.zeroPlace (d : Dev) (r pos : Nat) : Dev :=
  match r with
  | 1 =>
    { d with regs := d.regs.filter fun c =>
        !(if pos < 2 then (c.1.k == .TMP_FIELD0 || c.1.k == .TMP_FIELD1) && c.1.i / 65536 == pos
          else c.1.k == .TMP_SWARD && c.1.i / 131072 + 2 == pos) }
  | 7 =>
    { d with wygel := { d.wygel with
        scratch := d.wygel.scratch.filter fun c => c.1 / 2 ^ 20 != pos,
        scratchPoison := d.wygel.scratchPoison.filter fun n => n / 2 ^ 17 != pos } }
  | _ => d

/-- A reserve bank takes the region and position of the bank it replaces, which is retired (R526). -/
def Dev.substitute (d : Dev) (x : Nat × Nat) : Dev :=
  let (k, b) := x
  let r := d.fget MEM_BANK_CFG.REGION b
  let pos := d.fget MEM_BANK_CFG.POSITION b
  let d := (d.bankGone b).fadd MEM_REGION.BANKS 1 0 r
  let d := d.fsub MEM_REGION.BANKS 1 0 15
  let d := { d with integ := { d.integ with poison := d.integ.poison.filter fun w => w / 65536 != k && w / 65536 != b } }
  ((d.fset MEM_BANK_CFG.REGION r k).fset MEM_BANK_CFG.POSITION pos k).zeroPlace r pos

/-- The banks of a region whose code differs from its default zeroed in their new code (R526). -/
def Dev.recode (d : Dev) (r : Nat) : Dev :=
  match regionInfo r with
  | some (b, n, dflt) =>
    if d.fget MEM_REGION.CODE 0 r = dflt then d
    else
      let d := { d with integ := { d.integ with
        poison := d.integ.poison.filter fun w => !(decide (b ≤ w / 65536 ∧ w / 65536 < b + n)) } }
      (List.range n).foldl (fun (d : Dev) pos => d.zeroPlace r pos) d
  | none => d

/-- REGION_LOCK_DONE: substitution and zeroing end; LOCK and REGION_LOCK read 1. -/
def execRegionLockDone (s : State) : Result :=
  onDev s fun d =>
    if !(d.fon MEM_REGION_CTRL.BUSY) then d
    else
      let d := (List.range 16).foldl Dev.recode d
      let d := d.substitutions.foldl Dev.substitute d
      ((d.fset MEM_REGION_CTRL.BUSY 0).fset MEM_REGION_CTRL.LOCK 1).fset CSP_STATUS.REGION_LOCK 1

/-! Retiring macros and banks (R536, R537) -/

/-- An operation on a bank ends at once with a RESULT: 0 OK, 1 BUSY, 2 BADSTATE, 3 NOSPARE, 4 INUSE, 5 FIXED. -/
def Dev.bankResult (d : Dev) (b r : Nat) : Dev := d.fset MEM_BANK_STAT.RESULT r b

/-- The lower-numbered spare of a bank that serves nothing and is in service. -/
def Dev.freeSpare (d : Dev) (b : Nat) : Option Nat :=
  if d.fget MEM_BANK_STAT.SPARE0 b = 0x1F ∧ !(d.fbit MEM_BANK_STAT.MACRO_OUT 16 b) then some 16
  else if d.fget MEM_BANK_STAT.SPARE1 b = 0x1F ∧ !(d.fbit MEM_BANK_STAT.MACRO_OUT 17 b) then some 17
  else none

/-- RETIRE_MACRO: BUSY, BADSTATE and NOSPARE change nothing; otherwise the copy to a spare starts (R536). A MACRO of 16 to 31
names no logical macro and answers BADSTATE (DESIGN CHOICE, assumption 180). -/
def Dev.retireMacro (d : Dev) (b m : Nat) : Dev :=
  let st := d.fget MEM_BANK_STAT.STATE b
  if st = bkCopying then d.bankResult b 1
  else if st ≠ bkInService ∨ 16 ≤ m then d.bankResult b 2
  else match d.freeSpare b with
    | none => d.bankResult b 3
    | some k =>
      let d := d.fset MEM_BANK_STAT.STATE bkCopying b
      { d with integ := { d.integ with copies := Tab.set d.integ.copies b (m, k) } }

/-- RETIRE_MACRO by a write of MEM_BANK_CTRL. -/
def execRetireMacro (b : Fin 256) (m : Fin 16) (s : State) : Result :=
  onWaitingReg (.retireMacro b m) s fun d => ((d.fset MEM_BANK_CTRL.OP 1 b).fset MEM_BANK_CTRL.MACRO m b).retireMacro b m

/-- MACRO_COPY_DONE: the map switches to the spare, the old physical macro leaves service, RESULT is OK. -/
def execMacroCopyDone (b : Fin 256) (s : State) : Result :=
  onDev s fun d =>
    match d.integ.copies.find? fun e => e.1 == (b : Nat) with
    | none => d
    | some (_, m, k) =>
      let old := d.physMacro b m
      let d := { d with integ := { d.integ with copies := Tab.erase d.integ.copies b } }
      let d := if old = 16 then d.fset MEM_BANK_STAT.SPARE0 0x1F b else if old = 17 then d.fset MEM_BANK_STAT.SPARE1 0x1F b else d
      let d := d.fputBit MEM_BANK_STAT.MACRO_OUT old true b
      let d := if k = 16 then d.fset MEM_BANK_STAT.SPARE0 m b else d.fset MEM_BANK_STAT.SPARE1 m b
      ((d.fset MEM_BANK_STAT.STATE bkInService b).bankResult b 0)

/-- Do any of the 256 pages of position `pos` of a store hold something? -/
def pagesUsed (runs : List (Nat × Nat)) (pos : Nat) : Bool :=
  runs.any fun r => decide (r.2 ≠ 0 ∧ r.1 < (pos + 1) * 256 ∧ pos * 256 < r.1 + r.2)

/-- Is a bank's content in use, so that RETIRE_BANK answers INUSE (R537)? -/
def Dev.bankInUse (d : Dev) (r pos : Nat) : Bool :=
  match r with
  | 1 => d.slotsUsed.any fun k => k / 256 + 2 == pos
  | 3 => d.tlk.stores.any fun e => e.2 / 4 == pos
  | 4 => d.tlk.pools.any fun e => e.2 / 8 == pos
  | 6 => pagesUsed (d.allImages.map fun im => (im.codePage, im.codePages)) pos
  | 7 => pagesUsed (d.allImages.map fun im => (im.scratchPage, im.scratchPages)) pos
  | _ => false

/-- B below 8,192 cells is a UC-F condition of the buffer (R329). -/
def Dev.bufShort (d : Dev) : Dev :=
  let b := d.sharedSize
  if b < 8192 then
    if d.fon FLT_UNIT_STAT.CONDITION 405 then d
    else (d.condition 405 true).raise 405 ⟨3, 0x43, 0, 0, BitVec.ofNat 64 b⟩
  else if d.fon FLT_UNIT_STAT.WIRE_FAULT 405 then d else d.condition 405 false

/-- What a region loses when a bank of it begins to leave service (R537): a directory way in 65,536 sets, 256 slots, or
4,096 cells. -/
def Dev.regionLoses (d : Dev) (r pos : Nat) : Dev :=
  match r with
  | 0 => d.retireDirBank pos
  | 1 => d.fsub TMP_ALLOC_STAT.FREE_SLOTS 256
  | 2 => ((d.fsub SWC_BUF_STAT.CELLS_TOTAL 4096).fsub SWC_BUF_STAT.CELLS_FREE 4096).bufShort
  | _ => d

/-- RETIRE_BANK (R537): FIXED, INUSE and a bank that is not in service change nothing. -/
def Dev.retireBank (d : Dev) (b : Nat) : Dev :=
  let st := d.fget MEM_BANK_STAT.STATE b
  let r := d.fget MEM_BANK_CFG.REGION b
  let pos := d.fget MEM_BANK_CFG.POSITION b
  if st = bkCopying then d.bankResult b 1
  else if st ≠ bkInService then d.bankResult b 2
  else if r = 8 ∨ r = 9 ∨ (r = 1 ∧ pos < 2) then d.bankResult b 5
  else if d.bankInUse r pos then d.bankResult b 4
  else ((d.fset MEM_BANK_STAT.STATE bkRetiring b).bankResult b 0).regionLoses r pos

/-- RETIRE_BANK by a write of MEM_BANK_CTRL. -/
def execRetireBank (b : Fin 256) (s : State) : Result :=
  onWaitingReg (.retireBank b) s fun d => ((d.fset MEM_BANK_CTRL.OP 2 b).retireBank b).dirSettle

/-- BANK_RELEASED: a retiring bank's last use has ended; a directory bank's when its last evicted entry's snoops have. -/
def execBankReleased (b : Fin 256) (s : State) : Result :=
  onDev s fun d =>
    let dirBusy := d.fget MEM_BANK_CFG.REGION b == 0 &&
      d.validEntries.any fun i => dirBank (i / 16) (i % 16) == d.fget MEM_BANK_CFG.POSITION b
    if d.fget MEM_BANK_STAT.STATE b = bkRetiring ∧ !dirBusy then d.bankGone b else d

end Sys2Proof.Machine
end

