-- ==== Sys2Proof/Machine/Access.lean ====
section
/-! DEFINITION. The access path (01_architecture.md, R24): what happens to a message that arrives on a port, from its
admission to its egress queue, and to an access of a Wygel thread or of the debug access port to the pool aperture:
INGRESS_MESSAGE. -/

namespace Sys2Proof.Machine

/-- What a request asks for, as a kind (R407; the host's owner status comes later). -/
def kindOf : ReqOp → AccKind
  | .memRdData => .readS
  | .memRd mv ns => if ns then .readU else match mv with | .i => .readU | .s => .readS | _ => .readE
  | .memInv => .invE
  | .memWr mv => .writeBack mv
  | .memWrPtl => .writeU
  | .memClnEvct => .cleanEvict
  | .ioRead => .ioRead
  | .ioNonPosted => .ioNonPosted
  | .ioAtomic => .ioAtomic
  | .ioPosted => .ioPosted
  | .cacheRead => .cacheRead
  | .cacheWrite => .cacheWrite

/-- What a kind needs of a rule (R502); a clean eviction is never checked. -/
def AccKind.need : AccKind → Option HNeed
  | .readS | .readE | .cacheRead => some .readCached
  | .readU | .ioRead => some .read
  | .invE => some .memInv
  | .writeBack _ | .writeU | .ioPosted | .ioNonPosted | .cacheWrite => some .write
  | .ioAtomic => some .atomic
  | .cleanEvict => none

/-- A request toward one of the device's own destinations put in flight: stamped with the epoch in force and given the class
of the map, which its synthesised answers keep (R24, R46, R311). One that the map puts in class 0 but that is answered
before it reaches an egress port takes the excess class of the port it came from. -/
def Dev.admitFlight (d : Dev) (fl : Flight) : Dev × Nat :=
  let fl := { fl with epoch := d.commits.epoch, admitted := d.now }
  let c := d.mapClass fl
  let c := match c, fl.src with
    | 0, .port p => d.excess fl.epoch p
    | 0, _ => 1
    | c, _ => c
  d.launch { fl with cls := c, flow := d.flowOf fl.epoch c fl.vsw fl.src.ingress }

/-- The answer of a denied access of a kind (R511). -/
def AccKind.denied (k : AccKind) (len : Nat) : Answer :=
  match k with
  | .readS | .readE | .readU | .cacheRead | .ioRead => .data (onesOf len) true
  | .ioNonPosted | .ioAtomic => .unsupported
  | .ioPosted => .silent
  | _ => .done

/-- The answer of an unbound range (R228): an unsupported request on CXL.io, all ones with poison on CXL.mem. -/
def AccKind.unbound (k : AccKind) (len : Nat) : Answer :=
  match k with
  | .ioRead | .ioNonPosted | .ioAtomic => .unsupported
  | .ioPosted => .silent
  | .readS | .readE | .readU | .cacheRead => .data (onesOf len) true
  | _ => .done

/-- A request in flight answered at once. -/
def Dev.answerTag (d : Dev) (t : Nat) (a : Answer) : Dev :=
  match d.flight t with
  | some fl => d.answer fl a
  | none => d

/-- The table words of a pool address as an access finds them: errors logged, poisoned words consumed (R528 to R531). -/
def Dev.readTables (d : Dev) (pool : Nat) (errs : List PathErr) : Dev :=
  (errs.foldl (fun d e => match e with | .table t r => d.tableRead pool t r | _ => d) d).consumeMap pool

/-- A request with its pool address: counted, through the directory when its field is shared, and placed (R24, steps 6
and 7; R406). -/
def Dev.toPool (d : Dev) (tag pool : Nat) : Dev :=
  let d := d.setFlight tag fun f => { f with addr := pool }
  match d.flight tag with
  | none => d
  | some fl =>
    if d.behindHeld fl then d.waitIn tag .held
    else if d.shared fl.epoch pool then ((d.consumeDir pool).dirServe tag).dirSettle else d.routeMem tag

/-- A host's CXL.mem request (R24, R228, R370, R405, R500). -/
def Dev.hostMem (d : Dev) (p v : Nat) (r : HostReq) (bad : Bool) (errs : List PathErr) : Dev :=
  let k := kindOf r.op
  let (d, t) := d.admitFlight { tag := 0, epoch := false, src := .port p, vsw := some v, kind := k, write := k.writes, addr := r.addr,
                                len := r.len, hostTag := r.tag, data := r.data, poison := r.poison || bad, admitted := 0 }
  let e := d.commits.epoch
  let (d, v1) := match k.need with
    | none => (d, HVerdict.allow none false)
    | some n => d.hpass e (.port p) v r.addr n (some p)
  match v1 with
  | .deny _ _ _ => d.answerTag t (k.denied r.len)
  | .allow _ nc1 =>
    match d.hostPool e v r.addr with
    | none => (d.send (.log "unbound" r.addr)).answerTag t (k.unbound r.len)
    | some pool =>
      let d := d.readTables pool errs
      if d.shared e pool && !(d.fon DIR_HOST_STAT.BI_EN 0 v) then (d.send (.log "no BI" r.addr)).answerTag t (k.unbound r.len)
      else
        let (d, v2) := match k.need with
          | none => (d, HVerdict.allow none false)
          | some n => d.hpass e .pool v pool (if nc1 then .read else n) (some p)
        match v2 with
        | .deny _ _ _ => d.answerTag t (k.denied r.len)
        | .allow rule nc2 =>
          let d := d.setFlight t fun f => { f with kind := if nc1 || nc2 then .readU else k, region := rule }
          (d.countAccess pool).toPool t pool

/-- A CXL.io or CXL.cache request toward a port: its parts checked by the port unit it came in on, where that port's mode
has the unit check it (R500, R507, R509); `cacheId` is that of the device a CXL.cache request comes from. -/
def Dev.toPort (d : Dev) (p v egress ld : Nat) (r : HostReq) (cacheId : Option Nat) (bad checked : Bool) : Dev :=
  let k := kindOf r.op
  let (d, t) := d.admitFlight { tag := 0, epoch := false, src := .port p, vsw := some v, kind := k, write := k.writes, addr := r.addr,
                                len := r.len, hostTag := r.tag, data := r.data, poison := r.poison || bad, admitted := 0,
                                extra := r.extra, cacheId := cacheId }
  let e := d.commits.epoch
  let (d, parts) := match k.need with
    | some n => if checked then d.hparts e (.port p) v r.addr r.len n (some p) else (d, [(r.addr, true)])
    | none => (d, [(r.addr, true)])
  if parts.all fun x => !x.2 then d.answerTag t (k.denied r.len)
  else
    let cut := (parts.filter fun x => !x.2).map fun x =>
      (x.1 - r.addr, min (r.addr + r.len) ((x.1 / 4096 + 1) * 4096) - x.1)
    let d := d.setFlight t fun f => { f with denied := cut, routed := true }
    match d.flight t with
    | none => d
    | some fl =>
      if d.portUp egress then d.queueFlight fl egress ld r.addr fl.msgLen (.request t) else d.endRequest fl 6

/-- The virtual switch and bridge that a downstream port's device, or logical device `ld` behind it, is bound to (R227). -/
def Dev.boundTo (d : Dev) (e : Bool) (p ld : Nat) : Option (Nat × Nat) :=
  (d.bridgesOn e p).find? fun x => d.vbKindAt e x.1 x.2 == 1 || d.cfg e CXP_VB.LD x.1 x.2 == ld

/-- The bridges of a virtual switch whose device uses CXL.cache, in order of number: the place of one is its CacheID (R229). -/
def Dev.cacheBridges (d : Dev) (e : Bool) (v : Nat) : List Nat :=
  (List.range 32).filter fun b => d.vbKindAt e v b != 0 && (Tab.get ({} : PortHid) d.ports (d.cfg e CXP_VB.PORT v b)).cacheDev

/-- The bridge a host's CXL.io request is routed to by its address, or its CXL.cache message by its CacheID. -/
def Dev.hostBridge (d : Dev) (e : Bool) (v : Nat) (r : HostReq) : Option Nat :=
  let b := if (kindOf r.op).chan = .cache then (d.cacheBridges e v)[r.vb]? else some r.vb
  b.filter fun b => d.vbKindAt e v b != 0

/-- A host's CXL.io or CXL.cache request, toward the device bound to the virtual bridge it is routed to; to an unbound bridge, or
to the pool device by no command of its own, it is unsupported (R228). -/
def Dev.hostIo (d : Dev) (p v : Nat) (r : HostReq) (bad : Bool) : Dev :=
  let e := d.commits.epoch
  match d.hostBridge e v r with
  | some b => d.toPort p v (d.cfg e CXP_VB.PORT v b) (d.vbLd e v b) r none bad ((kindOf r.op).chan == .io)
  | none =>
    let k := kindOf r.op
    let (d, t) := d.admitFlight { tag := 0, epoch := false, src := .port p, vsw := some v, kind := k, write := k.writes,
                                  addr := r.addr, len := r.len, hostTag := r.tag, admitted := 0 }
    (d.send (.log "unbound" r.addr)).answerTag t (k.unbound r.len)

/-- A request that a device behind a downstream port sends: a bound one's goes to its host (R229, R312), a CXL.cache one with the
device's CacheID; any other has no destination. -/
def Dev.deviceRequest (d : Dev) (p : Nat) (r : HostReq) (bad : Bool) : Dev :=
  let e := d.commits.epoch
  match d.boundTo e p r.vb with
  | some (v, b) =>
    if (kindOf r.op).chan = .mem then d.send (.log "device CXL.mem request" p)
    else
      let id := if (kindOf r.op).chan = .cache then some ((d.cacheBridges e v).findIdx (· == b)) else none
      d.toPort p v (d.cfg e CXP_VSW_CFG.USP v) 0 r id bad true
  | none => d.send (.log "request of an unbound device" p)

/-- Data with the denied ranges of a read as ones (R509). -/
def overlay (data : Nat) (cut : List (Nat × Nat)) : Nat := cut.foldl (fun x c => x ||| (onesOf c.2 * 2 ^ (8 * c.1))) data

/-- The request that a response with a tag on a port answers. -/
def Dev.awaited (d : Dev) (p tag : Nat) : Option Flight :=
  d.core.flights.find? fun f => f.tag == tag && f.egress == p && f.phase == .sent && f.answer.isNone

/-- The answer of a device to a request the device sent on a port, with its header's bytes beyond the first 16; one to a request
already completed is discarded and logged (R419). -/
def Dev.portResponse (d : Dev) (p tag : Nat) (a : Answer) (extra : Nat) (bad : Bool) : Dev :=
  match d.awaited p tag with
  | none =>
    (d.orphanAnswer p (fun t => t == tag) (match a with | .data _ _ => true | _ => false)).send (.log "response discarded" tag)
  | some fl =>
    match fl.src with
    | .lender _ _ _ _ => d
    | _ =>
      let a := match a with
        | .data v x => if fl.kind.returnsData || fl.kind == .ioAtomic then .data (overlay v fl.denied) (x || bad || !fl.denied.isEmpty) else .done
        | a => a
      (d.answer { fl with respExtra := extra } a).dirSettle

/-- Does a port withhold the credits of a channel: is a class's hold of 16 full, with its head on that channel (R309)? -/
def Dev.withholds (d : Dev) (p : Nat) (ch : Chan) : Bool :=
  (List.range 8).any fun c =>
    let hs := (d.core.holds.filter fun h => h.1 == some p && h.2.cls == c).map (·.2)
    c != 0 && decide (16 ≤ hs.length) && (match hs.head? with | some m => m.chan == ch | none => false)

/-- The errors of the path that need no table: datapath words poison the message, a second retry is logged (R13, R524). -/
def Dev.pathErrs (d : Dev) (errs : List PathErr) : Dev :=
  errs.foldl (fun d e =>
    match e with
    | .datapath u st => d.raise u (recDE 0x12 st)
    | .retry die => d.raise (160 + (die : Nat)) (recCE 0x30 die)
    | .table _ _ => d) d

/-- Does a datapath error poison the message? -/
def poisons (errs : List PathErr) : Bool := errs.any fun e => match e with | .datapath _ _ => true | _ => false

/-- The channel a message travels on, where it is one whose credits a full hold withholds: a request, or the response to one of
this device's. -/
def Dev.msgChan (d : Dev) (p : Nat) (m : PortMsg) : Option Chan :=
  match m with
  | .request r => some (kindOf r.op).chan
  | .response tag _ _ _ | .unsupported tag => (d.awaited p tag).map fun f => f.kind.chan
  | _ => none

/-- Does a full hold keep a message back at its sender (R309)? -/
def Dev.keptBack (d : Dev) (p : Nat) (m : PortMsg) : Bool :=
  match d.msgChan p m with
  | some ch => d.withholds p ch
  | none => false

/-- The regions of a pool device that have a length: number, first GiB, length, and the latency and bandwidth figures of its tier
(R230, R237). -/
def Dev.cdatRegions (d : Dev) (v : Nat) : List (Nat × Nat × Nat × Nat × Nat) :=
  ((List.range 8).filter fun r => d.regionGib v r != 0).map fun r =>
    let t := d.fget CXP_POOL_REGION.TIER v r
    (r, d.regionBase v r, d.regionGib v r, d.fget TMP_TIER_FIG.LAT_NS 0 t, d.fget TMP_TIER_FIG.BW_GBS 0 t)

/-- The dynamic capacity configuration (R230, R231): per region its DPA base, length and block size in bytes, and whether it is
shared. -/
def Dev.dcConfiguration (d : Dev) (v : Nat) : List Byte :=
  (List.range 8).flatMap fun r =>
    leBytes 8 (d.regionBase v r * 2 ^ 30) ++ leBytes 8 (d.regionGib v r * 2 ^ 30) ++ leBytes 8 (2 ^ 30) ++
      leBytes 1 (d.fget CXP_POOL_REGION.SHARED v r)

/-! Pool aperture accesses of threads and of the debug access port (R46, R74, R428) -/

/-- An aperture access that Hedgerow allowed: in flight as an uncached read or a partial write. Answers its tag. -/
def Dev.aperture (d : Dev) (src : FlightSrc) (pool len : Nat) (store : Option Nat) : Dev × Nat :=
  let d := d.readTables pool []
  let (d, t) := d.admitFlight { tag := 0, epoch := false, src := src, kind := if store.isSome then .writeU else .readU,
                                write := store.isSome, addr := pool, len := len, data := store.getD 0, admitted := 0 }
  (d.toPool t pool, t)

end Sys2Proof.Machine
end

