-- ==== Sys2Proof/Machine/Ports.lean ====
section
/-! DEFINITION. Ports (07_cxl_ports.md, R217 to R250; 06_lanes.md, R173 to R178): bring-up, leaving UP, containment and
release, IDE, snoop-dead hosts and die interfaces. -/

namespace Sys2Proof.Machine

/-! The states of CXP_LINK_STAT.STATE (R253). -/
abbrev poOff : Nat := 0
abbrev poTraining : Nat := 1
abbrev poUp : Nat := 2
abbrev poDown : Nat := 3
abbrev poContained : Nat := 4

/-- The state of a port. -/
def Dev.portState (d : Dev) (p : Nat) : Nat := d.fget CXP_LINK_STAT.STATE p

/-- The mode of a port in force. -/
def Dev.portMode (d : Dev) (p : Nat) : Nat := d.fget CXP_PORT_CFG.MODE p

/-- A port's lane record. -/
def Dev.lanePort (d : Dev) (p : Nat) : PortHid := Tab.get {} d.ports p

/-- A port's lane record given. -/
def Dev.setLanePort (d : Dev) (p : Nat) (x : PortHid) : Dev := { d with ports := Tab.set d.ports p x }

/-- The lanes of a port's configured width (R175). -/
def Dev.lanesOf (d : Dev) (p : Nat) : List Nat := (List.range (d.cfgLanes p)).map (4 * p + ·)

/-- The configured ports with a lane in a quadrant; none spans two (R217). -/
def Dev.portsIn (d : Dev) (q : Nat) : List Nat := ((List.range 4).map (4 * q + ·)).filter d.configured

/-- Does the quadrant of a port have its reference (R173), and its Eave die its supply (R653)? -/
def Dev.refOk (d : Dev) (p : Nat) : Bool := !(d.refStopped.contains (p / 4)) && !(d.gable.railsLow.contains (5 + p / 16))

/-- A port event of the Fabric Control Protocol (R250, R610). -/
def Dev.portEvent (d : Dev) (p : Nat) : Dev := d.fcpEvent 2 [BitVec.ofNat 64 p, d.rd ⟨.CXP_LINK_STAT, p, 0⟩]

/-- A lane's record beside its registers. -/
def Dev.lane (d : Dev) (l : Nat) : LaneHid := Tab.get {} d.lanes l

/-- A lane's record given. -/
def Dev.setLane (d : Dev) (l : Nat) (x : LaneHid) : Dev := { d with lanes := Tab.set d.lanes l x }

/-- A margining run ends aborted; its receiver is back at its data settings (R191). -/
def Dev.marginCut (d : Dev) (l cause : Nat) : Dev :=
  let d := d.setLane l { d.lane l with sampler := none }
  ((d.fset LAN_MARGIN_STAT.STATE 3 l).fset LAN_MARGIN_STAT.CAUSE cause l).fset LAN_MARGIN_CTRL.START 0 l

/-- A lane's margining run that is under way aborts (R191). How many errors it had counted is open, but that they were fewer than
its limit (assumption 184). -/
def Dev.marginAbort (d : Dev) (l cause : Nat) : Dev :=
  if d.fget LAN_MARGIN_STAT.STATE l = 1 then
    let d := d.fset LAN_MARGIN_STAT.ERRORS (d.free.toNat % max 1 (d.fget LAN_MARGIN_CTRL.ERR_LIMIT l)) l
    d.used.marginCut l cause
  else d

/-- A lane that carries no traffic any more: its run of margining ended (R191), the partner's margining command gone with the
link. -/
def Dev.laneDown (d : Dev) (l : Nat) : Dev :=
  let d := { d with lanes := d.lanes.map fun (e : Nat × LaneHid) => if e.1 = l then (e.1, { e.2 with remote := false }) else e }
  (d.fset LAN_STATUS.ACTIVE 0 l).marginAbort l 1

/-- A fallow state entered, counted in CHANGES. -/
def Dev.fallow (d : Dev) (p st : Nat) : Dev :=
  if d.fget LAN_FALLOW_STAT.STATE (4 * p) = st then d
  else (d.fset LAN_FALLOW_STAT.STATE st (4 * p)).finc LAN_FALLOW_STAT.CHANGES 1 (4 * p)

/-- A direction at a width: the lanes below it carry traffic. -/
def Dev.fallowWidth (d : Dev) (p w : Nat) : Dev := d.fset LAN_FALLOW_STAT.WIDTH w (4 * p)

/-- The swath boundary at which a fallow window that starts now is taken to start. -/
def Dev.windowStart (d : Dev) : Nat := if d.now % 1024 = 0 then d.now else nextMultiple d.now 1024

/-- A link trained or retrained: the trained width, FULL, a new window (R197). -/
def Dev.fallowFull (d : Dev) (p : Nat) : Dev :=
  let w := d.fget CXP_LINK_STAT.WIDTH p
  let d := d.setLanePort p { d.lanePort p with
    notice := none, count := 0, before := w, fromSleep := false, rxWidth := none, used := 0, slots := 0, windowAt := d.windowStart }
  (d.fallow p 0).fallowWidth p w

/-! Transmit coefficients (R182 to R185) -/

/-- FS, LF and the largest C−1 and C+1 at a rate (R182); at 2.5 and 5 GT/s there is no coefficient space. -/
def coeffSpace (rate : Nat) : Option (Nat × Nat × Nat × Nat) :=
  if rate < 2 ∨ 6 < rate then none else if rate ≤ 4 then some (63, 21, 15, 24) else some (48, 16, 12, 18)

/-- May a lane use C−1 and C+1 at a rate (R183)? -/
def coeffOk (rate pre post : Nat) : Bool :=
  match coeffSpace rate with
  | none => false
  | some (fs, lf, mp, mq) => decide (pre ≤ mp ∧ post ≤ mq ∧ lf + 2 * (pre + post) ≤ fs)

/-- The coefficients in use: C0 from the formula of R182; at 2.5 and 5 GT/s C−1 is 0, C+1 and C0 realise the standard's
de-emphasis. -/
def Dev.setCoeff (d : Dev) (l rate pre post : Nat) : Dev :=
  match coeffSpace rate with
  | some (fs, _) =>
    ((d.fset LAN_TXEQ.PRE pre l).fset LAN_TXEQ.POST post l).fset LAN_TXEQ.MAIN (fs - pre - post) l
  | none =>
    let (q, z) := Config.deEmphasis rate
    ((d.fset LAN_TXEQ.PRE 0 l).fset LAN_TXEQ.POST q l).fset LAN_TXEQ.MAIN z l

/-- The ranges of R182 alone, which forced coefficients must keep (R185). -/
def forceOk (rate pre post : Nat) : Bool :=
  match coeffSpace rate with
  | none => false
  | some (_, _, mp, mq) => decide (pre ≤ mp ∧ post ≤ mq)

/-- A preset as coefficients in the range of a rate (R184): the P set to 32 GT/s, the Q set above. -/
def presetCoeff (rate n : Nat) : Nat × Nat :=
  match coeffSpace rate with
  | some (_, _, mp, mq) => let (a, b) := Config.preset (decide (5 ≤ rate)) n; (min mp a, min mq b)
  | none => (0, 0)

/-- What a lane transmits at a rate before equalisation, or while FORCE is 1: the forced coefficients if they keep R182, else
INIT_PRESET (R184, R185). -/
def Dev.laneCoeff (d : Dev) (l rate : Nat) : Dev :=
  let pre := d.fget LAN_TXEQ.FORCE_PRE l
  let post := d.fget LAN_TXEQ.FORCE_POST l
  if d.fon LAN_TXEQ.FORCE l && forceOk rate pre post then d.setCoeff l rate pre post
  else
    let (a, b) := presetCoeff rate (d.fget LAN_TXEQ.INIT_PRESET l)
    d.setCoeff l rate a b

/-- The class and the queue of a lending message (R380). -/
def Dev.sendLease (d : Dev) (p typ : Nat) (body : List Byte) : Dev :=
  let e := d.commits.epoch
  let c := d.cfg e SWC_CLASS_CFG.MIGR_CLASS
  if d.portUp p then
    d.offer { body := .coord typ body false, ingress := none, egress := p, cls := c, flow := d.flowOf e c none none, chan := .mem,
              len := 16, ep := e }
  else d

/-- The body of a lending message that names the two devices and a code (R380). -/
def leaseBody (lender borrower code : Nat) : List Byte :=
  leBytes 1 lender ++ leBytes 1 borrower ++ leBytes 1 code ++ leBytes 13 0

/-- The lender tells the borrower that a LENT entry is lost or gone, until it is acknowledged (R380). -/
def Dev.sendDevLost (d : Dev) (v cause : Nat) : Dev :=
  match d.thatch.lentTo.find? fun e => e.1 == v with
  | none => d
  | some (_, b, p) =>
    let d := { d with thatch := { d.thatch with devLost := Tab.set d.thatch.devLost v cause } }
    d.sendLease p 0x22 (leaseBody v b cause)

/-- A device lost, with what the lender of a LENT range does and the directory's walk (R379, R393, R425). -/
def Dev.lose (d : Dev) (v cause : Nat) : Dev :=
  let lent := d.dvState v == dvLent
  if !(d.dvInPool v || lent) then d
  else
    let d := (d.loseDevice v).walkForLost
    if lent then d.sendDevLost v cause else d

/-- Every device behind a port lost (R246, R379). -/
def Dev.loseBehind (d : Dev) (p : Nat) : Dev := (d.devsAt p).foldl (fun d v => d.lose v 1) d

/-- The folds assigned to a virtual switch. -/
def Dev.foldsOf (d : Dev) (v : Nat) : List Nat :=
  (((d.listed .FLD_CFG).map (·.1)).filter fun f => d.fon FLD_CFG.ASSIGNED f && d.fget FLD_CFG.VSW f == v)

/-- A Thatchlink port's link layer gone: both stores cleared (R293). -/
def Dev.tlkClear (d : Dev) (p : Nat) : Dev :=
  let d := { d with tlk := { d.tlk with ports := Tab.erase d.tlk.ports p } }
  let d := (((d.fset TLK_STATUS.LL_STATE 0 p).fset TLK_STATUS.UNACKED 0 p).fset TLK_STATUS.TX_NEXT 0 p).fset
    TLK_STATUS.RX_EXPECT 0 p
  let d := ((d.fset TLK_STATUS.XOFF_RX 0 p).fset TLK_STATUS.XOFF_TX 0 p).fset TLK_STATUS.STALLED 0 p
  { d with thatch := { d.thatch with
      devLost := d.thatch.devLost.filter fun e => !(d.thatch.lentTo.any fun x => x.1 == e.1 && x.2.2 == p) } }

/-- How a port leaves UP: without notice or contained, by a hot reset, by a planned link-down, or by a committed change. -/
inductive Leave where
  | surprise | reset | planned | config
  deriving DecidableEq, Repr

/-- A port reset (L): the fields it restores, of the port and of an upstream port's virtual switch (R7), and the port's tags
(R655). -/
def Dev.portReset (d : Dev) (p : Nat) : Dev :=
  let v := if d.portMode p = 1 then d.fget CXP_PORT_CFG.VSW p else 64
  let d := { d with core := { d.core with
      classTags := d.core.classTags.filter fun e => e.1 / 8 != p, flowPrev := d.core.flowPrev.filter fun e => e.1 / 512 != p } }
  d.restore .port fun r =>
    (r.i == p && (r.k.place.block == 0x11 || r.k.place.block == 0x13 || r.k.place.block == 0x15)) ||
      (r.k == .DIR_HOST_STAT && r.j == v)

/-- What a virtual bridge's host sees of its device's removal: the bridge enters containment where the host has enabled it
(R246). -/
def Dev.bridgeGone (d : Dev) (x : Nat × Nat) : Dev :=
  let d := if (d.pool x.1).dpc.contains x.2 then d.fset CXP_VB.STATE 2 x.1 x.2 else d
  d.send (.log "surprise removal" (x.1 * 32 + x.2))

/-- Every bridge bound to a port, or to a logical device behind it, loses its device (R246). -/
def Dev.bridgeLost (d : Dev) (p : Nat) : Dev :=
  (d.bridgesOn d.commits.epoch p).foldl Dev.bridgeGone d

/-- The pool device's mailbox reset (R236): an open offer is withdrawn as if no response had come, and a release under way goes
on but answers nothing (assumption 185). -/
def Dev.mailboxReset (d : Dev) (v : Nat) : Dev :=
  let d := match (d.pool v).offer with
    | some (xs, _) => d.closeOffer v xs |>.withdraw xs
    | none => d
  d.setPool v { d.pool v with decoders := [], quiet := (d.pool v).release.isSome }

/-- What follows when an upstream port leaves UP (R236, R247, R422): only a hot reset by the host spares the directory its
treatment. -/
def Dev.hostLost (d : Dev) (v : Nat) (how : Leave) : Dev :=
  let d := d.mailboxReset v
  if how = .config then d
  else
    let d := (d.foldsOf v).foldl Dev.foldReset d
    if how ≠ .reset && !(d.dead v) then d.hostDead v 2 else d

/-- A port that is UP leaves it for a state, with a cause, and is reset (R245 to R247, R319, R639). -/
def Dev.leaveUp (d : Dev) (p cause next : Nat) (how : Leave) : Dev :=
  let mode := d.portMode p
  let d := ((d.fset CXP_LINK_STAT.STATE next p).fset CXP_LINK_STAT.CAUSE cause p).fadd CXP_LINK_STAT.DOWN_COUNT 1 p
  let d := (((d.fset CXP_LINK_STAT.WIDTH 0 p).fset CXP_LINK_STAT.RATE 0 p).fset CXP_LINK_STAT.FLIT 0 p).fset
    CXP_LINK_STAT.PARTNER 0 p
  let d := (d.lanesOf p).foldl Dev.laneDown d
  let d := (d.fset CXP_IDE_CFG.STREAM 0 p).fset LAN_FALLOW_STAT.WIDTH 0 (4 * p)
  let d := d.setLanePort p { d.lanePort p with l1 := 0, l0p := 0, notice := none }
  let d := if how = .config then d else d.loseBehind p
  let d := if mode = 2 ∧ how ≠ .config then d.bridgeLost p else d
  let d := if mode = 1 then d.hostLost (d.fget CXP_PORT_CFG.VSW p) how else d
  let d := d.flush p
  let d := if mode = 4 then d.tlkClear p else d
  let d := d.settle
  let d := d.portReset p
  let d := if mode = 2 then d.fset CXP_HP_STAT.DLLSC 1 p else d
  (d.portEvent p).dirSettle

/-- Keys of 256 bits for a port's streams, drawn from the device's own random source (R241, R242). -/
def Dev.drawKeys (d : Dev) (p : Nat) : Dev :=
  let key := (List.range 4).map fun k => Config.freeValue (d.freeCtr + k)
  { d.setLanePort p { d.lanePort p with ideKey := key } with freeCtr := d.freeCtr + 4 }

/-- The lanes of a port that comes up carry it: the logical lanes below its width. -/
def Dev.lanesUp (d : Dev) (p : Nat) : Dev :=
  let n := d.cfgLanes p
  let reversed := d.fon LAN_STATUS.REVERSED (4 * p)
  (List.range n).foldl (fun d k =>
    let l := 4 * p + k
    let logical := if reversed then n - 1 - k else k
    if logical < d.fget CXP_LINK_STAT.WIDTH p then
      (((d.fset LAN_STATUS.ACTIVE 1 l).fset LAN_STATUS.RATE (d.fget CXP_LINK_STAT.RATE p) l).fset LAN_STATUS.LOGICAL logical l).fset
        LAN_STATUS.REVERSED reversed.toNat l
    else d) d

/-- A port is UP with its trained figures (R178, R245): its lanes active, fallow full, IDE starting where enabled, and a
port event (R250). A port with reservations below its configured width or rate is DEGRADED (R356). -/
def Dev.comeUp (d : Dev) (p : Nat) : Dev :=
  let w := d.fget CXP_LINK_STAT.WIDTH p
  let d := (d.fset CXP_LINK_STAT.STATE poUp p).lanesUp p
  let d := d.fallowFull p
  let d := d.setLanePort p { d.lanePort p with lastFlit := d.now }
  let d := d.fset SCH_PORT_STAT.DEGRADED
    (d.carriesRidge p && (decide (w < d.cfgLanes p) || decide (d.fget CXP_LINK_STAT.RATE p < d.fget CXP_PORT_CFG.RATE p))).toNat p
  let d :=
    if d.fon CXP_IDE_CFG.EN p then
      if d.portMode p = 2 ∨ d.portMode p = 3 then (d.fset CXP_IDE_CFG.STREAM 2 p).drawKeys p
      else d.fset CXP_IDE_CFG.STREAM 1 p
    else d
  let d := if d.portMode p = 2 then d.fset CXP_HP_STAT.DLLSC 1 p else d
  d.portEvent p

/-- PRBS generators and checkers that training preempts (R193). -/
def Dev.preempt (d : Dev) (p : Nat) : Dev :=
  (d.lanesOf p).foldl (fun d l =>
    if d.fon LAN_PRBS_CTRL.GEN_EN l || d.fon LAN_PRBS_CTRL.CHK_EN l then
      let d := (d.fset LAN_PRBS_CTRL.GEN_EN 0 l).fset LAN_PRBS_CTRL.CHK_EN 0 l
      (d.fset LAN_PRBS_STAT.PREEMPTED 1 l).fset LAN_PRBS_STAT.LOCKED 0 l
    else d) d

/-- A lane joins a bring-up, which starts at 2.5 GT/s (R178). -/
def Dev.laneTrains (d : Dev) (l : Nat) : Dev :=
  let d := (d.fset LAN_STATUS.RATE 0 l).laneCoeff l 0
  d.setLane l { d.lane l with eqRate := none }

/-- Bring-up starts (R178, R245). -/
def Dev.train (d : Dev) (p : Nat) : Dev :=
  ((d.lanesOf p).filter fun l => d.fon LAN_CTRL.LANE_EN l).foldl Dev.laneTrains ((d.fset CXP_LINK_STAT.STATE poTraining p).preempt p)

/-- The rate code a port trains to at most (R172, R174). -/
def Dev.rateCap (d : Dev) (p : Nat) : Nat :=
  let r := (d.lanesOf p).foldl (fun r l => min r (d.fget LAN_CTRL.RATE_CAP l)) (min (d.fget CXP_PORT_CFG.RATE p) (maxRate d.fuses))
  if d.fget LAN_PORT_CFG.CLK_MODE (4 * p) = 2 then min r 5 else r

/-- The FLIT code of a trained CXL or PCIe link (R222): non-flit, 68-byte, 256-byte standard, 256-byte latency-optimised; of a
Thatchlink 2 (R265). -/
def Dev.flitOf (d : Dev) (p rate partner : Nat) (lo : Bool) : Nat :=
  if d.portMode p = 4 then 2
  else if partner = 1 ∨ partner = 5 then (if rate ≤ 4 then 0 else 2)
  else if rate ≤ 4 then 1
  else if lo && d.fon CXP_PORT_CFG.FLIT_LO p then 3 else 2

/-! What bring-up comes to (R175 to R181, R219, R223, R224, R264) -/

/-- Does the lane on which logical lane `k` rides train: it is enabled (R207), and its partner answers (R175)? -/
def Dev.logicalTrains (d : Dev) (p : Nat) (x : LinkTraining) (k : Nat) : Bool :=
  let n := d.cfgLanes p
  let j := if x.reversed then n - 1 - k else k
  d.fon LAN_CTRL.LANE_EN (4 * p + j) && x.lanes.getLsbD j

/-- The widest width at which the logical lanes all train (R219); 0 where not even lane 0 does. -/
def Dev.trainWidth (d : Dev) (p : Nat) (x : LinkTraining) : Nat :=
  ([16, 8, 4, 2, 1].find? fun w => decide (w ≤ d.cfgLanes p) && (List.range w).all (d.logicalTrains p x)).getD 0

/-- The lane-to-lane skew that receivers tolerate at a rate, in ns (R177). -/
def skewLimit (rate : Nat) : Nat := if rate ≤ 3 then 20 else if rate = 4 then 8 else 6

/-- Do both attempts to equalise at a rate fail (R180)? There is none below 8 GT/s. -/
def eqFails (x : LinkTraining) (rate : Nat) : Bool :=
  decide (2 ≤ rate) && decide (2 ≤ (x.eqFailed.filter fun r => r.toNat == rate).length)

/-- Do the lanes of a retrain reuse the coefficients stored for a rate, and skip equalisation (R181)? -/
def Dev.reuses (d : Dev) (x : LinkTraining) (rate l : Nat) : Bool :=
  x.reuse && d.fon LAN_TXEQ.REUSE l && (match (d.lane l).stored with | some (r, _) => r == rate | none => false)

/-- Does a port reach a rate: its skew is within the limit (R177), and its lanes reuse coefficients, or equalise at that rate
alone where both ends offer the bypass (R179), or at each rate from 8 GT/s up to it? -/
def Dev.reachesRate (d : Dev) (p : Nat) (x : LinkTraining) (rate : Nat) : Bool :=
  decide (x.skew ≤ skewLimit rate) &&
    ((d.lanesOf p).all (d.reuses x rate) ||
      (if d.fon LAN_PORT_CFG.EQ_BYPASS (4 * p) && x.bypass then !(eqFails x rate)
       else (List.range (rate + 1)).all fun r => !(eqFails x r)))

/-- The rate a port trains to: the highest of its own and its partner's rates that it reaches (R174, R177, R180). None where its
skew exceeds even the limit at 2.5 GT/s: bring-up does not get past Configuration (assumption 186). -/
def Dev.trainRate (d : Dev) (p : Nat) (x : LinkTraining) : Option Nat :=
  (List.range (min (d.rateCap p) x.rate.toNat + 1)).reverse.find? (d.reachesRate p x)

/-- May a link of a port's mode form with its partner (R221, R223, R264)? An upstream port takes CXL 2.0 or later, an inter-switch
link CXL 3.x, a downstream port anything but a G512, a Thatchlink the same vendor ID and protocol with version 1 or more. -/
def Dev.partnerOk (d : Dev) (p : Nat) (x : LinkTraining) : Bool :=
  match d.portMode p with
  | 1 => x.partner == 2 || x.partner == 3
  | 2 => x.partner == 1 || x.partner == 2 || x.partner == 3 || x.partner == 5
  | 3 => x.partner == 3
  | 4 => x.vendor == 0x1D4A && x.protocol == 0x54 && decide (1 ≤ x.version.toNat)
  | _ => false

/-- How bring-up ends: a link of a width and rate, DOWN with a cause, or not yet. -/
inductive TrainEnd where
  | link (width rate : Nat)
  | down (cause : Nat)
  | on
  deriving DecidableEq, Repr

/-- The end of a bring-up: cause WIDTH where no width is possible, or none from x4 up on a Thatchlink (R219); PROTOCOL for a
partner that does not fit (R223, R264; assumption 73); ISL_RATE for an inter-switch link below 64 GT/s (R224). Without its
reference it goes on (R173). -/
def Dev.trainEnd (d : Dev) (p : Nat) (x : LinkTraining) : TrainEnd :=
  let w := d.trainWidth p x
  if !(d.refOk p) then .on
  else if w = 0 ∨ (d.portMode p = 4 ∧ w < 4) then .down 9
  else if !(d.partnerOk p x) then .down 6
  else match d.trainRate p x with
    | none => .on
    | some r => if d.portMode p = 3 ∧ r < 5 then .down 5 else .link w r

/-- A lane at the end of training (R181, R184, R185): forced or stored coefficients, those agreed in equalisation, or the preset;
they are stored with the rate. Its polarity and its figure of merit as found (R176, R180). -/
def Dev.laneTrained (d : Dev) (p rate : Nat) (x : LinkTraining) (k : Nat) : Dev :=
  let l := 4 * p + k
  let h := d.lane l
  let d :=
    if d.fon LAN_TXEQ.FORCE l then d.laneCoeff l rate
    else if d.reuses x rate l then match h.stored with | some (_, a, b) => d.setCoeff l rate a b | none => d
    else if h.eqRate = some rate then d
    else d.laneCoeff l rate
  let d := d.setLane l { h with stored := some (rate, d.fget LAN_TXEQ.PRE l, d.fget LAN_TXEQ.POST l), eqRate := none }
  let d := d.fset LAN_STATUS.POL_INV (x.polInv.getLsbD k).toNat l
  let d := d.fset LAN_STATUS.REVERSED x.reversed.toNat l
  if x.lowMerit.getLsbD k then d.fset LAN_STATUS.EQ_FAIL 1 l else d

/-- The figures of a trained link. -/
def Dev.trained (d : Dev) (p w rate : Nat) (x : LinkTraining) : Dev :=
  let partner := if d.portMode p = 4 then 4 else x.partner.toNat
  let d := ((d.fset CXP_LINK_STAT.WIDTH w p).fset CXP_LINK_STAT.RATE rate p).fset CXP_LINK_STAT.PARTNER partner p
  let d := d.fset CXP_LINK_STAT.FLIT (d.flitOf p rate partner x.lo) p
  let d := d.setLanePort p { d.lanePort p with cacheDev := x.cache }
  (List.range (d.cfgLanes p)).foldl (fun d k => d.laneTrained p rate x k) d

/-- A bring-up that fails: DOWN with its cause (R245). -/
def Dev.trainDown (d : Dev) (p cause : Nat) : Dev :=
  (((d.fset CXP_LINK_STAT.STATE poDown p).fset CXP_LINK_STAT.CAUSE cause p).tlkClear p).portEvent p

/-- TRAINING_DONE: bring-up ends with what was found: the port is UP, or DOWN with the cause that forbids the link. A Thatchlink
comes up by its own link layer (R293). -/
def execTrainingDone (p : Fin 128) (lane : LaneTraining) (rate : BitVec 3) (bypass reuse : Bool) (eqFailed : List (BitVec 3))
    (lowMerit : BitVec 16) (kind : PartnerKind) (alt : AltProtocol) (s : State) : Result :=
  let x : LinkTraining := ⟨lane, ⟨rate, bypass, reuse, eqFailed, lowMerit⟩, ⟨kind, alt⟩⟩
  onDev s fun d =>
    if d.portState p ≠ poTraining ∨ d.portMode p = 4 then d
    else match d.trainEnd p x with
      | .link w r => (d.trained p w r x).comeUp p
      | .down c => d.trainDown p c
      | .on => d

/-- TRAINING_FAILED: bring-up fails after receivers were detected (R245): the cause that R219, R223, R224 or R264 gives, else one
that the spec does not state. -/
def execTrainingFailed (p : Fin 128) (x : LinkTraining) (s : State) : Result :=
  onDev s fun d =>
    if d.portState p ≠ poTraining ∨ !(d.refOk p) then d
    else match d.trainEnd p x with
      | .down c => d.trainDown p c
      | _ => (d.trainDown p (bitsOf d.free 0 4)).used

/-- RECEIVER_DETECTION: while no receiver is detected, detection repeats; nothing else changes (R178, R245). -/
def execReceiverDetection (p : Fin 128) (s : State) : Result :=
  onDev s fun d => if d.portState p = poTraining then d.preempt p else d

/-- PARTNER_DETECTED: a DOWN port with its reference restarts bring-up (R173, R245). -/
def execPartnerDetected (p : Fin 128) (s : State) : Result :=
  onDev s fun d => if d.portState p = poDown && d.refOk p then d.train p else d

/-- LINK_DOWN: an up port loses its link without notice. -/
def execLinkDown (p : Fin 128) (s : State) : Result :=
  onDev s fun d => if d.portUp p then d.leaveUp p 1 poDown .surprise else d

/-- A hot reset or planned link-down (R245, R247, R616). -/
def Dev.hotReset (d : Dev) (p : Nat) (how : Leave) : Dev := if d.portUp p then (d.leaveUp p 2 poTraining how).train p else d

/-- HOT_RESET: by the partner, or a planned link-down. -/
def execHotReset (x : Fin 128 × Bool) (s : State) : Result :=
  onDev s fun d => d.hotReset x.1 (if x.2 then .planned else .reset)

/-- REFCLK_LOSS: the quadrant's reference pair stops for 1 µs (R173). A port in training abandons its bring-up, a Thatchlink's
link layer in INIT with it. -/
def execRefclkLoss (q : Fin 32) (s : State) : Result :=
  onDev s fun d =>
    let d := (List.range 16).foldl (fun d k => d.fset LAN_STATUS.REFCLK_LOST 1 (16 * q + k)) d
    let d := { d with refStopped := if d.refStopped.contains q then d.refStopped else d.refStopped ++ [(q : Nat)] }
    let d := ((d.portsIn q).filter fun p => d.portState p == poTraining).foldl Dev.tlkClear d
    ((d.portsIn q).filter d.portUp).foldl (fun d p =>
      (d.leaveUp p 4 poDown .surprise).raise (128 + (q : Nat)) (recPort 0x21 p q)) d

/-- REFCLK_RESTORED: the pair has run for 1 ms; bring-up may start again. -/
def execRefclkRestored (q : Fin 32) (s : State) : Result :=
  onDev s fun d => { d with refStopped := d.refStopped.filter (· != (q : Nat)) }

/-! Containment (R248, R254) -/

/-- A port contained with a cause: 1 fault reaction, 2 snoop-dead host, 3 die interface, 4 manager. One that is OFF or
CONTAINED logs it. -/
def Dev.contain (d : Dev) (p cause : Nat) : Dev :=
  let st := d.portState p
  if st = poOff ∨ st = poContained then d.send (.log "containment" p)
  else
    let d := (d.fset CXP_CONTAIN.CONTAINED 1 p).fset CXP_CONTAIN.CAUSE cause p
    if st = poUp then d.leaveUp p 7 poContained .surprise
    else ((((d.fset CXP_LINK_STAT.STATE poContained p).fset CXP_LINK_STAT.CAUSE 7 p).flush p).tlkClear p).portEvent p

/-- CONTAIN: a write of CXP_CONTAIN.CONTAIN. -/
def execContain (p : Fin 128) (s : State) : Result := onWaitingReg (.contain p) s fun d => d.contain p 4

/-- A write of 1 to RELEASE: a port reset and bring-up, unless the walk of an upstream port's host runs; it clears DEAD
(R245, R421). -/
def Dev.releasePort (d : Dev) (p : Nat) : Dev :=
  let v := d.fget CXP_PORT_CFG.VSW p
  let host := d.portMode p = 1
  if d.portState p ≠ poContained ∨ (host ∧ d.fon DIR_HOST_STAT.WALK 0 v) then d
  else
    let d := if host then (d.fset DIR_HOST_STAT.DEAD 0 0 v).fset DIR_HOST_STAT.CAUSE 0 0 v else d
    let d := ((d.fset CXP_CONTAIN.CONTAINED 0 p).fset CXP_CONTAIN.CAUSE 0 p).portReset p
    (d.train p).portEvent p

/-- RELEASE. -/
def execRelease (p : Fin 128) (s : State) : Result := onWaitingReg (.release p) s fun d => d.releasePort p

/-- SNOOP_TIMEOUT: the timer of a snoop of host `v` expires: the host is dead and its upstream port contained (R415,
R420). -/
def execSnoopTimeout (v : Fin 64) (line : BitVec 41) (s : State) : Result :=
  onDev s fun d =>
    match d.dir.snoops.find? fun x => x.host == (v : Nat) && x.line == line.toNat * 64 && x.sent.isSome with
    | none => d
    | some x =>
      let lim := min 30 (max 1 (d.fget DIR_HOST_CFG.SNOOP_TIMEOUT 0 v))
      let d := d.upTo (x.sent.getD 0 + lim * 1000)
      (d.hostDead v 1).contain (d.usp v) 2

/-! IDE (R241 to R244) -/

/-- IDE on a port fails: it goes down with cause IDE and a UC-C fault (R244). -/
def Dev.ideDown (d : Dev) (p : Nat) : Dev := (d.leaveUp p 3 poDown .surprise).raise p (recPort 0x22 p 0)

/-- IDE_KM: the host programs keys on an upstream port; `secure` says that the streams now run with them. A stream that leaves the
secure state is a failure (R244). -/
def execIdeKm (p : Fin 128) (secure : Bool) (s : State) : Result :=
  onDev s fun d =>
    if d.portUp p && d.portMode p == 1 && d.fon CXP_IDE_CFG.EN p then
      if secure then d.fset CXP_IDE_CFG.STREAM 2 p
      else if d.fget CXP_IDE_CFG.STREAM p = 2 then d.ideDown p
      else d.fset CXP_IDE_CFG.STREAM 1 p
    else d

/-- A write of KEY_REFRESH: a downstream port or inter-switch link draws new keys; traffic does not pause (R241, R242). -/
def Dev.keyRefresh (d : Dev) (p : Nat) : Dev :=
  if (d.portMode p = 2 ∨ d.portMode p = 3) ∧ d.portUp p ∧ d.fon CXP_IDE_CFG.EN p then d.drawKeys p else d

/-- KEY_REFRESH. -/
def execKeyRefresh (p : Fin 128) (s : State) : Result := onWaitingReg (.keyRefresh p) s fun d => d.keyRefresh p

/-- IDE_FAILURE: an integrity check fails, or a stream leaves the secure state: the port goes down with cause IDE (R244). -/
def execIdeFailure (p : Fin 128) (s : State) : Result :=
  onDev s fun d =>
    if d.portUp p && d.fon CXP_IDE_CFG.EN p then (d.fadd CXP_IDE_CFG.FAILS 1 p).ideDown p else d

/-! Die-to-die interfaces (R14 to R16) -/

/-- An Eave die's interface fails past retry: its 16 port controllers are contained, one UC-C fault each (R14). -/
def Dev.eaveFail (d : Dev) (die : Nat) : Dev :=
  (List.range 16).foldl (fun d k =>
    let p := 16 * die + k
    (d.contain p 3).raise (160 + die) (recPort 0x31 p die)) d

/-- Is a slot powered: RAMP, QUAL or ON (R573)? -/
def Dev.powered (d : Dev) (s : Nat) : Bool := decide (5 ≤ d.fget SLT_STAT.STATE s ∧ d.fget SLT_STAT.STATE s ≤ 7)

end Sys2Proof.Machine
end

