-- ==== Sys2Proof/Machine/Slots.lean ====
section
/-! DEFINITION. Slot power channels and sideband buses (18_slot_power.md, R567 to R604). -/

namespace Sys2Proof.Machine

/-! The states of SLT_STAT.STATE (R600). -/
abbrev slEmpty : Nat := 0
abbrev slDebounce : Nat := 1
abbrev slIdent : Nat := 2
abbrev slNoIdent : Nat := 3
abbrev slReady : Nat := 4
abbrev slRamp : Nat := 5
abbrev slQual : Nat := 6
abbrev slOn : Nat := 7
abbrev slFaultWait : Nat := 8
abbrev slLatched : Nat := 9
abbrev slUvWait : Nat := 10
abbrev slHeld : Nat := 11

/-- A slot channel beside its registers. -/
def Dev.slot (d : Dev) (s : Nat) : SlotHid := Tab.get {} d.slots s

/-- A slot channel's record changed. -/
def Dev.setSlotHid (d : Dev) (s : Nat) (x : SlotHid) : Dev := { d with slots := Tab.set d.slots s x }

/-- The state of a slot channel. -/
def Dev.slotState (d : Dev) (s : Nat) : Nat := d.fget SLT_STAT.STATE s

/-- The downstream ports whose hot-plug power controller the channel is (R249). -/
def Dev.slotPorts (d : Dev) (s : Nat) : List Nat :=
  ((d.listed .CXP_PORT_CFG).map (·.1)).filter fun p =>
    d.fget CXP_PORT_CFG.MODE p == 2 && d.fon CXP_PORT_CFG.SLOT_EN p && d.fget CXP_PORT_CFG.SLOT p == s

/-- WARN_MV and RESET_MV in force (R591). -/
def Dev.warnMv (d : Dev) (s : Nat) : Nat :=
  if d.fget SLT_VCFG.WARN_MV s ≤ d.fget SLT_VCFG.RESET_MV s then 10800 else d.fget SLT_VCFG.WARN_MV s

/-- RESET_MV in force. -/
def Dev.resetMv (d : Dev) (s : Nat) : Nat :=
  if d.fget SLT_VCFG.WARN_MV s ≤ d.fget SLT_VCFG.RESET_MV s then 9600 else d.fget SLT_VCFG.RESET_MV s

/-- The level from which V_BUS counts as recovered. -/
def Dev.goodMv (d : Dev) (s : Nat) : Nat := d.warnMv s + d.fget SLT_VCFG.HYST_MV s

/-- A slot reset (Z): PG, EWARN and PEAK_MA of the slot restored (R167, R639, R655). -/
def Dev.slotReset (d : Dev) (s : Nat) : Dev :=
  ((d.fset SLT_STAT.PG 0 s).fset SLT_STAT.EWARN 0 s).fset SLT_MEAS2.PEAK_MA 0 s

/-- A slot channel leaves RAMP, QUAL or ON for another state, or enters EMPTY: a slot reset (R639). SLT_EWARN_N stays asserted
while V_BUS is low and the module is there (R589 to R591). -/
def Dev.slotLeft (d : Dev) (s st : Nat) : Dev :=
  let up := fun (n : Nat) => decide (slRamp ≤ n ∧ n ≤ slOn)
  if (up (d.slotState s) && !up st) || st == slEmpty then
    let warned := d.fon SLT_STAT.EWARN s && st != slEmpty && decide (d.fget SLT_MEAS2.V_BUS s < d.goodMv s)
    (d.slotReset s).fset SLT_STAT.EWARN warned.toNat s
  else d

/-- A state entered: what a slot reset restores, event SLOT and an EVENT message on every change (R596, R610). -/
def Dev.slotTo (d : Dev) (s st : Nat) : Dev :=
  if d.slotState s = st then d
  else
    let d := ((d.slotLeft s st).fset SLT_STAT.STATE st s).setSlotHid s { d.slot s with since := d.now, top := false }
    (d.eventMgr 5).fcpEvent 4 [BitVec.ofNat 64 s, d.rd ⟨.SLT_STAT, s, 0⟩]

/-- A code of R596 raised, with event SLOT; FAST_TRIP, LIMIT_TIMEOUT and LATCHED set Power Fault Detected (R595). -/
def Dev.slotRaise (d : Dev) (s sev code detail : Nat) : Dev :=
  let d := if code = 0xA0 ∨ code = 0xA1 ∨ code = 0xA2 then d.setSlotHid s { d.slot s with pfd := true } else d
  (d.raise (258 + s) ⟨sev, code, 3, s, BitVec.ofNat 64 detail⟩).eventMgr 5

/-- A global persistent flush that runs has failed (R589). -/
def Dev.gpfFailed (d : Dev) (s : Nat) : Dev :=
  match (d.slot s).gpf with
  | some _ => (d.setSlotHid s { d.slot s with gpf := none }).slotRaise s 1 0xA9 0
  | none => d

/-- The gate discharged: SLT_PG falls; a flush that has not completed has failed. -/
def Dev.gateOff (d : Dev) (s : Nat) : Dev := (d.fset SLT_STAT.PG 0 s).gpfFailed s

/-- A feed's number: 1 A, 2 B. -/
def feedNo (f : Feed) : Nat := match f with | .a => 1 | .b => 2

/-- A FET's estimated temperature one sample on, in 10⁻¹⁰ °C (R587): T + (T_AMB + P × θ − T) × Δt ÷ τ, the power being its
feed's current in mA times its forward drop in mV. The fraction that an estimate keeps is the model's, rounded down (DESIGN
CHOICE, assumption 165). -/
def Dev.fetStep (d : Dev) (s : Nat) (t current drop : Int) : Int :=
  let amb : Int := d.fget SLT_BOARD.T_AMB s * 10 ^ 10
  let heat := current * drop * d.fget SLT_BOARD.THETA s * 1000
  t + (amb + heat - t) / (200 * (max 1 (d.fget SLT_BOARD.TAU_MS s) : Nat))

/-- An estimate as SLT_FET_TEMP shows it: signed, in 1/16 °C (R602). -/
def tempShown (t : Int) : Nat := (BitVec.ofInt 16 (t * 16 / 10 ^ 10)).toNat

/-- Both FETs' estimates after a sample (R587): the slot's current goes through the feed that conducts, or is shared in the
proportion of the two forward drops. -/
def Dev.fetTemps (d : Dev) (s : Nat) (m : SlotSample) : Dev :=
  let x := d.slot s
  if !x.warmed then d
  else
    let va : Int := (m.va.toNat : Int) - m.vbus.toNat
    let vb : Int := (m.vb.toNat : Int) - m.vbus.toNat
    let a := d.fon SLT_STAT.FEED_A s
    let b := d.fon SLT_STAT.FEED_B s
    let share := fun (on other : Bool) (v : Int) =>
      if !on then 0 else if !other || va + vb = 0 then m.ma.toInt else m.ma.toInt * v / (va + vb)
    let ta := d.fetStep s x.tempA (share a b va) va
    let tb := d.fetStep s x.tempB (share b a vb) vb
    ((d.setSlotHid s { x with tempA := ta, tempB := tb }).fset SLT_FET_TEMP.T_A (tempShown ta) s).fset
      SLT_FET_TEMP.T_B (tempShown tb) s

/-- The energy of a sample, V_OUT × I × 5 µs, counted in SLT_ENERGY with its fraction, and in the window (R592). A negative
product adds nothing. -/
def Dev.meter (d : Dev) (s : Nat) (m : SlotSample) : Dev :=
  let x := d.slot s
  let e := if m.ma.msb then 0 else m.vout.toNat * m.ma.toNat
  let all := x.fraction + e
  (d.finc SLT_ENERGY.ENERGY (all / 200000) s).setSlotHid s
    { x with fraction := all % 200000, winMetered := x.winMetered + e }

/-- A feed's FET conducts while its voltage is above V_BUS or the feeds are within 20 mV, and neither heat nor reverse
current holds it off (R585, R588). -/
def Dev.feeds (d : Dev) (s va vb vbus : Nat) : Dev :=
  let x := d.slot s
  let close := decide (va ≤ vb + 20 ∧ vb ≤ va + 20)
  let on := fun (n v : Nat) => (decide (vbus < v) || close) && !(x.hot.contains n) && !(x.rev.contains n)
  (d.fset SLT_STAT.FEED_A (on 1 va).toNat s).fset SLT_STAT.FEED_B (on 2 vb).toNat s

/-- A second retry of a report's flit on the slot power die's interface: a corrected error of that interface (R13). -/
def Dev.slotRetried (d : Dev) (m : SlotSample) : Dev := if m.retried then d.raise 169 (recCE 0x30 9) else d

/-- A sample taken (R568, R587, R592, R602). Nothing of it is reported once the slot power die's interface has failed
(R15). -/
def Dev.sample (d : Dev) (s : Nat) (m : SlotSample) : Dev :=
  if d.slotDieFailed then d
  else
    let d := d.slotRetried m
    let d := (((d.fset SLT_MEAS.CURRENT m.ma.toNat s).fset SLT_MEAS.V_OUT m.vout.toNat s).fset SLT_MEAS.V_A m.va.toNat s).fset
      SLT_MEAS.V_B m.vb.toNat s
    let d := (d.fset SLT_MEAS2.V_BUS m.vbus.toNat s).fset SLT_MEAS2.POWER_MW m.power.toNat s
    let peak := if m.ma.msb then d.fget SLT_MEAS2.PEAK_MA s else max (d.fget SLT_MEAS2.PEAK_MA s) m.ma.toNat
    (((d.fset SLT_MEAS2.PEAK_MA peak s).feeds s m.va.toNat m.vb.toNat m.vbus.toNat).fetTemps s m).meter s m

/-- The effect of what a slot channel does or reports by itself: once the slot power die's interface has failed, the gate,
power-good and early-warning outputs stay as they stand, and nothing is reported (R15; assumption 166). -/
def onSlot (st : State) (f : Dev → Dev) : Result := onDev st fun d => if d.slotDieFailed then d else f d

/-! Identity (R569, R570, R584) -/

/-- One bit step of CRC-8, polynomial 0x07. -/
def crc8Bit (c : BitVec 8) : BitVec 8 := if c.getLsbD 7 then (c <<< 1) ^^^ 0x07 else c <<< 1

/-- CRC-8 over bytes (R569). -/
def crc8 (bs : List Byte) : BitVec 8 :=
  bs.foldl (fun c b => crc8Bit (crc8Bit (crc8Bit (crc8Bit (crc8Bit (crc8Bit (crc8Bit (crc8Bit (c ^^^ b))))))))) 0

/-- Is a profile usable: VALID, and an ISET other than 0 (R603)? -/
def Dev.profileOk (d : Dev) (s k : Nat) : Bool := d.fon SLT_PROFILE.VALID s k && d.fon SLT_PROFILE.ISET s k

/-- Why a record is not valid (R570, R596): 2 MAGIC or FORMAT, 3 CRC, 4 profile; 0 for a valid one. -/
def Dev.identErr (d : Dev) (s : Nat) (bs : List Byte) : Nat :=
  if leNat (bs.take 4) ≠ 0x4449454D ∨ leNat ((bs.drop 4).take 1) ≠ 1 then 2
  else if crc8 (bs.take 63) ≠ (bs.getD 63 0) then 3
  else
    let k := leNat ((bs.drop 5).take 1)
    if k ≤ 15 ∧ d.profileOk s k then 0 else 4

/-- The serial of the identity in force, if any. -/
def Dev.serialOf (d : Dev) (s : Nat) : Option Word :=
  if d.fon SLT_STAT.IDENT_VALID s then some (d.rd ⟨.SLT_IDENT, s, 1⟩) else none

/-- The end of IDENT with an identity or a forced profile: what was kept carries over to the same module, or where either
has no identity (R584). -/
def Dev.identEnd (d : Dev) (s : Nat) : Dev :=
  let x := d.slot s
  let new := d.serialOf s
  let d := d.setSlotHid s { x with kept := none }
  match x.kept with
  | some k =>
    if k.serial.isNone || new.isNone || k.serial == new then
      if k.latched then d.slotTo s slLatched
      else (d.slotTo s slFaultWait).setSlotHid s { (d.slot s) with since := d.now, retryEnd := d.now + k.left }
    else (d.fset SLT_STAT.FAULTS 0 s).slotTo s slReady
  | none => (d.fset SLT_STAT.FAULTS 0 s).slotTo s slReady

/-- May the forced profile be used (R570)? -/
def Dev.forcedOk (d : Dev) (s : Nat) : Bool := d.fon SLT_CFG.FORCE_EN s && d.profileOk s (d.fget SLT_CFG.FORCE_PROFILE s)

/-- The forced profile in use. -/
def Dev.forced (d : Dev) (s : Nat) : Dev :=
  ((d.fset SLT_STAT.FORCED 1 s).fset SLT_STAT.PROFILE (d.fget SLT_CFG.FORCE_PROFILE s) s).identEnd s

/-- A slot without an identity (R570, R573). -/
def Dev.noIdentity (d : Dev) (s why : Nat) : Dev :=
  let d := (List.range 8).foldl (fun d k => d.wr ⟨.SLT_IDENT, s, k⟩ 0) (d.fset SLT_STAT.IDENT_VALID 0 s)
  if d.forcedOk s then d.forced s
  else ((d.fset SLT_STAT.FORCED 0 s).slotRaise s 0 0xA8 why).slotTo s slNoIdent

/-- A sideband bus is there: not off, and not disabled by its wire fault (R545, R604). -/
def Dev.busOn (d : Dev) (b : Nat) : Bool := d.fon SB_CFG.MODE b && !d.fon FLT_UNIT_STAT.WIRE_FAULT (290 + b)

/-- The 64 bytes of the identity record asked for at IDENT_ADDR, on a bus that is not disabled (R569). -/
def Dev.askIdent (d : Dev) (s : Nat) : Dev :=
  if d.busOn s then d.send (.sideband s (d.fget SB_CFG.MODE s) (d.fget SB_CFG.IDENT_ADDR s) false 0 false 64 []) else d

/-- Identity reading starts. -/
def Dev.startIdent (d : Dev) (s : Nat) : Dev :=
  let d := d.slotTo s slIdent
  (d.setSlotHid s { d.slot s with tries := 0 }).askIdent s

/-- IDENT_READ_DONE: the 64-byte record has been read, on a bus that is not disabled. -/
def execIdentReadDone (s : Fin 32) (record : BitVec 512) (st : State) : Result :=
  onSlot st fun d =>
    if d.slotState s ≠ slIdent || !d.busOn s then d
    else
      let bs := leBytes 64 record.toNat
      let e := d.identErr s bs
      if e ≠ 0 then d.noIdentity s e
      else
        let d := (List.range 8).foldl (fun d k =>
          d.wr ⟨.SLT_IDENT, s, k⟩ (BitVec.ofNat 64 (leNat ((bs.drop (8 * k)).take 8)))) (d.fset SLT_STAT.IDENT_VALID 1 s)
        ((d.fset SLT_STAT.FORCED 0 s).fset SLT_STAT.PROFILE (leNat ((bs.drop 5).take 1)) s).identEnd s

/-- IDENT_TIMEOUT: a read NAKs, times out, or meets a disabled bus; the third failure leaves the slot without an
identity. -/
def execIdentTimeout (s : Fin 32) (st : State) : Result :=
  onSlot st fun d =>
    if d.slotState s ≠ slIdent then d
    else
      let x := d.slot s
      if x.tries < 2 then (d.setSlotHid s { x with tries := x.tries + 1 }).askIdent s else d.noIdentity s 1

/-- A write that sets FORCE_EN: a NOIDENT slot uses the forced profile. -/
def Dev.forceEnable (d : Dev) (s : Nat) : Dev :=
  if d.slotState s = slNoIdent ∧ d.forcedOk s then d.forced s else d

/-- FORCE_ENABLE. -/
def execForceEnable (s : Fin 32) (st : State) : Result :=
  onWaitingReg (.forceEnable s) st fun d => (d.fset SLT_CFG.FORCE_EN 1 s).forceEnable s

/-! Presence (R573, R581 to R583, R595) -/

/-- PRESENT changed, with Presence Detect Changed of the slot's ports. -/
def Dev.present (d : Dev) (s : Nat) (on : Bool) : Dev :=
  if d.fon SLT_STAT.PRESENT s = on then d
  else (d.slotPorts s).foldl (fun d p => d.fset CXP_HP_STAT.PDC 1 p) (d.fset SLT_STAT.PRESENT on.toNat s)

/-- PRESENCE_ASSERT. Without VDD_SLT every channel stays as at a warm reset (R597, R653). -/
def execPresenceAssert (s : Fin 32) (st : State) : Result :=
  onSlot st fun d =>
    if d.slotState s = slEmpty ∧ !(d.gable.railsLow.contains 4) then d.slotTo s slDebounce else d

/-- DEBOUNCE_END: presence has been stable for DEBOUNCE ms. -/
def execDebounceEnd (s : Fin 32) (st : State) : Result :=
  onSlot st fun d =>
    if d.slotState s = slDebounce then
      let d := d.upTo ((d.slot s).since + max 1 (d.fget SLT_CFG.DEBOUNCE s) * 1000000)
      (d.present s true).startIdent s
    else d

/-- PRESENCE_LOSS: the gate is discharged, the request and an armed instant are gone, and the serial, FAULTS and retry time
or LATCHED are kept from FAULT_WAIT and LATCHED alone. -/
def execPresenceLoss (s : Fin 32) (st : State) : Result :=
  onSlot st fun d =>
    let was := d.slotState s
    if was = slEmpty then d
    else
      let x := d.slot s
      let kept :=
        if was = slFaultWait then some ⟨d.serialOf s, false, x.retryEnd - d.now⟩
        else if was = slLatched then some ⟨d.serialOf s, true, 0⟩
        else none
      let d := (d.gateOff s).setSlotHid s { d.slot s with kept := kept, gpf := none, retryEnd := 0 }
      let d := if kept.isNone then d.fset SLT_STAT.FAULTS 0 s else d
      let d := (d.fset SLT_STAT.REQ 0 s).fset SLT_STAT.ARMED 0 s
      let d := if d.fon SLT_STAT.PRESENT s then d.slotRaise s 0 0xAA was else d
      (d.present s false).slotTo s slEmpty

/-! Commands (R574, R575, R594, R595) -/

/-- CMD_RESULT. -/
def Dev.cmdResult (d : Dev) (s r : Nat) : Dev := d.fset SLT_STAT.CMD_RESULT r s

/-- Would turning the slot off lose placements (R574)? -/
def Dev.slotInUse (d : Dev) (s : Nat) : Bool :=
  (d.slotPorts s).any fun p => (d.devsAt p).any fun v => d.dvInPool v || d.dvState v == dvLent

/-- Is a slot in a state in which ON is taken? None is once the slot power die's interface has failed (R15). -/
def Dev.onTaken (d : Dev) (s : Nat) : Bool :=
  let st := d.slotState s
  st != slEmpty && st != slLatched && st != slHeld && !d.slotDieFailed

/-- A powered slot turned off on command, its request and armed instant gone. Its outputs stay once the slot power die's
interface has failed (R15). -/
def Dev.slotOff (d : Dev) (s : Nat) : Dev :=
  let d := (d.fset SLT_STAT.REQ 0 s).fset SLT_STAT.ARMED 0 s
  if d.powered s && !d.slotDieFailed then (d.gateOff s).slotTo s slReady else d

/-- ON_AT's instant tested and armed (R594). -/
def Dev.armOnAt (d : Dev) (s : Nat) : Dev :=
  let t := d.fget SLT_ON_INSTANT.INSTANT s / 1024 * 1024
  if t < d.now + 2048 then d.cmdResult s 2
  else if d.now + 2 ^ 30 < t then d.cmdResult s 3
  else ((d.fset SLT_STAT.ARMED 1 s).setSlotHid s { d.slot s with onAt := t }).cmdResult s 0

/-- An operation written to SLT_CMD.OP. -/
def Dev.slotCmd (d : Dev) (s op : Nat) : Dev :=
  let st := d.slotState s
  match op with
  | 0 => d
  | 1 =>
    if d.slotInUse s then d.cmdResult s 1
    else if d.onTaken s then (d.fset SLT_STAT.REQ 1 s).cmdResult s 0 else d.cmdResult s 4
  | 2 => if d.slotInUse s then d.cmdResult s 1 else (d.slotOff s).cmdResult s 0
  | 3 =>
    if d.slotInUse s then d.cmdResult s 1
    else if d.onTaken s then d.armOnAt s else d.cmdResult s 4
  | 4 =>
    if st = slLatched ∨ st = slHeld then ((d.fset SLT_STAT.FAULTS 0 s).slotTo s slReady).cmdResult s 0 else d.cmdResult s 4
  | 5 => if st = slNoIdent ∨ st = slReady then (d.startIdent s).cmdResult s 0 else d.cmdResult s 4
  | _ => d.cmdResult s 4

/-- ON. -/
def execOn (s : Fin 32) (st : State) : Result := onWaitingReg (.on s) st fun d => d.slotCmd s 1

/-- OFF. -/
def execOff (s : Fin 32) (st : State) : Result := onWaitingReg (.off s) st fun d => d.slotCmd s 2

/-- ON_AT. -/
def execOnAt (s : Fin 32) (st : State) : Result := onWaitingReg (.onAt s) st fun d => d.slotCmd s 3

/-- CLEAR. -/
def execClear (s : Fin 32) (st : State) : Result := onWaitingReg (.clear s) st fun d => d.slotCmd s 4

/-- REIDENT. -/
def execReident (s : Fin 32) (st : State) : Result := onWaitingReg (.reident s) st fun d => d.slotCmd s 5

/-- ON_AT_INSTANT: the armed instant arrives. -/
def execOnAtInstant (s : Fin 32) (st : State) : Result :=
  onDev st fun d =>
    if d.fon SLT_STAT.ARMED s then
      let d := (d.upTo (d.slot s).onAt).fset SLT_STAT.ARMED 0 s
      if d.onTaken s then d.fset SLT_STAT.REQ 1 s else d.cmdResult s 4
    else d

/-- HOST_POWER_CONTROL: a bound host's write of power on or off to the virtual bridge `b` of `v`. -/
def execHostPowerControl (v : Fin 64) (b : Fin 32) (on : Bool) (s : State) : Result :=
  onDev s fun d =>
    let p := d.fget CXP_VB.PORT v b
    let bound := d.vbKind v b != 0
    if bound && d.fget CXP_PORT_CFG.MODE p == 2 && d.fon CXP_PORT_CFG.SLOT_EN p then
      d.slotCmd (d.fget CXP_PORT_CFG.SLOT p) (if on then 1 else 2)
    else d

/-! Power (R571 to R580) -/

/-- I_SET in 10 mA: the profile's set-point, at most the module's limit where it gives one (R571, R603). -/
def Dev.iSet (d : Dev) (s : Nat) : Nat :=
  let set := min 800 (d.fget SLT_PROFILE.ISET s (d.fget SLT_STAT.PROFILE s))
  let most := bitsOf (d.rd ⟨.SLT_IDENT, s, 0⟩) 48 16
  if most = 0 then set else min set most

/-- S in 0.1 V/ms: the profile's slope, held so that the module's input capacitance draws at most half of I_SET (R571). -/
def Dev.rampSlope (d : Dev) (s : Nat) : Nat :=
  let slope := min 240 (max 5 (d.fget SLT_PROFILE.SLOPE s (d.fget SLT_STAT.PROFILE s)))
  let load := bitsOf (d.rd ⟨.SLT_IDENT, s, 2⟩) 0 16
  if load = 0 then slope else max 5 (min slope (5 * d.iSet s / load))

/-- I_TRIP in mA: 2, 3 or 4 times I_SET, at most what 80 mV across the sense resistor shows (R571, R601, R603). -/
def Dev.tripMa (d : Dev) (s : Nat) : Nat :=
  let m := min 4 (2 + d.fget SLT_PROFILE.TRIP s (d.fget SLT_STAT.PROFILE s))
  min (m * d.iSet s * 10) (80000000 / min 5000 (max 500 (d.fget SLT_BOARD.SENSE_UOHM s)))

/-- Is a sample's current at or above I_SET, so that the fault timer runs (R578)? -/
def Dev.atLimit (d : Dev) (s : Nat) (m : SlotSample) : Bool := !m.ma.msb && decide (d.iSet s * 10 ≤ m.ma.toNat)

/-- Power comes up: the ramp starts, with the FET temperatures at T_AMB at the first power-on (R573, R587). -/
def Dev.rampStart (d : Dev) (s : Nat) : Dev :=
  let x := d.slot s
  let d :=
    if x.warmed then d
    else
      let t := d.fget SLT_BOARD.T_AMB s * 16
      let c : Int := d.fget SLT_BOARD.T_AMB s * 10 ^ 10
      ((d.fset SLT_FET_TEMP.T_A t s).fset SLT_FET_TEMP.T_B t s).setSlotHid s { x with warmed := true, tempA := c, tempB := c }
  (d.slotTo s slRamp).send (.slotRamp s (d.iSet s) (d.rampSlope s) (d.tripMa s))

/-- RAMP_START: a READY slot with a request and V_BUS at WARN_MV + HYST_MV. -/
def execRampStart (s : Fin 32) (m : SlotSample) (st : State) : Result :=
  onSlot st fun d =>
    let d := d.sample s m
    if d.slotState s = slReady ∧ d.fon SLT_STAT.REQ s ∧ d.goodMv s ≤ m.vbus.toNat then d.rampStart s else d

/-- RAMP_TOP: V_OUT within 100 mV of V_BUS: the gate is driven at full strength (R572). -/
def execRampTop (s : Fin 32) (m : SlotSample) (st : State) : Result :=
  onSlot st fun d =>
    let d := d.sample s m
    if d.slotState s = slRamp ∧ m.vbus.toNat ≤ m.vout.toNat + 100 then d.setSlotHid s { d.slot s with top := true } else d

/-- GATE_ENHANCED: qualification starts (R576). -/
def execGateEnhanced (s : Fin 32) (st : State) : Result :=
  onSlot st fun d => if d.slotState s = slRamp ∧ (d.slot s).top then d.slotTo s slQual else d

/-- QUALIFIED: 50 µs of an idle fault timer assert SLT_PG; a last sample at I_SET starts the timer (R576). -/
def execQualified (s : Fin 32) (m : SlotSample) (st : State) : Result :=
  onSlot st fun d =>
    let d := d.sample s m
    if d.slotState s = slQual ∧ !d.atLimit s m then ((d.upTo ((d.slot s).since + 50000)).fset SLT_STAT.PG 1 s).slotTo s slOn else d

/-- Retry time in ns (R598). -/
def Dev.retryTime (d : Dev) (s : Nat) : Nat := min 600 (max 1 (d.fget SLT_CFG.RETRY_TIME s)) * 100000000

/-- A powered slot turns off as a fault (R573, R580). -/
def Dev.powerFault (d : Dev) (s cause : Nat) : Dev :=
  let d := ((d.gateOff s).fset SLT_STAT.CAUSE cause s).fadd SLT_STAT.FAULTS 1 s
  if max 1 (d.fget SLT_CFG.RETRY_MAX s) ≤ d.fget SLT_STAT.FAULTS s then (d.slotTo s slLatched).slotRaise s 2 0xA2 cause
  else
    let d := d.slotTo s slFaultWait
    d.setSlotHid s { d.slot s with retryEnd := d.now + d.retryTime s }

/-- FAULT_TIME of the profile in use, in 0.1 ms (R603). -/
def Dev.faultTime (d : Dev) (s : Nat) : Nat :=
  min 500 (max 1 (d.fget SLT_PROFILE.FAULT_TIME s (d.fget SLT_STAT.PROFILE s)))

/-- LIMIT_TIMEOUT: the current has been at or above I_SET for FAULT_TIME (R578); a sample below it clears the timer. -/
def execLimitTimeout (s : Fin 32) (m : SlotSample) (st : State) : Result :=
  onSlot st fun d =>
    let d := d.sample s m
    if d.powered s ∧ d.atLimit s m then (d.slotRaise s 0 0xA1 (d.faultTime s)).powerFault s 2 else d

/-- FAST_TRIP: the current passes I_TRIP; the detail is the last current sampled before it (R579). -/
def execFastTrip (s : Fin 32) (st : State) : Result :=
  onDev st fun d =>
    if d.powered s then (d.slotRaise s 0 0xA0 (d.fget SLT_MEAS.CURRENT s)).powerFault s 1 else d

/-- RETRY_TIMER: FAULT_WAIT ends (R573, R580). -/
def execRetryTimer (s : Fin 32) (st : State) : Result :=
  onSlot st fun d =>
    if d.slotState s = slFaultWait then
      let d := d.upTo (d.slot s).retryEnd
      if d.fon SLT_STAT.REQ s then d.rampStart s else d.slotTo s slReady
    else d

/-- FAULT_COUNT_RESET: SLT_PG has stayed asserted for 60 s with the fault timer idle. -/
def execFaultCountReset (s : Fin 32) (st : State) : Result :=
  onSlot st fun d =>
    if d.slotState s = slOn ∧ d.fon SLT_STAT.PG s then (d.upTo ((d.slot s).since + 60000000000)).fset SLT_STAT.FAULTS 0 s else d

/-- A slot contained (R553, R573): turned off and held off; with the slot power die's interface failed its outputs stay
(R15), and the containment is only logged. -/
def Dev.slotContain (d : Dev) (s : Nat) : Dev :=
  if d.slotState s = slEmpty ∨ d.slotState s = slHeld ∨ d.slotDieFailed then d.send (.log "containment" (4096 + s))
  else (d.gateOff s).slotTo s slHeld

/-! Feeds (R585 to R588) -/

/-- The FEED bit of a feed. -/
def feedFld (f : Feed) : Fld := match f with | .a => SLT_STAT.FEED_A | .b => SLT_STAT.FEED_B

/-- The temperature field of a feed. -/
def tempFld (f : Feed) : Fld := match f with | .a => SLT_FET_TEMP.T_A | .b => SLT_FET_TEMP.T_B

/-- A feed's estimate set to a temperature in °C. -/
def Dev.setTemp (d : Dev) (s : Nat) (f : Feed) (deg : Nat) : Dev :=
  let t : Int := deg * 10 ^ 10
  let x := d.slot s
  (d.setSlotHid s (match f with | .a => { x with tempA := t } | .b => { x with tempB := t })).fset (tempFld f) (deg * 16) s

/-- The other feed. -/
def otherFeed (f : Feed) : Feed := match f with | .a => .b | .b => .a

/-- FET_HOT: a feed's FET reaches T_MAX and is turned off; with the other feed off or hot, a powered slot turns off as a
fault. -/
def execFetHot (s : Fin 32) (f : Feed) (m : SlotSample) (st : State) : Result :=
  onSlot st fun d =>
    let d := d.sample s m
    let x := d.slot s
    if x.hot.contains (feedNo f) then d
    else
      let d := (d.setSlotHid s { x with hot := x.hot ++ [feedNo f] }).fset (feedFld f) 0 s
      let d := (d.setTemp s f (d.fget SLT_BOARD.T_MAX s)).slotRaise s 0 0xA3 (feedNo f)
      if d.powered s && !(d.fon (feedFld (otherFeed f)) s) then (d.slotRaise s 0 0xA3 3).powerFault s 3 else d

/-- FEED_ALLOWED: a feed's FET has fallen to T_MAX − 10 °C. -/
def execFeedAllowed (s : Fin 32) (f : Feed) (m : SlotSample) (st : State) : Result :=
  onSlot st fun d =>
    let x := d.slot s
    if x.hot.contains (feedNo f) then
      let d := d.setSlotHid s { x with hot := x.hot.filter (· != feedNo f) }
      (d.setTemp s f (d.fget SLT_BOARD.T_MAX s - 10)).sample s m
    else d.sample s m

/-- REVERSE: reverse current through a feed turns its FET off. -/
def execReverse (s : Fin 32) (f : Feed) (st : State) : Result :=
  onDev st fun d =>
    if d.fon (feedFld f) s then
      let x := d.slot s
      ((d.setSlotHid s { x with rev := x.rev ++ [feedNo f] }).fset (feedFld f) 0 s).slotRaise s 0 0xA4 (feedNo f)
    else d

/-- FEED_RESTORE: that feed has stayed 50 mV above V_BUS for 1 ms. -/
def execFeedRestore (s : Fin 32) (f : Feed) (m : SlotSample) (st : State) : Result :=
  onSlot st fun d =>
    let x := d.slot s
    let v := match f with | .a => m.va.toNat | .b => m.vb.toNat
    (if m.vbus.toNat + 50 ≤ v then d.setSlotHid s { x with rev := x.rev.filter (· != feedNo f) } else d).sample s m

/-- FEED_LOST: one feed below WARN_MV while the other holds V_BUS. -/
def execFeedLost (s : Fin 32) (f : Feed) (m : SlotSample) (st : State) : Result :=
  onSlot st fun d =>
    let d := d.sample s m
    let v := match f with | .a => m.va.toNat | .b => m.vb.toNat
    if v < d.warnMv s ∧ d.goodMv s ≤ m.vbus.toNat then d.slotRaise s 0 0xA5 (feedNo f) else d

/-! Early warning and undervoltage (R589 to R591) -/

/-- The pooled downstream port of the slot that is up, if any. -/
def Dev.gpfPort (d : Dev) (s : Nat) : Option Nat :=
  (d.slotPorts s).find? fun p => d.portUp p && (d.bridgesOn d.commits.epoch p).isEmpty

/-- EARLY_WARNING: V_BUS below WARN_MV asserts SLT_EWARN_N, and issues a global persistent flush where GPF_ON_WARN asks for
one; a new dip before EWARN_N deasserts issues none (R590). -/
def execEarlyWarning (s : Fin 32) (m : SlotSample) (st : State) : Result :=
  onSlot st fun d =>
    let d := d.sample s m
    let v := m.vbus.toNat
    if d.slotState s = slEmpty ∨ d.warnMv s ≤ v then d
    else
      let x := d.slot s
      let first := !(d.fon SLT_STAT.EWARN s)
      let d := (d.fset SLT_STAT.EWARN 1 s).setSlotHid s { x with low := if first then v else min x.low v, lowAt := d.now }
      match (if first && d.fon SLT_CFG.GPF_ON_WARN s then d.gpfPort s else none) with
      | some p => (d.setSlotHid s { d.slot s with gpf := some d.now }).send (.log "global persistent flush" p)
      | none => d

/-- GPF_COMPLETE. -/
def execGpfComplete (s : Fin 32) (st : State) : Result :=
  onSlot st fun d => d.setSlotHid s { d.slot s with gpf := none }

/-- GPF_TIMEOUT: the flush has not completed within GPF_TIMEOUT ms. -/
def execGpfTimeout (s : Fin 32) (st : State) : Result :=
  onSlot st fun d =>
    match (d.slot s).gpf with
    | some t => (d.upTo (t + max 1 (d.fget SLT_CFG.GPF_TIMEOUT s) * 1000000)).gpfFailed s
    | none => d

/-- UNDERVOLT: V_BUS below RESET_MV for 4 samples turns a powered slot off. -/
def execUndervolt (s : Fin 32) (m : SlotSample) (st : State) : Result :=
  onSlot st fun d =>
    let d := d.sample s m
    let v := m.vbus.toNat
    if d.powered s && decide (v < d.resetMv s) then
      let x := d.slot s
      let low := if d.fon SLT_STAT.EWARN s then min x.low v else v
      let d := (d.setSlotHid s { x with low := low, lowAt := d.now }).fset SLT_STAT.EWARN 1 s
      ((d.gateOff s).slotRaise s 0 0xA7 low).slotTo s slUvWait
    else d

/-- UV_RECOVERED: V_BUS has held WARN_MV + HYST_MV for 10 ms, since the slot turned off at the earliest. -/
def execUvRecovered (s : Fin 32) (m : SlotSample) (st : State) : Result :=
  onSlot st fun d =>
    let d := d.sample s m
    if d.slotState s = slUvWait ∧ d.goodMv s ≤ m.vbus.toNat then
      let d := d.upTo ((d.slot s).since + 10000000)
      if d.fon SLT_STAT.REQ s then d.rampStart s else d.slotTo s slReady
    else d

/-- BROWNOUT_RECOVERED: V_BUS has held WARN_MV + HYST_MV for 1 ms, since its last dip at the earliest: SLT_EWARN_N deasserts. -/
def execBrownoutRecovered (s : Fin 32) (m : SlotSample) (st : State) : Result :=
  onSlot st fun d =>
    let d := d.sample s m
    if d.fon SLT_STAT.EWARN s ∧ d.goodMv s ≤ m.vbus.toNat then
      ((d.upTo ((d.slot s).lowAt + 1000000)).fset SLT_STAT.EWARN 0 s).slotRaise s 0 0xA6 (d.slot s).low
    else d

/-! Energy (R592, R593) -/

/-- ENERGY_WINDOW: the energy window in force ends at the next course boundary that is a multiple of it. `energy` is what the
channel metered in it, in µJ, in the samples that no command carried (assumption 167). A window that contains a step of NOW is
flagged, whichever way NOW went (R37). -/
def execEnergyWindow (s : Fin 32) (energy : BitVec 56) (st : State) : Result :=
  onSlot st fun d =>
    let x := d.slot s
    let n := max 1 x.window * 1048576
    let d := if d.now % n = 0 ∧ x.winStart < d.now then d else d.upTo (nextMultiple d.now n)
    let bad := !d.timeGood || decide (x.winStart < d.time.goodSince) || x.winSteps != d.time.steps
    let d := (d.finc SLT_ENERGY.ENERGY energy.toNat s).fset SLT_ENERGY_WIN.ENERGY (energy.toNat + x.winMetered / 200000) s
    let d := (d.fset SLT_ENERGY_WIN.UNSYNC bad.toNat s).fset SLT_ENERGY_WIN.VALID 1 s
    (d.fset SLT_ENERGY_END.COURSE d.course s).setSlotHid s
      { x with window := max 1 (d.fget SLT_CFG.WINDOW s), winStart := d.now, winSteps := d.time.steps, winMetered := 0 }

/-! Sideband buses (R604) -/

/-- The transfer's length in bytes: LEN + 1, at most 64; the spec gives LEN 0 to 63 and no meaning above, which the model takes
as 63 (DESIGN CHOICE, assumption 168). -/
def Dev.sidebandLen (d : Dev) (b : Nat) : Nat := min 64 (d.fget SB_XFER.LEN b + 1)

/-- The 64 bytes of SB_DATA. -/
def Dev.sidebandBytes (d : Dev) (b : Nat) : List Byte := (List.range 8).flatMap fun k => leBytes 8 (d.rd ⟨.SB_DATA, b, k⟩).toNat

/-- A write of 1 to GO, which reads 1 while the transfer runs (R6): refused while the slot's channel reads its identity or
debounces, on a bus that is off, or on one that its wire fault disables (R545). -/
def Dev.sidebandGo (d : Dev) (b : Nat) : Dev :=
  let st := d.slotState b
  let owned := decide (b < 32) && (st == slDebounce || st == slIdent)
  if d.fget SB_XFER.STATUS b = 1 then d
  else if owned || !d.busOn b then d.fset SB_XFER.STATUS 5 b
  else
    let write := d.fon SB_XFER.WRITE b
    let n := d.sidebandLen b
    ((d.fset SB_XFER.STATUS 1 b).fset SB_XFER.GO 1 b).send (.sideband b (d.fget SB_CFG.MODE b) (d.fget SB_XFER.ADDR b) write
      (d.fget SB_XFER.OFFSET b) (d.fon SB_XFER.OFS2 b) n (if write then (d.sidebandBytes b).take n else []))

/-- SIDEBAND_TRANSFER: SB_XFER written with GO. -/
def execSidebandTransfer (b : Fin 48) (addr : BitVec 7) (write : Bool) (offset : BitVec 16) (ofs2 : Bool) (len : BitVec 7)
    (s : State) : Result :=
  onWaitingReg (.sidebandTransfer b addr write offset ofs2 len) s fun d =>
    let d := ((((d.fset SB_XFER.ADDR addr.toNat b).fset SB_XFER.WRITE write.toNat b).fset SB_XFER.OFFSET offset.toNat b).fset
      SB_XFER.OFS2 ofs2.toNat b).fset SB_XFER.LEN len.toNat b
    d.sidebandGo b

/-- SIDEBAND_DONE: done with the bytes read, NAK (`answer` none, `nak`), or timeout. -/
def execSidebandDone (b : Fin 48) (answer : Option (BitVec 512)) (nak : Bool) (s : State) : Result :=
  onDev s fun d =>
    if d.fget SB_XFER.STATUS b ≠ 1 then d
    else
      let d := d.fset SB_XFER.GO 0 b
      match answer with
      | none => d.fset SB_XFER.STATUS (if nak then 3 else 4) b
      | some v =>
        let d := d.fset SB_XFER.STATUS 2 b
        if d.fon SB_XFER.WRITE b then d
        else
          let n := d.sidebandLen b
          let bs := (leBytes 64 v.toNat).take n ++ (d.sidebandBytes b).drop n
          (List.range 8).foldl (fun d k =>
            d.wr ⟨.SB_DATA, b, k⟩ (BitVec.ofNat 64 (leNat ((bs.drop (8 * k)).take 8)))) d

end Sys2Proof.Machine
end

