-- ==== Sys2Proof/Machine/Time.lean ====
section
/-! DEFINITION. The time unit (02_rack_time.md, R27 to R37): its sources, the lock test, its states. -/

namespace Sys2Proof.Machine

/-! The states of TIM_STATUS.STATE (R54). -/
abbrev tsUnset : Nat := 0
abbrev tsAcquiring : Nat := 1
abbrev tsLocked : Nat := 2
abbrev tsHoldover : Nat := 3
abbrev tsLost : Nat := 4

/-- Every pending commit cancelled with a status: its set is OPEN again with its writes, and event COMMIT is raised once a
commit (R50, R133). What was loaded of them is dropped with them. -/
def Dev.cancelPending (d : Dev) (status : Nat) : Dev :=
  let d := d.commits.order.foldl (fun d n =>
    (((d.fset TIM_COMMIT_STAT.STATE 1 0 n).fset TIM_COMMIT_STAT.LAST_STATUS status 0 n).eventAll 0).commitFinal n status) d
  let d := { d with commits := { d.commits with
      order := [], loaded := false, inactive := if d.commits.loaded then [] else d.commits.inactive } }
  ((d.endHolds fun _ => true).endReserved fun _ => true).releaseStep fun _ => false

/-- A freeze or a thaw that waits for its instant is cancelled when time is lost: the fold is as before, with event FOLD
(R483). -/
def Dev.cancelMoves (d : Dev) : Dev :=
  (d.listed .FLD_MIG_STAT).foldl (fun d x =>
    let st := d.fget FLD_MIG_STAT.STATE x.1
    if st = 1 ∨ st = 7 then
      let was := (Tab.get ({} : Fold) d.folds.folds x.1).migWas
      (((d.fset FLD_MIG_STAT.STATE (if st = 1 then 0 else was) x.1).fset FLD_MIG_STAT.RESULT 14 x.1)).eventMgr 7
    else d) d

/-- EST_ERR in HOLDOVER and LOST at NOW: the value on leaving LOCKED plus the drift since, at most 0xFFFF_FFFE (R34). The
spec names no rounding of the drift; the model rounds it down (DESIGN CHOICE, assumption 161). -/
def Dev.estErr (d : Dev) : Nat :=
  min (d.time.leftErr + d.fget TIM_LOCK_CFG.HOLD_DRIFT_PPB * (d.now - d.time.leftAt) / 10 ^ 9) 0xFFFFFFFE

/-- The courses since LOCKED was left (R54). -/
def Dev.heldOver (d : Dev) : Nat := (d.now - d.time.leftAt) / 1048576

/-- The accuracy in LOCKED of the source in force (R27): 15 ns with the pins, 40 ns with PTP. -/
def Dev.accuracy (d : Dev) : Nat := if d.fget TIM_CTRL.SRC = 3 then 15 else 40

/-- EST_ERR as R34 gives it for the state the time unit is in. -/
def Dev.setEstErr (d : Dev) : Dev :=
  let st := d.fget TIM_STATUS.STATE
  d.fset TIM_OFFSET.EST_ERR
    (if st = tsLocked then d.accuracy else if st = tsHoldover ∨ st = tsLost then d.estErr else 0xFFFFFFFF)

/-- The time unit enters a state: leaving LOCKED keeps the estimate; the device discards the count of seconds on entry to
UNSET or LOST (R29); a change raises event TIME and sends an EVENT of kind 3 (R31). HOLDOVER_COURSES starts at 0 in each
holdover and keeps its last value outside HOLDOVER (DESIGN CHOICE, assumption 162). -/
def Dev.timeState (d : Dev) (st : Nat) : Dev :=
  let old := d.fget TIM_STATUS.STATE
  if old = st then d
  else
    let d := if old = tsLocked then { d with time := { d.time with leftErr := d.accuracy, leftAt := d.now } } else d
    let d := if st = tsUnset ∨ st = tsLost then { d with time := { d.time with tod := none, edge := none } } else d
    let d := if st = tsHoldover then d.fset TIM_STATUS.HOLDOVER_COURSES 0
      else if old = tsHoldover then d.fset TIM_STATUS.HOLDOVER_COURSES (min 65535 d.heldOver) else d
    let d := if st = tsLocked ∨ st = tsHoldover then d else d.cancelMoves
    let d := if st = tsLocked ∧ old ≠ tsHoldover then { d with time := { d.time with goodSince := d.now } } else d
    let d := (d.fset TIM_STATUS.STATE st).setEstErr
    let d := d.eventMgr 4
    d.fcpEvent 3 [d.rd ⟨.TIM_STATUS, 0, 0⟩]

/-- The measured offsets of the acquisition forgotten: a new lock test begins. -/
def Dev.newTest (d : Dev) : Dev := { d with time := { d.time with offsets := [] } }

/-- A write of TIM_CTRL.SRC (R29, R31). The estimate on leaving LOCKED is that of the source left (R34). -/
def Dev.srcWrite (v : Nat) (d : Dev) : Dev :=
  let st := d.fget TIM_STATUS.STATE
  if v = d.fget TIM_CTRL.SRC then d
  else
    let d := ({ d with time := { d.time with tod := none, edge := none } } : Dev).newTest
    let d :=
      if v = 0 then if st = tsUnset then d else (d.cancelPending 4).timeState tsUnset
      else if st = tsLocked then d.timeState tsHoldover
      else if st = tsHoldover then d
      else d.timeState tsAcquiring
    d.fset TIM_CTRL.SRC v

/-- SRC_WRITE: a manager's write of TIM_CTRL.SRC. -/
def execSrcWrite (v : BitVec 2) (s : State) : Result := onReg s (Dev.srcWrite v.toNat)

/-- A time-of-day message that names second `sec` for the edge `lead` ns ahead (R29). -/
def Dev.timeOfDay (sec lead : Nat) (d : Dev) : Dev × Option Reply :=
  if d.fget TIM_CTRL.SRC ≠ 3 then (d, some (.code 6))
  else if lead < 100000000 ∨ 900000000 < lead then (d.fset TIM_STATUS.TOD_ERR 1, some (.code 6))
  else
    match d.time.tod with
    | none => ({ d with time := { d.time with tod := some sec } }, some (.code 0))
    | some n => if n = sec then (d, some (.code 0)) else (d.fset TIM_STATUS.TOD_ERR 1, some (.code 6))

/-- TIME_OF_DAY, in its session (R29, R610). `lead` is how many ns before the edge it names the message arrives. -/
def execTimeOfDay (via : FcpFrom) (session seq : BitVec 32) (second lead : Word) (s : State) : Result :=
  onDev s (Dev.fcpRequest via 0x50 session.toNat seq.toNat (Dev.timeOfDay second.toNat lead.toNat))

/-- RT_PPS_EDGE: an edge marks a whole TAI second; the device counts the seconds of later edges itself (R29), and knows by
how much NOW differs from the TAI instant of this one. -/
def execRtPpsEdge (s : State) : Result :=
  onDev s fun d =>
    if d.fget TIM_CTRL.SRC = 3 && !d.gableFailed then
      { d with time := { d.time with
          edge := d.time.tod.map fun n => (d.now : Int) - (n * 10 ^ 9 : Nat), tod := d.time.tod.map (· + 1) } }
    else d

/-- As a boundary clock the device passes the time on from the port of its PTP source to the other port (R28), two-step, with
that port's settings (R619, R635): a Sync at each update of the source (DESIGN CHOICE, assumption 163). BC_EN has no effect
with another source. -/
def Dev.boundaryClock (d : Dev) : Dev :=
  let src := d.fget TIM_CTRL.SRC
  let p := 2 - src
  if (src = 1 ∨ src = 2) ∧ d.fon TIM_CTRL.BC_EN ∧ d.fon ETH_STAT.LINK p then
    d.send (.ptpSync p (d.fon ETH_PTP.PROFILE p) (d.fon ETH_PTP.TRANSPORT p) (d.fget ETH_PTP.DOMAIN p) d.now)
  else d

/-- A measured offset as the 32 bits of TIM_OFFSET.OFFSET show it: held to the nearest value they can show (DESIGN CHOICE,
assumption 164). -/
def offsetShown (offset : Int) : Nat := (BitVec.ofInt 32 (max (-(2 ^ 31)) (min (2 ^ 31 - 1) offset))).toNat

/-- SOURCE_UPDATE: a measured offset of NOW from the source (R32, R56). With PTP the device is an ordinary clock on the port
that SRC selects, and may pass the time on as a boundary clock (R28). -/
def execSourceUpdate (offset : BitVec 64) (s : State) : Result :=
  onDev s fun d =>
    if d.fget TIM_CTRL.SRC = 0 || d.gableFailed then d
    else
      let d := (d.fset TIM_OFFSET.OFFSET (offsetShown offset.toInt)).setEstErr
      ({ d with time := { d.time with offsets := (offset.toInt :: d.time.offsets).take 16 } } : Dev).boundaryClock

/-- Has the lock test passed (R32): LOCK_COUNT consecutive updates each within LOCK_THRESH of the first of them, and with
the pins a count of seconds? -/
def Dev.lockTest (d : Dev) : Bool :=
  let n := max 1 (d.fget TIM_LOCK_CFG.LOCK_COUNT)
  let run := d.time.offsets.take n
  let first := run.getLastD 0
  run.length == n && run.all (fun o => decide ((o - first).natAbs ≤ d.fget TIM_LOCK_CFG.LOCK_THRESH)) &&
    (d.fget TIM_CTRL.SRC != 3 || d.time.tod.isSome)

/-- The last measured offset. -/
def Dev.lastOffset (d : Dev) : Int := d.time.offsets.headD 0

/-- By how much NOW stands ahead of the source: with the pins, of the TAI second that the latest edge marked (R29); else, and
before such an edge, the last measured offset. -/
def Dev.sourceOffset (d : Dev) : Int :=
  if d.fget TIM_CTRL.SRC = 3 then d.time.edge.getD d.lastOffset else d.lastOffset

/-- LOCK_TEST_PASS (R31, R33): ACQUIRING steps NOW to the source and locks; HOLDOVER locks within LOCK_THRESH, else is
LOST. -/
def Dev.lockTestPass (d : Dev) : Dev :=
  let st := d.fget TIM_STATUS.STATE
  if !d.lockTest || d.gableFailed then d
  else if st = tsAcquiring then
    let off := d.sourceOffset
    let d := d.fset TIM_NOW.NOW ((d.now : Int) - off).toNat
    let d :=
      if off = 0 then d
      else { d.fset TIM_STATUS.STEPPED 1 with time := { d.time with
        steppedAt := some d.now, lastStep := -off, stepSum := d.time.stepSum - off, steps := d.time.steps + 1 } }
    d.timeState tsLocked
  else if st = tsHoldover then
    if d.lastOffset.natAbs ≤ d.fget TIM_LOCK_CFG.LOCK_THRESH then d.timeState tsLocked
    else (d.cancelPending 4).timeState tsLost
  else d

/-- LOCK_TEST_PASS. -/
def execLockTestPass (s : State) : Result := onDev s Dev.lockTestPass

/-- The time source is gone (R30, R31): LOCKED goes to HOLDOVER; in ACQUIRING and HOLDOVER the run of updates is broken. -/
def Dev.sourceLost (d : Dev) : Dev :=
  if d.fget TIM_STATUS.STATE = tsLocked then d.newTest.timeState tsHoldover else d.newTest

/-- TIME_SOURCE_LOST. -/
def execTimeSourceLost (s : State) : Result := onDev s Dev.sourceLost

/-- SOURCE_PRESENT: in LOST, acquisition starts (R31). -/
def execSourcePresent (s : State) : Result :=
  onDev s fun d =>
    if d.fget TIM_STATUS.STATE = tsLost ∧ d.fget TIM_CTRL.SRC ≠ 0 ∧ !d.gableFailed then d.newTest.timeState tsAcquiring else d

/-- The holdover limit in courses: 0 acts as 1, above 9,536 as 9,536 (R34). -/
def Dev.holdoverLimit (d : Dev) : Nat := min 9536 (max 1 (d.fget TIM_LOCK_CFG.HOLDOVER_LIMIT))

/-- HOLDOVER_LIMIT (R31): the holdover count reaches the limit; pending commits are cancelled with NOTIME, and the unit is
LOST. NOW is then at least that many courses past the instant at which LOCKED was left. -/
def execHoldoverLimit (s : State) : Result :=
  onDev s fun d =>
    if d.fget TIM_STATUS.STATE = tsHoldover then
      ((d.upTo (d.time.leftAt + d.holdoverLimit * 1048576)).cancelPending 4).timeState tsLost
    else d

end Sys2Proof.Machine
end

