-- ==== Sys2Proof/Machine/Collect.lean ====
section
/-! DEFINITION. The fault collector (17_fault_collection.md): wire faults, taking a record, its reaction, the history, the
device fault state. Raising a record is in Ops.lean. -/

namespace Sys2Proof.Machine

/-! The history and notifications (R560, R561) -/

/-- The four words of a history entry, from its source, record, reaction and OVERFLOW (R566). -/
def Dev.histWords (d : Dev) (u : Nat) (r : FaultRec) (react : Nat) (ovf : Bool) : List Word :=
  let w2 := putBits (putBits (putBits 0 0 9 u) 9 2 r.sev) 11 14 r.code
  let w2 := putBits (putBits (putBits w2 25 4 r.tkind) 29 12 r.tnum) 41 4 react
  let w2 := putBits (putBits w2 45 3 (d.fget TIM_STATUS.STATE)) 48 1 ovf.toNat
  let w3 := putBits (putBits 0 0 32 (d.fget FLT_HIST_STAT.SEQ)) 32 1 (react % 2)
  [BitVec.ofNat 64 d.now, r.detail, w2, w3]

/-- LOG: an entry written at NEXT, over whatever was there (R560). -/
def Dev.histLog (d : Dev) (ws : List Word) : Dev :=
  let i := d.fget FLT_HIST_STAT.NEXT
  let d := (d.wr ⟨.FLT_HIST0, 0, i⟩ (ws.getD 0 0)).wr ⟨.FLT_HIST1, 0, i⟩ (ws.getD 1 0)
  let d := (d.wr ⟨.FLT_HIST2, 0, i⟩ (ws.getD 2 0)).wr ⟨.FLT_HIST3, 0, i⟩ (ws.getD 3 0)
  (d.finc FLT_HIST_STAT.NEXT 1).finc FLT_HIST_STAT.SEQ 1

/-- NOTIFY: event FAULT, and the entry's words to the session, or the notification dropped, without a session or with a full
transmit queue, which is that of R614 (R552, R561; DEDUCED, assumption 194). -/
def Dev.histNotify (d : Dev) (ws : List Word) : Dev :=
  let d := d.eventMgr 3
  if d.session && decide (d.wygel.txMail.length < 64) then d.fcpEvent 1 ws else d.fadd FLT_HIST_STAT.NOTIFY_DROPPED 1

/-- LOG and NOTIFY of a reaction. -/
def Dev.histEntry (d : Dev) (u : Nat) (r : FaultRec) (react : Nat) (ovf : Bool) : Dev :=
  let ws := d.histWords u r react ovf
  let d := if react.testBit 0 then d.histLog ws else d
  if react.testBit 1 then d.histNotify ws else d

/-- An entry of the collector itself, from unit 511, logged and notified (R547, R550; assumption 18). -/
def Dev.ownEntry (d : Dev) (code : Nat) : Dev := d.histEntry 511 ⟨3, code, 0, 0, 0⟩ 3 false

/-! The device fault state (R555 to R558) -/

/-- Does any source hold a UC-F condition? Every condition there is is UC-F (R551). -/
def Dev.ucfHeld (d : Dev) : Bool := (d.listed .FLT_UNIT_STAT).any fun x => d.fon FLT_UNIT_STAT.CONDITION x.1

/-- FLT_LAST_UCF.NOW: the quiet period starts again (R557). -/
def Dev.quietAgain (d : Dev) : Dev := d.fset FLT_LAST_UCF.NOW d.now

/-- The state is entered: an entry, the two status bits, every pending commit cancelled with FAULTED (R50, R555). -/
def Dev.enterFault (d : Dev) (code : Nat) : Dev :=
  if d.inFault then d
  else
    let d := d.ownEntry code
    ((d.fset FLT_STATUS.FAULT_STATE 1).fset CSP_STATUS.FAULT_STATE 1).cancelPending 10

/-- The state is left: an entry, and RECOVERIES (R557, R558). -/
def Dev.leaveFault (d : Dev) (code : Nat) : Dev :=
  let d := (d.fset FLT_STATUS.FAULT_STATE 0).fset CSP_STATUS.FAULT_STATE 0
  (d.fadd FLT_STATUS.RECOVERIES 1).ownEntry code

/-- A write of 1 to FLT_CTRL.ENTER; in the state already, the quiet period alone starts again. -/
def Dev.forceEnter (d : Dev) : Dev := d.quietAgain.enterFault 0x3F03

/-- A write of 1 to FLT_CTRL.EXIT, ignored while a UC-F condition is held (R558). -/
def Dev.forceExit (d : Dev) : Dev := if d.inFault && !d.ucfHeld then d.leaveFault 0x3F03 else d

/-- ENTER. -/
def execEnter (s : State) : Result := onWaitingReg .enter s Dev.forceEnter

/-- EXIT. -/
def execExit (s : State) : Result := onWaitingReg .exit s Dev.forceExit

/-- QUIET in force: 0 acts as 1, above 16,000 as 16,000 (R562). -/
def Dev.quiet (d : Dev) : Nat := min 16000 (max 1 (d.fget FLT_CTRL.QUIET))

/-- QUIET_EXIT: the first course boundary at which the quiet period is over and no UC-F condition is held (R557). -/
def execQuietExit (s : State) : Result :=
  onDev s fun d =>
    let due := d.fget FLT_LAST_UCF.NOW + d.quiet * 1048576
    let e := d.toCourse
    if d.inFault && !d.ucfHeld && decide (due ≤ e.now) then e.leaveFault 0x3F02 else d

/-! Reactions (R552 to R554) -/

/-- A record's reaction with its floors: the source's four bits for the severity (R552). -/
def Dev.reaction (d : Dev) (u sev : Nat) : Nat :=
  let v := if u < 412 then d.rd ⟨.FLT_UNIT_REACT, u, 0⟩ else d.rd ⟨.FLT_THREAD_REACT, 0, u - 412⟩
  bitsOf v (4 * sev) 4 ||| (if sev = 3 then 11 else if sev = 2 then 1 else 0)

/-- CONTAIN of a target; the containments that a fold's own rules make are theirs (R553). -/
def Dev.containTarget (d : Dev) (u : Nat) (r : FaultRec) : Dev :=
  match r.tkind with
  | 1 => if r.tnum < 128 then d.contain r.tnum 1 else d
  | 2 => if r.tnum < 256 ∧ (412 ≤ u ∨ r.code = 0x90 ∨ r.code = 0x40) then d.foldReset r.tnum else d
  | 3 => if r.tnum < 32 then d.slotContain r.tnum else d
  | _ => d

/-- CONTAIN: records with one target taken in one course cause one containment (R554). -/
def Dev.containOnce (d : Dev) (u : Nat) (r : FaultRec) : Dev :=
  if r.tkind = 0 then d
  else
    let done := if d.faults.doneCourse = d.course then d.faults.doneTargets else []
    if done.contains (r.tkind, r.tnum) then d
    else
      let d := { d with faults := { d.faults with
        doneCourse := d.course, doneTargets := done ++ [(r.tkind, r.tnum)] } }
      d.containTarget u r

/-- FLT_UNIT_CNT and FLT_UNIT_LAST of a reporting unit (R552, R565). -/
def Dev.countRecord (d : Dev) (u : Nat) (r : FaultRec) : Dev :=
  if 412 ≤ u then d
  else
    let d :=
      if r.sev = 0 then d.fadd FLT_UNIT_CNT.CE 1 u else if r.sev = 1 then d.fadd FLT_UNIT_CNT.DE 1 u
      else d.fadd FLT_UNIT_CNT.UC 1 u
    (d.fset FLT_UNIT_LAST.CODE r.code u).fset FLT_UNIT_LAST.SEV r.sev u

/-- A record taken: counted, and its reaction applied in that clock (R550, R552). -/
def Dev.collect (d : Dev) (u : Nat) (r : FaultRec) (ovf : Bool) : Dev :=
  let react := d.reaction u r.sev
  let d := (d.countRecord u r).histEntry u r react ovf
  let d := if react.testBit 1 && d.fon RST_STANDBY_CFG.WAKE_ON_FAULT then d.wakeBy 3 else d
  let d := if react.testBit 2 then d.containOnce u r else d
  if react.testBit 3 then d.quietAgain.enterFault 0x3F01 else d

/-! Taking records (R549, R550) -/

/-- Has a source a record that the collector sees: one the collector raised for it, or one behind a pair that is not ignored
(R546)? -/
def Dev.srcReady (d : Dev) (u : Nat) : Bool :=
  let x := d.src u
  !x.own.isEmpty || (!x.queue.isEmpty && (decide (412 ≤ u) || !(d.fon FLT_UNIT_STAT.WIRE_FAULT u)))

/-- The source served next: the lowest-numbered ready one after the last, wrapping from 475 to 0. -/
def Dev.nextSrc (d : Dev) : Option Nat :=
  let ready := rising ((d.faults.srcs.map (·.1)).filter fun u => decide (u < 476) && d.srcReady u)
  match ready.find? fun u => decide (d.faults.last < u) with
  | some u => some u
  | none => ready.head?

/-- The FRSE source of thread `t` is empty: a thread that stalled on it leaves its record and goes on (R119, R549). -/
def Dev.frseNext (d : Dev) (t : Nat) : Dev :=
  let th := d.thr t
  match th.wait with
  | .faultSlot r =>
    (d.setSrc (412 + t) { d.src (412 + t) with queue := [(r, false)] }).setThr t
      { th.advance with state := .run, wait := .ready }
  | _ => d

/-- FAULT_RECORD: the collector takes one record. -/
def Dev.faultRecord (d : Dev) : Dev :=
  match d.nextSrc with
  | none => d
  | some u =>
    let x := d.src u
    let d := { d with faults := { d.faults with last := u } }
    match x.own, x.queue with
    | r :: rest, _ => (d.setSrc u { x with own := rest }).collect u r false
    | [], (r, o) :: rest =>
      let d := d.setSrc u { x with queue := rest }
      let d := if 412 ≤ u then d.frseNext (u - 412) else d
      d.collect u r o
    | [], [] => d

/-- FAULT_RECORD. -/
def execFaultRecord (s : State) : Result := onDev s Dev.faultRecord

/-! Wire faults (R545, R546) -/

/-- A core fault of an engine (R96): its threads are FAULTED, it is OUT, and a RESERVE engine takes its place. -/
def Dev.engineFail (d : Dev) (e : Nat) : Dev :=
  let hit := d.liveThreads.filter fun x => x.2.engine == e && x.2.state != .faulted
  let d := hit.foldl (fun d x =>
    let d := d.setThr x.1 x.2.stopped
    if x.2.manager then d else d.fset FLD_PROG_STAT.STATE 3 x.2.fid) d
  let d := ((d.fset WGL_ENG_CTRL.STATE 3 0 e).fset WGL_ENG_CTRL.DRAIN 0 0 e).fset WGL_ENG_CTRL.NOROOM 0 0 e
  d.promote.trySwitch

/-- The fault record of an engine's failure. -/
def engineRec (e : Nat) : FaultRec := recDE 0x92 e

/-- An Ethernet port's link and secured channel are gone. -/
def Dev.ethDown (d : Dev) (p : Nat) : Dev := (d.fset ETH_STAT.LINK 0 p).fset ETH_STAT.SECURED 0 p

/-- The gable die's interface has failed past retry (R16): Ethernet, rack time and the management plane are lost. What state the
time unit takes then the spec leaves open: the model treats its source as lost for good (DESIGN CHOICE, assumption 169), so
LOCKED goes to HOLDOVER, and UNSET and ACQUIRING stay. -/
def Dev.gableFail (d : Dev) : Dev :=
  let d := ((d.ethDown 0).ethDown 1).endSession
  ({ d with gableFailed := true } : Dev).sourceLost.condition 168 true

/-- A die-to-die interface fails past retry: Eave die 0 to 7, 8 the gable die, 9 the slot power die (R14 to R16). -/
def Dev.d2dFail (d : Dev) (die : Nat) : Dev :=
  if die < 8 then d.eaveFail die
  else if die = 8 then d.gableFail.raise 168 ⟨3, 0x31, 0, 0, 8⟩
  else
    let d := { d with slotDieFailed := true }
    ((List.range 32).filter d.powered).foldl (fun d s => d.raise 169 (recSlot 0x31 s 9)) d

/-- D2D_FAIL. -/
def execD2dFail (die : Fin 10) (s : State) : Result := onDev s fun d => d.d2dFail die

/-- A wire fault of these units is treated as UC-F. -/
def wireFatal (u : Nat) : Bool :=
  u == 168 || (decide (170 ≤ u ∧ u < 186)) || (decide (250 ≤ u ∧ u < 258)) || decide (404 ≤ u)

/-- The WIRE records of a unit: severity and targets (R545). -/
def Dev.wireRecs (d : Dev) (u : Nat) : List FaultRec :=
  if u < 128 then [recPort 1 u 0]
  else if u < 160 then
    match d.portsIn (u - 128) with
    | [] => [⟨2, 1, 0, 0, 0⟩]
    | ps => ps.map fun p => recPort 1 p 0
  else if wireFatal u then [⟨3, 1, 0, 0, 0⟩]
  else if u < 170 then [⟨2, 1, 0, 0, 0⟩]
  else if u < 250 then [recDE 1 0]
  else if u < 290 then [recSlot 1 (u - 258) 0]
  else if u < 340 then [recDE 1 0]
  else if d.fon CXP_VSW_CFG.EN (u - 340) then [recPort 1 (d.usp (u - 340)) 0]
  else [⟨2, 1, 0, 0, 0⟩]

/-- What a wire fault brings beside its record (R545): for a die-to-die interface R14 to R16, for an engine R96, for a mover
its leaving service; with the records that follow, raised for the unit by the collector. -/
def Dev.wireEffect (d : Dev) (u : Nat) : Dev × List FaultRec :=
  if 160 ≤ u ∧ u < 168 then
    let ps := (List.range 16).map (16 * (u - 160) + ·)
    (ps.foldl (fun d p => d.contain p 3) d, ps.map fun p => recPort 0x31 p (u - 160))
  else if u = 168 then (d.gableFail, [⟨3, 0x31, 0, 0, 8⟩])
  else if u = 169 then
    ({ d with slotDieFailed := true }, ((List.range 32).filter d.powered).map fun s => recSlot 0x31 s 9)
  else if 202 ≤ u ∧ u < 218 then (d.engineFail (u - 202), [engineRec (u - 202)])
  else if 218 ≤ u ∧ u < 250 then (d.moverLost (u - 218), [])
  else (d, [])

/-- Does a pair read complementary values? -/
def pairGood (x : BitVec 2) : Bool := x == 1 || x == 2

/-- The UC-F condition of a wire fault follows the pair; another condition of the unit keeps the bit (R329, R546, R551). -/
def Dev.wireCondition (d : Dev) (u : Nat) (good : Bool) : Dev :=
  if wireFatal u then
    d.condition u (!good || (u == 168 && d.gableFailed) || (u == 405 && decide (d.sharedSize < 8192)))
  else d

/-- A unit's pair as it reads on two consecutive core clocks. -/
def Dev.wire (d : Dev) (u : Nat) (a b : BitVec 2) : Dev :=
  let bad := !(pairGood a) && !(pairGood b)
  let d := d.setSrc u { d.src u with pairOk := pairGood a && pairGood b }
  if d.fon FLT_UNIT_STAT.WIRE_FAULT u then d.wireCondition u (pairGood b)
  else if bad then
    let recs := d.wireRecs u
    let d := (d.fset FLT_UNIT_STAT.WIRE_FAULT 1 u).wireCondition u false
    let (d, more) := d.wireEffect u
    d.setSrc u { d.src u with own := (d.src u).own ++ recs ++ more }
  else d

/-- WIRE. -/
def execWire (u : Fin 412) (a b : BitVec 2) (s : State) : Result := onDev s fun d => d.wire u a b

/-- WIRE_FAULT of a unit cleared by a write of 1, if its pair has read complementary values for two clocks (R546); a mover is in
service again. -/
def Dev.wireClear (d : Dev) (u : Nat) : Dev :=
  if (d.src u).pairOk then (d.fset FLT_UNIT_STAT.WIRE_FAULT 0 u).reassign else d

/-- WIRE_FAULT_CLEAR. -/
def execWireFaultClear (u : Fin 412) (s : State) : Result := onWaitingReg (.wireFaultClear u) s fun d => d.wireClear u

end Sys2Proof.Machine
end

