-- ==== Sys2Proof/Machine/Thatchlink.lean ====
section
/-! DEFINITION. The Thatchlink link layer (08_thatchlink.md, R263 to R297): flits and records in, flit slots out, replay,
credits, its states. -/

namespace Sys2Proof.Machine

/-! The states of TLK_STATUS.LL_STATE (R300). -/
abbrev llDown : Nat := 0
abbrev llInit : Nat := 1
abbrev llActive : Nat := 2
abbrev llRecovery : Nat := 3

/-- The state of a port's link layer. -/
def Dev.ll (d : Dev) (p : Nat) : Nat := d.fget TLK_STATUS.LL_STATE p

/-- The link layer takes flits in INIT and ACTIVE: the PHY is in flit mode. -/
def Dev.llOpen (d : Dev) (p : Nat) : Bool := d.ll p == llInit || d.ll p == llActive

/-- The difference of two sequences, modulo 1,024. -/
def seqDiff (a b : Nat) : Nat := (a + 1024 - b % 1024) % 1024

/-- The oldest unacknowledged sequence (O). -/
def Dev.tlkOldest (d : Dev) (p : Nat) : Nat :=
  match (d.tlkPort p).replay with
  | f :: _ => f.seq
  | [] => d.fget TLK_STATUS.TX_NEXT p

/-! The required headroom and the Ridge share (R285, R286) -/

/-- A rate code's rate in units of 0.5 GT/s. -/
def halfGt (rate : Nat) : Nat := [5, 10, 16, 32, 64, 128, 256].getD rate 5

/-- H_req of a round trip (R285), t_f being 4,096 ÷ (w × half-GT/s) ns. -/
def headroomReq (w rate rtt : Nat) : Nat := (rtt * w * halfGt rate + 4095) / 4096 + 4

/-- The MB/s of class 0 that the reservations in force admit on a port's egress (R354). -/
def Dev.ridgeRate (d : Dev) (p : Nat) : Nat :=
  let rate := fun n => d.fget SCH_SHAPER_CFG.RATE (flowShaper n)
  let rs := (d.listed .SCH_RIDGE_RES).filter fun x => d.fon SCH_RIDGE_RES.VALID x.1 x.2
  (rs.map fun x =>
    (if x.1 = p then rate (d.fget SCH_RIDGE_RES.REQ_SHAPER x.1 x.2) else 0) +
      (if d.fget SCH_RIDGE_RES.SRC x.1 x.2 = p then rate (d.fget SCH_RIDGE_RES.RESP_SHAPER x.1 x.2) else 0)).sum

/-- The partner's A_0 that the Ridge share needs at a round trip (R286): ρ × RTT ÷ t_f is rate × RTT ÷ 256,000. -/
def Dev.ridgeA0 (d : Dev) (p rtt : Nat) : Nat :=
  let r := d.ridgeRate p
  if r = 0 then 0 else (r * rtt + 255999) / 256000 + 4

/-! Recovery and a broken link (R292, R293) -/

/-- The link layer enters RECOVERY: new DATA stops, the stores are kept; the port stays UP. -/
def Dev.tlkRecovery (d : Dev) (p : Nat) : Dev :=
  if d.ll p ≠ llActive then d
  else
    let d := (d.fset TLK_STATUS.LL_STATE llRecovery p).fadd TLK_EVT_CNT.RECOVERIES 1 p
    d.setTlk p { d.tlkPort p with since := d.now, resumeSeen := false, creditWait := none }

/-- A broken link with its cause. -/
def Dev.tlkBroken (d : Dev) (p cause : Nat) : Dev :=
  if d.ll p = llActive then (d.fset TLK_STATUS.BROKEN_CAUSE cause p).tlkRecovery p else d

/-! Acknowledgements (R275, R281) -/

/-- Is an ACK inside the window: does it name the last retired flit or one sent since? -/
def Dev.ackOk (d : Dev) (p ack : Nat) : Bool :=
  decide (seqDiff (ack + 1) (d.tlkOldest p) ≤ seqDiff (d.fget TLK_STATUS.TX_NEXT p) (d.tlkOldest p))

/-- The flits that an ACK covers retired (R281); progress restarts the replay timer (R280). -/
def Dev.retireFlits (d : Dev) (p ack : Nat) : Dev :=
  let x := d.tlkPort p
  let keep := x.replay.filter fun f => !(decide (seqDiff ack f.seq < 512))
  if keep.length = x.replay.length then d
  else
    let keep := keep.map fun f => { f with sends := 0 }
    (d.setTlk p { x with
        replay := keep, replayAt := d.now, resend := x.resend.filter fun s => keep.any fun f => f.seq == s }).fset
      TLK_STATUS.UNACKED keep.length p

/-! Gaps (R276, R279) -/

/-- NAKs for the sequences from E to `s` − 1 that are neither held nor already NAKed; each reserves a shared slot. -/
def Dev.nakGap (d : Dev) (p s : Nat) : Dev :=
  let e := d.fget TLK_STATUS.RX_EXPECT p
  let x := d.tlkPort p
  let new := ((List.range (seqDiff s e)).map fun k => (e + k) % 1024).filter fun q =>
    !(x.held.any fun f => f.seq == q) && !(x.missing.any fun m => m.1 == q)
  let d := d.setTlk p { x with
    naks := x.naks ++ new, missing := new.foldl (fun t q => Tab.set t q d.now) x.missing }
  d.tlkXoff p

/-- The messages of a payload from a prefix on (R271, R272): how many end in it, and how many bytes of the last are still to
come. -/
def messagesIn : Nat → List Byte → Nat × Nat
  | 0, _ => (0, 0)
  | n + 1, bs =>
    let w := leNat (bs.take 4)
    let len := w / 256 % 8192
    if bs.length < 4 ∨ w % 256 = 0 ∨ len = 0 then (0, 0)
    else if bs.length - 4 < len then (0, len - (bs.length - 4))
    else let (k, left) := messagesIn n (bs.drop (4 + len)); (k + 1, left)

/-- The same of a payload that begins with the rest of a message, `left` bytes long. -/
def payloadMessages (left : Nat) (bs : List Byte) : Nat × Nat :=
  if left = 0 then messagesIn 60 bs
  else if bs.length < left then (0, left - bs.length)
  else let (k, r) := messagesIn 60 (bs.drop left); (k + 1, r)

/-- A flit released: its messages counted; a CONT with no message open is a protocol error (R292). One in which no message ends or
goes on frees its slot at once. -/
def Dev.releaseFlit (d : Dev) (p : Nat) (f : TlkFlit) : Dev :=
  let x := d.tlkPort p
  let due := Tab.get 0 x.rxLeft f.vc
  let bad := f.cont && due == 0
  let (ends, left) := if bad then (0, 0) else payloadMessages (if f.cont then due else 0) f.payload
  let f := { f with payload := [], ends := ends, opens := left != 0, left := ends }
  let x := { x with rxLeft := if left = 0 then Tab.erase x.rxLeft f.vc else Tab.set x.rxLeft f.vc left, any := true }
  let d := d.fset TLK_STATUS.RX_EXPECT ((f.seq + 1) % 1024) p
  let d := if f.ends = 0 ∧ !f.opens then (d.setTlk p x).tlkFreed p f else d.setTlk p { x with released := x.released ++ [f] }
  if bad then d.tlkBroken p 4 else d

/-- A flit whose CRC fails: counted, and ERR_BURST of them within 1 µs break the link (R267, R292). -/
def Dev.crcFail (d : Dev) (p : Nat) : Dev :=
  let d := d.fadd TLK_ERR_CNT.CRC_FAILS 1 p
  let x := d.tlkPort p
  let recent := (x.crcAt.filter fun t => decide (d.now < t + 1000)) ++ [d.now]
  let d := d.setTlk p { x with crcAt := recent }
  if max 1 (d.fget TLK_CFG.ERR_BURST p) ≤ recent.length then d.tlkBroken p 3 else d

/-- Held flits released as long as the next expected one is among them (R276); `n` bounds the flits. One of `bad`, whose words in
the reorder region read uncorrectable, is discarded as if its CRC had failed, and NAKed again (R531). -/
def Dev.releaseHeld (p : Nat) (bad : List Nat) : Nat → Dev → Dev
  | 0, d => d
  | n + 1, d =>
    let x := d.tlkPort p
    match x.held.find? fun f => f.seq == d.fget TLK_STATUS.RX_EXPECT p with
    | none => d
    | some f =>
      let d := d.setTlk p { x with held := x.held.erase f }
      if bad.contains f.seq then (d.nakGap p ((f.seq + 1) % 1024)).crcFail p
      else Dev.releaseHeld p bad n (d.releaseFlit p f)

/-! The CRC (R266, R267) -/

/-- The 6 bytes of a link header, little-endian (R268). -/
def headerBytes (h : TlkHeader) : List Byte :=
  leBytes 6 (h.kind.toNat + h.replay.toNat * 2 ^ 3 + h.vc.toNat * 2 ^ 4 + h.pool.toNat * 2 ^ 7 + h.seq.toNat * 2 ^ 8 +
    h.ack.toNat * 2 ^ 18 + h.ackV.toNat * 2 ^ 28 + h.xoff.toNat * 2 ^ 29 + h.notice.toNat * 2 ^ 37 +
    h.countdown.toNat * 2 ^ 40 + h.cont.toNat * 2 ^ 44)

/-- The CRC of a flit, over its payload and its header. -/
def flitCrc (h : TlkHeader) (payload : List Byte) : BitVec 64 := crc64 (payload ++ headerBytes h)

/-! Flits in -/

/-- The header of a good flit applied (R267 to R269, R281, R284); none on a protocol error, which breaks the link
(R292). -/
def Dev.tlkHeader (d : Dev) (p : Nat) (h : TlkHeader) : Option Dev :=
  if 3 ≤ h.kind.toNat ∨ 5 ≤ h.notice.toNat ∨ (h.ackV ∧ !(d.ackOk p h.ack.toNat)) then none
  else
    let d := if h.ackV then d.retireFlits p h.ack.toNat else d
    let d := d.fset TLK_STATUS.XOFF_RX h.xoff.toNat p
    let x := d.tlkPort p
    some (if h.notice = 0 then d else d.setTlk p { x with noticeRx := some h.notice.toNat })

/-- A DATA flit by its sequence (R276). -/
def Dev.dataFlit (d : Dev) (p : Nat) (h : TlkHeader) (payload : List Byte) (bad : List Nat) : Dev :=
  let x := d.tlkPort p
  let s := h.seq.toNat
  let f : TlkFlit := { seq := s, vc := h.vc.toNat, pool := h.pool, cont := h.cont, payload := payload }
  let n := seqDiff s (d.fget TLK_STATUS.RX_EXPECT p)
  let there := { x with missing := Tab.erase x.missing s, naks := x.naks.filter (· != s) }
  if n = 0 then (((d.setTlk p there).releaseFlit p f).releaseHeld p bad (x.held.length + 1)).tlkXoff p
  else if n < 512 then
    if x.held.any fun g => g.seq == s then d
    else (d.setTlk p { there with held := x.held ++ [f] }).nakGap p s
  else d

/-- TLK_DATA_FLIT: a DATA flit after FEC correction: header, payload, CRC. Its messages come by rows of their own once it is
released; `bad` names the held flits that read uncorrectable when their turn comes. -/
def execTlkDataFlit (p : Fin 128) (h : TlkHeader) (payload : List Byte) (crc : BitVec 64) (bad : List (BitVec 10))
    (s : State) : Result :=
  onDev s fun d =>
    if !(d.llOpen p) || h.kind != 1 then d
    else if crc != flitCrc h payload then d.crcFail p
    else match d.tlkHeader p h with
      | none => d.tlkBroken p 4
      | some d => d.dataFlit p h payload (bad.map (·.toNat))

/-- Does a CONTROL payload hold a record of unknown type before the record of type 0 that ends it (R273, R292)? -/
def unknownRecord : Nat → List Byte → Bool
  | 0, _ => false
  | n + 1, bs =>
    let t := leNat (bs.take 1)
    if t = 0 then false else decide (6 < t) || unknownRecord n (bs.drop 8)

/-- TLK_IDLE_FLIT: an IDLE flit, or a CONTROL flit, whose records come by rows of their own. Its SEQ may show a gap (R276). A
reserved KIND, or a record of unknown type, is a protocol error. -/
def execTlkIdleFlit (p : Fin 128) (h : TlkHeader) (payload : List Byte) (crc : BitVec 64) (s : State) : Result :=
  onDev s fun d =>
    if !(d.llOpen p) || h.kind == 1 then d
    else if crc != flitCrc h payload then d.crcFail p
    else match d.tlkHeader p h with
      | none => d.tlkBroken p 4
      | some d =>
        if h.kind == 2 && unknownRecord 29 payload then d.tlkBroken p 4
        else if seqDiff h.seq.toNat (d.fget TLK_STATUS.RX_EXPECT p) < 512 then d.nakGap p h.seq.toNat else d

/-! Records in (R273) -/

/-- NAK: that flit is retransmitted, unless it is retired already (R278). -/
def execNak (p : Fin 128) (seq : BitVec 10) (s : State) : Result :=
  onDev s fun d =>
    let x := d.tlkPort p
    if d.llOpen p && (x.replay.any fun f => f.seq == seq.toNat) && !(x.resend.contains seq.toNat) then
      d.setTlk p { x with resend := x.resend ++ [seq.toNat] }
    else d

/-- The round trip of the last of 16 samples: RTT_NS, H_req, and a shortage of headroom, with its fault (R285, R287,
R293, R294). -/
def Dev.rttMeasured (d : Dev) (p : Nat) : Dev :=
  let x := d.tlkPort p
  let rtt := min 65535 (x.samples.foldl max 0)
  let h := headroomReq (d.cfgLanes p) (d.fget CXP_LINK_STAT.RATE p) rtt
  let room := d.fget TLK_FC_CFG.HEADROOM p
  let d := (d.fset TLK_RTT.RTT_NS rtt p).fset TLK_RTT.HEADROOM_REQ (min 65535 h) p
  let d := (d.setTlk p { x with raised := h - room, measuring := false }).tlkXoff p
  if room < h then (d.fset TLK_STATUS.HEADROOM_SHORT 1 p).raise p ⟨0, 0x23, 1, p, BitVec.ofNat 64 h⟩
  else d.fset TLK_STATUS.HEADROOM_SHORT 0 p

/-- Is the partner's A_0 below what the reservations in force need (R288)? -/
def Dev.a0Short (d : Dev) (p : Nat) : Bool :=
  decide (d.fget TLK_PARTNER_VC.CREDITS p 0 < d.ridgeA0 p (d.fget TLK_RTT.RTT_NS p))

/-- INIT ends once INIT, all 8 CREDITs and 16 PONGs have come: the port reports up (R288, R293). -/
def Dev.llComplete (d : Dev) (p : Nat) : Dev :=
  let x := d.tlkPort p
  if d.refOk p ∧ d.ll p = llInit ∧ x.initSeen ∧ 8 ≤ x.creditSeen.length ∧ 16 ≤ x.samples.length then
    let d := d.fset TLK_STATUS.LL_STATE llActive p
    let d := if d.a0Short p then
        (d.fset TLK_STATUS.A0_SHORT 1 p).raise p ⟨0, 0x23, 1, p, BitVec.ofNat 64 (d.fget TLK_RTT.HEADROOM_REQ p)⟩
      else d.fset TLK_STATUS.A0_SHORT 0 p
    d.comeUp p
  else d

/-- CREDIT: LIMIT of a VC, and the ACK it carries (R281, R283). The first of each VC in INIT shows the partner's A_c (R301).
Any CREDIT record ends a wait for credits (R291). -/
def execCredit (p : Fin 128) (vc : Fin 8) (limit : BitVec 16) (ack : BitVec 10) (ackV : Bool) (s : State) : Result :=
  onDev s fun d =>
    if !(d.llOpen p) then d
    else if ackV && !(d.ackOk p ack.toNat) then d.tlkBroken p 4
    else
      let d := if ackV then d.retireFlits p ack.toNat else d
      let x := d.tlkPort p
      let first := d.ll p == llInit && !(x.creditSeen.contains vc)
      let x := { x with
        limit := Tab.set x.limit vc limit.toNat, creditWait := none,
        creditSeen := if first then x.creditSeen ++ [(vc : Nat)] else x.creditSeen }
      let d := (d.setTlk p x).fset TLK_STATUS.STALLED 0 p
      let d := if first then d.fset TLK_PARTNER_VC.CREDITS limit.toNat p vc else d
      d.llComplete p

/-- PING: a PONG with its identifier and tag is due. -/
def execPing (p : Fin 128) (id : BitVec 8) (tag : BitVec 48) (s : State) : Result :=
  onDev s fun d =>
    if d.llOpen p then
      let x := d.tlkPort p
      d.setTlk p { x with pongs := x.pongs ++ [(id.toNat, tag.toNat)] }
    else d

/-- PONG: a sample of the round trip, from the PING of that identifier; the 16th gives RTT_NS. -/
def execPong (p : Fin 128) (id : BitVec 8) (tag : BitVec 48) (s : State) : Result :=
  onDev s fun d =>
    let x := d.tlkPort p
    match x.pinged.find? fun e => e.1 == id.toNat && e.2 % 2 ^ 48 == tag.toNat with
    | none => d
    | some (k, t) =>
      if !(d.llOpen p) then d
      else
        let d := d.setTlk p { x with
          pinged := Tab.erase x.pinged k, answered := x.answered ++ [k], samples := x.samples ++ [d.now - t] }
        if x.samples.length = 15 then (d.rttMeasured p).llComplete p else d

/-- INIT: the partner's version, at least 1 (R264), with its shared pool size and mode, which no register holds. -/
def execInit (p : Fin 128) (version : BitVec 4) (_pool : BitVec 10) (_strict : Bool) (s : State) : Result :=
  onDev s fun d =>
    if d.ll p = llInit then
      (d.setTlk p { d.tlkPort p with initSeen := decide (1 ≤ version.toNat) }).llComplete p
    else d

/-- RESUME: after a recovery the partner expects `seq` next: what lies before it is retired, SENT is rewound to that point,
and the rest is retransmitted in order (R293). -/
def execResume (p : Fin 128) (seq : BitVec 10) (s : State) : Result :=
  onDev s fun d =>
    let x := d.tlkPort p
    if d.ll p ≠ llActive ∨ x.resumeSeen then d
    else
      let d := d.retireFlits p ((seq.toNat + 1023) % 1024)
      let x := d.tlkPort p
      let sent := (x.replay.filter fun f => f.counted && !f.pool).foldl (fun t f => Tab.set t f.vc (Tab.get 0 t f.vc - 1)) x.sent
      d.setTlk p { x with
        resumeSeen := true, sent := sent, resend := x.replay.map (·.seq),
        replay := x.replay.map fun f => { f with counted := false, sends := 0 } }

/-! Timers -/

/-- NAK_REPEAT: a missing sequence has not arrived within 2 × RTT_NS + 64 ns of its last NAK (R279). -/
def execNakRepeat (p : Fin 128) (seq : BitVec 10) (s : State) : Result :=
  onDev s fun d =>
    let x := d.tlkPort p
    match x.missing.find? fun m => m.1 == seq.toNat with
    | none => d
    | some (q, t) =>
      if !(d.llOpen p) then d
      else
        let d := d.upTo (t + 2 * d.fget TLK_RTT.RTT_NS p + 64)
        d.setTlk p { x with
          missing := Tab.set x.missing q d.now, naks := if x.naks.contains q then x.naks else x.naks ++ [q] }

/-- REPLAY_TIMEOUT: the oldest unacknowledged flit alone is resent and the timer restarts (R280). -/
def execReplayTimeout (p : Fin 128) (s : State) : Result :=
  onDev s fun d =>
    let x := d.tlkPort p
    match x.replay with
    | [] => d
    | f :: _ =>
      if d.ll p ≠ llActive then d
      else
        let d := (d.upTo (x.replayAt + max 2000 (8 * d.fget TLK_RTT.RTT_NS p))).fadd TLK_EVT_CNT.REPLAY_TIMEOUTS 1 p
        d.setTlk p { x with
          replayAt := d.now, resend := if x.resend.contains f.seq then x.resend else f.seq :: x.resend }

/-- CREDIT_TIMER: a record of a VC is due 256 ns after its first slot was freed, or 1 µs after its last record while the pool
is occupied or an XOFF bit is sent (R283). -/
def execCreditTimer (p : Fin 128) (vc : Fin 8) (s : State) : Result :=
  onDev s fun d =>
    let x := d.tlkPort p
    if !(d.llOpen p) then d
    else match x.fresh.find? fun e => e.1 == (vc : Nat) with
      | some (_, _, t) => (d.upTo (t + 256)).setTlk p (x.creditDue vc)
      | none =>
        if x.taken.isEmpty && d.fget TLK_STATUS.XOFF_TX p == 0 then d
        else (d.upTo (Tab.get 0 x.creditAt vc + 1000)).setTlk p (x.creditDue vc)

/-! Link-layer states (R293) -/

/-- The link layer of a trained Thatchlink starts: counts at 0; INIT, CREDIT records of every VC and 16 PINGs are due; the XOFF bits
are those of its pool. -/
def Dev.llStart (d : Dev) (p : Nat) : Dev :=
  let d := (((d.fset TLK_STATUS.LL_STATE llInit p).fset TLK_STATUS.TX_NEXT 0 p).fset TLK_STATUS.RX_EXPECT 0 p).fset
    TLK_STATUS.UNACKED 0 p
  (d.setTlk p { initDue := true, due := List.range 8, measuring := true, since := d.now }).tlkXoff p

/-- LL_START: the PHY of a TRAINING Thatchlink port reaches flit mode with what `x` says, having offered vendor ID 0x1D4A, protocol
0x54, version 1 and fallow (R264); or the port is DOWN with the cause that forbids the link. -/
def execLlStart (p : Fin 128) (lane : LaneTraining) (eq : EqTraining) (offer : LinkOffer) (s : State) : Result :=
  let x : LinkTraining := ⟨lane, eq, offer⟩
  onDev s fun d =>
    if d.portState p ≠ poTraining ∨ d.portMode p ≠ 4 ∨ d.ll p ≠ llDown then d
    else
      let d := d.send (.offer p 0x1D4A 0x54 0x11)
      match d.trainEnd p x with
      | .link w r => (d.trained p w r x).llStart p
      | .down c => d.trainDown p c
      | .on => d

/-- INIT_TIMEOUT: 100 µs in INIT without completion: the port is DOWN with cause PROTOCOL. -/
def execInitTimeout (p : Fin 128) (s : State) : Result :=
  onDev s fun d =>
    if d.ll p = llInit then
      let d := d.upTo ((d.tlkPort p).since + 100000)
      let d := (d.fset CXP_LINK_STAT.STATE poDown p).fset CXP_LINK_STAT.CAUSE 6 p
      let d := (((d.fset CXP_LINK_STAT.WIDTH 0 p).fset CXP_LINK_STAT.RATE 0 p).fset CXP_LINK_STAT.FLIT 0 p).fset
        CXP_LINK_STAT.PARTNER 0 p
      (d.tlkClear p).portEvent p
    else d

/-- PHY_RECOVERY: the PHY of an ACTIVE link enters Recovery. -/
def execPhyRecovery (p : Fin 128) (s : State) : Result := onDev s fun d => d.tlkRecovery p

/-- RECOVERY_END: the PHY is back in flit mode: held, unreleased flits are discarded; RESUME with E, CREDITs and 16 PINGs are
due; both directions take the configured width (R197, R293). -/
def execRecoveryEnd (p : Fin 128) (s : State) : Result :=
  onDev s fun d =>
    if d.ll p ≠ llRecovery then d
    else
      let x := d.tlkPort p
      let d := d.fset TLK_STATUS.LL_STATE llActive p
      let d := d.setTlk p { x with
        held := [], missing := [], naks := [], resend := [], pongs := [], crcAt := [], resumeDue := true, resumeSeen := false,
        due := List.range 8, measuring := true, pinged := [], answered := [], pingAt := none, samples := [],
        replayAt := d.now }
      (d.tlkXoff p).fallowFull p

/-- RESUME_LIMIT: RECOVERY has lasted RESUME_LIMIT: the port goes down with cause SURPRISE. -/
def execResumeLimit (p : Fin 128) (s : State) : Result :=
  onDev s fun d =>
    if d.ll p ≠ llRecovery then d
    else
      let lim := min 10000 (max 100 (d.fget TLK_CFG.RESUME_LIMIT p))
      (d.upTo ((d.tlkPort p).since + lim * 1000)).leaveUp p 1 poDown .surprise

/-! Flit slots out (R274) -/

/-- Is a PING due: the round trip is being measured, and 1 µs has passed since the last (R293)? -/
def Dev.pingDue (d : Dev) (x : TlkPort) : Bool :=
  x.measuring && decide (x.samples.length < 16) && (match x.pingAt with | some t => decide (t + 1000 ≤ d.now) | none => true)

/-- The identifier of the next PING: the first of 16 not sent yet, else the first unanswered, sent again (R273; assumption 187). -/
def TlkPort.pingId (x : TlkPort) : Nat :=
  match (List.range 16).find? fun k => !(x.answered.contains k) && !(x.pinged.any fun e => e.1 == k) with
  | some k => k
  | none => ((List.range 16).find? fun k => !(x.answered.contains k)).getD 0

/-- The records that wait: NAKs, PONGs, INIT, RESUME, CREDITs and a PING that is due; a CONTROL flit takes 29. INIT and RESUME go
again with every PING, so that a lost one is made good (R273; assumption 187). -/
def Dev.records (d : Dev) (p : Nat) : List TlkRecord :=
  let x := d.tlkPort p
  let e := d.fget TLK_STATUS.RX_EXPECT p
  let ping := d.pingDue x
  let all : List TlkRecord :=
    x.naks.map TlkRecord.nak ++ x.pongs.map (fun q => TlkRecord.pong q.1 q.2) ++
      (if x.initDue || (ping && d.ll p == llInit) then [TlkRecord.init 1 (d.tlkS p) (d.fon TLK_CFG.CREDIT_MODE p)] else []) ++
      (if x.resumeDue || (ping && d.ll p == llActive) then [TlkRecord.resume e] else []) ++
      x.due.map (fun c => TlkRecord.credit c (d.tlkLimit p c) ((e + 1023) % 1024) x.any) ++
      (if ping then [TlkRecord.ping x.pingId (d.now % 2 ^ 48)] else [])
  all.take 29

/-- A record sent. -/
def TlkPort.recordSent (now : Nat) (x : TlkPort) (r : TlkRecord) : TlkPort :=
  match r with
  | .nak s => { x with naks := x.naks.filter (· != s), missing := Tab.set x.missing s now }
  | .credit c _ _ _ =>
    { x with due := x.due.filter (· != c), fresh := Tab.erase x.fresh c, creditAt := Tab.set x.creditAt c now }
  | .ping k _ => { x with pinged := Tab.set x.pinged k now, pingAt := some now }
  | .pong k t => { x with pongs := x.pongs.erase (k, t) }
  | .init _ _ _ => { x with initDue := false }
  | .resume _ => { x with resumeDue := false }

/-- NOTICE's code of a width announced (0 for sleep). -/
def noticeCode (w : Nat) : Nat := match w with | 0 => 4 | 4 => 1 | 8 => 2 | _ => 3

/-- A flit leaves with a header of its kind; the flit slot counts for the fallow window, and for a notice, which 16 of them carry
with COUNTDOWN from 15 to 0 (R197, R268, R270). -/
def Dev.flitOut (d : Dev) (p kind seq vc : Nat) (pool replay cont : Bool) (parts : List TlkPart) (rs : List TlkRecord) : Dev :=
  let x := d.tlkPort p
  let l := d.lanePort p
  let h : TlkHeader :=
    { kind := BitVec.ofNat 3 kind, replay := replay, vc := BitVec.ofNat 3 vc, pool := pool, seq := BitVec.ofNat 10 seq,
      ack := BitVec.ofNat 10 (d.fget TLK_STATUS.RX_EXPECT p + 1023), ackV := x.any,
      xoff := BitVec.ofNat 8 (d.fget TLK_STATUS.XOFF_TX p),
      notice := BitVec.ofNat 3 (if l.count = 0 then 0 else (l.notice.map noticeCode).getD 0),
      countdown := BitVec.ofNat 4 (l.count - 1), cont := cont }
  let d := d.setLanePort p { l with
    slots := l.slots + 1, used := if kind = 0 then l.used else l.used + 1,
    lastFlit := if kind = 0 then l.lastFlit else d.now, count := l.count - 1 }
  d.send (.flit p h parts rs)

/-- May a VC send a DATA flit on a dedicated credit (R283)? -/
def TlkPort.credit (x : TlkPort) (c : Nat) : Bool :=
  let n := (Tab.get 0 x.limit c + 65536 - Tab.get 0 x.sent c % 65536) % 65536
  decide (1 ≤ n ∧ n ≤ 32767)

/-- May a VC send a DATA flit: on a credit, or into the shared pool (R284)? -/
def Dev.vcReady (d : Dev) (p c : Nat) : Bool := (d.tlkPort p).credit c || !(d.fbit TLK_STATUS.XOFF_RX c p)

/-- The table key of a VC's message under way. -/
def vcKey (p c : Nat) : Nat := 128 + p * 8 + c

/-- The message of a VC that a flit has begun. -/
def Dev.vcOpen (d : Dev) (p c : Nat) : Option QMsg := (d.core.sending.find? fun e => e.1 == vcKey p c).map (·.2)

/-- A VC's message under way, or none. -/
def Dev.setVcOpen (d : Dev) (p c : Nat) (m : Option QMsg) : Dev :=
  { d with core := { d.core with
      sending := match m with | some m => Tab.set d.core.sending (vcKey p c) m | none => Tab.erase d.core.sending (vcKey p c) } }

/-- The next message for a DATA flit, on the VCs that `ready` allows: class 0 first; then the lowest VC whose message is
under way; then the fair-queueing choice (R338, R353). One that dequeue discards leaves the place to the next; `n` bounds
them. Answers the message, and whether it was under way. -/
def Dev.tlkNext (p : Nat) (ready : Nat → Bool) (cs : CellState) : Nat → Dev → Dev × Option (QMsg × Bool)
  | 0, d => (d, none)
  | n + 1, d =>
    match (if ready 0 then d.vcOpen p 0 else none) with
    | some m => (d, some (m, true))
    | none =>
      match (if ready 0 then d.head p 0 0 else none) with
      | some m =>
        match (d.unqueue m).atDequeue m cs with
        | (d, some m) => (d.served m, some (m, false))
        | (d, none) => Dev.tlkNext p ready .whole n d
      | none =>
        match ((List.range 8).filter fun c => c != 0 && ready c).findSome? (d.vcOpen p) with
        | some m => (d, some (m, true))
        | none =>
          match d.chooseClass p false (fun c => ready c && (d.vcOpen p c).isNone) with
          | (d, none) => (d, none)
          | (d, some (_, _, m)) =>
            match d.atDequeue m cs with
            | (d, some m') => ((d.served m).unqueue m, some (m', false))
            | (d, none) => Dev.tlkNext p ready .whole n (d.unqueue m)

/-- The class the scheduler would serve next on a Thatchlink. -/
def Dev.tlkClass (d : Dev) (p : Nat) (ready : Nat → Bool) : Option Nat :=
  ((Dev.tlkNext p ready .whole (d.core.buf.length + 1) d).2).map fun x => x.1.cls

/-- TYPE of a message's prefix (R271). -/
def QMsg.typ (m : QMsg) : Nat :=
  match m.body with
  | .coord t _ _ => t
  | _ => match m.chan with | .io => 1 | .mem => 2 | .cache => 3

/-- POISON of a message's prefix: of directory coordination and migration alone. -/
def QMsg.prefixPoison (m : QMsg) : Bool := match m.body with | .coord _ _ x => x | _ => false

/-- The next part of a message with `room` bytes of payload left, `left` bytes of its body being unsent (none: not begun), its body
being as long as its stored form (R271, R272; assumption 74). -/
def QMsg.piece (m : QMsg) (left : Option Nat) (room : Nat) : TlkPart :=
  let len := max 1 m.len
  let first := len - left.getD len
  ⟨m.typ, len, m.prefixPoison, first, min (len - first) (if left.isNone then room - 4 else room)⟩

/-- A payload filled with a message and those of its VC that the scheduler serves next, as far as they fit: a prefix never
straddles flits, and a change of VC ends the payload (R271, R272, R701). `n` bounds the messages. -/
def Dev.tlkFill (p : Nat) (ready : Nat → Bool) : Nat → Nat → QMsg → Dev → Dev × List TlkPart
  | 0, _, _, d => (d, [])
  | n + 1, room, m, d =>
    let c := m.cls
    let x := d.tlkPort p
    let left := (x.txLeft.find? fun e => e.1 == c).map (·.2)
    let part := m.piece left room
    let rest := part.len - part.first - part.count
    if rest ≠ 0 then ((d.setTlk p { x with txLeft := Tab.set x.txLeft c rest }).setVcOpen p c (some m), [part])
    else
      let d := ((d.setTlk p { x with txLeft := Tab.erase x.txLeft c }).setVcOpen p c none).sent m
      let room := room - part.count - (if left.isNone then 4 else 0)
      if room < 4 ∨ d.tlkClass p ready ≠ some c then (d, [part])
      else match Dev.tlkNext p (fun x => x == c && ready x) .whole (d.core.buf.length + 1) d with
        | (d, some (m', _)) => let (d, ps) := Dev.tlkFill p ready n room m' d; (d, part :: ps)
        | (d, none) => (d, [part])

/-- A new DATA flit of a message and what follows it. -/
def Dev.newData (d : Dev) (p : Nat) (ready : Nat → Bool) (cont : Bool) (m : QMsg) : Dev :=
  let c := m.cls
  let (d, parts) := Dev.tlkFill p ready 60 236 m d
  let x := d.tlkPort p
  let pool := !(x.credit c)
  let s := d.fget TLK_STATUS.TX_NEXT p
  let f : TlkFlit := { seq := s, vc := c, pool := pool, cont := cont, parts := parts }
  let d := d.setTlk p { x with
    replay := x.replay ++ [f], sent := if pool then x.sent else Tab.set x.sent c (Tab.get 0 x.sent c + 1),
    replayAt := if x.replay.isEmpty then d.now else x.replayAt }
  let d := (d.fset TLK_STATUS.TX_NEXT ((s + 1) % 1024) p).fset TLK_STATUS.UNACKED (x.replay.length + 1) p
  d.flitOut p 1 s c pool false cont parts []

/-- A retransmission (R278, R280, R292): counted; the oldest flit sent a fourth time again by NAK or timer breaks the
link. -/
def Dev.resendFlit (d : Dev) (p : Nat) (f : TlkFlit) : Dev :=
  let x := d.tlkPort p
  let n := if f.counted then f.sends + 1 else f.sends
  let x := { x with
    resend := x.resend.filter (· != f.seq),
    replay := x.replay.map fun g => if g.seq = f.seq then { g with sends := n, counted := true } else g,
    sent := if f.counted || f.pool then x.sent else Tab.set x.sent f.vc (Tab.get 0 x.sent f.vc + 1) }
  let oldest := d.tlkOldest p = f.seq
  let d := ((d.setTlk p x).fadd TLK_ERR_CNT.REPLAYED 1 p).flitOut p 1 f.seq f.vc f.pool true f.cont f.parts []
  if oldest ∧ 4 ≤ n then d.tlkBroken p 2 else d

/-- Since when some VC with data has neither credit nor shared entry (R291). -/
def Dev.creditWatch (d : Dev) (p : Nat) : Dev :=
  let x := d.tlkPort p
  let stuck := (List.range 8).find? fun c =>
    ((d.vcOpen p c).isSome || d.core.buf.any fun m => m.egress == p && m.cls == c) && !(d.vcReady p c)
  d.setTlk p { x with
    creditWait := match stuck, x.creditWait with
      | some c, none => some (d.now, c)
      | some _, w => w
      | none, _ => none }

/-- STRICT_TIMEOUT: a wait for credits, if some VC still waits, reaches STRICT_TIMEOUT (R291). -/
def execStrictTimeout (p : Fin 128) (s : State) : Result :=
  onDev s fun d =>
    if d.ll p ≠ llActive ∨ d.fon TLK_STATUS.STALLED p then d
    else
      let d := d.creditWatch p
      match (d.tlkPort p).creditWait with
      | none => d
      | some (t, c) =>
        let d := (d.upTo (t + max 1 (d.fget TLK_CFG.STRICT_TIMEOUT p) * 1000)).fadd TLK_EVT_CNT.STALLS 1 p
        if d.fon TLK_CFG.CREDIT_MODE p then d.tlkBroken p 1
        else (d.fset TLK_STATUS.STALLED 1 p).raise p ⟨0, 0x24, 1, p, BitVec.ofNat 64 c⟩

/-! Flit slots -/

/-- An announced fallow change takes effect once 16 flits have carried its notice (R270). A direction does not enter SLEEP while
its replay store holds flits, or while a NAK or CREDIT record of its own is due: the change waits (R295; assumption 188). -/
def Dev.noticeTakes (d : Dev) (p : Nat) : Dev :=
  let l := d.lanePort p
  let x := d.tlkPort p
  match l.notice with
  | none => d
  | some w =>
    if l.count ≠ 0 ∨ (w = 0 ∧ !(x.replay.isEmpty && x.naks.isEmpty && x.due.isEmpty)) then d
    else
      let d := d.setLanePort p { l with notice := none }
      if w = 0 then (d.fallow p 2).fallowWidth p 0
      else (d.fallow p (if w = d.fget CXP_LINK_STAT.WIDTH p then 0 else 1)).fallowWidth p w

/-- A flit slot of a Thatchlink transmitter: CONTROL, retransmission, new DATA or IDLE, the first that applies (R274). A
flit of which a word in the replay store is uncorrectable (`lost`) cannot be sent again: the port goes down (R531). -/
def Dev.tlkSlot (d : Dev) (p : Nat) (lost : Bool) (cs : CellState) : Dev :=
  let x := d.tlkPort p
  let rs := d.records p
  let next := d.fget TLK_STATUS.TX_NEXT p
  if !rs.isEmpty then (d.setTlk p (rs.foldl (TlkPort.recordSent d.now) x)).flitOut p 2 next 0 false false false [] rs
  else if d.ll p ≠ llActive ∨ !x.resumeSeen then d.flitOut p 0 next 0 false false false [] []
  else match x.resend.findSome? fun s => x.replay.find? fun f => f.seq == s with
    | some f => if lost then d.leaveUp p 1 poDown .surprise else d.resendFlit p f
    | none =>
      let ready := fun c => d.vcReady p c
      let room := decide (seqDiff next (d.tlkOldest p) < 512)
      let d := d.creditWatch p
      match (if room then Dev.tlkNext p ready cs (d.core.buf.length + 1) d else (d, none)) with
      | (d, some (m, cont)) => d.newData p ready cont m
      | (d, none) => d.flitOut p 0 next 0 false false false [] []

/-- TLK_TX_SLOT: a flit slot of a Thatchlink whose direction is awake; `lost` says that a word of the flit to be sent again is
uncorrectable, `cs` how the words read of the first new message, `retried` that its flit needed a second retry on its way to the
Eave die (R13). -/
def execTlkTxSlot (p : Fin 128) (lost : Bool) (cs : CellState) (retried : Bool) (s : State) : Result :=
  onDev s fun d =>
    if !(d.llOpen p) then d
    else
      let d := d.noticeTakes p
      let st := d.fget LAN_FALLOW_STAT.STATE (4 * (p : Nat))
      if st == 2 || (st == 3 && (d.lanePort p).fromSleep) then d
      else (d.eaveCross p retried).tlkSlot p lost cs

end Sys2Proof.Machine
end

