-- ==== Sys2Proof/Machine/Lanes.lean ====
section
/-! DEFINITION. The serial lanes (06_lanes.md, R179 to R205): coefficients, adaptation, margining, PRBS, fallow, link power
states. -/

namespace Sys2Proof.Machine

/-- The configured port that a lane belongs to. -/
def Dev.portOfLane (d : Dev) (l : Nat) : Option Nat :=
  ((List.range 4).map fun k => l / 4 - k).find? fun p => d.configured p && decide (4 * p ≤ l ∧ l < 4 * p + d.cfgLanes p)

/-- Is a lane in test: without a port, or of one that is neither up nor training (R193)? -/
def Dev.inTest (d : Dev) (l : Nat) : Bool :=
  match d.portOfLane l with
  | none => true
  | some p => d.portState p != poTraining && d.portState p != poUp

/-- The rate code that a lane in test runs at (R193, R212): LAN_PRBS_CTRL.RATE, at most the lane's cap. -/
def Dev.testRate (d : Dev) (l : Nat) : Nat :=
  min (d.fget LAN_PRBS_CTRL.RATE l) (min (d.fget LAN_CTRL.RATE_CAP l) (maxRate d.fuses))

/-- The rate code that a lane runs at. -/
def Dev.laneRate (d : Dev) (l : Nat) : Nat := if d.inTest l then d.testRate l else d.fget LAN_STATUS.RATE l

/-- The lanes of a port that carry its traffic: the fallow width of a Thatchlink, the L0p width of a CXL port. -/
def Dev.txWidth (d : Dev) (p : Nat) : Nat :=
  if d.portMode p = 4 then d.fget LAN_FALLOW_STAT.WIDTH (4 * p)
  else if (d.lanePort p).l0p ≠ 0 then (d.lanePort p).l0p else d.fget CXP_LINK_STAT.WIDTH p

/-- TX_STATE of a lane (R178, R193, R203, R207, R208, R248): 0 idle, 1 active, 2 shed or asleep, 3 test. -/
def Dev.txState (d : Dev) (l : Nat) : Nat :=
  let test := if d.fon LAN_PRBS_CTRL.GEN_EN l then 3 else 0
  if !(d.fon LAN_CTRL.LANE_EN l) then 0
  else match d.portOfLane l with
    | none => test
    | some p =>
      if d.portState p = poContained then 0
      else if d.portState p = poTraining then d.refOk p |>.toNat
      else if d.portState p = poUp then
        if !(d.fon LAN_STATUS.ACTIVE l) || d.inL1 p then 0
        else if d.fget LAN_STATUS.LOGICAL l < d.txWidth p then 1 else 2
      else test

/-! Transmit coefficients (R183 to R185) -/

/-- FORCE in force from a write of LAN_TXEQ on (R185). -/
def Dev.forceCoeff (d : Dev) (l : Nat) : Dev := if d.fon LAN_TXEQ.FORCE l then d.laneCoeff l (d.laneRate l) else d

/-- COEFF_REQUEST: the partner of lane `l` asks for C−1 and C+1 (R183, R185), at the rate being equalised in training, at the
lane's own rate once it is active. -/
def execCoeffRequest (l : Fin 512) (rate : BitVec 3) (pre post : BitVec 6) (s : State) : Result :=
  onDev s fun d =>
    let r := if d.fon LAN_STATUS.ACTIVE l then d.fget LAN_STATUS.RATE l else rate.toNat
    if d.inTest l then d
    else if !(d.fon LAN_TXEQ.FORCE l) && coeffOk r pre.toNat post.toNat then
      (d.setCoeff l r pre.toNat post.toNat).setLane l { d.lane l with eqRate := some r }
    else d.send (.log "coefficients rejected" l)

/-! Background adaptation (R186, R187) -/

/-- Is a lane's receiver shed or asleep by the partner's fallow? -/
def Dev.rxShed (d : Dev) (l : Nat) : Bool :=
  match d.portOfLane l with
  | some p => match (d.lanePort p).rxWidth with | some w => decide (w ≤ d.fget LAN_STATUS.LOGICAL l) | none => false
  | none => false

/-- Is a lane under margining? -/
def Dev.margining (d : Dev) (l : Nat) : Bool := d.fget LAN_MARGIN_STAT.STATE l == 1 || (d.lane l).remote

/-- Is a lane idle in a link power state: its port in L1, or narrowed by L0p to fewer lanes (R203)? -/
def Dev.laneIdle (d : Dev) (l : Nat) : Bool :=
  match d.portOfLane l with
  | some p => d.inL1 p || ((d.lanePort p).l0p != 0 && decide ((d.lanePort p).l0p ≤ d.fget LAN_STATUS.LOGICAL l))
  | none => false

/-- The adapter of a lane's quadrant comes to the lane: a place at or below the last begins a new lap (R186). -/
def Dev.adapterAt (d : Dev) (l : Nat) : Dev :=
  let (next, lap) := Tab.get (0, 0) d.adapters (l / 16)
  { d with adapters := Tab.set d.adapters (l / 16) (l % 16 + 1, if l % 16 < next then lap + 1 else lap) }

/-- The lap of a lane's adapter. -/
def Dev.lapOf (d : Dev) (l : Nat) : Nat := (Tab.get (0, 0) d.adapters (l / 16)).2

/-- A lane back from fallow or L1: a fast adaptation from its stored settings, whose result is open; the adapter takes it up again
on its next lap (R188, R199). -/
def Dev.fastAdapt (d : Dev) (l : Nat) : Dev :=
  (d.setLane l { d.lane l with settings := d.free, fromLap := d.lapOf l + 1 }).used

/-- ADAPT_VISIT: the quadrant's adapter visits lane `l`, measures its eye and moves new receiver settings, which are open, to the
data sampler (R186); it skips lanes as R187 gives, and one back from fallow or L1 up to its next lap (R188). -/
def execAdaptVisit (l : Fin 512) (eye : BitVec 16) (s : State) : Result :=
  onDev s fun d =>
    let d := d.adapterAt l
    if !(d.fon LAN_CTRL.BG_ADAPT_EN l) || !(d.fon LAN_STATUS.ACTIVE l) || d.laneIdle l || d.rxShed l || d.inTest l ||
        d.margining l || decide (d.lapOf l < (d.lane l).fromLap) then d
    else
      let d := (d.fset LAN_STATUS.EYE eye.toNat l).finc LAN_ADAPT.VISITS 1 l
      let h := d.lane l
      let n := if eye.toNat < d.fget LAN_ADAPT.EYE_MIN l then h.misses + 1 else 0
      let d := (d.setLane l { h with misses := n, settings := d.free }).used
      if max 1 (d.fget LAN_ADAPT.MISS_VISITS l) ≤ n ∧ !(d.fon LAN_STATUS.MARGINAL l) then
        (d.fset LAN_STATUS.MARGINAL 1 l).raise (128 + l / 16)
          ⟨0, 0x20, 1, (d.portOfLane l).getD (l / 4), BitVec.ofNat 64 l⟩
      else d

/-! Margining (R189 to R191) -/

/-- Where a run's error sampler stands (R189, R190, R211): at NRZ rates there is one eye. -/
def Dev.samplerOf (d : Dev) (l : Nat) : MarginPoint :=
  ⟨d.fon LAN_MARGIN_CTRL.TYPE l, d.fon LAN_MARGIN_CTRL.DIR l, d.fget LAN_MARGIN_CTRL.STEPS l,
    if d.laneRate l < 5 then 0 else d.fget LAN_MARGIN_CTRL.EYE l⟩

/-- A write of 1 to LAN_MARGIN_CTRL.START. ERRORS reads 0 while the run goes on (DESIGN CHOICE, assumption 184). -/
def Dev.marginStart (d : Dev) (l : Nat) : Dev :=
  if d.fget LAN_MARGIN_STAT.STATE l = 1 then d
  else
    let d := (((d.fset LAN_MARGIN_STAT.ERRORS 0 l).fset LAN_MARGIN_STAT.LIMIT_HIT 0 l).fset LAN_MARGIN_STAT.CAUSE 0 l).fset
      LAN_MARGIN_STAT.STATE 1 l
    if (d.lane l).remote then d.marginCut l 3
    else if !(d.inTest l) && !(d.fon LAN_STATUS.ACTIVE l) then d.marginCut l 1
    else if d.rxShed l then d.marginCut l 2
    else (d.setLane l { d.lane l with sampler := some (d.samplerOf l) }).fset LAN_MARGIN_CTRL.START 1 l

/-- MARGIN_START. -/
def execMarginStart (l : Fin 512) (s : State) : Result := onWaitingReg (.marginStart l) s fun d => d.marginStart l

/-- MARGIN_END: a run ends at DWELL, or at ERR_LIMIT, with the errors it counted. -/
def execMarginEnd (l : Fin 512) (errors : Nat) (s : State) : Result :=
  onDev s fun d =>
    if d.fget LAN_MARGIN_STAT.STATE l = 1 then
      let d := d.setLane l { d.lane l with sampler := none }
      let d := (d.fset LAN_MARGIN_STAT.ERRORS (min 63 errors) l).fset LAN_MARGIN_STAT.STATE 2 l
      let hit := decide (max 1 (d.fget LAN_MARGIN_CTRL.ERR_LIMIT l) ≤ errors)
      (d.fset LAN_MARGIN_STAT.LIMIT_HIT hit.toNat l).fset LAN_MARGIN_CTRL.START 0 l
    else d

/-- REMOTE_MARGIN: the partner's margining takes a receiver of a CXL port, of whose PAM4 eyes it measures the middle one, or lets
go of it (`hold` false). -/
def execRemoteMargin (l : Fin 512) (hold : Bool) (s : State) : Result :=
  onDev s fun d =>
    match d.portOfLane l with
    | none => d
    | some p =>
      if !hold then d.setLane l { d.lane l with remote := false }
      else if d.portUp p && d.portMode p != 4 && d.fon LAN_PORT_CFG.REMOTE_MARGIN_EN (4 * p) then
        let d := d.marginAbort l 3
        d.setLane l { d.lane l with remote := true }
      else d

/-! PRBS (R192 to R196) -/

/-- The taps n and m of a pattern's polynomial x^n + x^m + 1. -/
def prbsTaps (pattern : Nat) : Option (Nat × Nat) :=
  match pattern with
  | 0 => some (7, 6)
  | 1 => some (9, 5)
  | 2 => some (15, 14)
  | 3 => some (23, 18)
  | 4 => some (31, 28)
  | _ => none

/-- The bit of a pattern that follows `prev`, the bits before it, latest first: by the polynomial, or of USER by its 16 bits
repeated. Codes 6 and 7 name no pattern. -/
def prbsNext (pattern : Nat) (prev : List Bool) : Option Bool :=
  match prbsTaps pattern with
  | some (n, m) => (prev[n - 1]?).bind fun a => (prev[m - 1]?).map fun b => a != b
  | none => if pattern = 5 then prev[15]? else none

/-- `n` more bits of a pattern after `prev` (latest first): all of them, latest first. -/
def prbsRun (pattern : Nat) : Nat → List Bool → List Bool
  | 0, prev => prev
  | n + 1, prev => match prbsNext pattern prev with | some b => prbsRun pattern n (b :: prev) | none => prev

/-- Bits taken two at a time, the first most significant, as Gray-coded PAM4 symbols (R192). -/
def grayOf : List Bool → List (Fin 4)
  | a :: b :: bs => (if a then (if b then 2 else 3) else (if b then 1 else 0)) :: grayOf bs
  | _ => []

/-- A symbol's bits at a rate: PAM4 Gray-decoded, or one NRZ bit. -/
def symbolBits (pam4 : Bool) (x : Fin 4) : List Bool :=
  if pam4 then [decide (2 ≤ x.val), x == 1 || x == 2] else [x != 0]

/-- Is a pattern the repetition of a word of 16 bits, in some phase? -/
def userPhase (word : Nat) (bits : List Bool) : Bool :=
  (List.range 16).any fun k => bits.zipIdx.all fun b => b.1 == word.testBit (15 - (k + b.2) % 16)

/-- Does a lane's checker, seeded from received bits (first first), lock on them: do 64 consecutive bits follow the pattern
(R194)? -/
def prbsLocks (pattern word : Nat) (bits : List Bool) : Bool :=
  let seed := match prbsTaps pattern with | some (n, _) => n | none => 16
  let head := bits.take seed
  decide (seed + 64 ≤ bits.length) && head.contains true &&
    (prbsRun pattern 64 head.reverse).reverse == bits.take (seed + 64) && (pattern != 5 || userPhase word (bits.take (seed + 64)))

/-- The first symbols that a generator sends: of USER the word, bit 15 first; of a PRBS from a seed that is open, not all
zeros. -/
def Dev.prbsSymbols (d : Dev) (l : Nat) : List (Fin 4) :=
  let pattern := d.fget LAN_PRBS_CTRL.PATTERN l
  let word := d.fget LAN_PRBS_CTRL.USER_PATTERN l
  let bits := match prbsTaps pattern with
    | some (n, _) => (prbsRun pattern (128 - n) ((List.range n).map fun k => k == 0 || d.free.getLsbD k)).reverse
    | none => if pattern = 5 then (List.range 128).map fun k => word.testBit (15 - k % 16) else []
  if 5 ≤ d.testRate l then grayOf bits else bits.map fun b => if b then 1 else 0

/-- CHK_EN set from 0 to 1: the counters clear and the checker seeds itself (R194). -/
def Dev.checkerOn (d : Dev) (l : Nat) : Dev :=
  (((d.fset LAN_PRBS_ERR.ERRORS 0 l).fset LAN_PRBS_BITS.BITS 0 l).fset LAN_PRBS_STAT.LOCK_LOSS 0 l).fset LAN_PRBS_STAT.LOCKED 0 l

/-- The generator of a lane in test sends its pattern (R193); electrical idle sends none (R207, R248). -/
def Dev.testTx (d : Dev) (l : Nat) : Dev :=
  if d.inTest l && d.txState l == 3 then
    (d.send (.prbs l (d.testRate l) (d.fget LAN_PRBS_CTRL.PATTERN l) (d.prbsSymbols l))).used
  else d

/-- A write of LAN_PRBS_CTRL: a checker turned on starts afresh, one turned off is locked no more; the generator sends as it now
is. -/
def Dev.prbsControl (d : Dev) (l : Nat) (was : Bool) : Dev :=
  let on := d.fon LAN_PRBS_CTRL.CHK_EN l
  (if on && !was then d.checkerOn l else if on then d else d.fset LAN_PRBS_STAT.LOCKED 0 l).testTx l

/-- PRBS_CHK_ENABLE. -/
def execPrbsChkEnable (l : Fin 512) (s : State) : Result :=
  onWaitingReg (.prbsChkEnable l) s fun d => if d.fon LAN_PRBS_CTRL.CHK_EN l then d else (d.fset LAN_PRBS_CTRL.CHK_EN 1 l).checkerOn l

/-- Bits checked and errors counted since the checker last reported, while it was locked. -/
def Dev.checked (d : Dev) (l bits errors : Nat) : Dev :=
  if d.fon LAN_PRBS_STAT.LOCKED l then (d.fadd LAN_PRBS_BITS.BITS bits l).fadd LAN_PRBS_ERR.ERRORS errors l else d

/-- Does the checker of a lane run (R193)? -/
def Dev.checkerRuns (d : Dev) (l : Nat) : Bool := d.inTest l && d.fon LAN_PRBS_CTRL.CHK_EN l

/-- CHECKER_LOCK: 64 consecutive error-free bits, in the symbols `seen`, which the checker Gray-decodes at PAM4 rates (R192). A
checker that is locked reports the bits and errors `n` it has counted since. -/
def execCheckerLock (l : Fin 512) (n : Nat × Nat) (seen : List (Fin 4)) (s : State) : Result :=
  onDev s fun d =>
    let got := seen.flatMap (symbolBits (decide (5 ≤ d.testRate l)))
    if !(d.checkerRuns l) then d
    else if d.fon LAN_PRBS_STAT.LOCKED l then d.checked l n.1 n.2
    else if prbsLocks (d.fget LAN_PRBS_CTRL.PATTERN l) (d.fget LAN_PRBS_CTRL.USER_PATTERN l) got then d.fset LAN_PRBS_STAT.LOCKED 1 l
    else d

/-- CHECKER_LOCK_LOSS: more than 256 of 1,024 bits in error. -/
def execCheckerLockLoss (l : Fin 512) (bits errors : Nat) (s : State) : Result :=
  onDev s fun d =>
    if d.checkerRuns l && d.fon LAN_PRBS_STAT.LOCKED l && decide (256 < errors) then
      ((d.checked l bits errors).fset LAN_PRBS_STAT.LOCKED 0 l).fadd LAN_PRBS_STAT.LOCK_LOSS 1 l
    else d

/-- An injection in mode `m` (R195, R196): on a lane of an up port only with LIVE, which the debug lock refuses; else on a
lane in test whose generator runs. -/
def Dev.inject (d : Dev) (l m : Nat) : Dev :=
  let bits := if m = 2 ∨ m = 4 then d.fget LAN_PRBS_INJ.BURST_LEN l + 1 else 1
  let up := match d.portOfLane l with | some p => d.portUp p | none => false
  if up then
    if !(d.fon LAN_PRBS_INJ.LIVE l) then d
    else if d.fon CSP_STATUS.DEBUG_LOCK then d.fset LAN_PRBS_STAT.LIVE_REFUSED 1 l
    else d.send (.inject l bits)
  else if d.inTest l && d.txState l == 3 then d.send (.inject l bits)
  else d

/-- A write of 1 to GO: one injection in a once mode. -/
def Dev.injectGo (d : Dev) (l : Nat) : Dev :=
  let m := d.fget LAN_PRBS_INJ.MODE l
  if m = 1 ∨ m = 2 then d.inject l m else d

/-- INJECT_GO. -/
def execInjectGo (l : Fin 512) (s : State) : Result := onWaitingReg (.injectGo l) s fun d => d.injectGo l

/-- INJECT_PERIODIC: in a periodic mode, with `bits` transmitted since the last injection: one is due every 2^PERIOD_LOG2, which is 10
to 40 (R212). -/
def execInjectPeriodic (x : Fin 512 × Nat) (s : State) : Result :=
  onDev s fun d =>
    let (l, bits) := x
    let m := d.fget LAN_PRBS_INJ.MODE l
    let period := 2 ^ (min 40 (max 10 (d.fget LAN_PRBS_INJ.PERIOD_LOG2 l)))
    if (m = 3 ∨ m = 4) ∧ period ≤ bits then d.inject l m else d

/-! Fallow (R197 to R202) -/

/-- Does the fallow policy run: an up Thatchlink with FALLOW_EN that is not held FULL and announces nothing? -/
def Dev.fallowRuns (d : Dev) (p : Nat) : Bool :=
  d.portUp p && d.portMode p == 4 && d.fon LAN_FALLOW_CFG.FALLOW_EN (4 * p) && !(d.fon LAN_FALLOW_STAT.HELD (4 * p)) &&
    (d.lanePort p).notice.isNone

/-- A notice naming a width goes out in the next 16 flits (R270). -/
def Dev.sendNotice (d : Dev) (p w : Nat) : Dev := d.setLanePort p { d.lanePort p with notice := some w, count := 16 }

/-- All lanes of a shed or sleeping direction wake. -/
def Dev.wake (d : Dev) (p : Nat) (fromSleep : Bool) : Dev :=
  (d.fallow p 3).setLanePort p { d.lanePort p with fromSleep := fromSleep, notice := none }

/-- FALLOW_WINDOW_END: WINDOW swaths have passed since the last; U is the share of the window's flit slots that carried flits
(R197, R215). -/
def execFallowWindowEnd (p : Fin 128) (s : State) : Result :=
  onDev s fun d =>
    let l := 4 * (p : Nat)
    let x := d.lanePort p
    let d := (d.upTo (x.windowAt + min 1024 (max 1 (d.fget LAN_FALLOW_CFG.WINDOW l)) * 1024)).toSwath
    let st := d.fget LAN_FALLOW_STAT.STATE l
    let w := d.fget LAN_FALLOW_STAT.WIDTH l
    let low := d.fget LAN_FALLOW_CFG.LOW_PCT l
    let high := d.fget LAN_FALLOW_CFG.HIGH_PCT l
    let least := if d.fon LAN_FALLOW_CFG.MIN_WIDTH l then 8 else 4
    let d := d.setLanePort p { x with used := 0, slots := 0, windowAt := d.now }
    if !(d.fallowRuns p) then d
    else if st ≤ 1 ∧ x.used * 100 ≤ low * x.slots ∧ least * 2 ≤ w ∧ (2 * x.used * 100 < high * x.slots ∨ x.slots = 0) then
      d.sendNotice p (w / 2)
    else if st = 1 ∧ high * x.slots ≤ x.used * 100 ∧ x.slots ≠ 0 then d.wake p false
    else d

/-- FALLOW_IDLE: no flit for IDLE swaths; not while flits are unacknowledged or a NAK or CREDIT is due (R295). -/
def execFallowIdle (p : Fin 128) (s : State) : Result :=
  onDev s fun d =>
    let l := 4 * (p : Nat)
    let x := d.tlkPort p
    if d.fallowRuns p && d.fon LAN_FALLOW_CFG.SLEEP_EN l && decide (d.fget LAN_FALLOW_STAT.STATE l ≤ 1) && x.replay.isEmpty &&
        x.naks.isEmpty && x.due.isEmpty && !(d.inBuffer.any fun m => m.egress == (p : Nat)) then
      let d := d.upTo ((d.lanePort p).lastFlit + max 1 (d.fget LAN_FALLOW_CFG.IDLE l) * 1024)
      (d.setLanePort p { d.lanePort p with before := d.fget LAN_FALLOW_STAT.WIDTH l }).sendNotice p 0
    else d

/-- FALLOW_WAKE: a flit is ready in SLEEP. -/
def execFallowWake (p : Fin 128) (s : State) : Result :=
  onDev s fun d =>
    if d.portUp p && d.portMode p == 4 && d.fget LAN_FALLOW_STAT.STATE (4 * (p : Nat)) == 2 then d.wake p true else d

/-- LANES_READY: woken lanes are ready: from SLEEP traffic resumes at the width held before, else a notice announces the
configured width. -/
def execLanesReady (p : Fin 128) (s : State) : Result :=
  onDev s fun d =>
    let x := d.lanePort p
    let full := d.fget CXP_LINK_STAT.WIDTH p
    if !(d.portUp p) || d.fget LAN_FALLOW_STAT.STATE (4 * (p : Nat)) != 3 then d
    else if x.fromSleep then
      let d := d.setLanePort p { x with fromSleep := false, lastFlit := d.now }
      (d.fallow p (if x.before = full then 0 else 1)).fallowWidth p x.before
    else if x.notice.isNone then d.sendNotice p full else d

/-- The partner's direction at the width its notice names: lanes that come back adapt afresh (R188), runs of margining on shed ones
abort (R191). -/
def Dev.rxWidth (d : Dev) (p w : Nat) : Dev :=
  let was := (d.lanesOf p).filter d.rxShed
  let d := d.setLanePort p { d.lanePort p with rxWidth := if d.fget CXP_LINK_STAT.WIDTH p ≤ w then none else some w }
  (d.lanesOf p).foldl (fun d l =>
    if d.rxShed l then d.marginAbort l 2 else if was.contains l then d.fastAdapt l else d) d

/-- NOTICE_EFFECT: a notice's countdown has ended: the transmit direction changes, or (`partner`) the partner's; a change of
the partner's lanes without a notice makes the PHY enter Recovery (R270). -/
def execNoticeEffect (p : Fin 128) (partner : Bool) (s : State) : Result :=
  onDev s fun d =>
    if !(d.portUp p) || d.portMode p != 4 then d
    else if partner then
      match (d.tlkPort p).noticeRx with
      | none => d.tlkRecovery p
      | some k =>
        (d.setTlk p { d.tlkPort p with noticeRx := none }).rxWidth p (match k with | 1 => 4 | 2 => 8 | 3 => 16 | _ => 0)
    else d.noticeTakes p

/-- A direction held FULL for Ridge reservations wakes at once (R200, R201); an L0p or ASPM L1 port returns to full width and
L0 (R204). -/
def Dev.holdFull (d : Dev) (p : Nat) : Dev :=
  let x := d.lanePort p
  if d.portMode p = 4 then
    let d := d.fset LAN_FALLOW_STAT.HELD 1 (4 * p)
    let st := d.fget LAN_FALLOW_STAT.STATE (4 * p)
    let full := d.fget CXP_LINK_STAT.WIDTH p
    if !(d.portUp p) then d
    else if st = 1 then d.wake p false
    else if st = 2 then (d.setLanePort p { x with before := full }).wake p true
    else if st = 3 then d.setLanePort p { x with before := full }
    else d.setLanePort p { x with notice := none }
  else if d.portUp p then
    d.setLanePort p { x with l0p := 0, l1 := if x.l1 = 1 then 0 else x.l1 }
  else d

/-! Link power states (R203, R204) -/

/-- A CXL port enters L1: its lanes idle. -/
def Dev.enterL1 (d : Dev) (p l1 : Nat) : Dev := d.setLanePort p { d.lanePort p with l1 := l1 }

/-- Does a port of `full` lanes that runs at `cur` take L0p at `w` lanes (R203)? It narrows a step at a time, x16 to x8 to x4, never
below x4, and widens to any of these widths. -/
def l0pStep (full cur w : Nat) : Bool :=
  (w == full || w == 4 || w == 8) && decide (w ≤ full) && (2 * w == cur || decide (cur ≤ w))

/-- L0P_REQUEST: the partner of a CXL port asks for L0p or L1; refused as R203 and R204 give, with a negative response. -/
def execL0pRequest (p : Fin 128) (what : LinkPm) (s : State) : Result :=
  onDev s fun d =>
    let l := 4 * (p : Nat)
    let no := d.send (.log "link power request refused" p)
    let full := d.fget CXP_LINK_STAT.WIDTH p
    if !(d.portUp p) || d.portMode p == 4 then d
    else match what with
      | .l0p w =>
        let ok := d.fon LAN_PORT_CFG.L0P_EN l && decide (2 ≤ d.fget CXP_LINK_STAT.FLIT p) && decide (5 ≤ d.fget CXP_LINK_STAT.RATE p) &&
          l0pStep full (d.txWidth p) w && (w == full || !(d.ridgeHeld p))
        if ok then d.setLanePort p { d.lanePort p with l0p := if w = full then 0 else w } else no
      | .aspmL1 =>
        if d.portMode p == 2 && d.fon LAN_PORT_CFG.ASPM_L1_EN l && !(d.ridgeHeld p) then d.enterL1 p 1 else no
      | .pciPmL1 => d.enterL1 p 2

/-- ASPM_L1_ENTRY: an upstream port that has been idle for L1_IDLE + 1 µs enters ASPM L1, where its host enables it. -/
def execAspmL1Entry (p : Fin 128) (hostEnabled : Bool) (s : State) : Result :=
  onDev s fun d =>
    if d.portUp p && d.portMode p == 1 && d.fon LAN_PORT_CFG.ASPM_L1_EN (4 * (p : Nat)) && hostEnabled && !(d.ridgeHeld p) &&
        (d.lanePort p).l1 == 0 && !(d.inBuffer.any fun m => m.egress == (p : Nat)) then
      (d.upTo ((d.lanePort p).lastFlit + (d.fget LAN_PORT_CFG.L1_IDLE (4 * (p : Nat)) + 1) * 1000)).enterL1 p 1
    else d

/-- L1_EXIT: the port is back in L0, its lanes adapted from their stored settings (R188). -/
def execL1Exit (p : Fin 128) (s : State) : Result :=
  onDev s fun d =>
    if d.portUp p && d.inL1 p then
      ((d.lanesOf p).filter fun l => d.fon LAN_STATUS.ACTIVE l).foldl Dev.fastAdapt (d.setLanePort p { d.lanePort p with l1 := 0 })
    else d

end Sys2Proof.Machine
end

