-- ==== Sys2Proof/Machine/Lending.lean ====
section
/-! DEFINITION. Messages between two G512s: routing by PID (07_cxl_ports.md, R238 to R240), lending a device's range
(11_thatch_map.md, R380), and shared lines at the lender (12_fabric_directory.md, R432, R433). -/

namespace Sys2Proof.Machine

/-- The list with its first element that `sel` chooses changed; none where none is. -/
def changeFirst {α : Type} (sel : α → Bool) (f : α → α) : List α → Option (List α)
  | [] => none
  | x :: xs => if sel x then some (f x :: xs) else (changeFirst sel f xs).map (x :: ·)

/-- The core takes the next message of a VC out of the released flits of a Thatchlink port; none where no message is
there (R277). -/
def Dev.tlkTake (d : Dev) (p vc : Nat) : Option Dev :=
  let x := d.tlkPort p
  (changeFirst (fun (f : TlkFlit) => f.vc == vc && f.left != 0) (fun f => { f with left := f.left - 1 }) x.released).map
    fun r => d.setTlk p { x with released := r }

/-- Is the ingress hold of a Thatchlink's class full (R309)? -/
def Dev.vcFull (d : Dev) (p vc : Nat) : Bool :=
  decide (16 ≤ (d.core.holds.filter fun h => h.1 == some p && h.2.cls == vc).length)

/-- A message that keeps its place in its flit until the core admits it (R289): taken unless its class's hold is full. -/
def Dev.tlkKeeping (d : Dev) (p vc : Nat) (act : Dev → Dev) : Dev :=
  if d.portUp p && d.portMode p == 4 && !(d.vcFull p vc) then
    match d.tlkTake p vc with
    | some d => (act d).settle
    | none => d
  else d

/-- A message for this device taken from a Thatchlink: handled, its place in its flit free (R283). -/
def Dev.tlkMessage (d : Dev) (p vc : Nat) (act : Dev → Dev) : Dev :=
  if d.portUp p && d.portMode p == 4 then
    match d.tlkTake p vc with
    | some d => (act (d.tlkAdmitted p vc)).settle
    | none => d
  else d

/-! Routing by PID -/

/-- The egress port for a destination PID (R239): none where the table's entry is not valid, or the PID is that of a port of
this device that is not up, or the egress port is not up (R321). -/
def Dev.pbrEgress (d : Dev) (p dpid : Nat) : Option Nat :=
  let e := d.commits.epoch
  let own := ((d.listed .CXP_PORT_CFG).map (·.1)).any fun q =>
    d.cfgOn e CXP_PORT_CFG.PID_EN q && d.cfg e CXP_PORT_CFG.PID q == dpid && !(d.portUp q)
  let q := d.cfg e CXP_PBR_ROUTE.EGRESS p dpid
  if own || !(d.cfgOn e CXP_PBR_ROUTE.VALID p dpid) || !(d.portUp q) then none else some q

/-- A request routed by PID: in flight toward its egress port, in class `vc` from a Thatchlink. One without a route is
answered with ones and poison where it expects data, and dropped otherwise (R239). -/
def Dev.pbrRequest (d : Dev) (p : Nat) (vc : Option Nat) (dpid : Nat) (r : HostReq) (bad : Bool) : Dev :=
  let k := kindOf r.op
  let (d, t) := d.admitFlight { tag := 0, epoch := false, src := .port p, kind := k, write := k.writes, addr := r.addr, len := r.len,
                                hostTag := r.tag, data := r.data, poison := r.poison || bad, routed := true, admitted := 0,
                                extra := r.extra }
  let early := match vc with | some 0 => d.excess d.commits.epoch p | some c => c | none => 0
  let d := if vc.isSome then d.setFlight t fun f => { f with cls := early } else d
  match d.flight t with
  | none => d
  | some fl =>
    let slot := fun (d : Dev) => d.slotDone (some p) vc
    match d.pbrEgress p dpid with
    | none =>
      let d := d.send (.log "no route" dpid)
      slot (d.answer fl (if k.returnsData then .data (onesOf r.len) true else .silent))
    | some q =>
      d.queueFlight { fl with vc := vc, cls := vc.getD fl.cls } q dpid r.addr fl.msgLen (.request t)

/-- A response that arrives by PID, to a request this device sent on the port: it goes to the egress port that the table gives its
destination, and without a route it is dropped and logged (R239); one to a requester inside the device goes there. While its
own egress queue refuses it, it keeps its flit's slot. -/
def Dev.pbrResponse (d : Dev) (p : Nat) (vc : Option Nat) (dpid tag : Nat) (a : Answer) (extra : Nat) (bad : Bool) : Dev :=
  match (d.awaited p tag).map Flight.src, d.pbrEgress p dpid with
  | some (.port _), none => (d.send (.log "no route" dpid)).slotDone (some p) vc
  | some (.port _), some q => (d.setFlight tag fun f => { f with vc := vc, src := .port q }).portResponse p tag a extra bad
  | _, _ => (d.portResponse p tag a extra bad).slotDone (some p) vc

/-- A message that is neither request nor response goes on to its egress port, in its VC's class or that of the map; without a
route it is dropped and logged (R239). -/
def Dev.pbrOther (d : Dev) (p : Nat) (vc : Option Nat) (dpid : Nat) (m : PortMsg) : Dev :=
  let e := d.commits.epoch
  match d.pbrEgress p dpid with
  | none => (d.send (.log "no route" dpid)).slotDone (some p) vc
  | some q =>
    let c := vc.getD (d.classOf e ⟨66, none, .io, 3, false⟩)
    let (d, c, rsv) := if c = 0 then d.ridgeRequest e q (some p) 16 else (d, c, none)
    let _ := rsv
    d.offer { body := .routed dpid m, ingress := some p, egress := q, cls := c, flow := d.flowOf e c none (some p), chan := .io,
              len := 16, ep := e, vc := vc }

/-- A message of any kind. -/
def Dev.pbrMessage (d : Dev) (p : Nat) (vc : Option Nat) (dpid : Nat) (m : PortMsg) (errs : List PathErr) : Dev :=
  let d := d.pathErrs errs
  match m with
  | .request r => d.pbrRequest p vc dpid r (poisons errs)
  | .response tag data x extra => d.pbrResponse p vc dpid tag (.data data x) extra (poisons errs)
  | .unsupported tag => d.pbrResponse p vc dpid tag .unsupported 0 false
  | .reserved typ => (d.send (.log "reserved type" typ)).slotDone (some p) vc
  | m => d.pbrOther p vc dpid m

/-- PBR_MESSAGE: a CXL message on an inter-switch link, or on VC `vc` of a Thatchlink, with its destination PID. It waits on
the link while its hold is full (R309, R289). -/
def execPbrMessage (p : Fin 128) (vc : Fin 8) (dpid : BitVec 12) (m : PortMsg) (errs : List PathErr) (s : State) : Result :=
  onDev s fun d =>
    if !(d.portUp p) then d
    else if d.portMode p = 3 then
      if d.keptBack p m then d else (d.pbrMessage p none dpid.toNat m errs).settle
    else d.tlkKeeping p vc fun d => d.pbrMessage p (some vc) dpid.toNat m errs

/-! Lending (R379, R380) -/

/-- The borrower asks the lender for the range of its remote entry. -/
def Dev.sendLeaseCheck (d : Dev) (v : Nat) : Dev :=
  d.sendLease (d.fget TMP_DEV_CFG.PORT 0 v) 0x20
    (leBytes 1 (d.fget TMP_DEV_RANGE.PEER_DEV 0 v) ++ leBytes 1 v ++ leBytes 2 0 ++
      leBytes 4 (d.fget TMP_DEV_RANGE.BASE_GIB 0 v) ++ leBytes 4 (d.fget TMP_DEV_CFG.SIZE_GIB 0 v) ++ leBytes 4 0)

/-- LEASE_CHECK: the lender answers STATUS 0 if its entry is LENT with that range to the sender, whose chain address is
`peer`, and remembers the borrower's entry and the port. -/
def execLeaseCheck (p : Fin 128) (vc : Fin 8) (lender borrower : BitVec 8) (base size : BitVec 32) (peer : BitVec 6)
    (s : State) : Result :=
  onDev s fun d => d.tlkMessage p vc fun d =>
    let v := lender.toNat
    let ok := d.dvState v == dvLent && d.fget TMP_DEV_RANGE.BASE_GIB 0 v == base.toNat &&
      d.fget TMP_DEV_CFG.SIZE_GIB 0 v == size.toNat && d.fget TMP_DEV_RANGE.PEER 0 v == peer.toNat
    let d := if ok then
        { d with thatch := { d.thatch with lentTo := Tab.set d.thatch.lentTo v (borrower.toNat, (p : Nat)) } }
      else d
    d.sendLease p 0x21 (leaseBody v borrower.toNat (!ok).toNat)

/-- The frames of an ACTIVE device join the free lists of its tier, unzeroed (R379). -/
def Dev.joinFrames (d : Dev) (v : Nat) : Dev :=
  let d := { d with thatch := { d.thatch with leaseOpen := d.thatch.leaseOpen.filter (· != v) } }
  d.fadd TMP_TIER_STAT.FREE_GIB (d.fget TMP_DEV_CFG.SIZE_GIB 0 v) 0 (d.fget TMP_DEV_CFG.TIER 0 v)

/-- LEASE_ACK: STATUS 0 lets the remote device's frames join; another STATUS makes it LOST. -/
def execLeaseAck (p : Fin 128) (vc : Fin 8) (lender borrower : BitVec 8) (status : BitVec 8) (s : State) : Result :=
  onDev s fun d => d.tlkMessage p vc fun d =>
    let v := borrower.toNat
    if d.thatch.leaseOpen.contains v ∧ d.fget TMP_DEV_RANGE.PEER_DEV 0 v = lender.toNat ∧ d.fget TMP_DEV_CFG.PORT 0 v = p then
      if status = 0 then d.joinFrames v else d.lose v 1
    else d

/-- LEASE_CHECK_REPEAT: an unanswered LEASE_CHECK of remote device `v` is sent again. -/
def execLeaseCheckRepeat (v : Fin 256) (s : State) : Result :=
  onDev s fun d => if d.thatch.leaseOpen.contains (v : Nat) then d.sendLeaseCheck v else d

/-- DEV_LOST: the borrower's device that the lender's entry names becomes LOST; it is acknowledged. -/
def execDevLost (p : Fin 128) (vc : Fin 8) (lender borrower cause : BitVec 8) (s : State) : Result :=
  onDev s fun d => d.tlkMessage p vc fun d =>
    let v := borrower.toNat
    let mine := d.fon TMP_DEV_CFG.REMOTE 0 v && d.fget TMP_DEV_RANGE.PEER_DEV 0 v == lender.toNat &&
      d.fget TMP_DEV_CFG.PORT 0 v == (p : Nat)
    (if mine then d.lose v 3 else d).sendLease p 0x23 (leaseBody lender.toNat v cause.toNat)

/-- DEV_LOST_ACK: the lender stops repeating. -/
def execDevLostAck (p : Fin 128) (vc : Fin 8) (lender borrower cause : BitVec 8) (s : State) : Result :=
  onDev s fun d => d.tlkMessage p vc fun d =>
    let told := d.thatch.lentTo.any fun e => e.1 == lender.toNat && e.2 == (borrower.toNat, (p : Nat))
    if told ∧ Tab.get 0 d.thatch.devLost lender.toNat = cause.toNat then
      { d with thatch := { d.thatch with devLost := Tab.erase d.thatch.devLost lender.toNat } }
    else d

/-- DEV_LOST_REPEAT: an unacknowledged DEV_LOST of entry `v` is sent again. -/
def execDevLostRepeat (v : Fin 256) (s : State) : Result :=
  onDev s fun d =>
    match d.thatch.devLost.find? fun e => e.1 == (v : Nat) with
    | some (_, cause) => d.sendDevLost v cause
    | none => d

/-! The lender's accesses (R433) -/

/-- STATUS that stops a DREAD or DWRITE (R432, R433): 3 not lent to the sender, as a line outside the entry's range is (R379), 1
lost, 2 expired. -/
def Dev.lenderStatus (d : Dev) (p dl db dpa expiry : Nat) : Nat :=
  let told := d.thatch.lentTo.any fun e => e.1 == dl && e.2 == (db, p)
  let base := d.fget TMP_DEV_RANGE.BASE_GIB 0 dl
  if !told ∨ dpa / 2 ^ 30 < base ∨ base + d.fget TMP_DEV_CFG.SIZE_GIB 0 dl ≤ dpa / 2 ^ 30 then 3
  else if d.dvState dl = dvLost then 1
  else if d.dvState dl ≠ dvLent then 3
  else
    let past := (d.now % 2 ^ 32 + 2 ^ 32 - expiry) % 2 ^ 32
    if 1 ≤ past ∧ past < 2 ^ 31 then 2 else 0

/-- A DREAD or DWRITE at the lender: refused with its STATUS, or performed after the earlier ones of its line from that
port. It keeps its flit's slot until its access is admitted (R289). -/
def Dev.lenderAccess (d : Dev) (p vc tag dl db dpa expiry : Nat) (write : Option (Nat × Bool)) : Dev :=
  let st := d.lenderStatus p dl db dpa expiry
  if st ≠ 0 then (d.slotDone (some p) (some vc)).lenderReply p vc tag dl db dpa st write.isSome
  else
    let (v, x) := write.getD (0, false)
    let (d, t) := d.launch { tag := 0, epoch := d.commits.epoch, src := .lender p tag dl db,
                             kind := if write.isSome then .writeU else .readU, write := write.isSome, addr := dpa, data := v,
                             poison := x, admitted := d.now, phase := .behind, cls := vc, vc := some vc }
    match d.flight t with
    | some fl => if d.behindDone fl then d.lenderGo t else d
    | none => d

/-- DREAD. -/
def execDread (p : Fin 128) (vc : Fin 8) (tag : BitVec 16) (lender borrower : BitVec 8) (dpa : BitVec 48) (expiry : BitVec 32)
    (s : State) : Result :=
  onDev s fun d => d.tlkKeeping p vc fun d =>
    d.lenderAccess p vc tag.toNat lender.toNat borrower.toNat dpa.toNat expiry.toNat none

/-- DWRITE. -/
def execDwrite (p : Fin 128) (vc : Fin 8) (tag : BitVec 16) (lender borrower : BitVec 8) (dpa : BitVec 48) (expiry : BitVec 32)
    (data : BitVec 512) (poison : Bool) (s : State) : Result :=
  onDev s fun d => d.tlkKeeping p vc fun d =>
    d.lenderAccess p vc tag.toNat lender.toNat borrower.toNat dpa.toNat expiry.toNat (some (data.toNat, poison))

/-- LENDER_DEVICE_DONE: the lent device completes access `tag`: DDATA or DDONE goes to the borrower, and the next held
message of that line proceeds. -/
def execLenderDeviceDone (tag : Nat) (data : BitVec 512) (poison : Bool) (s : State) : Result :=
  onDev s fun d =>
    match d.core.flights.find? fun f => f.tag == tag && f.phase == .sent with
    | some fl =>
      match fl.src with
      | .lender _ _ _ _ => (d.lenderAnswer fl 0 (some (data.toNat, poison))).settle
      | _ => d
    | none => d

/-- The borrower's request that a DDATA or DDONE answers: sent on that port, with its tag, device and DPA. -/
def Dev.borrowed (d : Dev) (p tag db dpa : Nat) (write : Bool) : Option Flight :=
  d.core.flights.find? fun f =>
    f.tag % 65536 == tag && f.egress == p && f.phase == .sent && f.answer.isNone && f.ld == db && f.dpa == dpa && f.kind.writes == write

/-- DDATA: line data, or all ones with poison where STATUS is not 0. A response to a request already completed is discarded
and logged (R294). -/
def execDdata (p : Fin 128) (vc : Fin 8) (tag : BitVec 16) (lender borrower : BitVec 8) (dpa : BitVec 48) (status : BitVec 8)
    (data : BitVec 512) (poison : Bool) (s : State) : Result :=
  onDev s fun d => d.tlkMessage p vc fun d =>
    match d.borrowed p tag.toNat borrower.toNat dpa.toNat false with
    | some fl =>
      if d.fget TMP_DEV_RANGE.PEER_DEV 0 borrower.toNat ≠ lender.toNat then d.send (.log "response discarded" tag.toNat)
      else (d.answer fl (if status = 0 then .data data.toNat poison else .data onesLine true)).dirSettle
    | none => (d.orphanAnswer p (fun t => t % 65536 == tag.toNat) true).send (.log "response discarded" tag.toNat)

/-- DDONE: a write complete; one with a STATUS other than 0 is a write that met a lost placement (R378, R432). -/
def execDdone (p : Fin 128) (vc : Fin 8) (tag : BitVec 16) (lender borrower : BitVec 8) (dpa : BitVec 48) (status : BitVec 8)
    (s : State) : Result :=
  onDev s fun d => d.tlkMessage p vc fun d =>
    match d.borrowed p tag.toNat borrower.toNat dpa.toNat true with
    | some fl =>
      if d.fget TMP_DEV_RANGE.PEER_DEV 0 borrower.toNat ≠ lender.toNat then d.send (.log "response discarded" tag.toNat)
      else (((if status = 0 then d else d.lostWrite fl.addr).answer fl .done)).dirSettle
    | none => d.send (.log "response discarded" tag.toNat)

end Sys2Proof.Machine
end

