-- ==== Sys2Proof/Machine/Migrate.lean ====
section
/-! DEFINITION. Splitting, gathering, tiering, migrating and draining swards, and zero-fill (11_thatch_map.md, R382 to R393,
R401; MIGRATE jobs, R461). -/

namespace Sys2Proof.Machine

/-! TMP_CMD (R401) -/

/-- TMP_CMD done with a RESULT: 0 OK, 1 NOSLOT, 2 NOSPACE, 3 BUSY, 4 BADSTATE, 5 PARTIAL. -/
def Dev.cmdDone (d : Dev) (r : Nat) : Dev := (d.fset TMP_CMD_STAT.STATE 2).fset TMP_CMD_STAT.RESULT r

/-- TMP_CMD written with GO: ignored while a command runs; OP 0, 5, 6 and 7 complete at once with BADSTATE. -/
def Dev.tmpCmd (d : Dev) (v : Word) : Dev :=
  if d.fget TMP_CMD_STAT.STATE = 1 then d
  else
    let d := d.wr ⟨.TMP_CMD, 0, 0⟩ (v &&& (mask 0 3 ||| mask 4 26 ||| mask 32 8))
    let op := d.fget TMP_CMD.OP
    if op = 0 ∨ 5 ≤ op then d.cmdDone 4 else (d.fset TMP_CMD_STAT.STATE 1).fset TMP_CMD_STAT.RESULT 0

/-- The word of TMP_CMD for an operation. -/
def tmpCmdWord (op field sward dev : Nat) : Word :=
  putBits (putBits (putBits (putBits 0 0 3 op) 4 17 field) 21 9 sward) 32 8 dev

/-- SPLIT. -/
def execSplit (field : BitVec 17) (s : State) : Result := onWaitingReg (.split field) s fun d => d.tmpCmd (tmpCmdWord 1 field.toNat 0 0)

/-- GATHER. -/
def execGather (field : BitVec 17) (dev : BitVec 8) (s : State) : Result :=
  onWaitingReg (.gather field dev) s fun d => d.tmpCmd (tmpCmdWord 2 field.toNat 0 dev.toNat)

/-- REPLACE. -/
def execReplace (field : BitVec 17) (sward : BitVec 9) (s : State) : Result :=
  onWaitingReg (.replace field sward) s fun d => d.tmpCmd (tmpCmdWord 3 field.toNat sward.toNat 0)

/-- ABORT. -/
def execAbort (field : BitVec 17) (sward : BitVec 9) (s : State) : Result :=
  onWaitingReg (.abort field sward) s fun d => d.tmpCmd (tmpCmdWord 4 field.toNat sward.toNat 0)

/-- Does a pending commit write a field (R41)? -/
def Dev.fieldPending (d : Dev) (f : Nat) : Bool := d.pendingFields.contains f

/-- The sward entry of sward `s` of a field. -/
def Dev.entryOf (d : Dev) (f s : Nat) : Nat := d.fget TMP_FIELD0.SLOT f * 512 + s

/-- Is a sward LOST, by its entry or with its device (R376, R393), or unused? -/
def Dev.swardGone (d : Dev) (w : Nat) : Bool :=
  decide (d.fget TMP_SWARD.STATE w < swPlaced) || d.dvState (d.fget TMP_SWARD.DEV w) == dvLost

/-- A frame taken as the target of a gather: CARVED, its sward frames kept for it (R385). -/
def Dev.takeTarget (d : Dev) (v fr : Nat) : Dev := (d.setFrame v fr .carved).dropSFrames v fr

/-- GATHER acts: a frame of the device taken, and the swards to move, in order (R385). -/
def Dev.gatherStart (d : Dev) (f v : Nat) : Dev :=
  match d.zeroedFrame v with
  | none => d.cmdDone 2
  | some fr =>
    let gone := fun s => d.swardGone (d.entryOf f s)
    let g : Gather := ⟨f, v, fr, (List.range 512).filter fun s => !(gone s), (List.range 512).any gone⟩
    let d := d.takeTarget v fr
    if g.todo = [] then d.gatherPartial g else { d with thatch := { d.thatch with gather := some g } }

/-- REPLACE acts: a LOST sward gets a zeroed sward frame of the field's home tier (R393). -/
def Dev.replaceAct (d : Dev) (f w : Nat) : Dev :=
  match d.takeSFrame (d.fget TMP_FIELD1.TIER f) true with
  | none => d.cmdDone 2
  | some (d, v, b) =>
    ((d.wr ⟨.TMP_SWARD, w, 0⟩ (putBits (putBits (putBits 0 0 2 swPlaced) 8 8 v) 16 33 b)).placed v 1).cmdDone 0

/-- The command taken acts, at a swath boundary. -/
def Dev.tmpAct (d : Dev) : Dev :=
  let op := d.fget TMP_CMD.OP
  let f := d.fget TMP_CMD.FIELD
  let w := d.entryOf f (d.fget TMP_CMD.SWARD)
  let v := d.fget TMP_CMD.DEV
  let st := if d.fmode f = fSplit then d.fget TMP_SWARD.STATE w else 0
  let ending := d.fget TMP_FIELD1.PHASE f = 2
  if op = 1 then
    if d.fmode f ≠ fWhole ∨ ending then d.cmdDone 4
    else if d.fieldPending f then d.cmdDone 3
    else match d.splitField f with
      | (d, true) => d.cmdDone 0
      | (d, false) => d.cmdDone 1
  else if op = 2 then
    if d.fmode f ≠ fSplit ∨ ending ∨ d.dvState v ≠ dvActive then d.cmdDone 4
    else if d.fieldPending f then d.cmdDone 3
    else d.gatherStart f v
  else if op = 3 then
    if st ≠ swLost ∨ ending then d.cmdDone 4
    else if d.fieldPending f then d.cmdDone 3
    else d.replaceAct f w
  else
    match d.migrationOf w with
    | some (k, _) => if st = swMigrating then ((d.abortMigration k 5).cmdDone 0).settle else d.cmdDone 4
    | none => d.cmdDone 4

/-- TMP_CMD_ACT: the command taken acts at the next swath boundary; a GATHER that is moving goes on. -/
def execTmpCmdAct (s : State) : Result :=
  onDev s fun d =>
    if d.fget TMP_CMD_STAT.STATE ≠ 1 ∨ d.thatch.gather.isSome then d else d.toSwath.tmpAct

/-! Splitting and merging at a boundary (R384, R385) -/

/-- The lowest-numbered WHOLE field on a device that no pending commit writes (R392). -/
def Dev.drainFront (d : Dev) (v : Nat) : Option Nat :=
  (rising ((d.listed .TMP_FIELD0).map (·.1))).find? fun f =>
    d.fmode f == fWhole && d.fget TMP_FIELD0.DEV f == v && !(d.fieldPending f) && d.fget TMP_FIELD1.PHASE f != 2

/-- Is the field the WHOLE field that a DRAINING device, which does not wait for room, takes next (R392)? -/
def Dev.drainsWhole (d : Dev) (f : Nat) : Bool :=
  d.fmode f == fWhole && d.dvState (d.fget TMP_FIELD0.DEV f) == dvDraining &&
    !(d.fon TMP_DEV_STAT.NOSPACE 0 (d.fget TMP_FIELD0.DEV f)) && d.drainFront (d.fget TMP_FIELD0.DEV f) == some f

/-- After a drain's split: a FREE zeroed frame of the tier on another device, taken to gather the field into (R392). -/
def Dev.drainTarget (d : Dev) (f v : Nat) : Dev :=
  let t := d.fget TMP_DEV_CFG.TIER 0 v
  if !(d.aboveReserve t) then d
  else match d.takeFrame t (fun x => x == v) with
    | none => d
    | some (x, fr) =>
      let d := (d.takeTarget x fr).usedDev t x
      { d with thatch := { d.thatch with drainInto := Tab.set d.thatch.drainInto f (x, fr) } }

/-- FIELD_SPLIT: a field that COUNT or a drain has marked splits at the next swath boundary. -/
def execFieldSplit (field : BitVec 17) (s : State) : Result :=
  onDev s fun d =>
    let f := field.toNat
    let drains := d.drainsWhole f
    let v := d.fget TMP_FIELD0.DEV f
    if !(d.thatch.splitting.contains f || drains) || d.fieldPending f then d
    else
      let d := d.toSwath
      let d := { d with thatch := { d.thatch with splitting := d.thatch.splitting.filter (· != f) } }
      if d.fmode f ≠ fWhole ∨ d.fget TMP_FIELD1.PHASE f = 2 then d
      else match d.splitField f with
        | (d, true) => if drains then d.drainTarget f v else d
        | (d, false) => if drains then d.fset TMP_DEV_STAT.NOSPACE 1 0 v else d

/-- FIELD_MERGE: a field whose swards fill one frame merges, with AUTO_MERGE or after a drain brought them together. -/
def execFieldMerge (field : BitVec 17) (s : State) : Result :=
  onDev s fun d =>
    let f := field.toNat
    let drained := d.thatch.drainInto.any fun e => e.1 == f
    if (d.mergeable f).isNone || d.fieldPending f || d.fon TMP_FIELD0.MIGRATING f || d.fget TMP_FIELD1.PHASE f == 2 ||
        !(d.fon TMP_ALLOC_CFG.AUTO_MERGE || drained) then d
    else
      let d := d.toSwath.mergeField f
      { d with thatch := { d.thatch with drainInto := Tab.erase d.thatch.drainInto f } }

/-! Halving (R386, R387) -/

/-- Is a tier due at the course of NOW: HALVE_COURSES below 2 acts as 2? -/
def Dev.tierDue (d : Dev) (t : Nat) : Bool := d.course % max 2 (d.fget TMP_TIER_CFG.HALVE_COURSES 0 t) == 0

/-- The pass at one field: its counter, or those of its swards, halved where their tier is due; a sward left at or below
DEMOTE becomes a candidate for demotion. -/
def Dev.halveField (due : Nat → Bool) (d : Dev) (f : Nat) : Dev :=
  if d.fmode f = fWhole then
    if due (d.fget TMP_DEV_CFG.TIER 0 (d.fget TMP_FIELD0.DEV f)) then
      d.fset TMP_FIELD1.COUNT (d.fget TMP_FIELD1.COUNT f / 2) f else d
  else if d.fmode f = fSplit then
    (List.range 512).foldl (fun d s =>
      let w := d.entryOf f s
      let t := d.fget TMP_DEV_CFG.TIER 0 (d.fget TMP_SWARD.DEV w)
      if d.fget TMP_SWARD.STATE w < swPlaced ∨ !(due t) then d
      else
        let c := d.fget TMP_SWARD.COUNT w / 2
        let d := d.fset TMP_SWARD.COUNT c w
        if c ≤ d.fget TMP_TIER_CFG.DEMOTE 0 t ∧ t < d.fget TMP_FIELD1.TIER f ∧ !(d.fon TMP_FIELD1.PIN f) then
          d.candidate ⟨f, s, false⟩ else d) d
  else d

/-- HALVING_PASS: the pass of a course boundary at which a tier is due, over every counter (assumption 22). -/
def execHalvingPass (s : State) : Result :=
  onDev s fun d =>
    let d := d.toCourse
    let due := fun t => d.tierDue t
    (rising ((d.listed .TMP_FIELD0).map (·.1))).foldl (Dev.halveField due) d

/-! Starting a migration (R388, R389) -/

/-- The lowest migration slot that is free; none when 64 run. -/
def Dev.migrSlot (d : Dev) : Option Nat := (List.range 64).find? fun k => !(d.thatch.migrations.any fun e => e.1 == k)

/-- Step 1 of R389: the sward MIGRATING, a slot and a mover taken, the bitmap cleared: all 32,768 lines are to be copied. -/
def Dev.migrBegin (d : Dev) (k mover f s dstDev dst : Nat) (why : MigrWhy) : Dev :=
  let w := d.entryOf f s
  let m : Migration :=
    { entry := w, field := f, srcDev := d.fget TMP_SWARD.DEV w, src := d.fget TMP_SWARD.FRAME2M w, dstDev := dstDev, dst := dst,
      left := 32768, stallAt := none, why := why, mover := mover }
  let d := d.fset TMP_SWARD.STATE swMigrating w
  let d := { d with thatch := { d.thatch with migrations := Tab.set d.thatch.migrations k m } }
  let d := (d.fset TMP_MIGR_SLOT.STATE 1 0 k).fset TMP_MIGR_SLOT.FIELD f 0 k
  let d := (d.fset TMP_MIGR_SLOT.SWARD s 0 k).fset TMP_MIGR_SLOT.PASS 1 0 k
  ((d.fset TMP_MIGR_SLOT.TARGET_DEV dstDev 0 k).fadd TMP_MIGR_STAT0.ACTIVE 1).fieldMigrating f

/-- The front candidate put at the back, or dropped. -/
def Dev.nextCandidate (d : Dev) (keep : Bool) : Dev :=
  match d.thatch.candidates with
  | [] => d
  | c :: cs => { d with thatch := { d.thatch with candidates := if keep then cs ++ [c] else cs } }

/-- Tiering starts its front candidate (R388). -/
def Dev.startTier (d : Dev) (k mover : Nat) : Dev :=
  match d.thatch.candidates with
  | [] => d
  | c :: _ =>
    if d.fget TMP_MIGR_CFG.TIER_MAX ≤ (d.thatch.migrations.filter fun e => e.2.why == .tier).length then d
    else
      let w := d.entryOf c.field c.sward
      let t := d.fget TMP_DEV_CFG.TIER 0 (d.fget TMP_SWARD.DEV w)
      let home := d.fget TMP_FIELD1.TIER c.field
      let tier := if c.promote then t - 1 else t + 1
      if d.fmode c.field ≠ fSplit ∨ d.fget TMP_SWARD.STATE w ≠ swPlaced ∨ d.swardGone w ∨ d.fon TMP_FIELD1.PIN c.field ∨
          d.fget TMP_FIELD1.PHASE c.field = 2 ∨
          (c.promote ∧ t = 0) ∨ (!c.promote ∧ home < tier) then d.nextCandidate false
      else if d.fieldPending c.field then d.nextCandidate true
      else match d.takeSFrame tier true with
        | none => d.nextCandidate true
        | some (d, v, b) => (d.nextCandidate false).migrBegin k mover c.field c.sward v b .tier

/-- The GATHER starts its next sward: the first left that is PLACED; none while a pending commit writes the field (R41). -/
def Dev.startGather (d : Dev) (k mover : Nat) : Dev :=
  match d.thatch.gather with
  | none => d
  | some g =>
    if d.fieldPending g.field then d else
    let gone := fun s => d.swardGone (d.entryOf g.field s)
    match g.todo.find? fun s => d.fget TMP_SWARD.STATE (d.entryOf g.field s) == swPlaced && !(gone s) with
    | some s => d.migrBegin k mover g.field s g.dev (g.frame * 512 + s) .gather
    | none =>
      if !(g.todo.any gone) then d
      else
        let g := { g with todo := g.todo.filter fun s => !(gone s), cut := true }
        if g.todo = [] then d.gatherPartial g else { d with thatch := { d.thatch with gather := some g } }

/-- The tiers a drain looks on: the same, then each slower, then each faster (R392). -/
def drainTiers (t : Nat) : List Nat := [t] ++ (List.range 4).filter (fun x => decide (t < x)) ++ ((List.range t).reverse)

/-- A zeroed sward frame on the first of some tiers that has one. -/
def Dev.takeOnTiers (d : Dev) : List Nat → Option (Dev × Nat × Nat)
  | [] => none
  | t :: ts => match d.takeSFrame t true with
    | some x => some x
    | none => d.takeOnTiers ts

/-- A sward on a draining device, in order of field number: field and sward. -/
def Dev.drainNext (d : Dev) (v : Nat) : Option (Nat × Nat) :=
  let ps := d.pendingFields
  (rising ((d.listed .TMP_FIELD0).map (·.1))).findSome? fun f =>
    if d.fmode f ≠ fSplit ∨ ps.contains f ∨ d.fget TMP_FIELD1.PHASE f = 2 then none
    else ((List.range 512).find? fun s =>
      d.fget TMP_SWARD.STATE (d.entryOf f s) == swPlaced && d.fget TMP_SWARD.DEV (d.entryOf f s) == v).map fun s => (f, s)

/-- A drain starts its next sward: into the frame its field gathers in, else wherever a tier has room (R392). -/
def Dev.startDrain (d : Dev) (k mover v : Nat) : Dev :=
  if d.dvState v ≠ dvDraining ∨ d.fon TMP_DEV_STAT.NOSPACE 0 v then d
  else match d.drainNext v with
    | none => d
    | some (f, s) =>
      let spot := match d.thatch.drainInto.find? fun e => e.1 == f with
        | some (_, x, fr) => if d.sframe x (fr * 512 + s) = .inUse ∧ d.frame x fr = .carved then some (x, fr * 512 + s) else none
        | none => none
      match spot with
      | some (x, b) => d.migrBegin k mover f s x b .drain
      | none =>
        match d.takeOnTiers (drainTiers (d.fget TMP_DEV_CFG.TIER 0 v)) with
        | some (d, x, b) => d.migrBegin k mover f s x b .drain
        | none => d.fset TMP_DEV_STAT.NOSPACE 1 0 v

/-- A zeroed sward frame of a named device: a free one of a CARVED frame, else the first of a frame carved for it (R461). -/
def Dev.takeOnDevice (d : Dev) (v : Nat) : Option (Dev × Nat × Nat) :=
  if d.dvState v ≠ dvActive then none
  else match d.thatch.sframes.find? fun e => e.2 == .zeroed && e.1 / 2 ^ 33 == v with
    | some e => some (d.setSFrame v (e.1 % 2 ^ 33) .inUse, v, e.1 % 2 ^ 33)
    | none => match d.zeroedFrame v with
      | some fr => some ((d.carve v fr).setSFrame v (fr * 512) .inUse, v, fr * 512)
      | none => none

/-- A MIGRATE job runs: its field split first if it is WHOLE; BADSTATE and NOTARGET end it, a sward that is already there
completes it, and one that is MIGRATING makes it wait (R456, R461). -/
def Dev.startJob (d : Dev) (k mover id : Nat) : Dev :=
  match d.work id with
  | none => d
  | some x =>
    let tgt := dTarget x.raw
    let f := tgt % 2 ^ 17
    let s := tgt / 2 ^ 17 % 512
    let byTier := (tgt / 2 ^ 26) % 2 = 1
    let dest := tgt / 2 ^ 27 % 256
    if x.state ≠ .migrate ∨ d.thatch.migrations.any (fun e => e.2.why == .job id) then d
    else if d.fmode f < fWhole ∨ d.fieldPending f ∨ d.fget TMP_FIELD1.PHASE f = 2 then d.workEnd id 0xB 0
    else
      let (d, ok) := if d.fmode f = fWhole then d.splitField f else (d, true)
      let w := d.entryOf f s
      let st := d.fget TMP_SWARD.STATE w
      let v := d.fget TMP_SWARD.DEV w
      if !ok then d.workEnd id 0xA 0
      else if d.swardGone w then d.workEnd id 0xB 0
      else if st = swMigrating then d
      else if (if byTier then d.fget TMP_DEV_CFG.TIER 0 v == dest else v == dest) then d.workEnd id 0 0
      else match (if byTier then d.takeSFrame dest true else d.takeOnDevice dest) with
        | none => d.workEnd id 0xA 0
        | some (d, x, b) => d.migrBegin k mover f s x b (.job id)

/-- MIGRATION_START: at a swath boundary, while fewer than 64 run and the device is not in the fault state. -/
def execMigrationStart (why : MigrFor) (s : State) : Result :=
  onDev s fun d =>
    match d.migrSlot, d.bestMover with
    | some k, some m =>
      if d.inFault then d
      else match why with
        | .tier => d.toSwath.startTier k m
        | .gather => d.toSwath.startGather k m
        | .drain v => d.toSwath.startDrain k m v
        | .job id => d.toSwath.startJob k m id
    | _, _ => d

/-! Copying, the stall, the switch (R389, R390) -/

/-- The first line from `i` on, among `n`, whose bit is 0. -/
def nextLine (bits : Nat) : (n i : Nat) → Option Nat
  | 0, _ => none
  | n + 1, i => if bits.testBit i then nextLine bits n (i + 1) else some i

/-- Is a write to a line outstanding (R389, step 2)? -/
def Dev.writeOpen (d : Dev) (pool : Nat) : Bool :=
  d.core.flights.any fun f => f.kind.writes && f.addr / 64 == pool / 64 && (f.phase == .queued || f.phase == .sent) && f.answer.isNone &&
    match f.src with | .copy _ _ _ | .fill _ _ _ => false | _ => !f.routed

/-- The pool address of a line of a sward that migrates. -/
def Migration.lineAddr (m : Migration) (i : Nat) : Nat := m.field * 2 ^ 30 + m.entry % 512 * 2 ^ 21 + 64 * i

/-- An access of maintenance work put in flight, with the epoch in force (R46), toward a place on a device. -/
def Dev.launchMaint (d : Dev) (fl : Flight) (v dpa : Nat) : Dev :=
  let (d, t) := d.launch { fl with epoch := d.commits.epoch, admitted := d.now }
  match d.flight t with
  | some fl => d.toDevice fl v (d.cfg fl.epoch TMP_DEV_RANGE.BASE_GIB 0 v * 2 ^ 30 + dpa)
  | none => d

/-- The copy of a migration goes on with the next line of its pass whose bit is 0: the bit is set and the line read, once no
write to it is outstanding. A copy in its stall also does again a line whose access failed; in the fault state only such a copy
goes on (R391). Nothing is copied over a port that is not up. -/
def Dev.copyAdmit (d : Dev) (k : Nat) : Dev :=
  match d.migr k with
  | none => d
  | some m =>
    let st := d.fget TMP_MIGR_SLOT.STATE 0 k
    let up := fun v => d.portUp (d.fget TMP_DEV_CFG.PORT 0 v)
    let ahead := nextLine m.bits (32768 - m.scan) m.scan
    if (st ≠ 2 ∧ (st ≠ 1 ∨ d.inFault ∨ m.stallAt.isSome)) ∨ !(d.moverOn m.mover) ∨ !(up m.srcDev && up m.dstDev) then d
    else match (if st = 2 ∧ ahead.isNone then nextLine m.bits 32768 0 else ahead) with
      | none => d.setMigr k { m with scan := 32768 }
      | some i =>
        if d.writeOpen (m.lineAddr i) then d
        else
          (d.setMigr k { m.mark i true with scan := i + 1 }).launchMaint
            { tag := 0, epoch := false, src := .copy m.mover k i, kind := .readU, write := false, addr := m.lineAddr i, admitted := 0 }
            m.srcDev (m.src * 2 ^ 21 + 64 * i)

/-- A line of a copy read is written to the target with its poison; one written counts for its mover. -/
def Dev.copyComplete (d : Dev) (k i : Nat) : Dev :=
  match d.migr k, (d.copyFlights k).find? fun f => (match f.src with | .copy _ _ l => l == i | _ => false) && f.answer.isSome with
  | some m, some f =>
    let mover := match f.src with | .copy x _ _ => x | _ => 0
    let (v, x) := f.answer.getD (onesLine, true)
    let d := d.dropFlight f.tag
    if f.write then d.finc DMV_BYTES.BYTES 64 mover
    else
      let (d, t) := d.launch { tag := 0, epoch := f.epoch, src := .copy mover k i, kind := .writeU, write := true, addr := m.lineAddr i,
                               data := v, poison := x, admitted := d.now }
      match d.flight t with
      | some fl => d.toDevice fl m.dstDev (d.cfg fl.epoch TMP_DEV_RANGE.BASE_GIB 0 m.dstDev * 2 ^ 30 + m.dst * 2 ^ 21 + 64 * i)
      | none => d
  | _, _ => d

/-- An access of a copy or a zero-fill unanswered for 32 µs is given up, and its line or chunk done again. -/
def Dev.maintTimeout (d : Dev) (fs : List Flight) : Dev :=
  match fs.filter fun f => f.answer.isNone with
  | [] => d
  | f0 :: fs =>
    let d := d.upTo (f0.admitted + 32000)
    ((f0 :: fs).filter fun x => decide (x.admitted + 32000 ≤ d.now)).foldl (fun d x =>
      let m := match x.src with | .copy m _ _ | .fill m _ _ => m | _ => 0
      (d.fadd DMV_ERR.TIMEOUTS 1 m).endRequest x 7) d

/-- A word of the line-copied bitmap that reads uncorrectable counts as 128 zero bits (R531). -/
def Migration.wordLost (m : Migration) (n : Nat) : Migration :=
  (List.range 128).foldl (fun (m : Migration) i => m.mark (128 * n + i) false) m

/-- The line-copied bitmap read: with `bad` word `n` of it, at word `w` of the staging region, is uncorrectable (R531). -/
def Dev.bitmapRead (d : Dev) (m : Migration) (bad : Option (Fin 256 × BitVec 20)) : Dev × Migration :=
  match bad with
  | some (n, w) => (d.wordRead (d.bankOf (222 + w.toNat / 65536)) (w.toNat % 65536) .uncorrectable false, m.wordLost n)
  | none => (d, m)

/-- COPY_PASS_END: the pass has looked at every line and its copies are done; it leaves the lines with bit 0: the stall follows,
or another pass, or the abort. A migration that the fault state pauses ends no pass (R391). With `bad` a word of the bitmap, at a
word of the staging region, reads uncorrectable. -/
def execCopyPassEnd (k : Fin 64) (bad : Option (Fin 256 × BitVec 20)) (s : State) : Result :=
  onDev s fun d =>
    match d.migr k with
    | none => d
    | some m =>
      if d.fget TMP_MIGR_SLOT.STATE 0 k ≠ 1 ∨ d.inFault ∨ m.stallAt.isSome ∨ m.scan ≠ 32768 ∨ d.copyFlights k ≠ [] then d
      else
        let (d, m) := d.bitmapRead m bad
        let d := (d.fset TMP_MIGR_SLOT.DIRTY m.left 0 k).setMigr k { m with scan := 0 }
        if m.left ≤ max 1 (d.fget TMP_MIGR_CFG.STALL_LINES) then
          d.setMigr k { m with scan := 0, stallAt := some (nextMultiple d.now 1024) }
        else if max 1 (d.fget TMP_MIGR_CFG.MAX_PASSES) ≤ d.fget TMP_MIGR_SLOT.PASS 0 k then (d.abortMigration k 2).settle
        else d.finc TMP_MIGR_SLOT.PASS 1 0 k

/-- MIGRATION_STALL: at boundary B new requests to the sward are held; where the fault state paused the migration over it, at the
next boundary (R391). -/
def execMigrationStall (k : Fin 64) (s : State) : Result :=
  onDev s fun d =>
    match d.migr k with
    | none => d
    | some m =>
      match m.stallAt with
      | some b =>
        if d.fget TMP_MIGR_SLOT.STATE 0 k ≠ 1 ∨ d.inFault then d
        else if d.now ≤ b then (d.upTo b).fset TMP_MIGR_SLOT.STATE 2 0 k
        else
          let d := d.toSwath
          (d.setMigr k { m with stallAt := some d.now }).fset TMP_MIGR_SLOT.STATE 2 0 k
      | none => d

/-- The placement switches to the target: the source waits for zero-fill (R389, step 6). -/
def Dev.migrSwitch (d : Dev) (k : Nat) (m : Migration) : Dev :=
  let d := (d.fset TMP_SWARD.STATE swPlaced m.entry).fset TMP_SWARD.DEV m.dstDev m.entry
  let d := ((d.fset TMP_SWARD.FRAME2M m.dst m.entry).placed m.dstDev 1).unplaced m.srcDev 1
  let d := ((d.sframeLeft m.srcDev m.src).migrSlotFree k).fadd TMP_MIGR_STAT0.COMPLETED 1
  let d := ((d.fieldMigrating m.field).gatherMoved m true).stallEnd m
  (d.eventMgr 6).migrJobEnd m 0 0

/-- A GATHER whose every move switched merges its field, with RESULT OK (R385). -/
def Dev.gatherEnd (d : Dev) : Dev :=
  match d.thatch.gather with
  | some g =>
    if g.todo = [] ∧ !g.cut then
      let d := { d with thatch := { d.thatch with gather := none } }
      (d.mergeField g.field).cmdDone 0
    else d
  | none => d

/-- MIGRATION_SWITCH: at B + 1 swath, if the stall's copy is done: no line has bit 0, and none is in flight; else the migration
aborts with STALL_OVERRUN, and a candidate is queued again (R389, R390). -/
def execMigrationSwitch (k : Fin 64) (bad : Option (Fin 256 × BitVec 20)) (s : State) : Result :=
  onDev s fun d =>
    match d.migr k with
    | none => d
    | some m =>
      if d.fget TMP_MIGR_SLOT.STATE 0 k ≠ 2 then d
      else
        let (d, m) := (d.upTo (m.stallAt.getD d.now + 1024)).bitmapRead m bad
        if m.left = 0 ∧ d.copyFlights k = [] then ((d.migrSwitch k m).gatherEnd).settle
        else
          let t := d.fget TMP_DEV_CFG.TIER 0 m.srcDev
          let d := d.abortMigration k 1
          let up := decide (d.fget TMP_DEV_CFG.TIER 0 m.dstDev < t)
          (if m.why = .tier then d.candidate ⟨m.field, m.entry % 512, up⟩ else d).settle

/-- DRAIN_RETRY: at a course boundary a drain that found no room tries again (R392). -/
def execDrainRetry (v : Fin 256) (s : State) : Result :=
  onDev s fun d =>
    if d.dvState v = dvDraining ∧ d.fon TMP_DEV_STAT.NOSPACE 0 v then d.toCourse.fset TMP_DEV_STAT.NOSPACE 0 0 v else d

/-- Does the lost walk wait for a WHOLE field of the device, which a pending commit writes (R375)? -/
def Dev.walkWaits (d : Dev) (v : Nat) : Bool :=
  (d.listed .TMP_FIELD0).any fun x => d.fmode x.1 == fWhole && d.fget TMP_FIELD0.DEV x.1 == v && d.fieldPending x.1

/-- LOST_WALK_END: the lost walk of a device ends, at a swath boundary (R375, R393). -/
def execLostWalkEnd (v : Fin 256) (s : State) : Result :=
  onDev s fun d => if d.fon TMP_DEV_STAT.WALK 0 v && !(d.walkWaits v) then d.toSwath.lostWalk v else d

/-! Zero-fill (R382, R383, R424) -/

/-- Does a directory entry name a line of a field? -/
def Dev.dirNames (d : Dev) (f : Nat) : Bool :=
  d.validEntries.any fun i => dirLine (i / 16) (d.entry i).tag / 2 ^ 30 == f

/-- What released fields wait for that may not be filled yet: the directory names lines of the field (R424). -/
def Dev.fillBlocked (d : Dev) : List Nat := (d.thatch.releasing.filter fun e => d.dirNames e.1).flatMap (·.2)

/-- Does a frame of a device in the pool wait for zero-fill? -/
def Dev.frameDirty (d : Dev) (v n : Nat) : Bool :=
  d.dvInPool v && !(d.thatch.leaseOpen.contains v) && decide (n < d.fget TMP_DEV_CFG.SIZE_GIB 0 v) && d.frame v n == .dirty

/-- How many frames and sward frames wait before one, in order of device and then frame (R382). -/
def Dev.fillsBefore (d : Dev) (v n2 : Nat) : Nat :=
  let fr := n2 / 512
  let before := (d.poolDevs.filter fun x => decide (x < v) && !(d.thatch.leaseOpen.contains x)).map fun x =>
    let mine := d.thatch.frames.filter fun e => e.1 / 2 ^ 24 == x
    d.fget TMP_DEV_CFG.SIZE_GIB 0 x - (mine.filter fun e => e.2 != .dirty).length
  let own := d.thatch.frames.filter fun e => e.1 / 2 ^ 24 == v && decide (e.1 % 2 ^ 24 < fr) && e.2 != .dirty
  let swards := d.thatch.sframes.filter fun e => e.2 == .dirty &&
    (decide (e.1 / 2 ^ 33 < v) || (e.1 / 2 ^ 33 == v && decide (e.1 % 2 ^ 33 < n2)))
  let held := d.fillBlocked.filter fun k =>
    if k % 2 = 1 then decide (k / 2 / 2 ^ 33 < v) || (k / 2 / 2 ^ 33 == v && decide (k / 2 % 2 ^ 33 < n2))
    else decide (k / 2 / 2 ^ 24 < v) || (k / 2 / 2 ^ 24 == v && decide (k / 2 % 2 ^ 24 < fr))
  before.sum + (fr - own.length) + swards.length - held.length

/-- The mover that zero-fills a frame or sward frame now: it is one of those that ZERO_MOVERS movers work on, it waits for it,
nothing holds it back, and the device is not in the fault state (R382, R391, R424). -/
def Dev.fillMover (d : Dev) (v : Nat) (sward : Bool) (n : Nat) : Option Nat :=
  let waits := if sward then d.sframe v n == .dirty && d.dvInPool v else d.frameDirty v n
  if d.inFault || !waits || d.fillBlocked.contains (relKey sward v n) then none
  else d.zeroFilling[d.fillsBefore v (if sward then n else n * 512)]?

/-- The 4 KiB chunks of a frame, or of a sward frame. -/
def fillChunks (sward : Bool) : Nat := if sward then 512 else 2 ^ 18

/-- A zero-fill goes on with its next chunk, or one that is to be written again: 64 lines of zeros; at most 4 chunks are
outstanding (R455), and none over a port that is not up. -/
def Dev.fillAdmit (d : Dev) (v : Nat) (sward : Bool) (n : Nat) : Dev :=
  let key := relKey sward v n
  match d.fillMover v sward n with
  | none => d
  | some mover =>
    let (next, again) := d.fillOf key
    let out := ((d.fillFlights key).foldl (fun acc f => if acc.contains f.src then acc else acc ++ [f.src]) []).length
    if 4 ≤ out ∨ !(d.portUp (d.fget TMP_DEV_CFG.PORT 0 v)) then d
    else
      let go := fun (d : Dev) (c : Nat) => (List.range 64).foldl (fun (d : Dev) i =>
        d.launchMaint { tag := 0, epoch := false, src := .fill mover key c, kind := .writeU, write := true, addr := 0, admitted := 0 }
          v (n * (if sward then 2 ^ 21 else 2 ^ 30) + 4096 * c + 64 * i)) d
      match again with
      | c :: cs => go (d.setFill key (next, cs)) c
      | [] => if next < fillChunks sward then go (d.setFill key (next + 1, [])) next else d

/-- A chunk of a zero-fill whose every write is answered counts for its mover. -/
def Dev.fillComplete (d : Dev) (key c : Nat) : Dev :=
  match (d.fillFlights key).filter fun f => match f.src with | .fill _ _ x => x == c | _ => false with
  | [] => d
  | f :: fs =>
    if (f :: fs).any fun x => x.answer.isNone then d
    else
      let mover := match f.src with | .fill m _ _ => m | _ => 0
      ((d.dropFlights fun s => s == f.src).finc DMV_CHUNKS.CHUNKS 1 mover).finc DMV_BYTES.BYTES 4096 mover

/-- FRAME_ZEROED: the zero-fill of a frame, or of a sward frame of a CARVED frame, has written its last byte. -/
def execFrameZeroed (v : Fin 256) (sward : Bool) (n : BitVec 33) (s : State) : Result :=
  onDev s fun d =>
    let key := relKey sward v n.toNat
    if (d.fillMover v sward n.toNat).isNone ∨ d.fillOf key ≠ (fillChunks sward, []) ∨ d.fillFlights key ≠ [] then d
    else
      let d := d.fillDrop key
      if sward then
        ((d.setSFrame v n.toNat .zeroed).releaseStep fun k => k == key).uncarve v (n.toNat / 512)
      else (d.setFrame v n.toNat .zeroed).releaseStep fun k => k == key

end Sys2Proof.Machine
end

