-- ==== Sys2Proof/Machine/Movers.lean ====
section
/-! DEFINITION. Folds and data movers at work (13_folds_and_data_movers.md, R438 to R466; shares and fold reset of
14_fold_isolation_and_migration.md, R475 to R482): queues, doorbells, fetching, chunks, completions, interrupts. -/

namespace Sys2Proof.Machine

/-! Host-memory messages of a fold (R442) -/

/-- What the class map tests of a fold's host-memory message (R312, R314). -/
def Dev.foldKin (d : Dev) (f mtype : Nat) : Kinship := ⟨d.foldVsw f, none, .io, mtype, true⟩

/-- A message of a fold toward its host with the VF's requester ID: queued on the upstream port; toward a port that is not
up it is ended at once (R320, R321). -/
def Dev.foldMsg (d : Dev) (f : Nat) (body : QBody) (len : Nat) (gen : Option (Nat × Nat)) : Dev :=
  let v := d.foldVsw f
  let p := d.usp v
  let e := d.commits.epoch
  let write := match body with | .hostWrite _ _ _ _ => true | _ => false
  if !(d.portUp p) then
    d.hostMsgEnded { body := body, ingress := none, egress := p, cls := 1, flow := 0, chan := .io, len := len, ep := e }
  else
    let c := d.classOf e (d.foldKin f (if write then 2 else 1))
    d.offer { body := body, ingress := none, egress := p, cls := c, flow := d.flowOf e c (some v) none, chan := .io,
              len := len, gen := gen, ep := e }

/-- Bytes written to host memory. -/
def Dev.hostWrite (d : Dev) (f addr : Nat) (bs : List Byte) : Dev :=
  d.foldMsg f (.hostWrite f addr bs false) (16 + bs.length) (some (f, d.fget FLD_STAT.GEN f))

/-- A read of host memory asked for. -/
def Dev.hostRead (d : Dev) (f addr len : Nat) : Dev :=
  d.foldMsg f (.hostRead f addr len) 16 (some (f, d.fget FLD_STAT.GEN f))

/-- Does the device take a host's write to the fold's BAR0 (R440, R481, R487)? In a soft reset every port is
idle, so none arrives (R644). -/
def Dev.hostWrites (d : Dev) (f : Nat) : Bool :=
  let st := d.foldState f
  st != fdDisabled && st != fdResetting && st != fdFrozen && d.fget CSP_STATUS.PHASE != 4

/-! MSI-X and moderation (R462 to R465) -/

/-- May a fold send MSI-X messages: not suspended, resetting, frozen or disabled (R464, R479, R485)? -/
def Dev.msixFree (d : Dev) (f : Nat) : Bool :=
  (d.foldState f == fdEnabled || d.foldState f == fdHalted) && !(d.fold f).d3hot && (d.fold f).busMaster

/-- A vector signalled: sent, or left pending while it or the function is masked or no message may be sent. -/
def Dev.msixSignal (d : Dev) (f vec : Nat) : Dev :=
  if (d.fold f).fnMask || d.fon FLD_MSIX1.MASK f vec || !(d.msixFree f) then d.fputBit FLD_PBA.PENDING vec true f
  else
    (d.fputBit FLD_PBA.PENDING vec false f).hostWrite f (d.fget FLD_MSIX0.ADDR f vec) (leBytes 4 (d.fget FLD_MSIX1.DATA f vec))

/-- A pending vector is sent once nothing holds it back. -/
def Dev.msixPending (d : Dev) (f vec : Nat) : Dev := if d.fbit FLD_PBA.PENDING vec f then d.msixSignal f vec else d

/-- Every pending vector looked at again. -/
def Dev.msixFlush (d : Dev) (f : Nat) : Dev := (List.range 8).foldl (fun d v => d.msixPending f v) d

/-- A CQ's moderation timer. -/
def Dev.modTimer (d : Dev) (f c : Nat) : ModTimer := Tab.get .stopped (d.fold f).timers c

/-- A CQ's moderation timer given. -/
def Dev.setTimer (d : Dev) (f c : Nat) (t : ModTimer) : Dev :=
  d.setFold f { d.fold f with timers := Tab.set (d.fold f).timers c t }

/-- A CQ signals: its count is 0 again and its timer stopped. -/
def Dev.cqSignal (d : Dev) (f c : Nat) : Dev :=
  ((d.fset FLD_CQ_STAT.PENDING 0 f c).setTimer f c .stopped).msixSignal f (d.fget FLD_CQ_CFG.VEC f c)

/-- A completion written to a CQ counted for moderation. -/
def Dev.cqCount (d : Dev) (f c : Nat) (urgent : Bool) : Dev :=
  if !(d.fon FLD_CQ_CFG.IEN f c) then d
  else
    let n := d.fget FLD_CQ_STAT.PENDING f c + 1
    let d := d.fset FLD_CQ_STAT.PENDING n f c
    let d := if d.modTimer f c = .stopped then
        d.setTimer f c (if d.foldState f = fdFrozen then .frozen (d.fget FLD_CQ_CFG.TIMER f c + 1) else .running d.now)
      else d
    if urgent || decide (d.fget FLD_CQ_CFG.COUNT f c + 1 ≤ n) then d.cqSignal f c else d

/-- MODERATION_TIMER: the timer of a CQ reaches TIMER µs. In D3hot the pending bit is set and, with PME_En, a PME sent. -/
def execModerationTimer (f : Fin 256) (c : Fin 8) (s : State) : Result :=
  onDev s fun d =>
    match d.modTimer f c with
    | .running since =>
      let d := d.upTo (since + (d.fget FLD_CQ_CFG.TIMER f c + 1) * 1000)
      let d := d.cqSignal f c
      if (d.fold f).d3hot && (d.fold f).pmeEn then d.send (.pme f) else d
    | _ => d

/-- MSIX_UNMASK: the host unmasks a vector, or with none the function; what is pending is sent. -/
def execMsixUnmask (f : Fin 256) (vec : Option (Fin 8)) (s : State) : Result :=
  onDev s fun d =>
    if !(d.hostWrites f) then d
    else match vec with
      | some v => (d.fset FLD_MSIX1.MASK 0 f v).msixPending f v
      | none => (d.setFold f { d.fold f with fnMask := false }).msixFlush f

/-! Completions (R457 to R460) -/

/-- The entries of an SQ. -/
def ringSize (log : Nat) : Nat := 2 ^ (min 16 (max 6 log))

/-- SIZE of an SQ. -/
def Dev.sqSize (d : Dev) (f q : Nat) : Nat := ringSize (d.fget FLD_SQ_CFG.SIZE_LOG2 f q)

/-- SIZE of a CQ. -/
def Dev.cqSize (d : Dev) (f c : Nat) : Nat := ringSize (d.fget FLD_CQ_CFG.SIZE_LOG2 f c)

/-- Can a CQ take no completion: is it full, or not enabled? -/
def Dev.cqFull (d : Dev) (f c : Nat) : Bool :=
  !(d.fon FLD_CQ_CFG.EN f c) || (d.fget FLD_CQ_STAT.TAIL f c + 1) % d.cqSize f c == d.fget FLD_CQ_STAT.HEAD f c

/-- The works of an SQ, oldest first. -/
def Dev.sqWorks (d : Dev) (f q : Nat) : List Work :=
  d.folds.work.filter fun w => match w.owner with | .ring f' q' _ => f' == f && q' == q | _ => false

/-- A STOPPING SQ whose last started entry's completion is written is DISABLED (R443). -/
def Dev.sqStopCheck (d : Dev) (f q : Nat) : Dev :=
  if d.fget FLD_SQ_STAT.STATE f q = sqStopping && (d.sqWorks f q).isEmpty &&
      !((d.fold f).held.any fun h => descField h.bytes 2 1 == q) then d.fset FLD_SQ_STAT.STATE sqDisabled f q
  else d

/-- A completion written to its CQ: the entry, the head of its SQ, the tail, the phase and the moderation (R458, R459,
R462). -/
def Dev.cplWrite (d : Dev) (f c : Nat) (bytes : List Byte) (urgent : Bool) : Dev :=
  let t := d.fget FLD_CQ_STAT.TAIL f c
  let d := d.hostWrite f (d.fget FLD_CQ_BASE.BASE f c * 16 + 16 * t)
    (bytes.take 15 ++ leBytes 1 (d.fget FLD_CQ_STAT.PHASE f c))
  let q := descField bytes 2 1
  let d := (d.fset FLD_SQ_STAT.HEAD (descField bytes 8 2) f q).sqStopCheck f q
  let d := d.fset FLD_CQ_STAT.TAIL ((t + 1) % d.cqSize f c) f c
  let d := if (t + 1) % d.cqSize f c = 0 then d.fset FLD_CQ_STAT.PHASE (1 - d.fget FLD_CQ_STAT.PHASE f c) f c else d
  d.cqCount f c urgent

/-- A completion put in a holding slot (R460); the sixteenth stalls the fold. -/
def Dev.cplHold (d : Dev) (f c : Nat) (bytes : List Byte) (urgent : Bool) : Dev :=
  let x := d.fold f
  let held := x.held ++ [⟨c, bytes, urgent⟩]
  let full := decide (16 ≤ held.length)
  let d := d.setFold f { x with held := held, stalled := full }
  let d := (d.fadd FLD_CNT.CQ_FULL 1 f).fset FLD_CNT.HOLD_USED held.length f
  if full then (d.fadd FLD_CNT.STALLS 1 f).raise 409 ⟨0, 0x71, 2, f, 0⟩ else d

/-- Must completions be held: is the fold suspended, or frozen or halted with its VF asleep (R464)? -/
def Dev.cplAsleep (d : Dev) (f : Nat) : Bool :=
  d.foldState f == fdSuspended || (d.fold f).d3hot || !(d.fold f).busMaster

/-- Held completions are written in arrival order, per CQ, as far as their CQs take them; the fold goes on once a slot
frees (R460). -/
def Dev.heldFlush (f : Nat) : Nat → Dev → Dev
  | 0, d => d
  | n + 1, d =>
    if d.cplAsleep f then d
    else match (d.fold f).held.find? fun h => !(d.cqFull f h.cq) with
      | none => d
      | some h =>
        let x := d.fold f
        let held := x.held.erase h
        let d := d.setFold f { x with held := held, stalled := false }
        Dev.heldFlush f n ((d.fset FLD_CNT.HOLD_USED held.length f).cplWrite f h.cq h.bytes h.urgent)

/-- The completion bytes of a finished ring entry, PHASE apart. -/
def Dev.cplOf (d : Dev) (w : Work) (f q i st res : Nat) : List Byte :=
  cplBytes (dTag w.raw) q st res ((i + 1) % d.sqSize f q) w.gen false

/-- COMPLETION_WRITE: the oldest entry of an SQ has finished, and its completion is written, or held when its CQ is full, one
of the same CQ is held before it, or the fold sleeps. -/
def execCompletionWrite (f : Fin 256) (q : Fin 8) (s : State) : Result :=
  onDev s fun d =>
    match (d.sqWorks f q).head? with
    | some w =>
      match w.state, w.owner with
      | .finished st res, .ring _ _ i =>
        let c := d.fget FLD_SQ_CFG.CQ f q
        let x := d.fold f
        let mustHold := d.cplAsleep f || d.cqFull f c || x.held.any fun h => h.cq == c
        if d.foldState f = fdResetting ∨ (mustHold && decide (16 ≤ x.held.length)) then d
        else
          let bytes := d.cplOf w f q i st res
          let d := (d.dropWork w.id).freeSlotOf f
          if mustHold then d.cplHold f c bytes (dFlag w.raw 3) else d.cplWrite f c bytes (dFlag w.raw 3)
      | _, _ => d
    | none => d

/-! Queues (R443 to R447, R459) -/

/-- A write of an SQ's CFG (R443): its size and CQ, and EN, which enables it from HEAD on, sets CFG_ERR, or stops it, with its push slots
emptied, since a replay after a disable reads the ring (R447). -/
def Dev.sqConfig (d : Dev) (f q : Nat) (v : Word) : Dev :=
  let en := v.getLsbD 0
  let d := (d.fset FLD_SQ_CFG.SIZE_LOG2 (bitsOf v 1 5) f q).fset FLD_SQ_CFG.CQ (bitsOf v 8 3) f q
  let st := d.fget FLD_SQ_STAT.STATE f q
  if st = sqDisabled ∧ en then
    let n := bitsOf v 1 5
    if 6 ≤ n ∧ n ≤ 16 ∧ d.fon FLD_CQ_CFG.EN f (bitsOf v 8 3) then
      let d := (d.fset FLD_SQ_CFG.EN 1 f q).fset FLD_SQ_STAT.STATE sqEnabled f q
      d.setFold f { d.fold f with next := Tab.set (d.fold f).next q (d.fget FLD_SQ_STAT.HEAD f q) }
    else d.fset FLD_SQ_STAT.CFG_ERR 1 f q
  else if st = sqEnabled ∧ !en then
    let d := d.dropUnstarted f (some q)
    let d := d.setFold f { d.fold f with pushFull := (d.fold f).pushFull.filter fun k => k / 4 != q }
    ((d.fset FLD_SQ_CFG.EN 0 f q).fset FLD_SQ_STAT.STATE sqStopping f q).sqStopCheck f q
  else if st = sqHalted ∧ !en then d.fset FLD_SQ_CFG.EN 0 f q
  else d

/-- SQ_ENABLE: the host writes an SQ's CFG with EN 1. -/
def execSqEnable (f : Fin 256) (q : Fin 8) (sizeLog2 : BitVec 5) (cq : Fin 8) (s : State) : Result :=
  onDev s fun d =>
    if d.hostWrites f then d.sqConfig f q (putBits (putBits 1 1 5 sizeLog2.toNat) 8 3 cq) else d

/-- SQ_DISABLE: the host writes EN 0. -/
def execSqDisable (f : Fin 256) (q : Fin 8) (s : State) : Result :=
  onDev s fun d =>
    if d.hostWrites f then d.sqConfig f q (putBits (d.rd ⟨.FLD_SQ_CFG, f, q⟩) 0 1 0) else d

/-- Does an SQ in ENABLED or STOPPING name a CQ? -/
def Dev.cqNamed (d : Dev) (f c : Nat) : Bool :=
  (List.range 8).any fun q =>
    (d.fget FLD_SQ_STAT.STATE f q == sqEnabled || d.fget FLD_SQ_STAT.STATE f q == sqStopping) && d.fget FLD_SQ_CFG.CQ f q == c

/-- A write of a CQ's CFG (R459, R463): EN 1 enables it with TAIL and HEAD 0 and phase 1; EN 0 is ignored while an SQ in use
names it; without IEN it keeps no count and no timer. -/
def Dev.cqConfig (d : Dev) (f c : Nat) (v : Word) : Dev :=
  let was := d.fon FLD_CQ_CFG.EN f c
  let en := v.getLsbD 0 || (was && d.cqNamed f c)
  let d := d.wr ⟨.FLD_CQ_CFG, f, c⟩ (putBits (v &&& (mask 0 7 ||| mask 8 3 ||| mask 16 8 ||| mask 32 10)) 0 1 en.toNat)
  let d := if d.fon FLD_CQ_CFG.IEN f c then d else (d.fset FLD_CQ_STAT.PENDING 0 f c).setTimer f c .stopped
  if en && !was then
    ((d.fset FLD_CQ_STAT.TAIL 0 f c).fset FLD_CQ_STAT.HEAD 0 f c).fset FLD_CQ_STAT.PHASE 1 f c
  else d

/-- CQ_ENABLE: the host writes a CQ's CFG. -/
def execCqEnable (f : Fin 256) (c : Fin 8) (v : Word) (s : State) : Result :=
  onDev s fun d => if d.hostWrites f then d.cqConfig f c v else d

/-- A tail doorbell (R445, R453): TAIL set, or for a value of SIZE or more the fold halted. -/
def Dev.sqDoorbell (d : Dev) (f q tail : Nat) : Dev :=
  if d.foldState f = fdHalted ∨ d.foldState f = fdResetting ∨ d.foldState f = fdFrozen ∨
      d.fget FLD_SQ_STAT.STATE f q = sqHalted then d
  else if d.sqSize f q ≤ tail then d.haltFold f 6 q tail
  else d.fset FLD_SQ_STAT.TAIL tail f q

/-- SQ_DOORBELL. -/
def execSqDoorbell (f : Fin 256) (q : Fin 8) (tail : BitVec 16) (s : State) : Result :=
  onDev s fun d => if d.hostWrites f then d.sqDoorbell f q tail.toNat else d

/-- A head doorbell: CQ entries freed, and held completions written (R459, R460). -/
def Dev.cqDoorbell (d : Dev) (f c head : Nat) : Dev :=
  Dev.heldFlush f 16 (d.fset FLD_CQ_STAT.HEAD head f c)

/-- CQ_DOORBELL. -/
def execCqDoorbell (f : Fin 256) (c : Fin 8) (head : BitVec 16) (s : State) : Result :=
  onDev s fun d => if d.hostWrites f then d.cqDoorbell f c head.toNat else d

/-- The 64 bytes of a push slot. -/
def Dev.pushBytes (d : Dev) (f q i : Nat) : List Byte :=
  (List.range 8).flatMap fun w => leBytes 8 (d.rd ⟨.FLD_PUSH, f, q * 32 + i * 8 + w⟩).toNat

/-- A write to a push slot: its bytes, and full once the write covers bytes 0x3C to 0x3F (R446). -/
def Dev.pushWrite (d : Dev) (f q i off : Nat) (bs : List Byte) : Dev :=
  let bs := bs.take (64 - off)
  let old := d.pushBytes f q i
  let new := old.take off ++ bs ++ old.drop (off + bs.length)
  let d := (List.range 8).foldl (fun d w =>
    d.wr ⟨.FLD_PUSH, f, q * 32 + i * 8 + w⟩ (BitVec.ofNat 64 (descField new (8 * w) 8))) d
  let x := d.fold f
  let k := q * 4 + i
  if off ≤ 0x3C ∧ 0x40 ≤ off + bs.length then d.setFold f { x with pushFull := (x.pushFull.filter (· != k)) ++ [k] } else d

/-- PUSH_SLOT_WRITE: `len` bytes written from offset `off` on, the first in the low byte of `data`. -/
def execPushSlotWrite (f : Fin 256) (q : Fin 8) (i : Fin 4) (off : Fin 64) (len : Fin 65) (data : BitVec 512)
    (s : State) : Result :=
  onDev s fun d => if d.hostWrites f then d.pushWrite f q i off (leBytes len data.toNat) else d

/-! Fetching (R445, R446, R453, R477) -/

/-- The SQ a fold fetches from next: the first after the last one with entries to fetch. -/
def Dev.fetchSq (d : Dev) (f : Nat) : Option Nat :=
  let x := d.fold f
  ((List.range 8).map fun k => (x.lastSq + 1 + k) % 8).find? fun q =>
    d.fget FLD_SQ_STAT.STATE f q == sqEnabled && Tab.get 0 x.next q != d.fget FLD_SQ_STAT.TAIL f q

/-- May a fold take one more in-flight slot (R475 to R477)? -/
def Dev.mayTakeSlot (d : Dev) (f : Nat) : Bool :=
  d.fon FLD_SHARE.COUNTED f && decide (d.fget FLD_STAT.IN_FLIGHT f < d.fget FLD_SHARE.CAP f) && decide (d.slotsInFlight < 2048)

/-- A descriptor that has come for an entry: fetched, or malformed, which halts the fold with one completion (R453). -/
def Dev.entryCame (d : Dev) (id f q i : Nat) (raw : List Byte) : Dev :=
  match malformed raw (.ring i) with
  | none => d.setWork id fun w => { w with raw := raw, state := .fetched }
  | some c => (d.setWork id fun w => { w with raw := raw, state := .finished 0x0F c }).haltFold f c q i

/-- An entry of work taken on, with the next number. -/
def Dev.addWork (d : Dev) (w : Work) : Dev :=
  { d with folds := { d.folds with nextId := d.folds.nextId + 1, work := d.folds.work ++ [w] } }

/-- ENTRY_FETCH: the fold takes its next entry, from a full push slot that holds its index, else by a read of the ring. With
`contextBad` the fold-context word it reads is uncorrectable: a UC-C fault of the fold and a fold reset (R531). -/
def execEntryFetch (f : Fin 256) (contextBad : Bool) (s : State) : Result :=
  onDev s fun d =>
    match d.fetchSq f with
    | none => d
    | some q =>
      if d.foldState f ≠ fdEnabled || !(d.mayTakeSlot f) || (d.fold f).stalled then d
      else if contextBad then (d.raise 409 (recFold 0x72 f 0)).foldReset f
      else
        let x := d.fold f
        let i := Tab.get 0 x.next q
        let slot := q * 4 + i % 4
        let raw := d.pushBytes f q (i % 4)
        let pushed := x.pushFull.contains slot && descField raw 0x3C 2 == i
        let d := d.setFold f { x with
          next := Tab.set x.next q ((i + 1) % d.sqSize f q), lastSq := q, pushFull := x.pushFull.filter (· != slot) }
        let id := d.folds.nextId
        let d := d.takeSlot f
        let w : Work := { id := id, owner := .ring f q i, gen := d.fget FLD_STAT.GEN f }
        let d := d.addWork w
        if pushed then d.entryCame id f q i raw else d.hostRead f (d.fget FLD_SQ_BASE.BASE f q * 64 + 64 * i) 64

/-- The descriptor of a thawed entry read again: a finished one's completion can be written; one with chunks left goes on at
OFFSET; a REDO of an overlapping COPY ends with TIMEOUT (R486, R488, R494). -/
def Dev.refetched (d : Dev) (id kind st n : Nat) (raw : List Byte) : Dev :=
  d.setWork id fun w =>
    if kind = 1 then { w with raw := raw, state := .finished st n }
    else if kind = 2 && dOverlap raw then { w with raw := raw, state := .finished 7 n }
    else { w with raw := raw, state := .started none, next := n }

/-- FETCH_RESPONSE: the 64 bytes of a ring fetch, or an error or poison, which halts the fold (R453). -/
def execFetchResponse (id : Nat) (data : BitVec 512) (bad : Bool) (s : State) : Result :=
  onDev s fun d =>
    match d.work id with
    | none => d
    | some w =>
      let raw := leBytes 64 data.toNat
      match w.owner, w.state with
      | .ring f q i, .fetching =>
        if bad then d.fetchBad id f q i else d.entryCame id f q i raw
      | .ring f q i, .refetch k st n =>
        if bad then d.fetchBad id f q i else (d.refetched id k st n raw).reassign
      | _, _ => d

/-! Starting (R449, R454) -/

/-- Is an earlier entry of the same SQ still to start, or with FENCE still to finish? -/
def Dev.startBlocked (d : Dev) (w : Work) : Bool :=
  match w.owner with
  | .ring f q _ =>
    ((d.sqWorks f q).takeWhile fun x => x.id != w.id).any fun x =>
      match x.state with
      | .fetching | .fetched => true
      | .finished _ _ => false
      | _ => dFlag w.raw 2
  | _ => false

/-- ENTRY_START: a fetched entry, or a job, starts on the mover in service with the fewest active entries; none starts on a
mover that holds 8. -/
def execEntryStart (id : Nat) (s : State) : Result :=
  onDev s fun d =>
    let d := d.reassign
    match d.work id, d.bestMover with
    | some w, some m =>
      if w.state ≠ .fetched || d.startBlocked w then d
      else
        let seed := descField w.raw 0x18 4
        let crc : BitVec 32 := if dOp w.raw = opCrc then BitVec.ofNat 32 seed ^^^ 0xFFFFFFFF else 0
        d.setWork id fun x => ({ x with state := .started (some m), crc := crc } : Work)
    | _, _ => d

/-- MOVER_DISABLE: DMV_CTRL.EN written 0. -/
def execMoverDisable (m : Fin 32) (s : State) : Result := onWaitingReg (.moverDisable m) s fun d => d.moverOut m

/-! Chunks (R455, R456) -/

/-- The 64-byte lines of an access, each by its first byte and length. -/
def linePieces (a n : Nat) : List (Nat × Nat) :=
  (List.range ((a + n - 1) / 64 + 1 - a / 64)).map fun k =>
    let lo := max a ((a / 64 + k) * 64)
    (lo, min (a + n) ((a / 64 + k + 1) * 64) - lo)

/-- The offsets of an entry's outstanding chunks. -/
def Dev.outChunks (d : Dev) (id : Nat) : List Nat :=
  (d.chunkFlights id).foldl (fun acc x => if acc.contains (x.hostTag / 2) then acc else acc ++ [x.hostTag / 2]) []

/-- The pool address a SPACE 0 address of an entry means: through the fold's binding, or for a manager job the address
itself, unless its field is UNUSED (R442, R456). -/
def Dev.chunkPool (d : Dev) (e : Bool) (f : Option Nat) (a : Nat) : Option Nat :=
  match f with
  | some f => d.hostPool e (d.foldVsw f) a
  | none => match d.place e a with | .unplaced => none | _ => some a

/-- A part of a chunk checked by the engine Hedgerow and for a fold by the pool Hedgerow (R500, R501): allowed, with the
deciding pool rule. -/
def Dev.chunkCheck (d : Dev) (e : Bool) (f : Option Nat) (pool : Nat) (need : HNeed) : Dev × Bool × Option Nat :=
  match f with
  | none =>
    let (d, v) := d.hpass e .engine 0x280 pool need none
    (d, v.ok, none)
  | some f =>
    match d.hpass e .engine (0x100 + f) pool need none with
    | (d, .deny _ _ _) => (d, false, none)
    | (d, .allow _ _) =>
      match d.hpass e .pool (d.foldVsw f) pool need none with
      | (d, .deny _ _ _) => (d, false, none)
      | (d, .allow r _) => (d, true, r)

/-- What the admission of one side of a chunk found: host memory, a pool address with its rule, unbound, or denied. -/
inductive Side where
  | host (a : Nat)
  | pool (a : Nat) (rule : Option Nat)
  | unbound
  | denied
  | absent
  deriving DecidableEq, Repr

/-- One side of a chunk checked (R442, R455). -/
def Dev.chunkSide (d : Dev) (e : Bool) (f : Option Nat) (used space : Bool) (a : Nat) (need : HNeed) : Dev × Side :=
  if !used then (d, .absent)
  else if space then (d, .host a)
  else match d.chunkPool e f a with
    | none => (d, .unbound)
    | some p =>
      match d.chunkCheck e f p need with
      | (d, true, r) => (d, .pool p r)
      | (d, false, _) => (d, .denied)

/-- One access of a chunk put in flight with the chunk's epoch (R46), in the class of the map (R311). -/
def Dev.launchChunk (d : Dev) (e : Bool) (fl : Flight) : Dev × Nat :=
  let fl := { fl with epoch := e, admitted := d.now }
  let c := d.mapClass fl
  let c := if c = 0 then 1 else c
  d.launch { fl with cls := c, flow := d.flowOf e c fl.vsw none }

/-- A chunk's access to host memory: one CXL.io request with the VF's requester ID. -/
def Dev.chunkHost (d : Dev) (e : Bool) (m id tag v a len : Nat) (write : Option (Nat × Bool)) : Dev :=
  let p := d.cfg e CXP_VSW_CFG.USP v
  let (d, t) := d.launchChunk e { tag := 0, epoch := e, src := .chunk m id, vsw := some v, kind := if write.isSome then .ioPosted else .ioRead,
                                  write := write.isSome, addr := a, len := len, hostTag := tag, data := (write.map (·.1)).getD 0,
                                  poison := (write.map (·.2)).getD false, routed := true, admitted := 0 }
  match d.flight t with
  | none => d
  | some fl => if d.portUp p then d.queueFlight fl p 0 a fl.msgLen (.request t) else d.endRequest fl 6

/-- A chunk's access to one line of the pool: an uncached read or write (R428). -/
def Dev.chunkLine (d : Dev) (e : Bool) (m id tag : Nat) (v rule : Option Nat) (a len : Nat) (write : Option (Nat × Bool)) : Dev :=
  let d := d.readTables a []
  let (d, t) := d.launchChunk e { tag := 0, epoch := e, src := .chunk m id, vsw := v, kind := if write.isSome then .writeU else .readU,
                                  write := write.isSome, addr := a, len := len, hostTag := tag, data := (write.map (·.1)).getD 0,
                                  poison := (write.map (·.2)).getD false, region := rule, admitted := 0 }
  d.toPool t a

/-- The reads of one side issued. -/
def Dev.issueRead (d : Dev) (e : Bool) (m id tag len : Nat) (v : Option Nat) (s : Side) : Dev :=
  match s with
  | .host a => d.chunkHost e m id tag (v.getD 0) a len none
  | .pool a r => (linePieces a len).foldl (fun d x => d.chunkLine e m id tag v r x.1 x.2 none) d
  | _ => d

/-- Bytes with their poison written to one side: a host write is poisoned as a whole, a pool write line by line. -/
def Dev.issueWrite (d : Dev) (e : Bool) (m id tag : Nat) (v : Option Nat) (s : Side) (bs : List (Byte × Bool)) : Dev :=
  match s with
  | .host a => d.chunkHost e m id tag (v.getD 0) a bs.length (some (leNat (bs.map (·.1)), bs.any (·.2)))
  | .pool a r =>
    (linePieces a bs.length).foldl (fun d x =>
      let part := (bs.drop (x.1 - a)).take x.2
      d.chunkLine e m id tag v r x.1 x.2 (some (leNat (part.map (·.1)), part.any (·.2)))) d
  | _ => d

/-- The bytes a FILL or ZERO writes at an offset (R448). -/
def fillBytes (raw : List Byte) (o n : Nat) : List Byte :=
  if dOp raw = opFill then (List.range n).map fun i => (raw.drop (0x18 + (o + i) % 8)).headD 0 else List.replicate n 0

/-- Both sides of the chunk at offset `o`, each checked whatever the other brings (R508). -/
def Dev.chunkSides (d : Dev) (e : Bool) (w : Work) (o : Nat) : Dev × Side × Side :=
  let f := w.owner.fold
  let (d, a) := d.chunkSide e f (dHasSrc w.raw) (dFlag w.raw 0) (dSrc w.raw + o) .read
  let (d, b) := d.chunkSide e f (dHasDst w.raw) (dFlag w.raw 1) (dDst w.raw + o) (if dWrites w.raw then .write else .read)
  (d, a, b)

/-- May the entry's next chunk be admitted (R455, R460, R464, R479, R485, R555)? -/
def Dev.mayAdmit (d : Dev) (w : Work) : Bool :=
  decide (w.next < dLen w.raw) && w.ending.isNone && decide ((d.outChunks w.id).length < 4) && !d.inFault &&
    match w.owner.fold with
    | none => true
    | some f =>
      let st := d.foldState f
      let host := (dHasSrc w.raw && dFlag w.raw 0) || (dHasDst w.raw && dFlag w.raw 1)
      d.fget FLD_STAT.GEN f == w.gen && st != fdResetting && st != fdFrozen && !(d.fold f).stalled &&
        !(d.cplAsleep f && host)

/-- Does a manager job with a chunk ready stand before a fold's chunk on a mover (R478)? -/
def Dev.managerFirst (d : Dev) (m : Nat) (w : Work) : Bool :=
  w.owner.fold.isSome && d.folds.work.any fun x => x.state == .started (some m) && x.owner.fold.isNone && d.mayAdmit x

/-- The length of the shortest next chunk that a fold has ready (R478); none where none is ready. -/
def Dev.foldReady (d : Dev) (f : Nat) : Option Nat :=
  ((d.folds.work.filter fun w => w.owner.fold == some f &&
      match w.state with | .started (some m) => d.moverOn m && d.mayAdmit w && !(d.managerFirst m w) | _ => false).map
    fun w => chunkLen w.raw w.next).min?

/-- Deficit round robin among the folds with a chunk ready, 4,096 bytes a round (R478): the round's new state if a chunk of `n`
bytes of fold `f` comes next. The fold whose turn it is goes on while its ready chunks fit what it has left; then the turn goes to
the next fold with one ready. A fold with none ready keeps nothing. -/
def Dev.foldTurn (d : Dev) (f n : Nat) : Option Folds :=
  let x := d.folds
  let goesOn := match d.foldReady x.turn with | some k => decide (k ≤ x.turnLeft) | none => false
  if goesOn then if f = x.turn ∧ n ≤ x.turnLeft then some { x with turnLeft := x.turnLeft - n } else none
  else
    let next := ((List.range 256).map fun k => (x.turn + 1 + k) % 256).find? fun g => (d.foldReady g).isSome
    let kept := Tab.set x.kept x.turn (if (d.foldReady x.turn).isSome then x.turnLeft else 0)
    let quantum := (if (d.foldReady f).isSome then Tab.get 0 kept f else 0) + 4096
    if next = some f ∧ n ≤ quantum then
      some { x with turn := f, turnLeft := quantum - n, kept := (kept.filter fun e => (d.foldReady e.1).isSome && e.1 != f) }
    else none

/-- The round taken on with a chunk of an entry; none where another fold's chunk comes first. -/
def Dev.takeTurn (d : Dev) (w : Work) : Option Dev :=
  match w.owner.fold with
  | none => some d
  | some f => (d.foldTurn f (chunkLen w.raw w.next)).map fun x => { d with folds := x }

/-- The next chunk of a started entry is checked, stamped and issued, or ends the entry (R455, R456), if it is
its turn (R478). -/
def Dev.entryAdmit (d : Dev) (id : Nat) : Dev :=
  match d.work id with
  | none => d
  | some w =>
    match w.state with
    | .started (some m) =>
      if !(d.moverOn m) || !(d.mayAdmit w) || d.managerFirst m w then d
      else match d.takeTurn w with
      | none => d
      | some d =>
        let e := d.commits.epoch
        let o := w.next
        let n := chunkLen w.raw o
        let (d, a, b) := d.chunkSides e w o
        if a = .denied ∨ b = .denied then
          ((d.fadd DMV_ERR.DENIED 1 m).setWork id fun w => w.endAt 2 o).workCheck id
        else if a = .unbound ∨ b = .unbound then (d.setWork id fun w => w.endAt 4 o).workCheck id
        else
          let v := w.owner.fold.map d.foldVsw
          let d := d.setWork id fun w => { w with next := o + n }
          let d := if dOp w.raw = opFill ∨ dOp w.raw = opZero then
              d.issueWrite e m id (2 * o) v b ((fillBytes w.raw o n).map fun x => (x, false))
            else
              let d := d.issueRead e m id (2 * o) n v a
              if dOp w.raw = opCompare then d.issueRead e m id (2 * o + 1) n v b else d
          d.dirSettle.settle
    | _ => d

/-- CHUNK_ADMIT: of an entry; or the next line of a migration's copy (R389), or chunk of a zero-fill (R382). -/
def execChunkAdmit (c : ChunkOf) (s : State) : Result :=
  onDev s fun d =>
    match c with
    | .entry id => d.entryAdmit id
    | .copy k => d.copyAdmit k
    | .fill v sward n => d.fillAdmit v sward n.toNat

/-- The bytes that answered reads brought, with their poison, in the order of their issue. -/
def readBytes (fs : List Flight) : List (Byte × Bool) :=
  fs.flatMap fun x => match x.answer with | some (v, p) => (leBytes x.len v).map fun b => (b, p) | none => []

/-- An entry's chunk is done: its mover's counters, and the entry's end if nothing is left. -/
def Dev.chunkDone (d : Dev) (m id written : Nat) : Dev :=
  ((d.finc DMV_CHUNKS.CHUNKS 1 m).finc DMV_BYTES.BYTES written m).workCheck id

/-- The accesses of a chunk taken out of flight. -/
def Dev.takeChunk (d : Dev) (id o : Nat) : Dev :=
  { d with core := { d.core with flights := d.core.flights.filter fun x =>
      !((match x.src with | .chunk _ i => i == id | _ => false) && x.hostTag / 2 == o) } }

/-- The pool rule that decides a fold's write at a pool address. -/
def Dev.poolRule (d : Dev) (e : Bool) (f : Option Nat) (p : Nat) : Option Nat :=
  match f with
  | some f => match d.hcheck e .pool (d.foldVsw f) p .write with | .allow r _ => r | _ => none
  | none => none

/-- The reads of a chunk have all come: COPY writes what was read, COMPARE compares, CRC32C goes on (R450, R451, R456). -/
def Dev.chunkRead (d : Dev) (w : Work) (m o : Nat) (fs : List Flight) : Dev :=
  let id := w.id
  let n := chunkLen w.raw o
  let a := readBytes (fs.filter fun x => x.hostTag % 2 == 0)
  let b := readBytes (fs.filter fun x => x.hostTag % 2 == 1)
  let bad := (a ++ b).any (·.2)
  let d := d.takeChunk id o
  let d := if bad then d.fadd DMV_ERR.POISONED 1 m else d
  if a.length ≠ n ∨ (dOp w.raw = opCompare ∧ b.length ≠ n) then d.workCheck id
  else if dOp w.raw = opCopy then
    let e := match fs with | x :: _ => x.epoch | [] => d.commits.epoch
    let v := w.owner.fold.map d.foldVsw
    let d := d.setWork id fun w =>
      if bad then { w with poisonAt := some (min (w.poisonAt.getD (2 ^ 32)) (o + a.findIdx (·.2))) } else w
    let side := if dFlag w.raw 1 then Side.host (dDst w.raw + o)
      else match d.chunkPool e w.owner.fold (dDst w.raw + o) with
        | some p => .pool p (d.poolRule e w.owner.fold p)
        | none => .unbound
    (d.issueWrite e m id (2 * o) v side a).dirSettle.settle
  else if bad then (d.setWork id fun w => w.endAt 3 o).workCheck id
  else if dOp w.raw = opCompare then
    let k := (a.zip b).findIdx fun x => x.1.1 != x.2.1
    let d := if k < n then d.setWork id fun w => w.endAt 1 (o + k) else d
    d.chunkDone m id 0
  else (d.setWork id fun w => { w with crc := crc32c w.crc (a.map (·.1)) }).chunkDone m id 0

/-- Must a chunk's second part wait: a COPY's write for an earlier read, or into host memory while the fold sleeps (R464); a CRC
for every earlier chunk (R450, R451)? -/
def Dev.chunkWaits (d : Dev) (w : Work) (o : Nat) : Bool :=
  (dOp w.raw == opCopy && dFlag w.raw 1 && match w.owner.fold with | some f => d.cplAsleep f | none => false) ||
  (d.chunkFlights w.id).any fun x => decide (x.hostTag / 2 < o) && (dOp w.raw == opCrc || (dOp w.raw == opCopy && !x.write))

/-- Every access of the chunk of an entry at an offset is answered. An entry of an old generation takes nothing from it
(R479). -/
def Dev.entryComplete (d : Dev) (id o : Nat) : Dev :=
  let fs := (d.chunkFlights id).filter fun x => x.hostTag / 2 == o
  match d.work id, fs with
  | some w, f0 :: _ =>
    let m := match f0.src with | .chunk m _ => m | _ => 0
    let old := match w.owner.fold with | some f => d.fget FLD_STAT.GEN f != w.gen | none => false
    if fs.any fun x => x.answer.isNone then d
    else if old then d.takeChunk id o
    else if f0.write then (d.takeChunk id o).chunkDone m id (chunkLen w.raw o)
    else if d.chunkWaits w o then d
    else d.chunkRead w m o fs
  | _, _ => d

/-- CHUNK_COMPLETE: every access of the chunk at an offset is answered; of a migration's copy the line there, of a zero-fill the
4 KiB there. -/
def execChunkComplete (c : ChunkOf) (offset : BitVec 32) (s : State) : Result :=
  onDev s fun d =>
    match c with
    | .entry id => d.entryComplete id offset.toNat
    | .copy k => d.copyComplete k (offset.toNat / 64)
    | .fill v sward n => d.fillComplete (relKey sward v n.toNat) (offset.toNat / 4096)

/-- The accesses of a chunk that are unanswered 32 µs after their admission end the entry with TIMEOUT (R456). -/
def Dev.entryTimeout (d : Dev) (id o : Nat) : Dev :=
  let open' := (d.chunkFlights id).filter fun x => x.hostTag / 2 == o && x.answer.isNone
  match open' with
  | [] => d
  | f0 :: _ =>
    let d := d.upTo (f0.admitted + 32000)
    (open'.filter fun x => decide (x.admitted + 32000 ≤ d.now)).foldl (fun d x => (d.dropFlight x.tag).chunkFailed x 7) d

/-- CHUNK_TIMEOUT: of an entry; of a copy or a zero-fill, the line or chunk is done again. -/
def execChunkTimeout (c : ChunkOf) (offset : BitVec 32) (s : State) : Result :=
  onDev s fun d =>
    match c with
    | .entry id => d.entryTimeout id offset.toNat
    | .copy k => d.maintTimeout ((d.copyFlights k).filter fun f => match f.src with | .copy _ _ i => i == offset.toNat / 64 | _ => false)
    | .fill v sward n => d.maintTimeout ((d.fillFlights (relKey sward v n.toNat)).filter fun f =>
        match f.src with | .fill _ _ x => x == offset.toNat / 4096 | _ => false)

/-! Shares (R475, R476) -/

/-- SHARE_SAMPLE: at a course boundary N is sampled and every fold's cap set. -/
def execShareSample (s : State) : Result :=
  onDev s fun d =>
    let d := d.toCourse
    let on := (List.range 256).filter fun f => d.foldState f != fdDisabled
    let n := on.length
    (List.range 256).foldl (fun d f =>
      let c := on.contains f
      ((d.fset FLD_SHARE.N n f).fset FLD_SHARE.CAP (if c then 2048 / n else 0) f).fset FLD_SHARE.COUNTED c.toNat f) d

/-! Power states, VF Enable and reset of a fold (R440, R464, R465, R479) -/

/-- A fold that is no longer suspended goes on: pending interrupts are sent, then held completions written (R465). -/
def Dev.foldWake (d : Dev) (f : Nat) : Dev :=
  if d.cplAsleep f || d.foldState f == fdFrozen || d.foldState f == fdResetting then d
  else Dev.heldFlush f 16 (d.msixFlush f)

/-- VF_POWER_STATE: the VF's D3hot, Bus Master Enable, PME_En and MSI-X function mask as the host has written them. -/
def execVfPowerState (f : Fin 256) (d3hot busMaster pmeEn fnMask : Bool) (s : State) : Result :=
  onDev s fun d =>
    let d := d.setFold f { d.fold f with d3hot := d3hot, busMaster := busMaster, pmeEn := pmeEn, fnMask := fnMask }
    (d.foldRefresh f).foldWake f

/-- VF_ENABLE: VF Enable and NumVFs of the Service Function of a virtual switch. -/
def execVfEnable (v : Fin 64) (on : Bool) (numVFs : BitVec 16) (s : State) : Result :=
  onDev s fun d =>
    let d := { d with folds := { d.folds with services := Tab.set d.folds.services v ⟨on, numVFs.toNat⟩ } }
    (((d.listed .FLD_CFG).map (·.1)).filter fun f => d.fget FLD_CFG.VSW f == v).foldl (fun d f => (d.foldRefresh f).foldWake f) d

/-- FLR: a Function Level Reset of a fold's VF. -/
def execFlr (f : Fin 256) (s : State) : Result :=
  onDev s fun d => if d.foldState f = fdDisabled then d else d.foldReset f

/-- A write of 1 to FLD_RESET.RESET, which reads 1 until step 3 (R497). -/
def Dev.resetWrite (d : Dev) (f : Nat) : Dev := (d.foldReset f).fset FLD_RESET.RESET 1 f

/-- FOLD_RESET: a manager writes 1 to FLD_RESET.RESET. -/
def execFoldReset (f : Fin 256) (s : State) : Result := onWaitingReg (.foldReset f) s fun d => d.resetWrite f

/-- Is work of a fold's old generation left: a chunk outstanding, or a cell in the buffer (R479)? -/
def Dev.oldWorkLeft (d : Dev) (f : Nat) : Bool :=
  (d.core.flights.any fun x => match x.src with | .chunk _ id => d.workFold id == some f && x.answer.isNone | _ => false) ||
    (d.inBuffer ++ d.core.holds.map (·.2)).any fun m => match m.gen with | some (g, n) => g == f && n != d.fget FLD_STAT.GEN f | none => false

/-- FOLD_RESET_DONE: nothing of the old generation is left; the registers of the fold that a fold reset restores, its slots
and its work are given up, and it is in the state R440 gives (R479, R481). -/
def execFoldResetDone (f : Fin 256) (s : State) : Result :=
  onDev s fun d =>
    if d.foldState f ≠ fdResetting || d.oldWorkLeft f then d
    else
      let ids := (d.folds.work.filter fun w => w.owner.fold == some (f : Nat)).map (·.id)
      let d := ids.foldl (fun d id =>
        { d.dropWork id with core := { d.core with flights := d.core.flights.filter fun x => match x.src with | .chunk _ i => i != id | _ => true } }) d
      let d := d.restore .fold fun r => r.k.place.block == 0x20 && r.i == (f : Nat)
      let d := (d.fset FLD_RESET.RESET 0 f).fset FLD_RESET.DONE 1 f
      let x := d.fold f
      let d := d.setFold f { x with next := [], lastSq := 7, timers := [] }
      (d.fset FLD_STAT.STATE (d.foldRest f) f).eventMgr 7

end Sys2Proof.Machine
end

