-- ==== Sys2Proof/Machine/Admission.lean ====
section
/-! DEFINITION. Staged writes and the admission arithmetic of a commit (02_rack_time.md, R38; 04_wygel_instructions.md, R127,
R128): the configuration that commits will make, and the tests it must pass. -/

namespace Sys2Proof.Machine

/-! Staged writes (R127, R128, R165) -/

/-- The bits of its register that a staged write covers. -/
def StagedWrite.cover (w : StagedWrite) : Word :=
  if w.width = 8 then mask 0 64 else if w.addr % 8 = 4 then mask 32 32 else mask 0 32

/-- The value of a staged write in its place in the register. -/
def StagedWrite.word (w : StagedWrite) : Word :=
  if w.width = 8 then w.value else if w.addr % 8 = 4 then w.value <<< 32 else w.value &&& mask 0 32

/-- The register a staged write names. -/
def StagedWrite.reg (w : StagedWrite) : Option Reg := regAt w.addr

/-- Does a staged write cover a field of a register? -/
def StagedWrite.covers (w : StagedWrite) (f : Fld) : Bool := w.cover &&& mask f.lo f.w == mask f.lo f.w

/-- The bits of a register that carry a lock (ST/LK). -/
def RK.lockedMask (k : RK) : Word := k.fields.foldl (fun m f => if f.acc = .stlk then m ||| mask f.lo f.w else m) 0

/-- The register that holds the LOCK of a register with ST/LK fields (R513). -/
def Reg.lockWord (r : Reg) : Reg :=
  { r with k := match r.k with
    | .HRW_PORT_RULE1 => .HRW_PORT_RULE0
    | .HRW_POOL_RULE1 | .HRW_POOL_RULE2 => .HRW_POOL_RULE0
    | .HRW_ENG_RULE1 | .HRW_ENG_RULE2 => .HRW_ENG_RULE0
    | .HRW_DEFMAP1 => .HRW_DEFMAP0
    | k => k }

/-- Is a register's rule, or the default map, locked? -/
def Dev.ruleLocked (d : Dev) (r : Reg) : Bool := r.k.lockedMask != 0 && (d.rd r.lockWord).getLsbD 5

/-- The bits of a register that a staged write may change: its ST fields, none of virtual bridge 0 (R259). -/
def Reg.staged (r : Reg) : Word := if r.k = .CXP_VB ∧ r.j = 0 then 0 else r.k.stagedMask

/-- One staged write carried out on a configuration; `locks` holds the locks as they stood before the instant (R128, R165,
R513). -/
def Dev.applyWrite (locks d : Dev) (w : StagedWrite) : Dev :=
  match w.reg with
  | none => d
  | some r =>
    let m := r.staged &&& w.cover &&& (if locks.ruleLocked r then ~~~ r.k.lockedMask else mask 0 64)
    d.wr r ((d.rd r &&& ~~~ m) ||| (w.word &&& m))

/-- The writes a stage set holds, in staging order. -/
def Dev.setWrites (d : Dev) (n : Nat) : List StagedWrite := Tab.get [] d.commits.sets n

/-- The instant a set's last commit named. -/
def Dev.setInstant (d : Dev) (n : Nat) : Nat := d.fget TIM_COMMIT_INSTANT.INSTANT 0 n

/-- The state of a stage set: 0 FREE, 1 OPEN, 2 PENDING, 3 APPLYING. -/
def Dev.setState (d : Dev) (n : Nat) : Nat := d.fget TIM_COMMIT_STAT.STATE 0 n

/-- The pending sets in the order of their commits. -/
def Dev.pendingSets (d : Dev) : List Nat := d.commits.order

/-- The elements of a register name that some writes cover a field of, each once. -/
def writtenTo (ws : List StagedWrite) (f : Fld) : List (Nat × Nat) :=
  ws.foldl (fun acc w =>
    match w.reg with
    | some r => if r.k = f.k && w.covers f && !(acc.contains (r.i, r.j)) then acc ++ [(r.i, r.j)] else acc
    | none => acc) []

/-- The fields whose OP some writes write, each with the OP that stands (R374). -/
def Dev.fieldOps (d : Dev) (ws : List StagedWrite) : List (Nat × Nat) :=
  (writtenTo ws TMP_FIELD1.OP).map fun x => (x.1, d.fget TMP_FIELD1.OP x.1)

/-! Device states (R379) -/

/-- Does R379's table list a manager's transition? -/
def devMove (old new : Nat) : Bool :=
  (old == dvAbsent && (new == dvActive || new == dvLent)) || (old == dvActive && new == dvDraining) ||
    (old == dvDraining && new == dvActive) || ((old == dvActive || old == dvDraining || old == dvLent || old == dvLost) && new == dvAbsent)

/-- Writes carried out on a configuration, in a view of it at their instant: device states as requested, and fields placed
or released as OP says. The frames and the counters are not touched. -/
def Dev.viewWrites (locks d : Dev) (ws : List StagedWrite) : Dev :=
  let d := ws.foldl (fun d w => Dev.applyWrite locks d w) d
  let d := (writtenTo ws TMP_DEV_CFG.STATE).foldl (fun d x =>
    let st := d.fget TMP_DEV_CFG.STATE 0 x.2
    if devMove (d.dvState x.2) st then d.fset TMP_DEV_STAT.STATE st 0 x.2 else d) d
  (d.fieldOps ws).foldl (fun d x =>
    if x.2 = 1 then
      (((d.fset TMP_FIELD0.MODE fWhole x.1).fset TMP_FIELD0.DEV (d.fget TMP_FIELD1.M_DEV x.1) x.1).fset
        TMP_FIELD0.FRAME (d.fget TMP_FIELD1.M_FRAME x.1) x.1).fset TMP_FIELD0.ORIGIN 0 x.1
    else if x.2 = 2 then d.fset TMP_FIELD0.MODE fUnused x.1
    else d) d

/-- The view after the pending sets `ns`, in their order. Sets of one instant see the same locks. -/
def Dev.viewSets (d : Dev) (ns : List Nat) : Dev :=
  (ns.foldl (fun (x : Dev × Dev × Nat) n =>
    let t := d.setInstant n
    let locks := if t = x.2.2 then x.2.1 else x.1
    (x.1.viewWrites locks (d.setWrites n), locks, t)) (d, d, 0)).1

/-! The tests of the admission arithmetic. `v` is the view of the configuration that will be in force at the instant; `b`
the view without this commit, `ws` its writes, `d` the device as it stands. -/

/-- The placements that commits make in a view: device and frame of each field whose OP, written by `ws`, is PLACE. -/
def Dev.placements (v : Dev) (ws : List StagedWrite) : List (Nat × Nat × Nat) :=
  (v.fieldOps ws).filterMap fun x =>
    if x.2 = 1 then some (x.1, v.fget TMP_FIELD1.M_DEV x.1, v.fget TMP_FIELD1.M_FRAME x.1) else none

/-- Is anything placed on a device, or a frame of it reserved for a commit? -/
def Dev.devBusy (d : Dev) (v : Nat) : Bool :=
  d.fon TMP_DEV_STAT.PLACED_SWARDS 0 v || d.thatch.frames.any fun e => decide (e.1 / 2 ^ 24 = v) && e.2 == .reserved

/-- The local devices of a view that are not ABSENT: number, port and logical device. -/
def Dev.localDevs (v : Dev) : List (Nat × Nat × Nat) :=
  ((List.range 256).filter fun k => v.dvState k != dvAbsent && !(v.fon TMP_DEV_CFG.REMOTE 0 k)).map fun k =>
    (k, v.fget TMP_DEV_CFG.PORT 0 k, v.fget TMP_DEV_CFG.LD 0 k)

/-- The configured ports of a view. -/
def Dev.portsOn (v : Dev) : List Nat := (List.range 128).filter fun p => v.portMode p != 0

/-- The configured lanes per port-controller steps of a port: how many port controllers it spans. -/
def Dev.spans (v : Dev) (p : Nat) : Nat := v.cfgLanes p / 4

/-- R217, R218, R221: alignment and span, modes, widths, the numbers of Thatchlink and upstream ports, and the virtual
switches that upstream ports name. -/
def portsRight (v : Dev) : Bool :=
  let on := v.portsOn
  let right := fun (p : Nat) =>
    let n := v.spans p
    decide (p % n = 0 ∧ p + n ≤ 128) && ((List.range (n - 1)).all fun k => v.portMode (p + k + 1) == 0) &&
      decide (v.fget CXP_PORT_CFG.WIDTH p ≤ 2) && decide (v.portMode p ≤ 4) &&
      (v.portMode p != 4 || decide (8 ≤ v.cfgLanes p)) &&
      (v.portMode p != 1 ||
        (let k := v.fget CXP_PORT_CFG.VSW p
         v.fon CXP_VSW_CFG.EN k && v.fget CXP_VSW_CFG.USP k == p))
  on.all right && decide ((on.filter fun p => v.portMode p == 4).length ≤ 32) &&
    decide ((on.filter fun p => v.portMode p == 1).length ≤ 64)

/-- R154: no rate above the device's is written to a port or lane rate field. -/
def ratesRight (v : Dev) (ws : List StagedWrite) : Bool :=
  ((writtenTo ws CXP_PORT_CFG.RATE).all fun x => decide (v.fget CXP_PORT_CFG.RATE x.1 ≤ maxRate v.fuses)) &&
    (writtenTo ws LAN_CTRL.RATE_CAP).all fun x => decide (v.fget LAN_CTRL.RATE_CAP x.1 ≤ maxRate v.fuses)

/-- Does a configuration change a port's mode, width or rate? -/
def portChanged (b v : Dev) (p : Nat) : Bool :=
  b.portMode p != v.portMode p || b.fget CXP_PORT_CFG.WIDTH p != v.fget CXP_PORT_CFG.WIDTH p ||
    b.fget CXP_PORT_CFG.RATE p != v.fget CXP_PORT_CFG.RATE p

/-- R220: no change of mode, width or rate of a downstream port on which something is placed. -/
def portsKept (d b v : Dev) : Bool :=
  (List.range 128).all fun p =>
    !(b.portMode p == 2 && portChanged b v p) ||
      (b.localDevs.all fun x => x.2.1 != p || !(d.devBusy x.1))

/-- The virtual bridges of a view that hold a port or a logical device: virtual switch, bridge, port, and the logical device
(none: the whole port). -/
def Dev.boundBridges (v : Dev) : List (Nat × Nat × Nat × Option Nat) :=
  ((v.listed .CXP_VB).filter fun x => v.vbKind x.1 x.2 != 0).map
    fun x => (x.1, x.2, v.fget CXP_VB.PORT x.1 x.2, if v.vbKind x.1 x.2 = 2 then some (v.fget CXP_VB.LD x.1 x.2) else none)

/-- Do two of them name the same device? A whole port overlaps every logical device of it. -/
def sameTarget (p q : Nat) (l m : Option Nat) : Bool := p == q && (l.isNone || m.isNone || l == m)

/-- R227 and R229: bound ports are downstream ports, not pooled, bound once; and a virtual switch holds at most 16 CXL.cache
devices, one with a CXL 2.0 host. -/
def bridgesRight (d v : Dev) : Bool :=
  let bs := v.boundBridges
  (bs.all fun x =>
    v.portMode x.2.2.1 == 2 && (v.localDevs.all fun y => !(sameTarget x.2.2.1 y.2.1 x.2.2.2 (some y.2.2))) &&
      (bs.all fun y => (y.1 == x.1 && y.2.1 == x.2.1) || !(sameTarget x.2.2.1 y.2.2.1 x.2.2.2 y.2.2.2))) &&
    (bs.all fun x =>
      let caches := (bs.filter fun y => y.1 == x.1 && (d.lanePort y.2.2.1).cacheDev && d.portUp y.2.2.1).length
      decide (caches ≤ if d.fget CXP_LINK_STAT.PARTNER (v.fget CXP_VSW_CFG.USP x.1) = 2 then 1 else 16))

/-- R238: no two ports have the same PID. -/
def pidsRight (v : Dev) : Bool :=
  let ps := ((v.listed .CXP_PORT_CFG).map (·.1)).filter fun p => v.fon CXP_PORT_CFG.PID_EN p
  ps.all fun p => ps.all fun q => p == q || v.fget CXP_PORT_CFG.PID p != v.fget CXP_PORT_CFG.PID q

/-- R262: no region is smaller than what is used and offered of it, and a virtual switch's regions are together at most
131,072 GiB. -/
def regionsRight (v : Dev) : Bool :=
  (List.range 64).all fun k =>
    ((List.range 8).all fun r =>
      decide (v.fget CXP_POOL_USED.USED_GIB k r + v.fget CXP_POOL_USED.OFFERED_GIB k r ≤ v.regionGib k r)) &&
      decide (((List.range 8).map (v.regionGib k)).sum ≤ 131072)

/-- The rate a Thatchlink port runs or would train at: the trained rate of an up port that the view leaves as it is. -/
def linkRate (d v : Dev) (p : Nat) : Nat :=
  if d.portUp p && !(portChanged d v p) then d.fget CXP_LINK_STAT.RATE p else v.rateCap p

/-- The round trip a port's tests use: the measured one, else RTT_ASSUME (R286). -/
def roundTrip (v : Dev) (p : Nat) : Nat :=
  let r := v.fget TLK_RTT.RTT_NS p
  if r = 0 then v.fget TLK_FC_CFG.RTT_ASSUME p else r

/-- The partner's A_0: what it sent, else A0_ASSUME (R286). -/
def partnerA0 (d v : Dev) (p : Nat) : Nat :=
  let x := d.tlkPort p
  if x.initSeen && x.creditSeen.contains 0 then v.fget TLK_PARTNER_VC.CREDITS p 0 else v.fget TLK_FC_CFG.A0_ASSUME p

/-- The replay stores (4 a bank of region 3) or receive pools (8 a bank of region 4) in service, by number (R263, R538). -/
def Dev.tlkStores (d : Dev) (region per : Nat) : List Nat :=
  let banks := (List.range 256).filter fun b =>
    d.fget MEM_BANK_CFG.REGION b == region && decide (d.fget MEM_BANK_STAT.STATE b ≤ 1)
  let most := if region = 3 then 8 else 4
  rising ((banks.filter fun b => decide (d.fget MEM_BANK_CFG.POSITION b < most)).flatMap fun b =>
    (List.range per).map (d.fget MEM_BANK_CFG.POSITION b * per + ·))

/-- R282, R286, R538: dedicated slots within the pool, headroom in the shared part, enough headroom and partner credits, and
a store and a pool for every Thatchlink port. -/
def linksRight (d v : Dev) : Bool :=
  let ps := (v.portsOn).filter fun p => v.portMode p == 4
  (ps.all fun p =>
    let room := v.fget TLK_FC_CFG.HEADROOM p
    decide (((List.range 8).map (v.tlkA p)).sum ≤ 512) && decide (room < v.tlkS p) &&
      decide (headroomReq (v.cfgLanes p) (linkRate d v p) (roundTrip v p) ≤ room) &&
      decide (v.ridgeA0 p (roundTrip v p) ≤ partnerA0 d v p)) &&
    (ps == [] || (decide (ps.length ≤ (d.tlkStores 3 4).length) && decide (ps.length ≤ (d.tlkStores 4 8).length)))

/-- R310 and R329: the minimums leave at least 8,192 shared cells. -/
def bufferRight (v : Dev) : Bool := decide (4096 + v.minSum + 8192 ≤ v.fget SWC_BUF_STAT.CELLS_TOTAL)

/-- R314: nothing of the movers, migrations or snoops in class 0. -/
def classesRight (v : Dev) : Bool :=
  v.fon SWC_CLASS_CFG.DIR_CLASS && v.fon SWC_CLASS_CFG.MIGR_CLASS && v.fon SWC_CLASS_CFG.DEFAULT_CLASS &&
    (v.listed .SWC_CLASS_RULE).all fun x =>
      !(v.fon SWC_CLASS_RULE.VALID x.1 x.2) || v.fon SWC_CLASS_RULE.CLASS x.1 x.2 ||
        !(v.fget SWC_CLASS_RULE.SRC x.1 x.2 == 64 || v.fget SWC_CLASS_RULE.SRC x.1 x.2 == 127)

/-- The valid Ridge reservations of a view: egress port and number. -/
def Dev.ridges (v : Dev) : List (Nat × Nat) := (v.listed .SCH_RIDGE_RES).filter fun x => v.fon SCH_RIDGE_RES.VALID x.1 x.2

/-- The flow shapers in use, once for each user: flow queues and both shapers of each reservation (R347). -/
def Dev.shaperUsers (v : Dev) : List Nat :=
  (((v.listed .SCH_QUEUE_CFG).filter fun x => v.fon SCH_QUEUE_CFG.SHAPER_EN x.1 x.2).map fun x =>
    v.fget SCH_QUEUE_CFG.SHAPER x.1 x.2) ++
  v.ridges.flatMap fun x => [v.fget SCH_RIDGE_RES.REQ_SHAPER x.1 x.2, v.fget SCH_RIDGE_RES.RESP_SHAPER x.1 x.2]

/-- Does a list hold no number twice? -/
def noTwice : List Nat → Bool
  | [] => true
  | x :: xs => !(xs.contains x) && noTwice xs

/-- The bytes of BURST that the reservations put on a port's egress (R354; Q_p of RIDGE_BURST). -/
def Dev.ridgeBurst (v : Dev) (p : Nat) : Nat :=
  (v.ridges.map fun x =>
    (if x.1 = p then v.fget SCH_SHAPER_CFG.BURST (flowShaper (v.fget SCH_RIDGE_RES.REQ_SHAPER x.1 x.2)) else 0) +
      (if v.fget SCH_RIDGE_RES.SRC x.1 x.2 = p then
        v.fget SCH_SHAPER_CFG.BURST (flowShaper (v.fget SCH_RIDGE_RES.RESP_SHAPER x.1 x.2)) else 0)).sum

/-- Lanes × half-GT/s of a port: R_p is this × 62.5 MB/s, 0 for a port whose MODE is 0. -/
def Dev.portSpeed (v : Dev) (p : Nat) : Nat := v.cfgLanes p * halfGt (v.fget CXP_PORT_CFG.RATE p)

/-- R347 and R354: the Ridge reservations. -/
def ridgeRight (v : Dev) : Bool :=
  let rs := v.ridges
  let ports := rs.map (·.1) ++ rs.map fun x => v.fget SCH_RIDGE_RES.SRC x.1 x.2
  let shaperOk := fun (n : Nat) =>
    v.fon SCH_SHAPER_CFG.EN (flowShaper n) && v.fon SCH_SHAPER_CFG.RATE (flowShaper n) && v.fon SCH_SHAPER_CFG.BURST (flowShaper n)
  let cells := fun (n : Nat) => (v.fget SCH_SHAPER_CFG.BURST (flowShaper n) + 255) / 256
  let mode := fun (p : Nat) => decide (1 ≤ v.portMode p ∧ v.portMode p ≤ 4)
  noTwice v.shaperUsers &&
    (ports.all fun p => decide (v.ridgeRate p ≤ v.portSpeed p * 25) && decide (2 * v.ridgeBurst p ≤ 5 * v.portSpeed p)) &&
    decide ((rs.map fun x => cells (v.fget SCH_RIDGE_RES.REQ_SHAPER x.1 x.2) +
      cells (v.fget SCH_RIDGE_RES.RESP_SHAPER x.1 x.2) + 2).sum ≤ 4096) &&
    (rs.all fun x =>
      mode x.1 && mode (v.fget SCH_RIDGE_RES.SRC x.1 x.2) && shaperOk (v.fget SCH_RIDGE_RES.REQ_SHAPER x.1 x.2) &&
        shaperOk (v.fget SCH_RIDGE_RES.RESP_SHAPER x.1 x.2) &&
        (List.range 16).any fun k => v.fon SCH_GATE_MAP.OPEN x.1 k) &&
    (v.listed .SCH_PORT_CFG).all fun x => v.fon SCH_PORT_CFG.EXCESS_CLASS x.1

/-- A valid binding entry of a view: virtual switch, region, first GiB of its window, length, first field. -/
structure Binding where
  v : Nat
  region : Nat
  dpa : Nat
  len : Nat
  field : Nat
  deriving DecidableEq, Repr

/-- The binding of one entry, if it is valid. -/
def Dev.bindingAt (d : Dev) (i : Nat) : Option Binding :=
  if d.fon TMP_BIND0.VALID i then
    some ⟨i / 64, d.fget TMP_BIND0.REGION i, d.fget TMP_BIND0.DPA_GIB i, d.fget TMP_BIND0.LEN_GIB i, d.fget TMP_BIND1.FIELD i⟩
  else none

/-- The valid binding entries with their instances. -/
def Dev.bindings (d : Dev) : List (Nat × Binding) :=
  ((d.listed .TMP_BIND0).map (·.1)).filterMap fun i => (d.bindingAt i).map fun x => (i, x)

/-- Do two runs of numbers overlap? -/
def runsMeet (a n b m : Nat) : Bool := decide (a < b + m ∧ b < a + n)

/-- R371: the binding entries. -/
def bindingsRight (v : Dev) : Bool :=
  let bs := v.bindings
  (bs.all fun x =>
    let b := x.2
    let base := v.regionBase b.v b.region
    decide (base ≤ b.dpa ∧ b.dpa + b.len ≤ base + v.regionGib b.v b.region) && decide (b.field + b.len ≤ 131072) &&
      ((List.range b.len).all fun n =>
        v.fmode (b.field + n) != fUnused && v.fget TMP_FIELD1.SHARED (b.field + n) == (decide (4 ≤ b.region)).toNat &&
          v.fget TMP_FIELD1.TIER (b.field + n) == b.region % 4) &&
      (bs.all fun y => x.1 == y.1 || !(b.v == y.2.v && runsMeet b.dpa b.len y.2.dpa y.2.len)) &&
      (bs.all fun y => x.1 == y.1 || 4 ≤ b.region || !(runsMeet b.field b.len y.2.field y.2.len))) &&
    (bs.all fun x => (List.range 4).all fun t =>
      decide (((bs.filter fun y => y.2.v == x.2.v && y.2.region % 4 == t).map fun y => y.2.len).sum ≤
        v.fget TMP_QUOTA.QUOTA_GIB 0 (x.2.v * 4 + t)))

/-- The valid bindings of a view that name a field. -/
def Dev.bindersOf (v : Dev) (f : Nat) : Nat :=
  (v.bindings.filter fun x => decide (x.2.field ≤ f ∧ f < x.2.field + x.2.len)).length

/-- R240 and R374: placements, releases, and changes of tier or scope. -/
def fieldsRight (d b v : Dev) (ws : List StagedWrite) : Bool :=
  let ops := v.fieldOps ws
  let places := v.placements ws
  (ops.all fun x =>
    let f := x.1
    if x.2 = 1 then
      let dev := v.fget TMP_FIELD1.M_DEV f
      let fr := v.fget TMP_FIELD1.M_FRAME f
      (b.fmode f == fUnused || b.fmode f == fLost) && v.dvState dev == dvActive &&
        v.fget TMP_DEV_CFG.TIER 0 dev == v.fget TMP_FIELD1.TIER f && d.frame dev fr == .zeroed &&
        (places.all fun y => y.1 == f || !(y.2.1 == dev && y.2.2 == fr)) &&
        !(v.fon TMP_FIELD1.SHARED f && v.fon TMP_DEV_CFG.REMOTE 0 dev && v.portMode (v.fget TMP_DEV_CFG.PORT 0 dev) == 3)
    else if x.2 = 2 then !(b.fon TMP_FIELD0.ORIGIN f) && v.bindersOf f == 0
    else x.2 == 0) &&
    (writtenTo ws TMP_FIELD1.SHARED).all fun x =>
      b.fmode x.1 == fUnused || ops.any (fun o => o.1 == x.1 && o.2 != 0) ||
        (b.fget TMP_FIELD1.SHARED x.1 == v.fget TMP_FIELD1.SHARED x.1 && b.fget TMP_FIELD1.TIER x.1 == v.fget TMP_FIELD1.TIER x.1)

/-- R379: device entries. -/
def devicesRight (d b v : Dev) (ws : List StagedWrite) : Bool :=
  let ds := v.localDevs
  ((writtenTo ws TMP_DEV_CFG.STATE).all fun x =>
    let k := x.2
    let old := b.dvState k
    let new := v.fget TMP_DEV_CFG.STATE 0 k
    (new == old || devMove old new) && !([3, 5, 6, 7].contains new) &&
      !(new == dvAbsent && old != dvAbsent &&
        (d.devBusy k || (v.placements ws).any (fun y => y.2.1 == k) || (old == dvLost && d.fon TMP_DEV_STAT.WALK 0 k))) &&
      !(new == dvActive && !(v.fon TMP_DEV_CFG.REMOTE 0 k) &&
        (!(v.fon TMP_DEV_CFG.SIZE_GIB 0 k) || v.portMode (v.fget TMP_DEV_CFG.PORT 0 k) != 2))) &&
    (ds.all fun x => ds.all fun y => x.1 == y.1 || !(x.2.1 == y.2.1 && x.2.2 == y.2.2) ||
      !(runsMeet (v.fget TMP_DEV_RANGE.BASE_GIB 0 x.1) (v.fget TMP_DEV_CFG.SIZE_GIB 0 x.1)
        (v.fget TMP_DEV_RANGE.BASE_GIB 0 y.1) (v.fget TMP_DEV_CFG.SIZE_GIB 0 y.1)))

/-- R388: PROMOTE above DEMOTE on every tier. -/
def tiersRight (v : Dev) : Bool :=
  (List.range 4).all fun t => decide (v.fget TMP_TIER_CFG.DEMOTE 0 t < v.fget TMP_TIER_CFG.PROMOTE 0 t)

/-- R439: the folds of a virtual switch whose VFs are enabled stay the same, and folds go to enabled switches. -/
def foldsRight (b v : Dev) (ws : List StagedWrite) : Bool :=
  let fs := (writtenTo ws FLD_CFG.VSW).map (·.1)
  let home := fun (x : Dev) (f : Nat) => if x.fon FLD_CFG.ASSIGNED f then x.fget FLD_CFG.VSW f else 64
  fs.all fun f =>
    (home b f == home v f || !((b.service (home b f)).vfEnable || (b.service (home v f)).vfEnable)) &&
      (home v f == 64 || v.fon CXP_VSW_CFG.EN (home v f))

/-- R527: no port is switched on before the region table is locked. -/
def lockRight (v : Dev) (ws : List StagedWrite) : Bool :=
  v.fon CSP_STATUS.REGION_LOCK || (writtenTo ws CXP_PORT_CFG.MODE).all fun x => v.portMode x.1 == 0

/-- The admission arithmetic of a commit of writes `ws` in the device `d`, where `b` is the view of the configuration and
every commit already accepted, and `v` that view with this commit (R38). -/
def admissible (d b v : Dev) (ws : List StagedWrite) : Bool :=
  lockRight v ws && ratesRight v ws && portsRight v && portsKept d b v && bridgesRight d v && pidsRight v && regionsRight v &&
    linksRight d v && bufferRight v && classesRight v && ridgeRight v && bindingsRight v && fieldsRight d b v ws &&
    devicesRight d b v ws && tiersRight v && foldsRight b v ws

end Sys2Proof.Machine
end

