-- ==== Sys2Proof/Machine/WygelControl.lean ====
section
/-! DEFINITION. Branch and call, the system group, exceptions, events and thread control, waiting for an instant
(04_wygel_instructions.md, R115 to R125). -/

namespace Sys2Proof.Machine

/-- BR (R115): a COND that is not listed is ILLEGAL. -/
def execBr (t : Fin 64) (cond : BitVec 5) (off : BitVec 21) (s : State) : Result :=
  onDev s (Dev.issue t (decide (cond.toNat < 15)) false fun d th =>
    if (condHolds cond.toNat th.flags).getD false then d.setThr t { th with pc := branchTarget th.pc off }
    else d.retire t th)

/-- CALL (R115): COND zero; g31 holds the return address. -/
def execCall (t : Fin 64) (cond : BitVec 5) (off : BitVec 21) (s : State) : Result :=
  onDev s (Dev.issue t (cond == 0) false fun d th =>
    d.setThr t { th.setG 31 ((th.pc + 4).zeroExtend 64) with pc := branchTarget th.pc off })

/-- Are the register fields an entry does not name zero (R116)? -/
def allZero (rs : List (Fin 32)) : Bool := rs.all fun r => r == 0

/-- YLD (R116): the engine is given up until every other ready thread of it has issued once; a safe point, at which a marked
thread parks (R91). -/
def execYld (t : Fin 64) (rd ra rb : Fin 32) (s : State) : Result :=
  onDev s (Dev.issue t (allZero [rd, ra, rb]) false fun d th =>
    let d := d.mapThr fun n x =>
      if n != (t : Nat) && x.state == .run && x.engine == th.engine then { x with owes := x.owes ++ [(t : Nat)] } else x
    let d := d.retire t th
    if th.marked then d.park t else d)

/-- HLT (R61): the thread ends. -/
def execHlt (t : Fin 64) (rd ra rb : Fin 32) (s : State) : Result :=
  onDev s (Dev.issue t (allZero [rd, ra, rb]) false fun d _ => d.endThread t)

/-- ERET (R79): ILLEGAL if EXL = 0. -/
def execEret (t : Fin 64) (rd ra rb : Fin 32) (s : State) : Result :=
  onDev s (Dev.issue t (allZero [rd, ra, rb]) true fun d th =>
    if th.ecause.getLsbD 9 then d.setThr t th.eret else d.trap t 1 th.pc.toNat)

/-- The posted pool writes of a thread that have not completed (R113). -/
def Dev.posted (d : Dev) (t : Nat) : List Flight := d.core.flights.filter fun f => f.src == .thread t && f.write

/-- FNC completes: C says whether a posted write failed since the previous FNC (R116). -/
def fenceDone (th : Thread) : Thread :=
  { th.advance with flags := { th.flags with c := th.postFail }, postFail := false, state := .run, wait := .ready }

/-- FNC (R116): waits while a posted pool write of the thread is outstanding. -/
def execFnc (t : Fin 64) (rd ra rb : Fin 32) (s : State) : Result :=
  onDev s (Dev.issue t (allZero [rd, ra, rb]) false fun d th =>
    if (d.posted t).isEmpty then d.setThr t (fenceDone th)
    else d.setThr t { th with state := .wait, wait := .fence })

/-- MFS (R116, R117). -/
def execMfs (t : Fin 64) (rd ra rb : Fin 32) (s : State) : Result :=
  onDev s (Dev.issue t (allZero [ra] && decide ((rb : Nat) ≤ 6)) false fun d th =>
    if th.priv && (rb == 4 || rb == 5) then d.trap t 2 th.pc.toNat
    else d.retire t (th.setG rd (specialReg d.now th rb)))

/-- A special register written (R117): EVMASK within what the thread may change, EPC, ECAUSE without its reserved bits
(R65), or the flags. -/
def writeSpecial (th : Thread) (n : Nat) (v : Word) : Thread :=
  match n with
  | 3 => { th with evmask := (th.evmask &&& ~~~ evmaskWritable th) ||| (v &&& evmaskWritable th) }
  | 4 => { th with epc := v.setWidth 32 }
  | 5 => { th with ecause := v &&& (mask 0 10 ||| mask 32 32) }
  | 6 => { th with flags := Flags.ofWord v }
  | _ => th

/-- MTS (R116, R117): NOW, PRIV and FID raise PRIV, as do EPC and ECAUSE for a fold thread. -/
def execMts (t : Fin 64) (rd ra rb : Fin 32) (s : State) : Result :=
  onDev s (Dev.issue t (allZero [rd] && decide ((rb : Nat) ≤ 6)) false fun d th =>
    if decide ((rb : Nat) < 3) || (th.priv && (rb == 4 || rb == 5)) then d.trap t 2 th.pc.toNat
    else d.retire t (writeSpecial th rb (th.g ra)))

/-- JR (R116). -/
def execJr (t : Fin 64) (rd ra rb : Fin 32) (s : State) : Result :=
  onDev s (Dev.issue t (allZero [rd, rb]) false fun d th => d.setThr t { th with pc := toPC (th.g ra) })

/-- CALLR (R116): the target is read before g[rd] is written. -/
def execCallr (t : Fin 64) (rd ra rb : Fin 32) (s : State) : Result :=
  onDev s (Dev.issue t (allZero [rb]) false fun d th =>
    d.setThr t { th.setG rd ((th.pc + 4).zeroExtend 64) with pc := toPC (th.g ra) })

/-- SYS (R118): SYSCALL with the immediate as detail; EPC is the instruction after SYS (R76). -/
def execSys (t : Fin 64) (rd ra : Fin 32) (imm : BitVec 16) (s : State) : Result :=
  onDev s (Dev.issue t (allZero [rd, ra]) false fun d th => d.takeException t 0xA (th.pc + 4) imm.toNat)

/-- The record FRSE sends (R118, R119). -/
def frseRecord (v : Word) (imm : BitVec 16) : FaultRec :=
  let ucc := imm.toNat / 2 ^ 14 == 2
  ⟨imm.toNat / 2 ^ 14, imm.toNat % 2 ^ 14, if ucc then bitsOf v 12 4 else 0, if ucc then bitsOf v 0 12 else 0, v⟩

/-- FRSE (R118, R119): the thread's own source holds one record; while it waits, a second FRSE stalls (R549). -/
def execFrse (t : Fin 64) (rd ra : Fin 32) (imm : BitVec 16) (s : State) : Result :=
  onDev s (Dev.issue t (allZero [rd]) true fun d th =>
    let r := frseRecord (th.g ra) imm
    let src := d.src (412 + t)
    if src.queue.isEmpty then (d.setSrc (412 + t) { src with queue := [(r, false)] }).retire t th
    else d.setThr t { th with state := .wait, wait := .faultSlot r })

/-- The events a thread's EVW sees: pending and enabled; at PRIV 1 only 56 to 63 (R120). -/
def Thread.evReady (th : Thread) : Word :=
  th.evpend &&& th.evmask &&& (if th.priv then mask 56 8 else BitVec.allOnes 64)

/-- The lowest-numbered event of a word. -/
def lowestEvent (w : Word) : Nat := ((List.range 64).find? fun e => w.getLsbD e).getD 0

/-- EVW returns an event: the lowest-numbered, its pending bit cleared, C = 0 (R120). -/
def evwEvent (th : Thread) (rd : Nat) : Thread :=
  let e := lowestEvent th.evReady
  { (th.setG rd (BitVec.ofNat 64 e)).advance with
    evpend := th.evpend &&& ~~~ mask e 1, flags := { th.flags with c := false }, state := .run, wait := .ready }

/-- EVW returns on its deadline: all ones, C = 1 (R120). -/
def evwLate (th : Thread) (rd : Nat) : Thread :=
  { (th.setG rd (BitVec.allOnes 64)).advance with
    flags := { th.flags with c := true }, state := .run, wait := .ready }

/-- Has an EVW deadline passed? 0 is no deadline (R120). -/
def deadlinePassed (now : Nat) (dl : Word) : Bool := dl != 0 && decide (dl.toNat ≤ now)

/-- A thread that completed a safe point: it parks if a hot update has marked it (R91, R121). -/
def Dev.safePoint (d : Dev) (t : Nat) (th : Thread) : Dev :=
  d.setThr t (if th.marked then { th with state := .parked } else th)

/-- EVW (R120, R121): an event first, then a deadline that has passed, else it waits; RB and FUNC zero. -/
def execEvw (t : Fin 64) (rd ra rb : Fin 32) (func : BitVec 11) (s : State) : Result :=
  onDev s (Dev.issue t (allZero [rb] && func == 0) false fun d th =>
    if th.evReady != 0 then d.safePoint t (evwEvent th rd)
    else if deadlinePassed d.now (th.g ra) then d.safePoint t (evwLate th rd)
    else d.setThr t { th with state := if th.marked then .parked else .wait, wait := .event rd (th.g ra) })

/-- A software event (R66, R120): 16 to 55 for manager threads, 56 to 63 for the fold's and manager threads. -/
def Dev.softEvent (d : Dev) (e fold : Nat) : Dev :=
  d.latch e fun _ th => th.manager || (decide (56 ≤ e) && th.fid == fold)

/-- EVS (R120): ILLEGAL if e < 16, PRIV for a fold thread if e < 56; IMM16[15:6] zero. Its entry neither names RD nor marks it
zero: any RD is accepted (DESIGN CHOICE, assumption 170). -/
def execEvs (t : Fin 64) (rd ra : Fin 32) (imm : BitVec 16) (s : State) : Result :=
  onDev s (Dev.issue t (decide (16 ≤ imm.toNat ∧ imm.toNat < 64)) false fun d th =>
    let _ := rd
    if th.priv && decide (imm.toNat < 56) then d.trap t 2 th.pc.toNat
    else
      let fold := if th.manager then bitsOf (th.g ra) 0 8 else th.fid
      (d.softEvent imm.toNat fold).mapThr fun n x => if n = (t : Nat) then x.advance else x)

/-- SPWN (R120): a new thread of the same image; all ones and C = 1 with no free context. A thread started while a hot
update of its image waits is marked with the rest (R91). -/
def execSpwn (t : Fin 64) (rd ra rb : Fin 32) (func : BitVec 11) (s : State) : Result :=
  onDev s (Dev.issue t (func == 0) true fun d th =>
    match d.codeOf th with
    | none => d
    | some im =>
      match d.startThread im (th.g ra) (th.g rb) with
      | (d', some n) =>
        let m := d.wygel.update.any fun u => u.image.id == im.id
        let d' := d'.setThr n { d'.thr n with marked := m }
        d'.retire t { th.setG rd (BitVec.ofNat 64 n) with flags := { th.flags with c := false } }
      | (d', none) => d'.retire t { th.setG rd (BitVec.allOnes 64) with flags := { th.flags with c := true } })

/-- WAT returns: g[rd] = NOW (R123). -/
def watDone (now : Nat) (late : Bool) (th : Thread) (rd : Nat) : Thread :=
  { (th.setG rd (BitVec.ofNat 64 now)).advance with
    flags := { th.flags with c := late }, state := .run, wait := .ready }

/-- WAT (R123): RB and MODE zero; C = 1 if the instant had passed when it issued. -/
def execWat (t : Fin 64) (rd ra rb : Fin 32) (mode : BitVec 2) (sw : BitVec 9) (s : State) : Result :=
  onDev s (Dev.issue t (allZero [rb] && mode == 0) false fun d th =>
    let due := instantOf (th.g ra) sw
    if due ≤ d.now then d.setThr t (watDone d.now (decide (due < d.now)) th rd)
    else d.setThr t { th with state := .wait, wait := .instant rd (BitVec.ofNat 64 due) })

end Sys2Proof.Machine
end

