-- ==== Sys2Proof/Machine/Commit.lean ====
section
/-! DEFINITION. Staged writes and commits (02_rack_time.md, R38 to R52; 04_wygel_instructions.md, R126 to R133): STG and
CMT, the instant at which the epoch flips, what each changed register brings about then, the drain and the resync. -/

namespace Sys2Proof.Machine

/-- A refused access recorded in CSP_ERR and counted (R156, R157): cause, source (0 manager thread, 1 fold thread, 2 debug
access port), thread, address. -/
def Dev.cspErr (d : Dev) (cause source thread addr : Nat) : Dev :=
  let d := ((d.fset CSP_ERR.ADDR addr).fset CSP_ERR.CAUSE cause).fset CSP_ERR.SOURCE source
  ((d.fset CSP_ERR.THREAD thread).fset CSP_ERR.VALID 1).fadd CSP_ERR_COUNT.COUNT 1

/-! STG (R127 to R129) -/

/-- STG and every form of CMT wait while a soft reset is in progress (R646): the thread issues it later. -/
def afterSoft (f : Dev → Dev) (d : Dev) : Dev := if d.fget CSP_STATUS.PHASE = 4 then d else f d

/-- A staged write of a thread (R127): the exceptions in their order, else the write is appended. -/
def Dev.stage (t rd ra rb width : Nat) : Dev → Dev :=
  afterSoft <| Dev.issue t true true fun d th =>
    let a := (th.g ra).toNat % 2 ^ 48
    let n := (th.g rb).toNat % 16
    let ws := d.setWrites n
    if a % width ≠ 0 then d.trap t 4 (a % 2 ^ 32)
    else match regAt a with
      | none => d.trap t 6 (a % 2 ^ 32)
      | some r =>
        if r.k.stagedMask = 0 then d.trap t 6 (a % 2 ^ 32)
        else if d.setState n ≠ 1 ∨ 4096 ≤ ws.length then d.trap t 0xB (a % 2 ^ 32)
        else
          let w : StagedWrite := ⟨a, width, if width = 8 then th.g rd else th.g rd &&& mask 0 32, t⟩
          let d := { d with commits := { d.commits with sets := Tab.set d.commits.sets n (ws ++ [w]) } }
          d.retire t th

/-- STG.W. -/
def execStgW (t : Fin 64) (rd ra rb : Fin 32) (s : State) : Result := onDev s (Dev.stage t rd ra rb 4)

/-- STG.D. -/
def execStgD (t : Fin 64) (rd ra rb : Fin 32) (s : State) : Result := onDev s (Dev.stage t rd ra rb 8)

/-! CMT (R130 to R133) -/

/-- The instant R38 orders a commit after: the latest pending one, else that of the last commit whose epoch flipped. -/
def Dev.lastInstant (d : Dev) : Option Nat :=
  match d.commits.order.getLast? with
  | some n => some (d.setInstant n)
  | none => d.commits.lastFlip

/-- Does a set write the placement entry of a field that changes now (R38, R375)? -/
def Dev.writesBusy (d : Dev) (ws : List StagedWrite) : Bool :=
  ws.any fun w => match w.reg with
    | some r => r.k == .TMP_FIELD1 && d.fon TMP_FIELD0.MIGRATING r.i
    | none => false

/-- The status of a commit of set `n` for instant `T` (R38, R39). -/
def Dev.commitStatus (d : Dev) (n T : Nat) : Nat :=
  let ws := d.setWrites n
  let b := d.viewSets d.commits.order
  let same := (d.commits.order.filter fun m => d.setInstant m == T).map fun m => (d.setWrites m).length
  let after := match d.lastInstant with
    | none => 0
    | some x => if T < x then 5 else if x < T ∧ T < x + 65536 then 6 else if T = x ∧ 4096 < same.sum + ws.length then 11 else 0
  if !d.timeGood then 4
  else if d.inFault then 10
  else if T < d.now + 2048 then 2
  else if d.now + 2 ^ 30 < T then 3
  else if after ≠ 0 then after
  else if d.writesBusy ws then 7
  else if admissible d b (b.viewWrites b ws) ws then 0
  else 8

/-- The status of a set's commit, with event COMMIT (R133). -/
def Dev.commitEnds (d : Dev) (n state status : Nat) : Dev :=
  let d := ((d.fset TIM_COMMIT_STAT.STATE state 0 n).fset TIM_COMMIT_STAT.LAST_STATUS status 0 n).eventAll 0
  if status = 0 then d else d.commitFinal n status

/-- The frames that the pending commits place fields on (R374), by their keys. -/
def Dev.reservedKeys (d : Dev) : List Nat :=
  (d.commits.order.foldl (fun (x : Dev × List Nat) n =>
    let ws := d.setWrites n
    let v := x.1.viewWrites x.1 ws
    (v, x.2 ++ (v.placements ws).map fun y => frameKey y.2.1 y.2.2)) (d, [])).2

/-- A commit accepted: pending, its load still to come, ports of its reservations held, frames it places on reserved (R41,
R201, R204, R374). -/
def Dev.commitAccept (d : Dev) (n : Nat) : Dev :=
  let ws := d.setWrites n
  let b := d.viewSets d.commits.order
  let v := b.viewWrites b ws
  let fresh := match d.commits.order.head? with | some m => d.setInstant m == d.setInstant n | none => true
  let d := if d.commits.loaded && fresh then
      { d with commits := { d.commits with loaded := false, inactive := [] } } else d
  let d := { d with commits := { d.commits with order := d.commits.order ++ [n] } }
  let d := ((List.range 128).filter v.carriesRidge).foldl (fun (d : Dev) (p : Nat) =>
    (d.setLanePort p { d.lanePort p with heldFor := (d.lanePort p).heldFor ++ [n] }).holdFull p) d
  (v.placements ws).foldl (fun (d : Dev) (x : Nat × Nat × Nat) => d.setFrame x.2.1 x.2.2 .reserved) d

/-- g[rd] and Z as CMT leaves them. -/
def Dev.cmtRetire (d : Dev) (t rd value : Nat) (z : Bool) : Dev :=
  let th := (d.thr t).setG rd (BitVec.ofNat 64 value)
  d.retire t { th with flags := { th.flags with z := z } }

/-- A commit of an OPEN set: the checks, the status, and acceptance (R130, R132). -/
def Dev.commitTry (d : Dev) (n T : Nat) : Dev × Nat :=
  let st := d.commitStatus n T
  let d := d.fset TIM_COMMIT_INSTANT.INSTANT T 0 n
  if st = 0 then ((d.commitAccept n).commitEnds n 2 0, 0) else (d.commitEnds n 1 st, st)

/-- CMT.COMMIT. -/
def execCmtCommit (t : Fin 64) (rd ra rb : Fin 32) (sw : BitVec 9) (s : State) : Result :=
  onDev s <| afterSoft <| Dev.issue t true true fun d th =>
    let n := (th.g rb).toNat % 16
    if d.setState n ≠ 1 then d.cmtRetire t rd 0xF false
    else
      let (d, st) := d.commitTry n (commitInstant (th.g ra) sw)
      d.cmtRetire t rd st (st == 0)

/-- CMT.OPEN. -/
def execCmtOpen (t : Fin 64) (rd ra rb : Fin 32) (sw : BitVec 9) (s : State) : Result :=
  onDev s <| afterSoft <| Dev.issue t (allZero [ra] && sw == 0) true fun d th =>
    let n := (th.g rb).toNat % 16
    if d.setState n ≠ 0 then d.cmtRetire t rd 0xF false
    else
      let d := { d with commits := { d.commits with sets := Tab.erase d.commits.sets n } }
      (d.fset TIM_COMMIT_STAT.STATE 1 0 n).cmtRetire t rd 0 true

/-- CMT.DISCARD. -/
def execCmtDiscard (t : Fin 64) (rd ra rb : Fin 32) (sw : BitVec 9) (s : State) : Result :=
  onDev s <| afterSoft <| Dev.issue t (allZero [ra] && sw == 0) true fun d th =>
    let n := (th.g rb).toNat % 16
    if d.setState n ≠ 1 then d.cmtRetire t rd 0xF false
    else
      let d := { d with commits := { d.commits with sets := Tab.erase d.commits.sets n } }
      (d.fset TIM_COMMIT_STAT.STATE 0 0 n).cmtRetire t rd 0 true

/-! Load (R43, step 1) -/

/-- The pending sets of the earliest instant, with that instant. -/
def Dev.nextInstant (d : Dev) : Option (Nat × List Nat) :=
  match d.commits.order with
  | [] => none
  | n :: _ =>
    let t := d.setInstant n
    some (t, d.commits.order.filter fun m => d.setInstant m == t)

/-- The writes of some sets, in the order they apply (R40). -/
def Dev.writesOf (d : Dev) (ns : List Nat) : List StagedWrite := ns.flatMap d.setWrites

/-- The configuration with writes carried out. -/
def Dev.applyWrites (d : Dev) (ws : List StagedWrite) : Dev := ws.foldl (fun x w => Dev.applyWrite d x w) d

/-- The registers that writes name, each once. -/
def regsOf (ws : List StagedWrite) : List Reg :=
  ws.foldl (fun acc w => match w.reg with
    | some r => if acc.contains r then acc else acc ++ [r]
    | none => acc) []

/-- The cells of `x` in which it differs from `d`, of the registers that writes name. -/
def copyCells (d x : Dev) (ws : List StagedWrite) : List RegCell :=
  ((regsOf ws).filter fun r => d.rd r != x.rd r).map fun r => (r, x.rd r)

/-- COMMIT_LOAD: the writes of every commit at the next instant go into the inactive copies. -/
def execCommitLoad (s : State) : Result :=
  onDev s fun d =>
    match d.nextInstant with
    | none => d
    | some (_, ns) =>
      if d.commits.draining || d.commits.resyncing || d.commits.loaded then d
      else
        let ws := d.writesOf ns
        { d with commits := { d.commits with loaded := true, inactive := copyCells d (d.applyWrites ws) ws } }

/-! What a flip brings about. In each of these `od` is the device just before the flip, `d` the device after it, and `ws`
the writes that took effect. -/

/-- Ports whose mode, width or rate changes, before the flip: an up one goes down with cause CONFIG, any other whose MODE
becomes 0 is flushed and OFF, and a Thatchlink port in bring-up leaves its INIT (R220, R245, R293). -/
def Dev.portsLeave (d nd : Dev) : Dev :=
  ((List.range 128).filter (portChanged d nd)).foldl (fun d p =>
    let off := nd.portMode p == 0
    if d.portUp p then d.leaveUp p 8 (if off then poOff else poTraining) .config
    else if off && d.portState p != poOff then
      let d := d.flush p
      let d := if d.portMode p = 4 then d.tlkClear p else d
      (((d.fset CXP_LINK_STAT.STATE poOff p).fset CXP_CONTAIN.CONTAINED 0 p).fset CXP_CONTAIN.CAUSE 0 p).portEvent p
    else if d.portMode p = 4 && d.portState p == poTraining then d.tlkClear p
    else d) d

/-- The same ports after it: one that was OFF or up starts bring-up; a contained one stays so until released, a DOWN one until a
partner is detected (R220, R245, R248). -/
def Dev.portsTrain (d od : Dev) : Dev :=
  ((List.range 128).filter (portChanged od d)).foldl (fun d p =>
    if d.portMode p = 0 ∨ d.portState p = poContained ∨ d.portState p = poDown then d else d.train p) d

/-- A store's number given to each port of a list that has none, lowest first. -/
def giveStores (free : List Nat) (t : Tab Nat) (ports : List Nat) : Tab Nat :=
  ports.foldl (fun t p =>
    match free.find? fun k => !(t.any fun e => e.2 == k) with
    | some k => Tab.set t p k
    | none => t) t

/-- Replay stores and receive pools: given up when a port's mode changes, given to new Thatchlink ports in order of port
number (R263). -/
def Dev.storesMove (d od : Dev) : Dev :=
  let moved := (List.range 128).filter fun p => od.portMode p != d.portMode p
  let stay := fun (e : Nat × Nat) => !(moved.contains e.1)
  let new := moved.filter fun p => d.portMode p == 4
  { d with tlk := { d.tlk with
      stores := giveStores (d.tlkStores 3 4) (d.tlk.stores.filter stay) new,
      pools := giveStores (d.tlkStores 4 8) (d.tlk.pools.filter stay) new } }

/-- IDE switched on or off on a port that stays up (R242). -/
def Dev.ideMoves (d od : Dev) (ws : List StagedWrite) : Dev :=
  (writtenTo ws CXP_IDE_CFG.EN).foldl (fun d x =>
    let p := x.1
    let on := d.fon CXP_IDE_CFG.EN p
    if on == od.fon CXP_IDE_CFG.EN p || !(d.portUp p) then d
    else if !on then d.fset CXP_IDE_CFG.STREAM 0 p
    else if d.portMode p = 2 ∨ d.portMode p = 3 then
      (d.fset CXP_IDE_CFG.STREAM 2 p).drawKeys p
    else d.fset CXP_IDE_CFG.STREAM 1 p) d

/-- What a virtual bridge holds: its kind, port and logical device; none when unbound, or when the switch has no such bridge. -/
def Dev.bridge (d : Dev) (v b : Nat) : Option (Nat × Nat × Nat) :=
  let k := d.vbKind v b
  if k = 0 then none else some (k, d.fget CXP_VB.PORT v b, d.vbLd d.commits.epoch v b)

/-- A bridge's port reports presence and data-link-layer state changed (R228, R256). -/
def Dev.bridgeReports (d : Dev) (p : Nat) : Dev := (d.fset CXP_HP_STAT.PDC 1 p).fset CXP_HP_STAT.DLLSC 1 p

/-- Bridges unbound, as a surprise hot-remove, and bound, with the changes they report (R228), also where VB_COUNT of a switch
moves past them. -/
def Dev.bridgesMove (d od : Dev) (ws : List StagedWrite) : Dev :=
  let rs := regsOf ws
  ((d.listed .CXP_VB).filter fun x => x.2 != 0 && rs.any fun r => r == ⟨.CXP_VB, x.1, x.2⟩ || (r.k == .CXP_VSW_CFG && r.i == x.1)).foldl
    (fun d x =>
      let old := od.bridge x.1 x.2
      let new := d.bridge x.1 x.2
      if old = new then d
      else
        let d := match old with
          | some y => (d.fset CXP_VB.STATE 0 x.1 x.2).bridgeReports y.2.1 |>.send (.log "surprise removal" (x.1 * 32 + x.2))
          | none => d
        match new with
        | some y => (d.fset CXP_VB.STATE 1 x.1 x.2).bridgeReports y.2.1 |>.send (.log "bound" (x.1 * 32 + x.2))
        | none => d) d

/-- Binding entries that come into force and that leave it (R372); the last binding of a shared field that leaves, and every
one of a virtual switch that a commit disables, starts the walk of its lines (R423); and the extents of a host whose binding is
gone. -/
def Dev.bindingsMove (d od : Dev) : Dev :=
  let olds := od.bindings
  let news := d.bindings
  let gone := olds.filter fun x => !(news.contains x)
  let d := (news.filter fun x => !(olds.contains x)).foldl (fun d x => d.bindEffect true x.2.v x.2.region x.2.field x.2.len) d
  let oldEp := !d.commits.epoch
  let ends := fun (d : Dev) (x : Nat × Binding) (all : Bool) =>
    ((List.range x.2.len).map (x.2.field + ·)).foldl (fun (d : Dev) f =>
      if all || !(d.binds x.2.v f) then d.bindingEnds oldEp x.2.v f else d) d
  let d := gone.foldl (fun d x => (ends d x false).bindEffect false x.2.v x.2.region x.2.field x.2.len) d
  let off := fun (v : Nat) => od.fon CXP_VSW_CFG.EN v && !(d.fon CXP_VSW_CFG.EN v)
  let d := (olds.filter fun x => news.contains x && off x.2.v).foldl (fun d x => ends d x true) d
  (d.pools.map (·.1)).foldl (fun d v =>
    let p := d.pool v
    let lost := p.accepted.filter fun x => (d.bindOf v x).isNone
    let d := if lost = [] then d else d.setPool v { p with accepted := p.accepted.filter fun x => !(lost.contains x) }
    lost.foldl (fun d x => d.fsub CXP_POOL_USED.USED_GIB x.len v x.region) d) d

/-- A field placed on the frame its OP names: word 0 in the new copy only (R373, R374). -/
def Dev.placeField (d : Dev) (f : Nat) : Dev :=
  let v := d.fget TMP_FIELD1.M_DEV f
  let fr := d.fget TMP_FIELD1.M_FRAME f
  let r : Reg := ⟨.TMP_FIELD0, f, 0⟩
  let old := d.rd r
  let d := (d.setMode f fWhole).setFrame v fr .whole
  let d := (((d.fset TMP_FIELD0.DEV v f).fset TMP_FIELD0.FRAME fr f).fset TMP_FIELD0.ORIGIN 0 f).placed v 512
  { d with commits := { d.commits with
      inactive := (d.commits.inactive.filter fun c => c.1 != r) ++ [(r, old)] } }

/-- The operations of field entries: PLACE and RELEASE (R374); each writes the entry's whole word, which is clean then (R523). -/
def Dev.fieldsMove (d : Dev) (ws : List StagedWrite) : Dev :=
  (d.fieldOps ws).foldl (fun d x =>
    let (b, w) := d.fieldWord x.1
    if x.2 = 1 then (d.placeField x.1).wordClean b w else if x.2 = 2 then (d.releaseField x.1).wordClean b w else d) d

/-- The FREE frames of a device, and those of them that are zeroed: the device's share of its tier's counts (R399). -/
def Dev.deviceFree (d : Dev) (v : Nat) : Nat × Nat :=
  let mine := d.thatch.frames.filter fun e => e.1 / 2 ^ 24 == v
  if d.dvInPool v && !(d.thatch.leaseOpen.contains v) then
    (d.fget TMP_DEV_CFG.SIZE_GIB 0 v - (mine.filter fun e => !e.2.isFree).length, (mine.filter fun e => e.2.isZeroed).length)
  else (0, 0)

/-- A device made ABSENT: its frames are known no more, copies onto it end, and the borrower of a LENT range is told (R379,
R380, R394). -/
def Dev.deviceGone (d : Dev) (v old : Nat) : Dev :=
  let d := (d.thatch.migrations.filter fun e => e.2.dstDev == v).foldl (fun d e => d.abortMigration e.1 3) d
  let d := d.gatherDrop fun g => g.dev == v
  let d := { d with thatch := { d.thatch with
      frames := d.thatch.frames.filter fun e => e.1 / 2 ^ 24 != v,
      sframes := d.thatch.sframes.filter fun e => e.1 / 2 ^ 33 != v,
      leaseOpen := d.thatch.leaseOpen.filter (· != v),
      orphanOf := Tab.erase d.thatch.orphanOf v,
      fills := d.thatch.fills.filter fun e => !(fillKeyOn v e.1) } }
  let d := d.dropFlights fun s => match s with | .fill _ q _ => fillKeyOn v q | _ => false
  let d := (d.fset TMP_DEV_STAT.ORPHAN_GIB 0 0 v).fset TMP_DEV_STAT.NOSPACE 0 0 v
  if old = dvLent then d.sendDevLost v 2 else d

/-- A device's transition (R379). A remote device over a Thatchlink asks its lender first (R380). -/
def Dev.deviceMove (d : Dev) (v : Nat) : Dev :=
  let old := d.dvState v
  let new := d.fget TMP_DEV_CFG.STATE 0 v
  if !(devMove old new) then d
  else
    let d := d.fset TMP_DEV_STAT.STATE new 0 v
    if new = dvAbsent then d.deviceGone v old
    else if old = dvAbsent ∧ new = dvActive ∧ d.overThatchlink d.commits.epoch v then
      ({ d with thatch := { d.thatch with leaseOpen := d.thatch.leaseOpen ++ [v] } }).sendLeaseCheck v
    else if old = dvDraining then d.fset TMP_DEV_STAT.NOSPACE 0 0 v
    else d

/-- Device entries: each one's share of its tier's counts leaves with what it was and joins as what it is (R379, R399). -/
def Dev.devicesMove (d od : Dev) (ws : List StagedWrite) : Dev :=
  let vs := ((regsOf ws).filter fun r => r.k == .TMP_DEV_CFG).map (·.j)
  vs.foldl (fun d v =>
    let (a, b) := od.deviceFree v
    let t := od.fget TMP_DEV_CFG.TIER 0 v
    let d := ((d.fsub TMP_TIER_STAT.FREE_GIB a 0 t).fsub TMP_TIER_STAT.ZEROED_GIB b 0 t).deviceMove v
    let (a, b) := d.deviceFree v
    let t := d.fget TMP_DEV_CFG.TIER 0 v
    (d.fadd TMP_TIER_STAT.FREE_GIB a 0 t).fadd TMP_TIER_STAT.ZEROED_GIB b 0 t) d

/-- Shapers rewritten, newly attached or switched on (R346): no tokens at the instant, but a debt stays when the shaper was
in force. -/
def Dev.shapersMove (d od : Dev) (ws : List StagedWrite) : Dev :=
  let was := od.shaperUsers
  let written := ((regsOf ws).filter fun r => r.k == .SCH_SHAPER_CFG).map (·.i)
  let attached := ((d.shaperUsers).filter fun n => !(was.contains n)).map flowShaper
  (written ++ attached.filter fun n => !(written.contains n)).foldl (fun d n =>
    let tk := od.tokens n
    let new := attached.contains n || (!(od.fon SCH_SHAPER_CFG.EN n) && d.fon SCH_SHAPER_CFG.EN n)
    let tk : Int := if new ∨ 0 < tk then 0 else tk
    { d with core := { d.core with shapers := Tab.set d.core.shapers n ⟨tk, d.ownNow⟩ } }) d

/-- The figures of the Ridge reservations in force (R354, R356, R360), and the end of a hold that nothing asks for any more
(R200). -/
def Dev.ridgesMove (d od : Dev) : Dev :=
  let ports := fun (x : Dev) => x.ridges.flatMap fun y => [y.1, x.fget SCH_RIDGE_RES.SRC y.1 y.2]
  (ports od ++ ports d).foldl (fun d p =>
    let below := d.fget CXP_LINK_STAT.WIDTH p < d.cfgLanes p ∨ d.fget CXP_LINK_STAT.RATE p < d.fget CXP_PORT_CFG.RATE p
    let d := (d.fset SCH_PORT_STAT.RIDGE_LOAD (d.ridgeRate p) p).fset SCH_PORT_STAT.RIDGE_BURST (d.ridgeBurst p) p
    let d := d.fset SCH_PORT_STAT.DEGRADED (d.carriesRidge p && d.portUp p && decide below).toNat p
    if d.portMode p = 4 then d.fset LAN_FALLOW_STAT.HELD (d.ridgeHeld p).toNat (4 * p) else d) d

/-- FALLOW_EN set to 0 in lane 4p: the direction wakes to FULL (R202, R206). -/
def Dev.fallowMoves (d od : Dev) (ws : List StagedWrite) : Dev :=
  ((writtenTo ws LAN_FALLOW_CFG.FALLOW_EN).filter fun x => x.1 % 4 == 0).foldl (fun d x =>
    let p := x.1 / 4
    if od.fon LAN_FALLOW_CFG.FALLOW_EN x.1 && !(d.fon LAN_FALLOW_CFG.FALLOW_EN x.1) && d.portMode p == 4 then
      (d.holdFull p).fset LAN_FALLOW_STAT.HELD (d.fget LAN_FALLOW_STAT.HELD x.1) x.1
    else d) d

/-- Credits and headroom of Thatchlink ports (R287, R288, R290): a lowered A_c withholds its returns; a shortage that the
commit removes clears. -/
def Dev.creditsMove (d od : Dev) (ws : List StagedWrite) : Dev :=
  let d := (writtenTo ws TLK_VC_CFG.CREDITS).foldl (fun (d : Dev) x =>
    let fall := od.tlkA x.1 x.2 - d.tlkA x.1 x.2
    let y := d.tlkPort x.1
    if fall = 0 || !(d.llOpen x.1 || d.portUp x.1) then d
    else d.setTlk x.1 { y with withheld := Tab.set y.withheld x.2 (Tab.get 0 y.withheld x.2 + fall) }) d
  ((List.range 128).filter fun p => d.portMode p == 4).foldl (fun d p =>
    let h := headroomReq (d.cfgLanes p) (linkRate d d p) (roundTrip d p)
    let d := if d.fon TLK_STATUS.HEADROOM_SHORT p ∧ h ≤ d.fget TLK_FC_CFG.HEADROOM p then
        (d.fset TLK_STATUS.HEADROOM_SHORT 0 p).setTlk p { d.tlkPort p with raised := 0 } else d
    let d := if d.fon TLK_STATUS.A0_SHORT p && !(d.a0Short p) then d.fset TLK_STATUS.A0_SHORT 0 p else d
    if d.llOpen p then d.tlkXoff p else d) d

/-- A stamp does not survive a change of SWC_AGE_CFG.EN (R327). -/
def Dev.agesMove (d od : Dev) : Dev :=
  if d.fon SWC_AGE_CFG.EN == od.fon SWC_AGE_CFG.EN then d
  else
    let bare := fun (m : QMsg) => { m with stamp := none }
    { d with core := { d.core with buf := d.core.buf.map bare, holds := d.core.holds.map fun h => (h.1, bare h.2) } }

/-- Ports of the Eave dies whose port configuration a commit writes take their crossbar attachments (R21). -/
def Dev.attachMove (d : Dev) (ws : List StagedWrite) : Dev :=
  ((List.range 8).filter fun die => (writtenTo ws CXP_PORT_CFG.MODE).any fun x => x.1 / 16 == die).foldl Dev.attachDie d

/-- Folds whose assignment changed, and the others of their virtual switches, take the state that R440 gives. -/
def Dev.foldsMove (d od : Dev) (ws : List StagedWrite) : Dev :=
  let fs := (writtenTo ws FLD_CFG.VSW).map (·.1)
  let vs := fs.map (od.fget FLD_CFG.VSW ·) ++ fs.map (d.fget FLD_CFG.VSW ·)
  let all := fs ++ vs.flatMap fun v => (d.foldsOf v).filter fun f => !(fs.contains f)
  all.foldl (fun d f => (d.foldRefresh f).foldWake f) d

/-- Is any Hedgerow rule, or the default map, locked (R513)? -/
def Dev.anyLocked (d : Dev) : Bool :=
  d.regs.any fun c => [RK.HRW_PORT_RULE0, .HRW_POOL_RULE0, .HRW_ENG_RULE0, .HRW_DEFMAP0].contains c.1.k && c.2.getLsbD 5

/-- Rules rewritten lose a parity error; staged bits that a lock dropped are recorded, in staged order (R165, R513, R517). -/
def Dev.rulesMove (d od : Dev) (ws : List StagedWrite) : Dev :=
  let d := ws.foldl (fun d w =>
    match w.reg with
    | none => d
    | some r =>
      if w.cover &&& r.k.lockedMask = 0 then d
      else if od.ruleLocked r then d.cspErr 4 0 w.thread w.addr
      else d.wr r.lockWord (d.rd r.lockWord &&& ~~~ mask 6 1)) d
  d.fset CSP_STATUS.RULE_LOCK d.anyLocked.toNat

/-! The instant (R43, steps 2 to 5) -/

/-- The flip: the writes are in force, the registers they changed keep their old values in the other copy, and the old epoch
drains. -/
def Dev.flip (d : Dev) (T : Nat) (ns : List Nat) (ws : List StagedWrite) : Dev :=
  let x := d.applyWrites ws
  let old := copyCells x d ws
  let c := d.commits
  let d := ns.foldl (fun d n => d.fset TIM_COMMIT_STAT.STATE 3 0 n) { d with
    regs := x.regs,
    commits := { c with
      order := c.order.filter fun n => !(ns.contains n), epoch := !c.epoch, flips := c.flips + 1, lastFlip := some T,
      loaded := false, draining := true, inactive := old } }
  d

/-- COMMIT_INSTANT: the instant of the earliest pending commits. -/
def execCommitInstant (s : State) : Result :=
  onDev s fun d =>
    match d.nextInstant with
    | none => d
    | some (t, ns) =>
      if d.commits.draining || d.commits.resyncing then d
      else
        let d := d.upTo t
        let ws := d.writesOf ns
        let d := d.portsLeave (d.applyWrites ws)
        let od := d
        let d := (d.flip t ns ws).rulesMove od ws
        let d := (((d.attachMove ws).portsTrain od).storesMove od).ideMoves od ws
        let d := ((d.bridgesMove od ws).devicesMove od ws).fieldsMove ws
        let d := ((d.bindingsMove od).shapersMove od ws).ridgesMove od
        let d := (((d.fallowMoves od ws).creditsMove od ws).agesMove od).foldsMove od ws
        let d := d.bufShort
        let keep := d.reservedKeys
        ((d.endHolds ns.contains).endReserved fun k => !(keep.contains k)).settle.dirSettle

/-- A request of the old epoch that is still to be answered (R44). -/
def Dev.oldFlight (d : Dev) (fl : Flight) : Bool := d.commits.draining && fl.epoch != d.commits.epoch && fl.answer.isNone

/-- EPOCH_DRAINED: no request of the old epoch is outstanding: the resync starts. -/
def execEpochDrained (s : State) : Result :=
  onDev s fun d =>
    if d.commits.draining && !(d.core.flights.any d.oldFlight) then
      { d with commits := { d.commits with draining := false, resyncing := true } }
    else d

/-- RESYNC_END: both copies agree, and each set of the instant is FREE with status APPLIED. -/
def execResyncEnd (s : State) : Result :=
  onDev s fun d =>
    if d.commits.resyncing then
      let ns := (List.range 16).filter fun n => d.setState n == 3
      let d := { d with commits := { d.commits with resyncing := false, inactive := [] } }
      let d := ns.foldl (fun d n =>
        ({ d with commits := { d.commits with sets := Tab.erase d.commits.sets n } } : Dev).commitEnds n 0 1) d
      d.releaseStep fun _ => false
    else d

/-- The record of R44's table for a request ended by the drain. -/
def Dev.drainRec (d : Dev) (fl : Flight) : Nat × FaultRec :=
  let none' : FaultRec := ⟨2, 0x40, 0, 0, BitVec.ofNat 64 fl.tag⟩
  match fl.src with
  | .port p | .lender p _ _ _ => (p, recPort 0x40 p fl.tag)
  | .copy m _ _ | .fill m _ _ => (218 + m, none')
  | .chunk m id => (218 + m, match d.workFold id with | some f => recFold 0x40 f fl.tag | none => none')
  | .thread t => (202 + (d.thr t).engine, none')
  | .gone p => (p, recPort 0x40 p fl.tag)
  | .dap | .directory => (411, none')

/-- EPOCH_DRAIN: a request of the old epoch is outstanding 32 swaths after the instant: it is completed, and the fault
raised. -/
def execEpochDrain (tag : Nat) (s : State) : Result :=
  onDev s fun d =>
    match d.flight tag, d.commits.lastFlip with
    | some fl, some t =>
      if d.oldFlight fl then
        let (u, r) := d.drainRec fl
        (((d.upTo (t + 32768)).endRequest fl 7).raise u r).settle.dirSettle
      else d
    | _, _ => d

/-- A write of 1 to CANCEL by a manager thread (R42). -/
def Dev.commitCancel (d : Dev) (n : Nat) : Dev :=
  let t := d.setInstant n
  if d.setState n = 2 ∧ d.lastInstant = some t ∧ d.now + 2048 ≤ t then
    let first := match d.nextInstant with | some (x, _) => x == t | none => false
    let c := d.commits
    let d := { d with commits := { c with
        order := c.order.filter (· != n), loaded := c.loaded && !first,
        inactive := if c.loaded && first then [] else c.inactive } }
    let d := d.commitEnds n 1 9
    let keep := d.reservedKeys
    ((d.endHolds fun m => m == n).endReserved fun k => !(keep.contains k)).releaseStep fun _ => false
  else d

/-- COMMIT_CANCEL. -/
def execCommitCancel (n : Fin 16) (s : State) : Result := onReg s fun d => d.commitCancel n

end Sys2Proof.Machine
end

