-- ==== Sys2Proof/Machine/Resets.lean ====
section
/-! DEFINITION. Resets, boot, the soft reset, Device Standby, the supply monitors and the temperature sensors
(20_resets_and_power_states.md, R639 to R659; 19_ethernet_and_chain.md, R622 to R624; 22_electrical_and_package.md, R683 to
R686). -/

namespace Sys2Proof.Machine

/-! The values of CSP_STATUS.PHASE (R155). -/
abbrev phBoot : Nat := 0
abbrev phReady : Nat := 1
abbrev phStandby : Nat := 2
abbrev phTest : Nat := 3
abbrev phSoft : Nat := 4

/-- PHASE. -/
def Dev.phase (d : Dev) : Nat := d.fget CSP_STATUS.PHASE

/-- The gable die's record changed. -/
def Dev.setGable (d : Dev) (g : Gable) : Dev := { d with gable := g }

/-! Power-on and warm reset (R639 to R643, R655) -/

/-- The device with its registers restored by a power-on or warm reset and everything else at its default: what no reset
touches is kept, the fuses, the key store, what runs outside the device, and `g`. -/
def Dev.restart (d : Dev) (k : RstKind) (g : Gable) : Dev :=
  { Dev.reset with
    regs := (d.restore k fun _ => true).regs, fuses := d.fuses, freeCtr := d.freeCtr, out := d.out, refStopped := d.refStopped,
    wygel := { keys := d.wygel.keys, slotEntry := d.wygel.slotEntry }, gable := g }

/-- A power-on reset held (P): LAST_RESET reads 0; the test access port is reset (R660). -/
def Dev.powerReset (d : Dev) (b : Boot) : Dev :=
  (d.restart .power { boot := b, railsLow := d.gable.railsLow, hot := d.gable.hot }).fset CSP_STATUS.LAST_RESET 0

/-- A warm reset (W): what R655 keeps stands in registers that do not list it, but for the poison in the spared region 9
(R623); the test access port is not reset (R660). The engines take the states that WGL_CTRL.RESERVE gives (R60). -/
def Dev.warmReset (d : Dev) (b : Boot) (last : Nat) : Dev :=
  let g := d.gable
  let r := d.restart .warm { boot := b, railsLow := g.railsLow, hot := g.hot, ir := g.ir, dap := g.dap, dapAddr := g.dapAddr,
                             dapData := g.dapData, dapStatus := g.dapStatus, dapCause := g.dapCause }
  let r := { r with integ := { r.integ with poison := d.integ.poison.filter fun w => w / 65536 == 250 } }
  let first := 16 - min 4 (r.fget WGL_CTRL.RESERVE)
  let r := (List.range 16).foldl (fun (r : Dev) e => r.fset WGL_ENG_CTRL.STATE (decide (first ≤ e)).toNat 0 e) r
  r.fset CSP_STATUS.LAST_RESET last

/-- POWER_ON: VDD_IO rises, a cold power-on: it alone clears RST_CAUSE (R654) and ends a THERMTRIP (R685). -/
def execPowerOn (s : State) : Result :=
  onReset s fun d =>
    let d := d.powerReset .heldPower
    (d.wr ⟨.RST_CAUSE, 0, 0⟩ 0).setGable { d.gable with railsLow := [], hot := [] }

/-- RESET_N: low for 2 µs or more (R640). A power-on reset that is held absorbs it; it does not end a THERMTRIP. -/
def execResetN (s : State) : Result :=
  onReset s fun d =>
    match d.gable.boot with
    | .heldPower | .tripped => d
    | _ => d.warmReset .heldWarm 1

/-- RESET_RELEASE: the timer has run with every rail above its release level, and RESET_N is high; TEST_EN is sampled at the
release of a power-on reset only (R643). -/
def execResetRelease (testEn : Bool) (s : State) : Result :=
  onReset s fun d =>
    match d.gable.boot with
    | .heldPower =>
      if d.gable.railsLow = [] then
        (d.fset DBG_STAT.TEST testEn.toNat).setGable { d.gable with boot := .zeroing }
      else d
    | .heldWarm => d.setGable { d.gable with boot := .zeroing }
    | _ => d

/-! Boot (R622 to R624) -/

/-- A flash slot's status (R638): the code of the image's check, 0xB for an erased slot, 0xC where the flash cannot be
read. -/
def Dev.bootStatus (d : Dev) (slot : Option (List Byte)) : Nat :=
  match slot with
  | none => 0xC
  | some bs => if bs.all (· == 0xFF) then 0xB else d.loadStatus bs .boot

/-- VERSION of the image a flash slot holds, 0 without one. -/
def bootVersion (slot : Option (List Byte)) : Nat :=
  match slot with
  | some bs => if imgMagicOk bs then imgField bs 0xC 4 else 0
  | none => 0

/-- A slot tried: its status written, and if its image is valid, the image loaded. -/
def Dev.bootTry (d : Dev) (n : Nat) (slot : Option (List Byte)) : Dev × Bool :=
  let st := d.bootStatus slot
  let d := if n = 0 then d.fset CHN_BOOT.A_STATUS st else d.fset CHN_BOOT.B_STATUS st
  match slot with
  | some bs =>
    if st = 0 then
      let (d, _) := d.loadImage bs .boot 0 0
      let d := ((d.fset CHN_BOOT.BOOTED n).fset CHN_BOOT.VERSION (imgField bs 0xC 4)).fset CSP_STATUS.BOOT_SLOT n
      (d.setGable { d.gable with booted := bs }, true)
    else (d, false)
  | none => (d, false)

/-- The ROM boots one of two slots, or enters recovery. -/
def Dev.bootSlots (d : Dev) (a b : Option (List Byte)) : Dev :=
  let first :=
    if d.fon CHN_BOOT.TRY then d.fget CHN_BOOT.TRY_SLOT else if bootVersion a < bootVersion b then 1 else 0
  let d := d.fset CHN_BOOT.TRY 0
  let (d, ok) := d.bootTry first (if first = 0 then a else b)
  if ok then d
  else
    let (d, ok) := d.bootTry (1 - first) (if first = 0 then b else a)
    if ok then d
    else ((d.fset CHN_BOOT.RECOVERY 1).fset ETH_MACSEC.REQUIRE 0 0).fset ETH_MACSEC.REQUIRE 0 1

/-- BOOT_IMAGE_START: SRAM is zeroed and every register restored; the flash holds `slotA` and `slotB` (none: it cannot be
read). In manufacturing test mode no image is loaded (R671). Accesses may have been answered before, with PHASE reading BOOT
(R170). -/
def execBootImageStart (slotA slotB : Option (List Byte)) (s : State) : Result :=
  onReset s fun d =>
    if d.gable.boot != .zeroing && d.gable.boot != .restored then d
    else
      let d := d.setGable { d.gable with boot := .up }
      if d.fon DBG_STAT.TEST then d.fset CSP_STATUS.PHASE phTest
      else (d.bootSlots slotA slotB).fset CSP_STATUS.PHASE phReady

/-! Soft reset (R644 to R646) -/

/-- Every stage set FREE, every write dropped (R126, R50). -/
def Dev.freeSets (d : Dev) : Dev :=
  let d := (List.range 16).foldl (fun d n => d.fset TIM_COMMIT_STAT.STATE 0 0 n) d
  let d := { d with
    commits := { d.commits with
      sets := [], order := [], loaded := false, draining := false, resyncing := false, inactive := [] },
    gable := { d.gable with background := none } }
  ((d.endHolds fun _ => true).endReserved fun _ => true).releaseStep fun _ => false

/-- A port goes to electrical idle and is flushed, without a snoop. -/
def Dev.softPort (d : Dev) (p : Nat) : Dev :=
  let d := (d.lanesOf p).foldl Dev.laneDown (d.fset CXP_LINK_STAT.STATE poOff p)
  let d := d.flush p
  if d.portMode p = 4 then d.tlkClear p else d

/-- A manager job ends at its next chunk boundary, with RESET and the offset of the first chunk not done, or 0 for MIGRATE
(R456). -/
def Dev.softJob (d : Dev) (w : Work) : Dev :=
  let at' := if w.state = .migrate then 0 else ((d.outChunks w.id).foldl min w.next)
  let fs := d.core.flights.filter fun f => match f.src with | .chunk _ i => i != w.id | _ => true
  ({ d with core := { d.core with flights := fs } } : Dev).workEnd w.id 0x0C at'

/-- Is an entry of work a manager job? -/
def Work.managerJob (w : Work) : Bool := match w.owner with | .job none _ _ _ _ => true | _ => false

/-- Step 1 and 2 of R644. A fold program that is loading is cancelled with its fold's operations. Manager threads stay on their
engines, so a DRAINING engine whose last thread was a fold thread goes OUT as R94 gives, though R103 leaves engine states
unchanged (DESIGN CHOICE, assumption 178). -/
def Dev.softReset (d : Dev) : Dev :=
  let d := ((d.fset CSP_STATUS.PHASE phSoft).fset CSP_STATUS.LAST_RESET 3).fset RST_CTRL.SOFT 1
  let d := d.freeSets
  let d := ((List.range 128).filter d.configured).foldl Dev.softPort d
  let d := (d.folds.work.filter Work.managerJob).foldl Dev.softJob d
  let d := (d.thatch.migrations.map (·.1)).foldl (fun d k => d.abortMigration k 5) d
  let d : Dev := { d with thatch := { d.thatch with fills := [] } }
  let d := d.dropFlights fun s => match s with | .copy _ _ _ | .fill _ _ _ => true | _ => false
  let d := (d.listed .FLD_MIG_STAT).foldl (fun d x => d.fset FLD_MIG_STAT.STATE 0 x.1) d
  let d := (d.listed .FLD_PROG_STAT).foldl (fun d x =>
    if d.fget FLD_PROG_STAT.STATE x.1 = 1 then d.fset FLD_PROG_STAT.STATE 0 x.1 else d) d
  ((d.liveThreads.filter fun e => !e.2.manager).map (·.1)).foldl Dev.kill d

/-- SOFT: a manager thread's write of 1 to RST_CTRL.SOFT, ignored while a soft reset runs (R641) and outside READY. -/
def Dev.softWrite (d : Dev) : Dev := if d.phase = phReady ∧ !d.gable.entering then d.softReset else d

/-- SOFT. -/
def execSoft (s : State) : Result := onReg s Dev.softWrite

/-- The memory in pages that manager images hold; the rest is zeroed (R644). -/
def Dev.keptCode (d : Dev) (a : Nat) : Bool :=
  d.allImages.any fun im => decide (im.codePage * 4096 ≤ a ∧ a < (im.codePage + im.codePages) * 4096)

/-- The scratch in pages that manager images hold. -/
def Dev.keptScratch (d : Dev) (a : Nat) : Bool :=
  d.allImages.any fun im => decide (im.scratchPage * 4096 ≤ a ∧ a < (im.scratchPage + im.scratchPages) * 4096)

/-- Does a bank belong to a region that a soft reset zeroes (R644)? -/
def Dev.softBank (d : Dev) (b : Nat) : Bool := [0, 1, 2, 3, 4, 5, 8].contains (d.fget MEM_BANK_CFG.REGION b)

/-- Step 3 and 4 of R644: the regions zeroed, every field that lists S restored in both copies, locked rules kept (R514). An
outstanding read of a manager thread or the debug access port ends as a flush ends it; an image in the staging region is gone
(R613). -/
def Dev.softDone (d : Dev) : Dev :=
  let d := match d.wygel.rxWhole with
    | some (p, q) => d.finish p 0x10 q (.code 6)
    | none => d
  let d := (d.core.flights.filter fun f => f.answer.isNone && match f.src with | .thread _ | .dap => true | _ => false).foldl
    (fun d f => d.endRequest f 6) d
  let w := d.wygel
  let fs := d.core.flights.filter fun f => match f.src with | .thread _ | .dap => true | _ => false
  let x : Wygel := { w with
    pstore := w.pstore.filter fun c => d.keptCode c.1
    pstoreBad := w.pstoreBad.filter fun n => d.keptCode (n * 16)
    scratch := w.scratch.filter fun c => d.keptScratch c.1
    scratchPoison := w.scratchPoison.filter fun n => d.keptScratch (n * 8)
    rxImage := [], rxTotal := 0, rxWhole := none }
  let poison := d.integ.poison.filter fun n => !(d.softBank (n / 65536))
  let r := d.restore .soft fun r => !(d.ruleLocked r)
  let r := { r with
    wygel := x, core := { flights := fs, nextTag := d.core.nextTag }, pools := [], thatch := {},
    dir := { retired := d.dir.retired }, folds := { nextId := d.folds.nextId, handle := d.folds.handle }, tlk := {},
    lanes := [], ports := [], integ := { d.integ with poison := poison },
    commits := { epoch := d.commits.epoch, flips := d.commits.flips } }
  (r.fset RST_CTRL.SOFT 0).fset CSP_STATUS.PHASE phReady

/-! Device Standby (R647 to R652) -/

/-- The instant of RST_WAKE_AT, bits [9:0] taken as zero. -/
def Dev.wakeInstant (d : Dev) : Nat := d.fget RST_WAKE_AT.INSTANT / 1024 * 1024

/-- Why a Standby request is refused (R647, R650): RESULT, 0 when it is accepted. -/
def Dev.standbyRefusal (d : Dev) : Nat :=
  if (List.range 128).any fun p => d.portMode p != 0 then 1
  else if !d.thatch.migrations.isEmpty || !d.zeroFilling.isEmpty || d.folds.work.any Work.managerJob ||
      decide (0 < d.slotsInFlight) then 2
  else if d.liveThreads.any fun e => !e.2.manager then 3
  else if (List.range 16).any fun n => decide (2 ≤ d.setState n) then 4
  else if (List.range 32).any fun s => d.slotState s == slRamp || d.slotState s == slQual then 5
  else if d.inFault then 6
  else if d.fon RST_STANDBY_CFG.WAKE_AT_EN && decide (d.wakeInstant < d.now + 2048) then 8
  else if d.fon RST_STANDBY_CFG.WAKE_AT_EN && decide (d.now + 2 ^ 50 < d.wakeInstant) then 9
  else 0

/-- A write of 1 to RST_CTRL.STANDBY: refused, or entry starts, with every stage set FREE and the threads held. -/
def Dev.standbyWrite (d : Dev) : Dev :=
  if d.phase ≠ phReady ∨ d.gable.entering then d
  else
    match d.standbyRefusal with
    | 0 =>
      let d := (d.fset RST_CTRL.STANDBY 1).freeSets
      d.setGable { d.gable with entering := true }
    | r => d.fset RST_STANDBY_STAT.RESULT r

/-- STANDBY. -/
def execStandby (s : State) : Result := onWaitingReg .standby s Dev.standbyWrite

/-- STANDBY_ENTRY_DONE: step 5 of R648. -/
def execStandbyEntryDone (s : State) : Result :=
  onDev s fun d =>
    if d.gable.entering then
      let d := d.setGable { d.gable with entering := false }
      let d := (d.fset CSP_STATUS.PHASE phStandby).fset RST_STANDBY_STAT.RESULT 0
      (d.fset RST_CTRL.STANDBY 0).fadd RST_STANDBY_STAT.ENTRIES 1
    else d

/-- WAKE_AT: the instant in RST_WAKE_AT arrives (R650). -/
def execWakeAt (s : State) : Result :=
  onDev s fun d =>
    if d.fon RST_STANDBY_CFG.WAKE_AT_EN ∧ d.threadsHeld then (d.upTo d.wakeInstant).wakeBy 1 else d

/-- A mailbox message delivered: queued for MRCV, with event MBOX (R66, R138). -/
def Dev.deliver (d : Dev) (m : Mail) : Dev :=
  ({ d with wygel := { d.wygel with rxMail := d.wygel.rxMail ++ [m] } } : Dev).eventAll 1

/-- The values an exit from Standby returns to their defaults (R652). -/
def Dev.wakeDefaults (d : Dev) : Dev :=
  let sh : Tab Shaper := d.core.shapers.map fun e => (e.1, ⟨0, d.ownNow⟩)
  let d : Dev := { d with core := { d.core with shapers := sh, classTags := [], flowPrev := [] } }
  let d := (d.listed .SCH_RIDGE_Q).foldl (fun (d : Dev) x => d.fset SCH_RIDGE_Q.CLASS_V 0 x.1 x.2) d
  let d := (d.listed .SCH_CLASS_CFG).foldl (fun (d : Dev) x => d.fset SCH_CLASS_CFG.FLOW_V 0 x.1 x.2) d
  let d := (d.listed .SCH_QUEUE_STAT).foldl (fun (d : Dev) x => d.fset SCH_QUEUE_STAT.TAG 0 x.1 x.2) d
  let d := (d.listed .LAN_TXEQ).foldl (fun (d : Dev) x =>
    ((d.fset LAN_TXEQ.PRE 0 x.1).fset LAN_TXEQ.POST 0 x.1).fset LAN_TXEQ.MAIN 0 x.1) d
  let d : Dev := { d with lanes := d.lanes.map fun e => (e.1, { e.2 with stored := none, eqRate := none, settings := 0 }) }
  (d.listed .TLK_RTT).foldl (fun (d : Dev) x => (d.fset TLK_RTT.RTT_NS 0 x.1).fset TLK_RTT.HEADROOM_REQ 0 x.1) d

/-- A thread in a WAT whose instant passed while threads were held resumes with C = 1 (R651). -/
def Dev.watsPassed (d : Dev) : Dev :=
  d.mapThr fun _ th =>
    match th.wait with
    | .instant rd due => if th.state = .wait ∧ due.toNat < d.now then watDone d.now true th rd else th
    | _ => th

/-- STANDBY_EXIT_DONE: READY again, WAKE_CAUSE recorded, held messages delivered (R650, R651). -/
def execStandbyExitDone (s : State) : Result :=
  onDev s fun d =>
    match d.gable.wake with
    | some c =>
      let mail := d.gable.heldMail
      let d := d.wakeDefaults.setGable { d.gable with wake := none, heldMail := [] }
      let d := (d.fset CSP_STATUS.PHASE phReady).fset RST_STANDBY_STAT.WAKE_CAUSE c
      mail.foldl Dev.deliver d.watsPassed
    | none => d

/-! Supply monitors (R653, R654) -/

/-- The lowest level of a rail since its last read. -/
def Dev.railMin (d : Dev) (rail mv : Nat) : Dev := d.fset RST_SUPPLY_MIN.MIN_MV (min mv (d.fget RST_SUPPLY_MIN.MIN_MV 0 rail)) 0 rail

/-- SUPPLY_WARNING. -/
def execSupplyWarning (rail : Fin 13) (mv : BitVec 16) (s : State) : Result :=
  onDev s fun d => (d.fputBit RST_SUPPLY_STAT.WARN rail true).railMin rail mv.toNat

/-- Every slot channel as at a warm reset (R597): gates discharged, power-good and warning low, EMPTY. -/
def Dev.slotsOut (d : Dev) : Dev :=
  (List.range 32).foldl (fun d s =>
    if d.slotState s = slEmpty then d
    else
      let d := ((d.gateOff s).setSlotHid s {}).restore .warm fun r => r.k.place.block == 0x28 && r.i == s && r.k == .SLT_STAT
      (d.slotReset s).eventMgr 5) d

/-- VDDA_LANE of an Eave die browns out: its up ports go down with cause SURPRISE, a UC-C fault each, whose code and detail the
spec does not state. -/
def Dev.laneRailLow (d : Dev) (die : Nat) : Dev :=
  (((List.range 16).map (16 * die + ·)).filter d.portUp).foldl (fun d p =>
    let v := d.free
    ((d.leaveUp p 1 poDown .surprise).raise p ⟨2, bitsOf v 0 14, 1, p, v >>> 14⟩).used) d

/-- BROWNOUT of a rail, at `mv` mV. -/
def execBrownout (rail : Fin 13) (mv : BitVec 16) (s : State) : Result :=
  onReset s fun d =>
    if d.gable.boot = .tripped then d
    else
      let low := d.gable.railsLow.filter (· != (rail : Nat)) ++ [(rail : Nat)]
      let up := !d.inReset
      let held := d.gable.boot == .heldPower
      let d := d.setGable { d.gable with railsLow := low }
      if (rail : Nat) ≤ 2 then
        if held then d
        else
          let d := ((d.fset RST_CAUSE.BROWNOUT 1).fset RST_CAUSE.RAIL rail).fadd RST_CAUSE.BROWNOUTS 1
          d.powerReset .heldPower
      else if !up then d
      else
        let d := ((d.fputBit RST_SUPPLY_STAT.WARN rail true).fputBit RST_SUPPLY_STAT.BROWNOUT rail true).railMin rail mv.toNat
        if (rail : Nat) = 3 then
          let d := ((d.ethDown 0).ethDown 1).endSession
          if d.fget TIM_CTRL.SRC = 1 ∨ d.fget TIM_CTRL.SRC = 2 then d.sourceLost else d
        else if (rail : Nat) = 4 then d.slotsOut
        else d.laneRailLow (rail - 5)

/-- SUPPLY_RECOVERED: the rail is above its release level again, a lane die's for 1 ms; what it feeds may run again. -/
def execSupplyRecovered (rail : Fin 13) (s : State) : Result :=
  onAny s fun d => d.setGable { d.gable with railsLow := d.gable.railsLow.filter (· != (rail : Nat)) }

/-! Temperature (R683 to R686, R699) -/

/-- ALERT_C in force. -/
def Dev.alertC (d : Dev) : Int := min 105 (max 80 (d.fget RST_THERM_CFG.ALERT_C))

/-- A sensor's sample, in 1/16 °C. -/
def Dev.sensor (d : Dev) (k : Nat) (t : BitVec 16) : Dev :=
  let peak : BitVec 16 := BitVec.ofNat 16 (d.fget RST_TEMP.PEAK 0 k)
  let d := d.fset RST_TEMP.TEMP t.toNat 0 k
  let d := if peak.toInt < t.toInt then d.fset RST_TEMP.PEAK t.toNat 0 k else d
  d.fset RST_TEMP.ALERT (decide (16 * d.alertC ≤ t.toInt)).toNat 0 k

/-- TEMP_SAMPLE: the 11 sensors sampled; THERM_ALERT_N follows ALERT_C with 5 °C of hysteresis. `hot` holds the sensors at
115 °C or more, and 16 above those at it for the second time running. -/
def execTempSample (temps : Vector (BitVec 16) 11) (s : State) : Result :=
  onAny s fun d =>
    let d := (List.range 11).foldl (fun d k => d.sensor k (temps.toList.getD k 0)) d
    let ts := temps.toList.map BitVec.toInt
    let d :=
      if ts.any fun t => decide (16 * d.alertC ≤ t) then d.fset RST_THERM_CFG.ALERT_PIN 1
      else if ts.all fun t => decide (t ≤ 16 * (d.alertC - 5)) then d.fset RST_THERM_CFG.ALERT_PIN 0
      else d
    let now := (List.range 11).filter fun k => decide (16 * 115 ≤ ts.getD k 0)
    d.setGable { d.gable with hot := now ++ (now.filter d.gable.hot.contains).map (· + 16) }

/-- THERMTRIP: a sensor at 115 °C on two consecutive samples; the device is as if a power-on reset were held, until VDD_IO
goes (R685, R686). -/
def execThermtrip (s : State) : Result :=
  onReset s fun d => if d.gable.hot.any (16 ≤ ·) then d.powerReset .tripped else d

end Sys2Proof.Machine
end

