-- ==== Sys2Proof/Machine/Mgmt.lean ====
section
/-! DEFINITION. The Ethernet ports, the manager's session, flash writes and the chain (19_ethernet_and_chain.md, R605 to R629):
what the gable die does beside images, mailboxes, FM-API and SPDM. -/

namespace Sys2Proof.Machine

/-! Ethernet ports and MACsec (R605 to R608) -/

/-- ETHERNET_LINK: a port's link comes up, if the port is enabled and supplied and the partner runs at its SPEED (there is no
auto-negotiation, R605; SPEED 3 is no rate), or goes down. Uncorrectable codewords are counted. -/
def execEthernetLink (p : Fin 2) (x : EthLine) (s : State) : Result :=
  onDev s fun d =>
    if d.gableFailed || !d.fon ETH_CFG.EN p || d.phase == phTest || d.gable.railsLow.contains 3 then
      if x.up then d else d.ethDown p
    else
      let d := d.fadd ETH_STAT.FEC_UNCORR x.fec.toNat p
      if x.up && d.fget ETH_CFG.SPEED p == x.rate then d.fset ETH_STAT.LINK 1 p else d.ethDown p

/-- MKA_FRAME: MKA agrees keys with the partner for the cipher suite CIPHER names, which brings the secured channel up, or takes
it down. Without an agreement on that suite there is no channel (DEDUCED, assumption 192). -/
def execMkaFrame (p : Fin 2) (suite : Option Bool) (s : State) : Result :=
  onDev s fun d =>
    if d.gableFailed || !d.fon ETH_STAT.LINK p then d
    else if d.fon ETH_MACSEC.CAK_VALID p && suite == some (d.fon ETH_MACSEC.CIPHER p) then d.fset ETH_STAT.SECURED 1 p
    else d.fset ETH_STAT.SECURED 0 p

/-- A write of ETH_CAK[3]: the CAK and CKN pair is installed, and MKA starts again, so that the secured channel is down until
it has agreed. -/
def Dev.cakInstall (d : Dev) (p : Nat) (v : Word) : Dev :=
  let d := d.wr ⟨.ETH_CAK, p, 3⟩ v
  let ws := (List.range 4).map (fun k => d.rd ⟨.ETH_CAK, p, k⟩) ++ (List.range 4).map fun k => d.rd ⟨.ETH_CKN, p, k⟩
  let d := d.setGable { d.gable with cak := Tab.set d.gable.cak p ws }
  (d.fset ETH_MACSEC.CAK_VALID 1 p).fset ETH_STAT.SECURED 0 p

/-- CAK_INSTALL. -/
def execCakInstall (p : Fin 2) (value : Word) (s : State) : Result := onReg s fun d => d.cakInstall p value

/-! The session (R611, R612) -/

/-- Is a source address one of the manager's: any is, when all four entries of the port are zero? -/
def Dev.mgrAllowed (d : Dev) (p : Nat) (src : BitVec 128) : Bool :=
  let ws := (List.range 4).map fun k =>
    (d.rd ⟨.ETH_MGR_ALLOW, p, 2 * k⟩).toNat + (d.rd ⟨.ETH_MGR_ALLOW, p, 2 * k + 1⟩).toNat * 2 ^ 64
  ws.all (· == 0) || (src.toNat != 0 && ws.contains src.toNat)

/-- SESSION_OPEN's effect: a new session with a number of its own, KEEPALIVE_MS within 100 to 10,000. -/
def Dev.sessionOpen (d : Dev) (port seq keepalive : Nat) : Dev :=
  let n := d.free.toNat % (2 ^ 32 - 1) + 1
  let ka := min 10000 (max 100 keepalive)
  let d := (((d.fset ETH_SESSION.OPEN 1).fset ETH_SESSION.SESSION n).fset ETH_SESSION.KEEPALIVE_MS ka).used
  let d := { d with fcp := { d.fcp with lastHeard := d.now, replies := [], executing := [] } }
  let word := fun (r : Reg) => leBytes 8 (d.rd r).toNat
  d.reply port 0x01 seq ⟨0, leBytes 4 n ++ word ⟨.CSP_ID, 0, 0⟩ ++ word ⟨.CSP_SERIAL, 0, 0⟩ ++ word ⟨.CHN_STATUS, 0, 0⟩⟩

/-- SESSION_OPEN from a source address: refused outside the secured channel or from an address that is not listed, BUSY while a
session is open. -/
def execSessionOpen (via : FcpFrom) (seq : BitVec 32) (source : BitVec 128) (managerId : Word) (keepalive : BitVec 16)
    (s : State) : Result :=
  onDev s fun d => d.arrive via 0x01 seq.toNat fun d =>
    let _ := managerId
    if !via.secured || !(d.mgrAllowed via.port source) then (d.fadd ETH_CNT.REFUSED 1).reply via.port 0x01 seq.toNat (.code 6)
    else if d.session then d.reply via.port 0x01 seq.toNat (.code 4)
    else d.sessionOpen via.port seq.toNat keepalive.toNat

/-- SESSION_CLOSE. -/
def execSessionClose (via : FcpFrom) (session seq : BitVec 32) (s : State) : Result :=
  onDev s (Dev.fcpRequest via 0x02 session.toNat seq.toNat fun d => (d.endSession, some (.code 0)))

/-- KEEPALIVE. -/
def execKeepalive (via : FcpFrom) (session seq : BitVec 32) (s : State) : Result :=
  onDev s (Dev.fcpRequest via 0x03 session.toNat seq.toNat fun d => (d, some (.code 0)))

/-- SESSION_TIMEOUT: nothing has arrived in the session for 3 × KEEPALIVE_MS. -/
def execSessionTimeout (s : State) : Result :=
  onDev s fun d =>
    if d.session then (d.upTo (d.fcp.lastHeard + 3 * d.fget ETH_SESSION.KEEPALIVE_MS * 1000000)).endSession else d

/-- A request that is answered BUSY in Standby (R649). -/
def awake (act : Dev → Dev × Option Reply) (d : Dev) : Dev × Option Reply :=
  if d.phase = phStandby then (d, some (.code 4)) else act d

/-- The types of R610 that a device receives. -/
def fcpTypes : List Nat := [0x01, 0x02, 0x03, 0x10, 0x11, 0x20, 0x21, 0x30, 0x31, 0x50, 0x60, 0x61, 0x70, 0x71]

/-- BADTYPE: a message of an unknown TYPE is answered BADTYPE; one of a known TYPE whose LEN disagrees with its payload is
answered BADLEN (R610). -/
def execBadtype (via : FcpFrom) (typ : BitVec 8) (seq : BitVec 32) (lenOk : Bool) (s : State) : Result :=
  onDev s fun d => d.arrive via typ.toNat seq.toNat fun d =>
    if !(fcpTypes.contains typ.toNat) then d.reply via.port typ.toNat seq.toNat (.code 1)
    else if !lenOk then d.reply via.port typ.toNat seq.toNat (.code 2)
    else d

/-! Flash (R622, R624) -/

/-- Do bytes at an offset touch the slot that booted? Slot B begins 16 MiB above slot A. -/
def Dev.touchesBooted (d : Dev) (offset len : Nat) : Bool :=
  let base := d.fget CSP_STATUS.BOOT_SLOT * 2 ^ 24
  decide (offset < base + 2 ^ 24 ∧ base < offset + len)

/-- FLASH_WRITE: bytes written to flash, a 64 KiB sector erased first where OFFSET is at its start. -/
def execFlashWrite (via : FcpFrom) (session seq offset : BitVec 32) (bytes : List Byte) (s : State) : Result :=
  onDev s (Dev.fcpRequest via 0x70 session.toNat seq.toNat (awake fun d =>
    let n := bytes.length
    if n = 0 ∨ 4096 < n then (d, some (.code 2))
    else if !d.fon CHN_BOOT.RECOVERY && d.touchesBooted offset.toNat n then (d, some (.code 6))
    else (d.send (.flash offset.toNat (offset.toNat % 65536 == 0) bytes), some (.code 0))))

/-! The chain (R625 to R629) -/

/-- CHAIN_RESET: acted on only when every condition of R628 holds; of several armed resets the earliest counts. -/
def execChainReset (via : FcpFrom) (source : BitVec 128) (maskBits instant : Word) (flags : BitVec 8) (s : State) : Result :=
  onDev s fun d =>
    let d := if d.reached via then d.gableCross via else d
    let t := instant.toNat
    let a := d.fget CHN_STATUS.ADDR
    if d.reached via && via.secured && !d.fon CHN_BOOT.RECOVERY && d.mgrAllowed via.port source && d.fon CHN_STATUS.VALID &&
        maskBits.getLsbD a && d.timeGood && decide (d.now + 2048 ≤ t ∧ t ≤ d.now + 2 ^ 30) then
      match d.gable.chainArm with
      | some (u, _) => if t < u then d.setGable { d.gable with chainArm := some (t, flags.getLsbD 0) } else d
      | none => d.setGable { d.gable with chainArm := some (t, flags.getLsbD 0) }
    else d

/-- CHAIN_RESET_INSTANT: the warm reset at the armed instant, LAST_RESET 2; RENUMBER clears the chain address (R628). -/
def execChainResetInstant (s : State) : Result :=
  onReset s fun d =>
    if d.inReset then d
    else match d.gable.chainArm with
    | some (t, renumber) =>
      let d := (d.upTo t).warmReset .zeroing 2
      if renumber then
        let d := (((d.fset CHN_STATUS.ADDR 0).fset CHN_STATUS.VALID 0).fset CHN_STATUS.HEAD 0).fset CHN_STATUS.END 0
        (d.fset CSP_STATUS.CHAIN_ADDR 0).fset CSP_STATUS.CHAIN_VALID 0
      else d
    | none => d

/-- A chain address taken (R626, R638). -/
def Dev.takeAddress (d : Dev) (a : Nat) (head : Bool) : Dev :=
  let d := (((d.fset CHN_STATUS.ADDR a).fset CHN_STATUS.VALID 1).fset CHN_STATUS.HEAD head.toNat).fset CHN_STATUS.END (a == 63).toNat
  (d.fset CSP_STATUS.CHAIN_ADDR a).fset CSP_STATUS.CHAIN_VALID 1

/-- How many of the lowest `n` bits are 1. -/
def onesIn (v : Nat) (n : Nat) : Nat := ((List.range n).filter v.testBit).length

/-- A chain frame that carries `a` (R625), its first bit in bit 9: a start bit of 1, the address with its most significant bit
first, odd parity over those 6 bits, two stop bits of 0. -/
def chainFrame (a : Nat) : BitVec 10 :=
  BitVec.ofNat 10 (512 + a % 64 * 8 + (1 - onesIn a 6 % 2) * 4)

/-- The address a frame carries, if it is a frame of R625 with good parity; one whose start or stop bits are wrong is ignored
like one that fails parity (DEDUCED, assumption 193). -/
def chainAddr (bits : BitVec 10) : Option Nat :=
  let a := bits.toNat / 8 % 64
  if bits = chainFrame a then some a else none

/-- The 10 bits of a frame (R625): start bit, address, parity bit, two stop bits. -/
def chainBits (addr : BitVec 6) (rest : BitVec 4) : BitVec 10 := rest.extractLsb' 3 1 ++ addr ++ rest.extractLsb' 0 3

/-- ADDR_IN_FRAME: a frame on ADDR_IN; one that fails parity is ignored. Two in a row that agree give the address, or where one
is kept that differs, set MISMATCH (R626, R627). -/
def execAddrInFrame (addr : BitVec 6) (rest : BitVec 4) (s : State) : Result :=
  onDev s fun d =>
    match if d.gableFailed then none else chainAddr (chainBits addr rest) with
    | none => d
    | some a =>
      let agree := d.gable.chainLast == some a
      let d := (d.fset CHN_STATUS.IN_SEEN a).setGable { d.gable with chainLast := some a }
      if !agree then d
      else if d.fon CHN_STATUS.VALID then
        if d.fget CHN_STATUS.ADDR = a then d else d.fset CHN_STATUS.MISMATCH 1
      else d.takeAddress a false

/-- CHAIN_HEAD: ADDR_IN has stayed high for 1 ms. -/
def execChainHead (s : State) : Result :=
  onDev s fun d => if d.fon CHN_STATUS.VALID || d.gableFailed then d else d.takeAddress 0 true

/-- CHAIN_TIMEOUT: 2 s without an address: CHAIN_VALID stays 0, and the device keeps listening (R626). -/
def execChainTimeout (s : State) : Result :=
  onDev s fun d => if d.fon CHN_STATUS.VALID then d else d.send (.log "no chain address" 0)

/-- ADDR_OUT_FRAME: every 100 µs a device whose address a lies below 63 sends a + 1 (R625). -/
def execAddrOutFrame (s : State) : Result :=
  onDev s fun d =>
    if d.fon CHN_STATUS.VALID ∧ d.fget CHN_STATUS.ADDR < 63 ∧ !d.gableFailed then
      d.send (.addrOut (chainFrame (d.fget CHN_STATUS.ADDR + 1)))
    else d

end Sys2Proof.Machine
end

