-- ==== Sys2Proof/Machine/FmApi.lean ====
section
/-! DEFINITION. FM-API and SPDM over the Fabric Control Protocol (19_ethernet_and_chain.md, R616 to R618). The payload of a
reply is the return code in byte 0 and then the values named, 8 little-endian bytes each: the byte layouts are those of the
cited standards, which the spec does not give (assumption 23). -/

namespace Sys2Proof.Machine

/-- A return code's number in a reply. -/
def RetCode.number : RetCode → Nat
  | .success => 0
  | .backgroundStarted => 1
  | .invalidInput => 2
  | .unsupported => 3
  | .internalError => 4
  | .retry => 5
  | .busy => 6
  | .exhausted => 7

/-- The reply of an FM-API command. -/
def fmReply (c : RetCode) (bytes : List Byte) : Reply := ⟨0, leBytes 1 c.number ++ bytes⟩

/-- Values as a payload. -/
def fmWords (ws : List Nat) : List Byte := ws.flatMap (leBytes 8)

/-- An FM-API request in its session, BUSY in Standby (R649). -/
def Dev.fmapi (via : FcpFrom) (session seq : BitVec 32) (act : Dev → Dev × Reply) : Dev → Dev :=
  Dev.fcpRequest via 0x30 session.toNat seq.toNat (awake fun d => let (d, r) := act d; (d, some r))

/-- Bit `p` of the map of ports that `sel` names, from `lo` on. -/
def portMap (sel : Nat → Bool) (lo : Nat) : Nat :=
  (List.range 64).foldl (fun m k => if sel (lo + k) then m + 2 ^ k else m) 0

/-- IDENTIFY_SWITCH_DEVICE: ports and virtual switches, which of them are active, virtual bridges and bound ones. -/
def execIdentifySwitchDevice (via : FcpFrom) (session seq : BitVec 32) (s : State) : Result :=
  onDev s (Dev.fmapi via session seq fun d =>
    let vs := (List.range 64).filter fun v => d.fon CXP_VSW_CFG.EN v
    let vbs := (vs.map fun v => d.vbCount d.commits.epoch v).sum
    let bound := ((d.listed .CXP_VB).filter fun x => d.vbKind x.1 x.2 != 0).length
    (d, fmReply .success (fmWords [128, portMap d.portUp 0, portMap d.portUp 64, 64, portMap vs.contains 0, vbs, bound])))

/-- GET_PHYSICAL_PORT_STATE: the port's configuration and its link. -/
def execGetPhysicalPortState (via : FcpFrom) (session seq : BitVec 32) (p : Fin 128) (s : State) : Result :=
  onDev s (Dev.fmapi via session seq fun d =>
    (d, fmReply .success (fmWords [(d.rd ⟨.CXP_PORT_CFG, p, 0⟩).toNat, (d.rd ⟨.CXP_LINK_STAT, p, 0⟩).toNat])))

/-- PHYSICAL_PORT_CONTROL: opcode 2, the reset, acts as a port reset (L), on an up port with its retraining. The other opcodes of
the cited command set (0 and 1) have no effect the spec names. -/
def execPhysicalPortControl (via : FcpFrom) (session seq : BitVec 32) (p : Fin 128) (opcode : BitVec 8) (s : State) : Result :=
  onDev s (Dev.fmapi via session seq fun d =>
    if 2 < opcode.toNat then (d, fmReply .invalidInput [])
    else if opcode = 2 then (if d.portUp p then d.hotReset p .planned else d.portReset p, fmReply .success [])
    else (d, fmReply .success []))

/-- SEND_PPB_CXL_IO_CONFIGURATION_REQUEST: a configuration access of a downstream port's bridge, whose configuration space is
the cited standard's: a read answers a free value. -/
def execSendPpbCxlIoConfigurationRequest (via : FcpFrom) (session seq : BitVec 32) (p : Fin 128) (write : Bool)
    (reg : BitVec 12) (data : BitVec 32) (s : State) : Result :=
  onDev s (Dev.fmapi via session seq fun d =>
    let _ := (reg, data)
    if d.portMode p ≠ 2 then (d, fmReply .invalidInput [])
    else if write then (d, fmReply .success [])
    else (d.used, fmReply .success (fmWords [d.free.toNat % 2 ^ 32])))

/-- GET_VIRTUAL_CXL_SWITCH_INFO: the switch's configuration and its 32 virtual bridges; bridge 0 is the pool device. -/
def execGetVirtualCxlSwitchInfo (via : FcpFrom) (session seq : BitVec 32) (v : Fin 64) (s : State) : Result :=
  onDev s (Dev.fmapi via session seq fun d =>
    let vbs := (List.range 32).map fun b => if b = 0 then 3 else (d.rd ⟨.CXP_VB, v, b⟩).toNat
    (d, fmReply .success (fmWords ((d.rd ⟨.CXP_VSW_CFG, v, 0⟩).toNat :: vbs))))

/-- R617: the writes of a command in one commit of set ETH_FMAPI.SET, LEAD swaths ahead (at least 3). Busy unless the set is
FREE. The reply goes out before the background operation can end. -/
def Dev.fmCommit (port seq : Nat) (ws : List StagedWrite) (d : Dev) : Dev × Option Reply :=
  let n := d.fget ETH_FMAPI.SET
  if d.setState n ≠ 0 then (d, some (fmReply .busy []))
  else
    let d := { d with commits := { d.commits with sets := Tab.set d.commits.sets n ws } }
    let d := (d.fset TIM_COMMIT_STAT.STATE 1 0 n).finish port 0x30 seq (fmReply .backgroundStarted [])
    let d := d.setGable { d.gable with background := some n }
    ((d.commitTry n (d.now / 1024 * 1024 + max 3 (d.fget ETH_FMAPI.LEAD) * 1024)).1, none)

/-- A command that becomes a commit (R617). -/
def Dev.fmChange (via : FcpFrom) (session seq : BitVec 32) (act : Dev → Option (List StagedWrite)) : Dev → Dev :=
  Dev.fcpRequest via 0x30 session.toNat seq.toNat (awake fun d =>
    match act d with
    | none => (d, some (fmReply .invalidInput []))
    | some ws => d.fmCommit via.port seq.toNat ws)

/-- The staged write of a whole register; no thread staged it. -/
def stagedReg (r : Reg) (v : Word) : StagedWrite := ⟨r.addr, 8, v, 64⟩

/-- The word of a virtual bridge bound to a downstream port, or to a logical device behind it. -/
def vbWord (p : Nat) (ld : Option Nat) : Word :=
  putBits (putBits (putBits 0 0 2 (if ld.isSome then 2 else 1)) 2 7 p) 9 4 (ld.getD 0)

/-- BIND_VPPB: virtual bridge `b` of a virtual switch bound to a port, or to a logical device of it. -/
def execBindVppb (via : FcpFrom) (session seq : BitVec 32) (v : Fin 64) (b : Fin 32) (p : Fin 128) (ld : Option (Fin 16))
    (s : State) : Result :=
  onDev s (Dev.fmChange via session seq fun d =>
    if b = 0 ∨ d.vbCount d.commits.epoch v ≤ b then none else some [stagedReg ⟨.CXP_VB, v, b⟩ (vbWord p (ld.map fun (x : Fin 16) => (x : Nat)))])

/-- UNBIND_VPPB. -/
def execUnbindVppb (via : FcpFrom) (session seq : BitVec 32) (v : Fin 64) (b : Fin 32) (s : State) : Result :=
  onDev s (Dev.fmChange via session seq fun _ => if b = 0 then none else some [stagedReg ⟨.CXP_VB, v, b⟩ 0])

/-- GENERATE_AER_EVENT: the error reported to the host of a virtual bridge. -/
def execGenerateAerEvent (via : FcpFrom) (session seq : BitVec 32) (v : Fin 64) (b : Fin 32) (error : BitVec 32) (s : State) :
    Result :=
  onDev s (Dev.fmapi via session seq fun d =>
    let _ := error
    if d.fon CXP_VSW_CFG.EN v then (d.send (.log "AER event" ((v : Nat) * 32 + b)), fmReply .success [])
    else (d, fmReply .invalidInput []))

/-- Does something the manager may reach stand behind a port: is it an up downstream port that is bound or pooled (R616)? -/
def Dev.tunnelOk (d : Dev) (p : Nat) : Bool :=
  d.portUp p && d.portMode p == 2 && (!(d.bridgesOn d.commits.epoch p).isEmpty || !(d.devsAt p).isEmpty)

/-- A request passed on to what stands behind a port; the device's response comes as `answer`. -/
def Dev.tunnelled (via : FcpFrom) (session seq : BitVec 32) (p : Nat) (ld : Option Nat) (request answer : List Byte) : Dev → Dev :=
  Dev.fmapi via session seq fun d =>
    if d.tunnelOk p then (d.send (.tunnel p ld request), fmReply .success answer) else (d, fmReply .invalidInput [])

/-- TUNNEL_MANAGEMENT_COMMAND: passed through, the commands of MLD components and multi-headed devices included. -/
def execTunnelManagementCommand (via : FcpFrom) (session seq : BitVec 32) (p : Fin 128) (request answer : List Byte)
    (s : State) : Result := onDev s (Dev.tunnelled via session seq p none request answer)

/-- SEND_LD_CXL_IO_CONFIGURATION_REQUEST. -/
def execSendLdCxlIoConfigurationRequest (via : FcpFrom) (session seq : BitVec 32) (p : Fin 128) (ld : Fin 16)
    (request answer : List Byte) (s : State) : Result :=
  onDev s (Dev.tunnelled via session seq p (some ld) request answer)

/-- SEND_LD_CXL_IO_MEMORY_REQUEST. -/
def execSendLdCxlIoMemoryRequest (via : FcpFrom) (session seq : BitVec 32) (p : Fin 128) (ld : Fin 16)
    (request answer : List Byte) (s : State) : Result :=
  onDev s (Dev.tunnelled via session seq p (some ld) request answer)

/-- GET_DCD_INFO: the pool device serves 64 hosts with 8 regions each, in 1 GiB units. -/
def execGetDcdInfo (via : FcpFrom) (session seq : BitVec 32) (s : State) : Result :=
  onDev s (Dev.fmapi via session seq fun d => (d, fmReply .success (fmWords [64, 8, 2 ^ 30])))

/-- GET_HOST_DC_REGION_CONFIGURATION: the 8 regions of a host's pool device, their sizes, tiers and scopes, and what is used of
them. -/
def execGetHostDcRegionConfiguration (via : FcpFrom) (session seq : BitVec 32) (v : Fin 64) (s : State) : Result :=
  onDev s (Dev.fmapi via session seq fun d =>
    if d.hasPool v then
      (d, fmReply .success (fmWords ((List.range 8).flatMap fun r =>
        [(d.rd ⟨.CXP_POOL_REGION, v, r⟩).toNat, (d.rd ⟨.CXP_POOL_USED, v, r⟩).toNat])))
    else (d, fmReply .invalidInput []))

/-- SET_DC_REGION_CONFIGURATION: the size of a region, by a commit (R617). -/
def execSetDcRegionConfiguration (via : FcpFrom) (session seq : BitVec 32) (v : Fin 64) (r : Fin 8) (gib : BitVec 17)
    (s : State) : Result :=
  onDev s (Dev.fmChange via session seq fun d =>
    if d.hasPool v then some [stagedReg ⟨.CXP_POOL_REGION, v, r⟩ (BitVec.ofNat 64 gib.toNat)] else none)

/-- GET_DC_REGION_EXTENT_LISTS: the extents a host has accepted. -/
def execGetDcRegionExtentLists (via : FcpFrom) (session seq : BitVec 32) (v : Fin 64) (s : State) : Result :=
  onDev s (Dev.fmapi via session seq fun d =>
    if d.hasPool v then (d, fmReply .success ((d.pool v).accepted.flatMap Extent.bytes)) else (d, fmReply .invalidInput []))

/-- INITIATE_DYNAMIC_CAPACITY_ADD (R235). -/
def execInitiateDynamicCapacityAdd (via : FcpFrom) (session seq : BitVec 32) (v : Fin 64) (r : Fin 8) (gib : BitVec 20)
    (tag : Word) (s : State) : Result :=
  onDev s (Dev.fmapi via session seq fun d =>
    let (d, c) := d.initiateAdd v r gib.toNat tag.toNat
    (d, fmReply c []))

/-- INITIATE_DYNAMIC_CAPACITY_RELEASE. -/
def execInitiateDynamicCapacityRelease (via : FcpFrom) (session seq : BitVec 32) (v : Fin 64) (extents : List ExtentRef)
    (s : State) : Result :=
  onDev s (Dev.fmapi via session seq fun d =>
    let (d, c) := d.initiateRelease v extents
    (d, fmReply c []))

/-! SPDM (R618): needs no session. A request is answered by itself; byte 0 of a response is 1, of an error 0. -/

/-- An SPDM request and its response, if it has one. -/
def Dev.spdm (via : FcpFrom) (seq : BitVec 32) (act : Dev → Option (List Byte)) (d : Dev) : Dev :=
  d.arrive via 0x31 seq.toNat fun d =>
    match act d with
    | some bs => d.reply via.port 0x31 seq.toNat ⟨0, 1 :: bs⟩
    | none => d.reply via.port 0x31 seq.toNat ⟨0, [0]⟩

/-- WGL_KEY_STAT: the used and the revoked entries of the key store, and the entry each slot is bound to (R98). -/
def Dev.keyStat (d : Dev) : Word :=
  let bits := fun (sel : KeyEntry → Bool) =>
    (List.range 16).foldl (fun (m : Nat) e => match d.wygel.keys[e]? with | some k => if sel k then m + 2 ^ e else m | none => m) 0
  let slots := (List.range 4).foldl (fun (m : Nat) k => m + d.wygel.slotEntry.getD k 0 * 16 ^ k) 0
  BitVec.ofNat 64 (bits (·.used) + bits (·.revoked) * 2 ^ 16 + slots * 2 ^ 32)

/-- The measurements (R618). -/
def Dev.measurement (d : Dev) (n : Nat) : Option (List Byte) :=
  match n with
  | 1 => some Config.romDigest
  | 2 => some (sha384 d.gable.booted)
  | 3 => some (leBytes 8 d.keyStat.toNat)
  | 4 => some (sha384 ((d.wygel.images.filter fun im => im.fold.isNone).flatMap fun im =>
      leBytes 4 im.id ++ leBytes 4 im.version ++ im.digest))
  | _ => none

/-- GET_VERSION: 1.2 and 1.3. -/
def execGetVersion (via : FcpFrom) (seq : BitVec 32) (s : State) : Result :=
  onDev s (Dev.spdm via seq fun _ => some [0x12, 0x13])

/-- GET_CAPABILITIES: the device answers certificates, challenges and signed measurements; no key exchange, no mutual
authentication, no chunking. -/
def execGetCapabilities (via : FcpFrom) (seq : BitVec 32) (version : BitVec 8) (s : State) : Result :=
  onDev s (Dev.spdm via seq fun _ => if version = 0x12 ∨ version = 0x13 then some [version] else none)

/-- NEGOTIATE_ALGORITHMS: agreed when the requester offers ECDSA P-384 and SHA-384. -/
def execNegotiateAlgorithms (via : FcpFrom) (seq : BitVec 32) (p384Offered sha384Offered : Bool) (s : State) : Result :=
  onDev s (Dev.spdm via seq fun _ => if p384Offered && sha384Offered then some [] else none)

/-- GET_DIGESTS: slot 0 alone holds a chain. -/
def execGetDigests (via : FcpFrom) (seq : BitVec 32) (s : State) : Result :=
  onDev s (Dev.spdm via seq fun _ => some (1 :: sha384 Config.certChain))

/-- GET_CERTIFICATE: a part of the chain of slot 0; the other slots are empty. -/
def execGetCertificate (via : FcpFrom) (seq : BitVec 32) (slot : BitVec 8) (offset length : BitVec 16) (s : State) : Result :=
  onDev s (Dev.spdm via seq fun _ =>
    if slot = 0 then some ((Config.certChain.drop offset.toNat).take length.toNat) else none)

/-- CHALLENGE: the chain's digest, signed with the requester's nonce. -/
def execChallenge (via : FcpFrom) (seq : BitVec 32) (slot : BitVec 8) (nonce : List Byte) (s : State) : Result :=
  onDev s (Dev.spdm via seq fun _ =>
    if slot = 0 then
      let body := sha384 Config.certChain ++ nonce
      some (body ++ Config.identitySign body)
    else none)

/-- GET_MEASUREMENTS: index 0 asks how many there are, 0xFF for all of them; signed with the nonce on request. -/
def execGetMeasurements (via : FcpFrom) (seq : BitVec 32) (index : BitVec 8) (signed : Bool) (nonce : List Byte) (s : State) :
    Result :=
  onDev s (Dev.spdm via seq fun d =>
    let body :=
      if index = 0 then some [4]
      else if index = 0xFF then some ([1, 2, 3, 4].flatMap fun n => (d.measurement n).getD [])
      else d.measurement index.toNat
    body.map fun b => if signed then b ++ nonce ++ Config.identitySign (b ++ nonce) else b)

end Sys2Proof.Machine
end

