-- ==== Sys2Proof/Machine/MoveFold.lean ====
section
/-! DEFINITION. Moving a fold (14_fold_isolation_and_migration.md, R483 to R496; the bale stream of
19_ethernet_and_chain.md, R620): freeze, save, restore, thaw, and the bale. -/

namespace Sys2Proof.Machine

/-- The instant in FLD_MIG_INSTANT, bits [9:0] taken as zero. -/
def Dev.migInstant (d : Dev) (f : Nat) : Nat := d.fget FLD_MIG_INSTANT.INSTANT f / 1024 * 1024

/-- The checks of an instant, as R38 makes them (R483): the RESULT, 0 when it passes. -/
def Dev.migTime (d : Dev) (f : Nat) : Nat :=
  let t := d.migInstant f
  if !d.timeGood then 3 else if t < d.now + 2048 then 1 else if d.now + 2 ^ 30 < t then 2 else 0

/-- FREEZE issued (R483, R484). -/
def Dev.freezeGo (d : Dev) (f : Nat) : Dev :=
  let st := d.foldState f
  if d.migTime f ≠ 0 then d.migResult f (d.migTime f)
  else if d.migState f ≠ mgIdle ∨ !(st == fdEnabled || st == fdSuspended || st == fdHalted) then d.migResult f 4
  else if d.fon FLD_PROG_STAT.STATE f then d.migResult f 5
  else (d.fset FLD_MIG_STAT.STATE mgFreezePending f).setFold f { d.fold f with freezeAt := d.migInstant f }

/-- THAW issued (R483, R494). -/
def Dev.thawGo (d : Dev) (f : Nat) : Dev :=
  if d.migTime f ≠ 0 then d.migResult f (d.migTime f)
  else if d.foldState f ≠ fdFrozen ∨ !(d.migState f == mgFrozen || d.migState f == mgSaved) then d.migResult f 4
  else
    (d.fset FLD_MIG_STAT.STATE mgThawPending f).setFold f { d.fold f with freezeAt := d.migInstant f, migWas := d.migState f }

/-! The bale (R488, R489) -/

/-- The words of a fold's migration key. -/
def Dev.migKey (d : Dev) (f : Nat) : List Word := (List.range 4).map fun k => d.rd ⟨.FLD_MIG_KEY, f, k⟩

/-- The total length of a bale with P records. -/
def baleLen (p : Nat) : Nat := 0x340 + 16 * p + 24

/-- The header of a fold's bale. -/
def Dev.baleHeader (d : Dev) (f : Nat) : List Byte :=
  let x := d.fold f
  let p := x.records.length
  leBytes 4 0x454C4142 ++ leBytes 2 1 ++ leBytes 2 p ++ leBytes 4 (baleLen p) ++ leBytes 1 f ++
    leBytes 1 (d.fget CHN_STATUS.ADDR) ++ leBytes 1 (d.fget FLD_STAT.GEN f) ++ leBytes 1 x.held.length ++
    leBytes 8 d.fuses.serial.toNat ++ leBytes 8 x.freezeAt ++ leBytes 1 x.before ++ leBytes 1 (d.fget FLD_STAT.HALT_CAUSE f) ++
    leBytes 1 (d.fget FLD_STAT.HALT_SQ f) ++ leBytes 1 (d.fget FLD_PBA.PENDING f) ++ leBytes 2 (d.fget FLD_STAT.HALT_INDEX f) ++
    leBytes 2 0 ++ leBytes 8 (d.fget FLD_MIG_ID.BALE_ID f) ++ leBytes 16 0

/-- An SQ record. -/
def Dev.baleSq (d : Dev) (f q : Nat) : List Byte :=
  leBytes 8 (d.fget FLD_SQ_BASE.BASE f q * 64) ++ leBytes 2 (d.fget FLD_SQ_STAT.HEAD f q) ++
    leBytes 2 (d.fget FLD_SQ_STAT.TAIL f q) ++ leBytes 2 (Tab.get 0 (d.fold f).next q) ++
    leBytes 1 (d.fget FLD_SQ_CFG.EN f q + 2 * d.fget FLD_SQ_CFG.SIZE_LOG2 f q) ++
    leBytes 1 (d.fget FLD_SQ_CFG.CQ f q + 8 * d.fget FLD_SQ_STAT.STATE f q + 32 * d.fget FLD_SQ_STAT.CFG_ERR f q)

/-- The µs a frozen moderation timer has left; none for one that does not run. -/
def ModTimer.left : ModTimer → Option Nat
  | .frozen n => some n
  | _ => none

/-- A CQ record. -/
def Dev.baleCq (d : Dev) (f c : Nat) : List Byte :=
  let t := (d.modTimer f c).left
  leBytes 8 (d.fget FLD_CQ_BASE.BASE f c * 16) ++ leBytes 2 (d.fget FLD_CQ_STAT.TAIL f c) ++
    leBytes 2 (d.fget FLD_CQ_STAT.HEAD f c) ++ leBytes 2 (d.fget FLD_CQ_STAT.PENDING f c) ++
    leBytes 1 (d.fget FLD_CQ_STAT.PHASE f c) ++
    leBytes 1 (d.fget FLD_CQ_CFG.EN f c + 2 * d.fget FLD_CQ_CFG.IEN f c + 4 * t.isSome.toNat) ++
    leBytes 1 (d.fget FLD_CQ_CFG.VEC f c) ++ leBytes 1 (d.fget FLD_CQ_CFG.COUNT f c) ++ leBytes 2 (d.fget FLD_CQ_CFG.TIMER f c) ++
    leBytes 2 (t.getD 0) ++ leBytes 1 (d.fget FLD_CQ_CFG.SIZE_LOG2 f c) ++ leBytes 9 0

/-- An entry record. -/
def baleRecord (r : Nat × Nat × Nat × Nat × Nat × Nat) : List Byte :=
  let (q, i, kind, st, n, crc) := r
  leBytes 2 i ++ leBytes 1 (q + 16 * kind) ++ leBytes 1 st ++ leBytes 4 n ++ leBytes 4 crc ++ leBytes 4 0

/-- A frozen fold's bale. -/
def Dev.baleOf (d : Dev) (f : Nat) : List Byte :=
  let x := d.fold f
  let held := x.held.flatMap fun h => h.bytes
  let body := d.baleHeader f ++ (List.range 8).flatMap (d.baleSq f) ++ (List.range 8).flatMap (d.baleCq f) ++
    ((List.range 8).flatMap fun i => leBytes 8 (d.rd ⟨.FLD_MSIX0, f, i⟩).toNat ++ leBytes 8 (d.rd ⟨.FLD_MSIX1, f, i⟩).toNat) ++
    held ++ List.replicate (256 - held.length) 0 ++ x.records.flatMap baleRecord
  let body := body ++ leBytes 8 (crc64 body).toNat
  body ++ cmac (d.migKey f) body

/-! Saving (R490, R620) -/

/-- The bytes of one BALE_DATA segment, and of one host write of a bale. -/
abbrev segment : Nat := 4096

/-- Bytes in segments, each with its offset. -/
def segments (bs : List Byte) : List (Nat × List Byte) :=
  (List.range ((bs.length + segment - 1) / segment)).map fun k => (segment * k, (bs.drop (segment * k)).take segment)

/-- The bale stream sent; the wait for BALE_ACK starts with its last segment. -/
def Dev.streamBale (d : Dev) (f : Nat) : Dev :=
  let x := d.fold f
  let d := (segments x.bale).foldl (fun d s =>
    d.send (.baleData (d.fget FLD_MIG_CTRL.PEER f) (d.fget FLD_MIG_CTRL.PEER_FOLD f) s.1 x.bale.length s.2)) d
  d.setFold f { d.fold f with baleSent := x.baleSent + 1, baleAck := some d.now }

/-- SAVE issued. One may be repeated, so SAVED serves as FROZEN does. -/
def Dev.saveGo (d : Dev) (f : Nat) : Dev :=
  if !(d.migState f == mgFrozen || d.migState f == mgSaved) then d.migResult f 4
  else
    let x := d.fold f
    let b := d.baleOf f
    let d := (d.fset FLD_MIG_STAT.STATE mgSaving f).setFold f { x with bale := b, baleSent := 0, baleAck := none }
    if d.fon FLD_MIG_CTRL.DEST f then d.streamBale f
    else (segments b).foldl (fun d s => d.hostWrite f (d.fget FLD_MIG_ADDR.ADDR f * 64 + s.1) s.2) d

/-- SAVE_DONE: the host writes of a bale have completed, or one of them failed. -/
def execSaveDone (f : Fin 256) (ok : Bool) (s : State) : Result :=
  onDev s fun d =>
    if d.migState f = mgSaving ∧ !(d.fon FLD_MIG_CTRL.DEST f) then d.saveEnd f (if ok then 0 else 6) else d

/-- BALE_ACK of the peer, over the secured channel: STATUS 0 ends the SAVE with OK, any other with NOPEER. -/
def execBaleAck (f : Fin 256) (status : BitVec 8) (s : State) : Result :=
  onDev s fun d =>
    if d.migState f = mgSaving && d.fon FLD_MIG_CTRL.DEST f && d.streams then d.saveEnd f (if status = 0 then 0 else 7) else d

/-- BALE_ACK_TIMEOUT: 40 µs without a BALE_ACK: the stream is sent once more, then NOPEER. -/
def execBaleAckTimeout (f : Fin 256) (s : State) : Result :=
  onDev s fun d =>
    match (d.fold f).baleAck with
    | some t =>
      if d.migState f ≠ mgSaving then d
      else
        let d := d.upTo (t + 40000)
        if (d.fold f).baleSent < 2 then d.streamBale f else d.saveEnd f 7
    | none => d

/-! Restoring (R491 to R493) -/

/-- RESTORE issued: DEST 0 reads the bale from host memory, DEST 1 arms the fold. -/
def Dev.restoreGo (d : Dev) (f : Nat) : Dev :=
  let st := d.foldState f
  let free := d.fon FLD_CFG.ASSIGNED f && d.fon CXP_VSW_CFG.EN (d.foldVsw f) && (st == fdEnabled || st == fdSuspended) &&
    ((List.range 8).all fun q => d.fget FLD_SQ_STAT.STATE f q == sqDisabled && !(d.fon FLD_CQ_CFG.EN f q)) &&
    d.fget FLD_STAT.IN_FLIGHT f == 0 && !(d.fon FLD_PROG_STAT.STATE f) && d.migState f != mgFreezePending
  if !free then d.migResult f 4
  else
    let d := d.fset FLD_MIG_STAT.STATE mgRestoring f
    if d.fon FLD_MIG_CTRL.DEST f then d.setFold f { d.fold f with armed := true, baleRx := [] }
    else d.hostRead f (d.fget FLD_MIG_ADDR.ADDR f * 64) 64

/-- Are the bytes that R489 requires to be zero all zero? -/
def baleZero (b : List Byte) (p : Nat) : Bool :=
  descField b 0x26 2 == 0 && descField b 0x30 16 == 0 &&
    ((List.range 8).all fun c => descField b (0xC0 + 32 * c + 23) 9 == 0) &&
    (List.range p).all fun k => descField b (0x340 + 16 * k + 12) 4 == 0

/-- The checks of a bale in their order (R492): the RESULT, 0 when all pass. -/
def Dev.baleCheck (d : Dev) (f : Nat) (b : List Byte) : Nat :=
  let p := descField b 6 2
  let n := b.length
  if descField b 0 4 ≠ 0x454C4142 ∨ descField b 4 2 ≠ 1 ∨ 2048 < p ∨ descField b 8 4 ≠ baleLen p ∨ n ≠ baleLen p ∨ !(baleZero b p) then 8
  else if descField b (n - 24) 8 ≠ (crc64 (b.take (n - 24))).toNat then 9
  else if b.drop (n - 16) ≠ cmac (d.migKey f) (b.take (n - 16)) then 10
  else if descField b 0x28 8 ≠ d.fget FLD_MIG_ID.BALE_ID f then 11
  else if 2048 < d.slotsInFlight + p then 12
  else 0

/-- An SQ record loaded. -/
def Dev.loadSq (b : List Byte) (f : Nat) (d : Dev) (q : Nat) : Dev :=
  let o := 0x40 + 16 * q
  let x := descField b (o + 14) 1
  let y := descField b (o + 15) 1
  let d := (d.fset FLD_SQ_BASE.BASE (descField b o 8 / 64) f q).fset FLD_SQ_STAT.HEAD (descField b (o + 8) 2) f q
  let d := (d.fset FLD_SQ_STAT.TAIL (descField b (o + 10) 2) f q).fset FLD_SQ_CFG.EN (x % 2) f q
  let d := (d.fset FLD_SQ_CFG.SIZE_LOG2 (x / 2) f q).fset FLD_SQ_CFG.CQ (y % 8) f q
  let d := (d.fset FLD_SQ_STAT.STATE (y / 8 % 4) f q).fset FLD_SQ_STAT.CFG_ERR (y / 32 % 2) f q
  d.setFold f { d.fold f with next := Tab.set (d.fold f).next q (descField b (o + 12) 2) }

/-- A CQ record loaded. -/
def Dev.loadCq (b : List Byte) (f : Nat) (d : Dev) (c : Nat) : Dev :=
  let o := 0xC0 + 32 * c
  let x := descField b (o + 15) 1
  let d := (d.fset FLD_CQ_BASE.BASE (descField b o 8 / 16) f c).fset FLD_CQ_STAT.TAIL (descField b (o + 8) 2) f c
  let d := (d.fset FLD_CQ_STAT.HEAD (descField b (o + 10) 2) f c).fset FLD_CQ_STAT.PENDING (descField b (o + 12) 2) f c
  let d := (d.fset FLD_CQ_STAT.PHASE (descField b (o + 14) 1) f c).fset FLD_CQ_CFG.EN (x % 2) f c
  let d := (d.fset FLD_CQ_CFG.IEN (x / 2 % 2) f c).fset FLD_CQ_CFG.VEC (descField b (o + 16) 1) f c
  let d := (d.fset FLD_CQ_CFG.COUNT (descField b (o + 17) 1) f c).fset FLD_CQ_CFG.TIMER (descField b (o + 18) 2) f c
  let d := d.fset FLD_CQ_CFG.SIZE_LOG2 (descField b (o + 22) 1) f c
  d.setTimer f c (if x / 4 % 2 = 1 then .frozen (descField b (o + 20) 2) else .stopped)

/-- An MSI-X vector loaded. -/
def Dev.loadMsix (b : List Byte) (f : Nat) (d : Dev) (i : Nat) : Dev :=
  (d.wr ⟨.FLD_MSIX0, f, i⟩ (BitVec.ofNat 64 (descField b (0x1C0 + 16 * i) 8))).wr ⟨.FLD_MSIX1, f, i⟩
    (BitVec.ofNat 64 (descField b (0x1C8 + 16 * i) 8) &&& mask 0 33)

/-- A bale that passed its checks loaded: the fold is FROZEN with the source's state (R493). -/
def Dev.loadBale (d : Dev) (f : Nat) (b : List Byte) : Dev :=
  let p := descField b 6 2
  let nHeld := min 16 (descField b 0x0F 1)
  let d := (List.range 8).foldl (Dev.loadSq b f) d
  let d := (List.range 8).foldl (Dev.loadCq b f) d
  let d := (List.range 8).foldl (Dev.loadMsix b f) d
  let held : List HeldCpl := (List.range nHeld).map fun k =>
    let bytes := (b.drop (0x240 + 16 * k)).take 16
    ⟨d.fget FLD_SQ_CFG.CQ f (descField bytes 2 1 % 8), bytes, false⟩
  let records := (List.range p).map fun k =>
    let o := 0x340 + 16 * k
    let x := descField b (o + 2) 1
    (x % 8, descField b o 2, x / 16 % 4, descField b (o + 3) 1, descField b (o + 4) 4, descField b (o + 8) 4)
  let d := (d.fset FLD_PBA.PENDING (descField b 0x23 1) f).fset FLD_CNT.HOLD_USED nHeld f
  let d := (d.fset FLD_STAT.GEN (descField b 0x0E 1) f).fset FLD_STAT.HALT_CAUSE (descField b 0x21 1) f
  let d := (d.fset FLD_STAT.HALT_SQ (descField b 0x22 1) f).fset FLD_STAT.HALT_INDEX (descField b 0x24 2) f
  let d := (d.fset FLD_STAT.IN_FLIGHT p f).fset FLD_STAT.STATE fdFrozen f
  let d := (d.fset FLD_MIG_STAT.LEN b.length f).fset FLD_MIG_STAT.RECORDS p f
  let x := d.fold f
  let d := d.setFold f { x with
    held := held, records := records, before := descField b 0x20 1, freezeAt := descField b 0x18 8, stalled := decide (16 ≤ nHeld) }
  ((d.fset FLD_MIG_STAT.STATE mgFrozen f).migResult f 0).eventMgr 7

/-- A whole bale that has come: loaded, or nothing of it and the RESULT of the check that failed. -/
def Dev.takeBale (d : Dev) (f : Nat) (b : List Byte) : Dev :=
  let r := d.baleCheck f b
  let d := d.setFold f { d.fold f with armed := false, baleRx := [] }
  if r = 0 then d.loadBale f b else (d.fset FLD_MIG_STAT.STATE mgIdle f).migResult f r

/-- BALE_READ_DONE: the bale read from host memory, or a failed read. -/
def execBaleReadDone (f : Fin 256) (bytes : List Byte) (bad : Bool) (s : State) : Result :=
  onDev s fun d =>
    if d.migState f ≠ mgRestoring || (d.fold f).armed then d
    else if bad then (d.fset FLD_MIG_STAT.STATE mgIdle f).migResult f 6
    else d.takeBale f bytes

/-- BALE_DATA (R491, R620): a segment of a bale stream; over a channel that is not secured, from no chain alias, for a
fold that is not armed, or while the device has no chain address (R626), it is refused. -/
def execBaleData (secured fromAlias : Bool) (f : Fin 256) (offset total : BitVec 16) (bytes : List Byte) (s : State) : Result :=
  onDev s fun d =>
    if !d.streams then d
    else
      let x := d.fold f
      if !secured || !fromAlias || !x.armed || !d.fon CHN_STATUS.VALID then d.send (.baleAck f 1 0)
      else
        let rx := if offset = 0 then bytes else if offset.toNat = x.baleRx.length then x.baleRx ++ bytes else x.baleRx
        if rx.length < total.toNat then d.setFold f { x with baleRx := rx }
        else
          let b := rx.take total.toNat
          let r := d.baleCheck f b
          (d.takeBale f b).send (.baleAck f (if r = 0 then 0 else 2) r)

/-! Freezing and thawing at their instants (R485, R486, R494) -/

/-- The first index of an SQ that was fetched and has not started: fetching resumes there. -/
def Dev.firstUnstarted (d : Dev) (f q : Nat) : Option Nat :=
  ((d.sqWorks f q).find? fun w => w.state == .fetching || w.state == .fetched).bind fun w =>
    match w.owner with | .ring _ _ i => some i | _ => none

/-- A running moderation timer stopped with its time left. -/
def Dev.stopTimer (f : Nat) (d : Dev) (c : Nat) : Dev :=
  match d.modTimer f c with
  | .running since => d.setTimer f c (.frozen (((d.fget FLD_CQ_CFG.TIMER f c + 1) * 1000 - (d.now - since) + 999) / 1000))
  | _ => d

/-- A stopped moderation timer started again with its time left. -/
def Dev.startTimer (f : Nat) (d : Dev) (c : Nat) : Dev :=
  match d.modTimer f c with
  | .frozen n => d.setTimer f c (.running (d.now + n * 1000 - (d.fget FLD_CQ_CFG.TIMER f c + 1) * 1000))
  | _ => d

/-- FREEZE_INSTANT: the fold is FROZEN and stops fetching; a fold no longer in a state that can be frozen ends the operation
with BADSTATE. -/
def execFreezeInstant (f : Fin 256) (s : State) : Result :=
  onDev s fun d =>
    if d.migState f ≠ mgFreezePending then d
    else
      let d := d.upTo (d.fold f).freezeAt
      let st := d.foldState f
      if !(st == fdEnabled || st == fdSuspended || st == fdHalted) then (d.fset FLD_MIG_STAT.STATE mgIdle f).migResult f 4
      else
        let next := (List.range 8).foldl (fun t q => match d.firstUnstarted f q with | some i => Tab.set t q i | none => t) (d.fold f).next
        let d := d.dropUnstarted f none
        let d := d.setFold f { d.fold f with before := st, pushFull := [], next := next }
        let d := (List.range 8).foldl (Dev.stopTimer f) d
        (d.fset FLD_STAT.STATE fdFrozen f).fset FLD_MIG_STAT.STATE mgFreezing f

/-- The record of a started entry (R488): FINISHED, PAUSED at the next chunk, or REDO from its first outstanding chunk. -/
def Dev.recordOf (d : Dev) (w : Work) : Option (Nat × Nat × Nat × Nat × Nat × Nat) :=
  match w.owner with
  | .ring _ q i =>
    let crc := if dOp w.raw = opCrc then w.crc.toNat else 0
    match w.state with
    | .finished st r => some (q, i, 1, st, r, 0)
    | .refetch k st n => some (q, i, k, st, n, w.crc.toNat)
    | .started _ =>
      match rising (d.outChunks w.id) with
      | o :: _ => some (q, i, 2, 0, o, crc)
      | [] => some (q, i, 0, 0, w.next, crc)
    | _ => none
  | _ => none

/-- FREEZE_DONE: no chunk of the fold is outstanding, or 20 µs have passed; its started entries are recorded, with their
slots kept, and late responses will find nothing (R485, R486). -/
def execFreezeDone (f : Fin 256) (s : State) : Result :=
  onDev s fun d =>
    if d.migState f ≠ mgFreezing then d
    else
      let mine := d.folds.work.filter fun w => w.owner.fold == some (f : Nat)
      let ids := mine.map (·.id)
      let d := if mine.any fun w => !(d.outChunks w.id).isEmpty then d.upTo ((d.fold f).freezeAt + 20000) else d
      let records := (List.range 8).flatMap fun q => (d.sqWorks f q).filterMap d.recordOf
      let jobs := mine.filter fun w => match w.owner with | .job _ _ _ _ _ => true | _ => false
      let d := { d with core := { d.core with flights := d.core.flights.filter fun x => match x.src with | .chunk _ i => !(ids.contains i) | _ => true } }
      let d := ids.foldl Dev.dropWork d
      let d := jobs.foldl (fun d _ => d.freeSlotOf f) d
      let d := d.setFold f { d.fold f with records := records }
      ((d.fset FLD_MIG_STAT.STATE mgFrozen f).migResult f 0).eventMgr 7

/-- A recorded entry takes up its work: its descriptor is read again from its ring (R488, R494). -/
def Dev.takeRecord (f : Nat) (d : Dev) (r : Nat × Nat × Nat × Nat × Nat × Nat) : Dev :=
  let (q, i, kind, st, n, crc) := r
  let w : Work := { id := d.folds.nextId, owner := .ring f q i, gen := d.fget FLD_STAT.GEN f, state := .refetch kind st n,
                    next := if kind = 1 then 0 else n, crc := BitVec.ofNat 32 crc }
  (d.addWork w).hostRead f (d.fget FLD_SQ_BASE.BASE f q * 64 + 64 * i) 64

/-- THAW_INSTANT: the fold returns to the STATE held before the freeze and resumes its recorded work (R494). -/
def execThawInstant (f : Fin 256) (s : State) : Result :=
  onDev s fun d =>
    if d.migState f ≠ mgThawPending then d
    else
      let d := d.upTo (d.fold f).freezeAt
      let x := d.fold f
      let d := (d.fset FLD_STAT.STATE x.before f).fset FLD_MIG_STAT.STATE mgIdle f
      let d := (d.foldRefresh f).migResult f 0
      let d := d.setFold f { d.fold f with records := [] }
      let d := x.records.foldl (Dev.takeRecord f) d
      (((List.range 8).foldl (Dev.startTimer f) d).foldWake f)

/-! The operations as commands (R498) -/

/-- FLD_MIG_CTRL written with GO: OP is checked and carried out; GO clears. -/
def Dev.migGo (d : Dev) (f : Nat) : Dev :=
  match d.fget FLD_MIG_CTRL.OP f with
  | 1 => d.freezeGo f
  | 2 => d.saveGo f
  | 3 => d.restoreGo f
  | 4 => d.thawGo f
  | _ => d.migResult f 4

/-- The fields of FLD_MIG_CTRL and the operand registers written, then GO. -/
def Dev.migCommand (d : Dev) (f op dest peer peerFold : Nat) : Dev :=
  let d := (d.fset FLD_MIG_CTRL.OP op f).fset FLD_MIG_CTRL.DEST dest f
  ((d.fset FLD_MIG_CTRL.PEER peer f).fset FLD_MIG_CTRL.PEER_FOLD peerFold f).migGo f

/-- FREEZE: a manager arms a freeze at an instant. -/
def execFreeze (f : Fin 256) (instant : Word) (s : State) : Result :=
  onWaitingReg (.freeze f instant) s fun d => (d.fset FLD_MIG_INSTANT.INSTANT instant.toNat f).migCommand f 1 0 0 0

/-- SAVE: into host memory at `addr`, or with `dest` to the fold of a peer. -/
def execSave (f : Fin 256) (dest : Bool) (peer : Fin 64) (peerFold : Fin 256) (addr : Word) (s : State) : Result :=
  onWaitingReg (.save f dest peer peerFold addr) s fun d => (d.fset FLD_MIG_ADDR.ADDR (addr.toNat / 64) f).migCommand f 2 dest.toNat peer peerFold

/-- RESTORE: from host memory at `addr`, or with `dest` from a bale stream. -/
def execRestore (f : Fin 256) (dest : Bool) (addr : Word) (s : State) : Result :=
  onWaitingReg (.restore f dest addr) s fun d => (d.fset FLD_MIG_ADDR.ADDR (addr.toNat / 64) f).migCommand f 3 dest.toNat 0 0

/-- THAW: a manager arms a thaw at an instant. -/
def execThaw (f : Fin 256) (instant : Word) (s : State) : Result :=
  onWaitingReg (.thaw f instant) s fun d => (d.fset FLD_MIG_INSTANT.INSTANT instant.toNat f).migCommand f 4 0 0 0

end Sys2Proof.Machine
end

