-- ==== Sys2Proof/Machine/Services.lean ====
section
/-! DEFINITION. What a Wygel thread does through the gable die and the movers, and what happens to threads, images and
engines from outside: mailboxes (R137 to R139, R614), DMVK (R140 to R142), waits that end, kills, image loads and
unloads, fold programs, engine drain and return (03_wygel_machine.md). -/

namespace Sys2Proof.Machine

/-! Scratch bytes of an operand; a manager's wrap at the top of scratch (R70) -/

/-- `n` bytes of scratch from place `p` on. -/
def Dev.scratchGet (d : Dev) (p n : Nat) : List Byte :=
  if p + n ≤ 2 ^ 22 then d.scratchLoad p n else d.scratchLoad p (2 ^ 22 - p) ++ d.scratchLoad 0 (p + n - 2 ^ 22)

/-- Bytes stored to scratch from place `p` on. -/
def Dev.scratchPut (d : Dev) (p : Nat) (bs : List Byte) : Dev :=
  if p + bs.length ≤ 2 ^ 22 then d.scratchStore p bs
  else (d.scratchStore p (bs.take (2 ^ 22 - p))).scratchStore 0 (bs.drop (2 ^ 22 - p))

/-- The place of `n` bytes at scratch address g[r], aligned to `al`: the exception it raises, or the place (R71, R70). -/
def Dev.scratchOperand (d : Dev) (th : Thread) (r al n : Nat) : Except (Nat × Nat) Nat :=
  let a := (th.g r).toNat % 2 ^ 22
  if a % al ≠ 0 then .error (4, a)
  else match d.scratchAddr th a n with
    | none => .error (5, a)
    | some p => .ok p

/-! Mailboxes -/

/-- MSND (R137): status 0 queued, 1 the transmit queue is full, 2 no session. The spec gives its checks no order; the model
tests the length, then ALIGN and SCRATCH, then the session, then the queue (DESIGN CHOICE, assumption 175). -/
def execMsnd (t : Fin 64) (rd ra rb : Fin 32) (func : BitVec 11) (s : State) : Result :=
  onDev s (Dev.issue t (func.toNat / 256 == 0) true fun d th =>
    let n := (th.g rb).toNat
    if n = 0 ∨ 4096 < n then d.trap t 1 th.pc.toNat
    else match d.scratchOperand th ra 8 n with
      | .error (c, a) => d.trap t c a
      | .ok p =>
        let st := if !d.session then 2 else if 64 ≤ d.wygel.txMail.length then 1 else 0
        let m : Mail := ⟨th.image.getD 0, func.toNat % 256, d.scratchGet p n, d.fcp.txSeq, 1, d.now⟩
        let d := if st ≠ 0 then d else
          { d.send (.mbox m) with
            wygel := { d.wygel with txMail := d.wygel.txMail ++ [m] }, fcp := { d.fcp with txSeq := d.fcp.txSeq + 1 } }
        d.retire t { th.setG rd (BitVec.ofNat 64 st) with flags := { th.flags with z := st == 0 } })

/-- The threads of an image that wait in MRCV, the one that has waited longest first (R139). -/
def Dev.receivers (d : Dev) (image : Option Nat) : List Nat :=
  let ws := d.threads.filterMap fun e =>
    match e.2.wait with
    | .message _ _ _ since => if e.2.state == .wait && e.2.image == image then some (since, e.1) else none
    | _ => none
  (sorted (fun a b => decide (a.1 < b.1)) ws).map (·.2)

/-- The messages received for an image, oldest first. -/
def Dev.mailFor (d : Dev) (image : Option Nat) : List Mail := d.wygel.rxMail.filter fun m => some m.image == image

/-- A message taken by a thread: at most `limit` bytes copied to scratch, g[rd] and V (R138). -/
def Dev.takeMail (d : Dev) (t rd p : Nat) (limit : Word) (m : Mail) (nb : Bool) : Dev :=
  let d := { d with wygel := { d.wygel with rxMail := d.wygel.rxMail.erase m } }
  let d := d.scratchPut p (m.bytes.take limit.toNat)
  let th := d.thr t
  let v := putBits (putBits 0 0 16 m.bytes.length) 16 8 m.channel
  let fl := { th.flags with v := decide (limit.toNat < m.bytes.length), c := if nb then false else th.flags.c }
  d.setThr t { (th.setG rd v).advance with flags := fl, state := .run, wait := .ready }

/-- The message a thread that issues now may take: the oldest that no waiting thread of its image is to take. -/
def Dev.mailNow (d : Dev) (image : Option Nat) : Option Mail := (d.mailFor image)[(d.receivers image).length]?

/-- Both forms of MRCV. -/
def Dev.mrcv (t rd ra rb : Nat) (func : BitVec 10) (nb : Bool) : Dev → Dev :=
  Dev.issue t (func == 0) true fun d th =>
    match d.scratchOperand th ra 8 (min 4096 (th.g rb).toNat) with
    | .error (c, a) => d.trap t c a
    | .ok p =>
      match d.mailNow th.image with
      | some m => d.takeMail t rd p (th.g rb) m nb
      | none =>
        if nb then d.retire t { th.setG rd 0 with flags := { th.flags with c := true } }
        else d.setThr t { th with state := .wait, wait := .message rd p (th.g rb) d.now }

/-- MRCV (R138); `func` is FUNC[10:1]. -/
def execMrcv (t : Fin 64) (rd ra rb : Fin 32) (func : BitVec 10) (s : State) : Result := onDev s (Dev.mrcv t rd ra rb func false)

/-- MRCV.NB (R138). -/
def execMrcvNb (t : Fin 64) (rd ra rb : Fin 32) (func : BitVec 10) (s : State) : Result := onDev s (Dev.mrcv t rd ra rb func true)

/-- MBOX from the manager (R614, R650): BUSY in Standby that no MBOX ends, NOTLOADED, FULL, else delivered, or held until the
exit from Standby that it starts. -/
def execMbox (via : FcpFrom) (session seq imageId : BitVec 32) (channel : BitVec 8) (bytes : List Byte) (s : State) : Result :=
  onDev s (Dev.fcpRequest via 0x20 session.toNat seq.toNat fun d =>
    let m : Mail := ⟨imageId.toNat, channel.toNat, bytes, seq.toNat, 0, 0⟩
    let asleep := d.phase == phStandby
    let wakes := d.fon RST_STANDBY_CFG.WAKE_ON_MBOX
    if bytes.length = 0 ∨ 4096 < bytes.length then (d, some (.code 2))
    else if asleep && !wakes then (d, some (.code 4))
    else if (d.imageOf imageId.toNat).isNone then (d, some (.code 8))
    else if 64 ≤ d.wygel.rxMail.length + d.gable.heldMail.length then (d, some (.code 7))
    else if asleep then
      ((d.setGable { d.gable with heldMail := d.gable.heldMail ++ [m] }).wakeBy 2, some (.code 0))
    else ((if d.gable.entering && wakes then d.wakeBy 2 else d).deliver m, some (.code 0)))

/-- MBOX_ACK: the device's MBOX that it names leaves the transmit queue. -/
def execMboxAck (via : FcpFrom) (session seq ackSeq : BitVec 32) (s : State) : Result :=
  onDev s (Dev.fcpRequest via 0x21 session.toNat seq.toNat fun d =>
    ({ d with wygel := { d.wygel with txMail := d.wygel.txMail.filter fun m => m.seq != ackSeq.toNat } }, some (.code 0)))

/-- MBOX_RESEND: 1 ms without an acknowledgement of the device's MBOX with a SEQ: sent again, four times at most, then
dropped and counted. -/
def execMboxResend (mailSeq : BitVec 32) (s : State) : Result :=
  onDev s fun d =>
    match d.wygel.txMail.find? fun m => m.seq == mailSeq.toNat with
    | none => d
    | some m =>
      let d := d.upTo (m.sentAt + 1000000)
      if 5 ≤ m.sent then
        ({ d with wygel := { d.wygel with txMail := d.wygel.txMail.erase m } } : Dev).fadd ETH_CNT.MBOX_DROPPED 1
      else
        let m' := { m with sent := m.sent + 1, sentAt := d.now }
        { d.send (.mbox m') with
          wygel := { d.wygel with txMail := d.wygel.txMail.map fun x => if x = m then m' else x } }

/-! DMVK (R140 to R142) -/

/-- The next job handle, 1 to 65,535. -/
def Dev.nextHandle (d : Dev) : Nat := if d.folds.handle = 65535 then 1 else d.folds.handle + 1

/-- The lowest free manager job slot of 64. -/
def Dev.managerSlot (d : Dev) : Option Nat :=
  (List.range 64).find? fun k => d.folds.work.all fun w => match w.owner with | .job none j _ _ _ => j != k | _ => true

/-- DMVK: FUNC zero. Its exceptions are ALIGN and SCRATCH alone (R140), so a descriptor in a poisoned word is read as it stands
(DESIGN CHOICE, assumption 176). -/
def execDmvk (t : Fin 64) (rd ra rb : Fin 32) (func : BitVec 11) (s : State) : Result :=
  onDev s (Dev.issue t (func == 0) false fun d th =>
    match d.scratchOperand th ra 64 64, d.scratchOperand th rb 16 16 with
    | .error (c, a), _ => d.trap t c a
    | .ok _, .error (c, a) => d.trap t c a
    | .ok p, .ok cpl =>
      let raw := d.scratchGet p 64
      let fold := if th.manager then none else some th.fid
      if !th.manager && dOp raw == opMigrate then d.trap t 2 th.pc.toNat
      else
        let room := match fold with | none => d.managerSlot.isSome | some f => d.mayTakeSlot f
        if !room then d.retire t { th.setG rd 0 with flags := { th.flags with c := true } }
        else
          let h := d.nextHandle
          let gen := match fold with | some f => d.fget FLD_STAT.GEN f | none => 0
          let d := { d with folds := { d.folds with handle := h } }
          let d := d.retire t { th.setG rd (BitVec.ofNat 64 h) with flags := { th.flags with c := false } }
          match malformed raw (if th.manager then .manager else .foldJob) with
          | some c => d.jobDone raw h t cpl 0x0F c gen
          | none =>
            let d := match fold with | some f => d.takeSlot f | none => d
            d.addWork { id := d.folds.nextId, owner := .job fold (d.managerSlot.getD 0) h t cpl, gen := gen, raw := raw,
                        state := if dOp raw = opMigrate then .migrate else .fetched })

/-! Waits that end at a time, limits, kills -/

/-- Was NOW stepped past an instant on the last entry to LOCKED (R124)? -/
def Dev.steppedPast (d : Dev) (due : Nat) : Bool :=
  match d.time.steppedAt with
  | some x => decide (due ≤ x ∧ (x : Int) - d.time.lastStep < due)
  | none => false

/-- WAT_EXPIRE: the instant of a WAT arrives (R123, R124). -/
def execWatExpire (t : Fin 64) (s : State) : Result :=
  onDev s fun d =>
    let th := d.thr t
    match th.wait with
    | .instant rd due =>
      if th.state != .wait || d.threadsHeld then d
      else
        let d := d.upTo due.toNat
        d.setThr t (watDone d.now (d.steppedPast due.toNat) th rd)
    | _ => d

/-- EVW_DEADLINE: the deadline of an EVW passes; an event that is pending by then is returned instead (R121). -/
def execEvwDeadline (t : Fin 64) (s : State) : Result :=
  onDev s fun d =>
    let th := d.thr t
    match th.wait with
    | .event rd dl =>
      if th.state != .wait || d.threadsHeld || dl == 0 then d
      else if th.evReady != 0 then d.safePoint t (evwEvent th rd)
      else (d.upTo dl.toNat).safePoint t (evwLate th rd)
    | _ => d

/-- LIMIT: a fold thread has run FOLD_RUN_LIMIT courses (R76, R98); the count starts again after the exception (assumption 42).
The courses counted are those of NOW since the thread started, its waits among them: the spec says 'courses a fold thread may
run' and not whether a wait counts (DESIGN CHOICE, assumption 177). -/
def execLimit (t : Fin 64) (s : State) : Result :=
  onDev s fun d =>
    let th := d.thr t
    let n := d.fget WGL_CTRL.FOLD_RUN_LIMIT
    if th.state != .run || th.manager || n == 0 || d.threadsHeld then d
    else
      let d := d.upTo (th.started + n * 1048576)
      let d := d.setThr t { th with started := d.now }
      (d.takeException t 0xC th.pc th.pc.toNat).trySwitch

/-- KILL: a write of 1 to WGL_THR_CTRL[t].KILL. -/
def execKill (t : Fin 64) (s : State) : Result := onReg s fun d => d.kill t

/-- POOL_ACCESS_TIMEOUT: an aperture access, by its tag, is unanswered for 32 µs: a read raises POISON (R74); a posted write
counts as failed (R116). -/
def execPoolAccessTimeout (tag : Nat) (s : State) : Result :=
  onDev s fun d =>
    match d.flight tag with
    | none => d
    | some fl =>
      if fl.answer.isSome then d
      else match fl.src with
        | .thread t =>
          let th := d.thr t
          let d := d.dropFlight tag
          if fl.write then d.postFailed t
          else match th.wait with
            | .poolRead _ _ g =>
              if g = tag then
                ((d.setThr t { th with state := .run, wait := .ready }).trap t 8 (fl.addr % 2 ^ 32)).trySwitch
              else d
            | _ => d
        | .dap => d.endRequest fl 7
        | _ => d

/-! Images (R87 to R93, R613) -/

/-- UPDATE_TIMEOUT (R93): 0 courses act as 1. -/
def execUpdateTimeout (s : State) : Result :=
  onDev s fun d =>
    match d.wygel.update with
    | some u => (d.upTo (u.since + max 1 (d.fget WGL_CTRL.UPDATE_LIMIT) * 1048576)).abortUpdate
    | none => d

/-- A partial load given up. -/
def Dev.dropLoad (d : Dev) : Dev := { d with wygel := { d.wygel with rxImage := [], rxTotal := 0 } }

/-- IMAGE_DATA (R613): the last segment is answered by the load. -/
def execImageData (via : FcpFrom) (session seq offset total : BitVec 32) (bytes : List Byte) (s : State) : Result :=
  onDev s (Dev.fcpRequest via 0x10 session.toNat seq.toNat (awake fun d =>
    let w := d.wygel
    if w.rxWhole.isSome || w.update.isSome then (d, some (.code 4))
    else
      let w := if offset = 0 then { w with rxImage := [], rxTotal := total.toNat } else w
      let got := w.rxImage ++ bytes
      if offset.toNat ≠ w.rxImage.length ∨ 3 * 2 ^ 20 < w.rxTotal ∨ w.rxTotal < got.length then
        (d.dropLoad, some (.code 6))
      else if got.length < w.rxTotal then ({ d with wygel := { w with rxImage := got } }, some (.code 0))
      else ({ d with wygel := { w with rxImage := got, rxWhole := some (via.port, seq.toNat) } }, none)))

/-- IMAGE_LOAD: the image that has arrived is checked and loaded; the reply carries the status (R87, R613), after a hot update
once it has switched or timed out. -/
def execImageLoad (s : State) : Result :=
  onDev s fun d =>
    match d.wygel.rxWhole with
    | none => d
    | some (p, q) =>
      let bs := d.wygel.rxImage
      let d := { d with wygel := { d.wygel with rxImage := [], rxTotal := 0, rxWhole := none } }
      match d.loadImage bs .fcp p q with
      | (d, some st) => d.finish p 0x10 q ⟨0, leBytes 1 st⟩
      | (d, none) => d

/-- IMAGE_UNLOAD (R89): NOTLOADED, REFUSED while a thread of the image is live, else its pages are freed. -/
def execImageUnload (via : FcpFrom) (session seq imageId : BitVec 32) (s : State) : Result :=
  onDev s (Dev.fcpRequest via 0x11 session.toNat seq.toNat fun d =>
    let id := imageId.toNat
    if (d.imageOf id).isNone then (d, some (.code 8))
    else if d.liveThreads.any fun e => e.2.manager && e.2.image == some id then (d, some (.code 6))
    else (d.dropImage id none, some (.code 0)))

/-! Fold programs (R90, R466) -/

/-- A write of 1 to START: refused with NOCTX, or the image is fetched from host memory under the fold's share, with event
FOLD. A FAULTED thread of an earlier program gives its context up. -/
def Dev.progStart (d : Dev) (f : Nat) : Dev :=
  let len := d.fget FLD_PROG_CTRL.LEN f
  let st := d.fget FLD_PROG_STAT.STATE f
  if !d.fon FLD_CFG.PROG_ALLOW f || st == 1 || st == 2 || len == 0 || decide (32992 < len) ||
      d.fget FLD_MIG_STAT.STATE f == mgFreezePending then
    d.fset FLD_PROG_STAT.LOAD_STATUS 7 f
  else
    let d := match d.threads.find? fun e => e.2.live && e.2.fid == f with
      | some (t, _) => d.kill t
      | none => d
    let d := (d.fset FLD_PROG_STAT.STATE 1 f).fset FLD_PROG_STAT.LOAD_STATUS 0 f
    (d.hostRead f (d.fget FLD_PROG_ADDR.ADDR f) len).eventMgr 7

/-- FOLD_PROG_START: the host's write, taken as R481 and R487 let it. -/
def execFoldProgStart (f : Fin 256) (s : State) : Result := onReg s fun d => if d.hostWrites f then d.progStart f else d

/-- FOLD_IMAGE_FETCHED: the bytes have come and the image is loaded with the fold's key; where the host read failed, the
program is IDLE, with a LOAD_STATUS that the spec does not state. -/
def execFoldImageFetched (f : Fin 256) (bytes : Option (List Byte)) (s : State) : Result :=
  onDev s fun d =>
    if d.fget FLD_PROG_STAT.STATE f ≠ 1 ∨ d.foldState f = fdResetting then d
    else
      match bytes with
      | none => d.progBad f
      | some bs =>
        let (d, st) := d.loadImage bs (.fold f) 0 0
        let d := d.fset FLD_PROG_STAT.LOAD_STATUS (st.getD 0) f
        match d.threads.find? fun e => e.2.live && e.2.fid == (f : Nat) with
        | some (t, _) => (d.fset FLD_PROG_STAT.STATE 2 f).fset FLD_PROG_STAT.THREAD t f
        | none => d.fset FLD_PROG_STAT.STATE 0 f

/-! Engines (R94 to R96) -/

/-- A write of 1 to DRAIN. -/
def Dev.engineDrain (d : Dev) (e : Nat) : Dev :=
  match d.fget WGL_ENG_CTRL.STATE 0 e with
  | 0 => ((d.fset WGL_ENG_CTRL.STATE 2 0 e).fset WGL_ENG_CTRL.DRAIN 1 0 e).drainCheck e
  | 1 => d.fset WGL_ENG_CTRL.STATE 3 0 e
  | _ => d

/-- ENGINE_DRAIN. -/
def execEngineDrain (e : Fin 16) (s : State) : Result := onReg s fun d => d.engineDrain e

/-- Has a thread no control-space and no pool access outstanding? -/
def Dev.movable (d : Dev) (t : Nat) : Bool :=
  (d.posted t).isEmpty && match (d.thr t).wait with
    | .regAccess _ _ _ | .poolRead _ _ _ | .search _ => false
    | _ => true

/-- THREAD_MOVE: a thread on a DRAINING engine moves to a free context, a RESERVE engine promoted for it if need be; without
one NOROOM is set (R95). -/
def execThreadMove (t : Fin 64) (s : State) : Result :=
  onDev s fun d =>
    let th := d.thr t
    if !th.live || d.fget WGL_ENG_CTRL.STATE 0 th.engine != 2 || !d.movable t then d
    else
      let d := if d.bestEngine.isNone then d.promote else d
      match d.bestEngine with
      | none => d.fset WGL_ENG_CTRL.NOROOM 1 0 th.engine
      | some e =>
        let sl := ((List.range 4).find? fun x => !((d.slotsHeld e).contains x)).getD 0
        ((d.setThr t { th with engine := e, slot := sl }).fset WGL_ENG_CTRL.NOROOM 0 0 th.engine).drainCheck th.engine

/-- ENGINE_FAULT: an engine's core fails (R96), with its fault record. -/
def execEngineFault (e : Fin 16) (s : State) : Result := onDev s fun d => (d.engineFail e).raise (202 + e) (engineRec e)

/-- A write of 1 to RETURN: the self-test of an OUT engine starts; on another engine it is ignored. -/
def Dev.engineReturn (d : Dev) (e : Nat) : Dev :=
  if d.fget WGL_ENG_CTRL.STATE 0 e = 3 then d.fset WGL_ENG_CTRL.RETURN 1 0 e else d

/-- ENGINE_RETURN. -/
def execEngineReturn (e : Fin 16) (s : State) : Result := onReg s fun d => d.engineReturn e

/-- SELF_TEST_DONE. -/
def execSelfTestDone (e : Fin 16) (pass : Bool) (s : State) : Result :=
  onDev s fun d =>
    if !d.fon WGL_ENG_CTRL.RETURN 0 e then d
    else
      let d := d.fset WGL_ENG_CTRL.RETURN 0 0 e
      if pass then d.fset WGL_ENG_CTRL.STATE 1 0 e else d.fset WGL_ENG_CTRL.RETURN_FAIL 1 0 e

end Sys2Proof.Machine
end

