-- ==== Sys2Proof/Machine/RegAccess.lean ====
section
/-! DEFINITION. What an access of a control-space register reads and changes (05_control_space.md, R143 to R170; R6, R8): the
views that are computed, reads with RC, writes by access code, locks, staged fields, and what a write starts. -/

namespace Sys2Proof.Machine

/-! Who accesses (R156) -/

/-- A source of register accesses: a thread at PRIV 0, a fold thread at PRIV 1, the debug access port, a fold's host through
its BAR0 (R441). -/
inductive CsSource where
  | manager (t : Nat)
  | fold (t : Nat)
  | dap
  | host
  deriving DecidableEq, Repr

/-- A refusal recorded (R156); a host's access is never one. -/
def Dev.refuse (d : Dev) (src : CsSource) (cause a : Nat) : Dev :=
  match src with
  | .manager t => d.cspErr cause 0 t a
  | .fold t => d.cspErr cause 1 t a
  | .dap => d.cspErr cause 2 0 a
  | .host => d

/-- Is the source a fold's user, to whom R441 closes the fields marked "manager only"? -/
def CsSource.user : CsSource → Bool
  | .fold _ | .host => true
  | _ => false

/-- The registers of block 0x20 whose fields are manager only (R441, R467, R472, R497 to R499). -/
def RK.managerOnly : RK → Bool
  | .FLD_CFG | .FLD_KEY | .FLD_KEY_CFG | .FLD_SHARE | .FLD_RESET => true
  | .FLD_MIG_CTRL | .FLD_MIG_INSTANT | .FLD_MIG_ADDR | .FLD_MIG_ID | .FLD_MIG_STAT | .FLD_MIG_KEY => true
  | _ => false

/-! What a register shows -/

/-- A field of a word replaced. -/
def Fld.put (f : Fld) (v : Word) (n : Nat) : Word := putBits v f.lo f.w n

/-- WGL_THR_STAT of a thread (R102). -/
def Thread.stat (th : Thread) : Word :=
  let st := match th.state with | .free => 0 | .run => 1 | .wait => 2 | .parked => 3 | .faulted => 4
  let v := putBits (putBits (putBits (putBits 0 0 3 st) 4 4 th.engine) 8 2 th.slot) 12 1 th.priv.toNat
  putBits (putBits (putBits v 16 9 th.fid) 25 7 th.ecode) 32 32 th.pc.toNat

/-- Does shaper `n` hold back a message that waits (R367)? -/
def Dev.shaperHolds (d : Dev) (n : Nat) : Bool :=
  !(d.shaperAllows d.commits.epoch n) && d.core.buf.any fun m =>
    m.cls != 0 && (m.egress * 8 + m.cls == n ||
      (d.cfgOn m.ep SCH_QUEUE_CFG.SHAPER_EN m.egress (queueNo m.cls m.flow) &&
        flowShaper (d.cfg m.ep SCH_QUEUE_CFG.SHAPER m.egress (queueNo m.cls m.flow)) == n))

/-- The retry time a slot has left, in ms (R583, R600). -/
def Dev.retryLeft (d : Dev) (s : Nat) : Nat :=
  let x := d.slot s
  if d.slotState s = slFaultWait then (x.retryEnd - d.now) / 10 ^ 6
  else match x.kept with | some k => k.left / 10 ^ 6 | none => 0

/-- CHN_PID_CALC of a port controller (R632). -/
def Dev.pidCalc (d : Dev) (p : Nat) : Word :=
  let g := match d.fget CHN_PID_RULE.GRAIN with | 0 => 1 | 1 => 4 | 2 => 8 | _ => 16
  let n := d.fget CHN_PID_RULE.BASE + d.fget CHN_STATUS.ADDR * d.fget CHN_PID_RULE.STRIDE + p / g
  putBits (putBits 0 0 12 n) 12 1 (decide (4096 ≤ n) || !(d.fon CHN_STATUS.VALID)).toNat

/-- DMV_STAT of a mover (R474). -/
def Dev.moverStat (d : Dev) (m : Nat) : Word :=
  let n := d.moverActive m
  let st := if !(d.moverOn m) then 2 else if n = 0 then 0 else 1
  putBits (putBits (putBits 0 0 4 n) 4 2 st) 6 1 (decide (0 < d.moverMaint m)).toNat

/-- The fields of a register that follow from other state, put into what the register file holds. A self-clearing field reads 1
while the load or the copy it started goes on (R6, R472, R544). -/
def Dev.view (d : Dev) (r : Reg) : Word :=
  let v := d.rd r
  match r.k with
  | .WGL_THR_STAT => (d.thr r.j).stat
  | .WGL_KEY_STAT => d.keyStat
  | .TIM_COMMIT_STAT => TIM_COMMIT_STAT.WRITES.put v (d.setWrites r.j).length
  | .TIM_STATUS =>
    if d.fget TIM_STATUS.STATE = tsHoldover then
      TIM_STATUS.HOLDOVER_COURSES.put v (min 65535 d.heldOver)
    else v
  | .TIM_OFFSET =>
    let st := d.fget TIM_STATUS.STATE
    if st = tsHoldover ∨ st = tsLost then TIM_OFFSET.EST_ERR.put v d.estErr else v
  | .CSP_STATUS => CSP_STATUS.TIME_STATE.put v (d.fget TIM_STATUS.STATE)
  | .FLT_STATUS => FLT_STATUS.HOLD.put v d.ucfHeld.toNat
  | .FLT_UNIT_STAT => FLT_UNIT_STAT.PENDING.put v (d.src r.i).queue.length
  | .LAN_STATUS =>
    let v := LAN_STATUS.TX_STATE.put (LAN_STATUS.RATE.put v (d.laneRate r.i)) (d.txState r.i)
    if d.fon LAN_CTRL.POL_FORCE r.i then LAN_STATUS.POL_INV.put v (d.fget LAN_CTRL.POL_VALUE r.i) else v
  | .SCH_SHAPER_STAT =>
    putBits (putBits 0 0 32 (BitVec.ofInt 32 (d.tokens r.i / 1024)).toNat) 32 1 (d.shaperHolds r.i).toNat
  | .SCH_PORT_STAT => SCH_PORT_STAT.GATE_OPEN.put v (d.gateOpen d.commits.epoch r.i).toNat
  | .SLT_STAT => SLT_STAT.RETRY_LEFT.put v (d.retryLeft r.i)
  | .CXP_HP_STAT =>
    if d.fon CXP_PORT_CFG.SLOT_EN r.i then
      let s := d.fget CXP_PORT_CFG.SLOT r.i
      CXP_HP_STAT.PWR_ON.put (CXP_HP_STAT.PRESENT.put v (d.fget SLT_STAT.PRESENT s)) (d.powered s).toNat
    else v
  | .CXP_VB => if r.j = 0 then CXP_VB.KIND.put v 3 else v
  | .DIR_ENTRY0 | .DIR_ENTRY1 => if d.wayOut r.i then 0 else v
  | .CHN_PID_CALC => d.pidCalc r.j
  | .DMV_STAT => d.moverStat r.i
  | .TMP_MIGR_SLOT => if d.inFault ∧ d.fget TMP_MIGR_SLOT.STATE 0 r.j = 1 then TMP_MIGR_SLOT.STATE.put v 3 else v
  | .FLD_PROG_CTRL => FLD_PROG_CTRL.START.put v (decide (d.fget FLD_PROG_STAT.STATE r.i = 1)).toNat
  | .MEM_BANK_CTRL => MEM_BANK_CTRL.GO.put v (decide (d.fget MEM_BANK_STAT.STATE r.i = bkCopying)).toNat
  | .DBG_STAT => DBG_STAT.LOCKED.put v (d.fget CSP_STATUS.DEBUG_LOCK)
  | .DBG_TMX_STAT =>
    let g := if d.fon DBG_TMX_SEL.EN then d.fget DBG_TMX_SEL.GROUP else 0
    DBG_TMX_STAT.GROUP_OUT.put (DBG_TMX_STAT.BLOCKED.put v (decide (0xD0 ≤ g) && d.fon CSP_STATUS.DEBUG_LOCK).toNat) g
  | _ => v

/-- The bits of a register whose fields have an access code that `sel` chooses. -/
def RK.bits (k : RK) (sel : Acc → Bool) : Word := k.fields.foldl (fun m f => if sel f.acc then m ||| mask f.lo f.w else m) 0

/-- The write-only bits, which read as zero (R6). -/
def RK.writeOnly (k : RK) : Word := k.bits fun a => a == .wo

/-- What a register reads as. -/
def Dev.shown (d : Dev) (r : Reg) : Word := d.view r &&& ~~~ r.k.writeOnly

/-- The bits of its register that an access of `width` bytes at address `a` covers (R143). -/
def spanOf (a width : Nat) : Word := mask (a % 8 * 8) (width * 8)

/-! Reads -/

/-- A read: what is shown, and every RC field that the access covers whole cleared (R6, R160). -/
def Dev.regRead (d : Dev) (r : Reg) (a width : Nat) : Dev × Word :=
  let span := spanOf a width
  let old := d.rd r
  let new := r.k.fields.foldl (fun v f =>
    if f.acc = .rc ∧ mask f.lo f.w &&& ~~~ span = 0 then putBits v f.lo f.w (bitsOf (r.resetVal d.fuses) f.lo f.w) else v) old
  (if new = old then d else d.wr r new, (d.shown r &&& span) >>> (a % 8 * 8))

/-! Writes -/

/-- Is the lock of a register's LK fields set: the region table's, from the write that applies it on (R526)? -/
def Dev.lkLocked (d : Dev) : Bool := d.fon CSP_STATUS.REGION_LOCK || d.fon MEM_REGION_CTRL.BUSY

/-- A register's value once software has written `v` to the bits of `span`: fields that are RW or WO take the written bits, LK
fields unless they are locked, W1C bits written 1 clear; every other bit stays (R6, R158, R160). -/
def RK.written (k : RK) (locked : Bool) (old span v : Word) : Word :=
  let store := k.bits fun a => a == .rw || a == .wo || (a == .lk && !locked)
  let clear := k.bits fun a => a == .w1c
  ((old &&& ~~~ (store &&& span)) ||| (v &&& store &&& span)) &&& ~~~ (clear &&& span &&& v)

/-- The registers a write of which is no plain store: their own operations take the whole word (`v`, the written bits merged
into the rest). `new` is what a plain store would leave. -/
def Dev.storeReg (d : Dev) (src : CsSource) (r : Reg) (a width : Nat) (old new span v : Word) : Dev :=
  let i := r.i
  let j := r.j
  match r.k with
  | .FLD_SQ_CFG => d.sqConfig i j new
  | .FLD_CQ_CFG => d.cqConfig i j new
  | .FLD_SQ_STAT =>
    let d := d.wr r new
    if d.fget FLD_SQ_STAT.STATE i j = sqDisabled then d else d.fset FLD_SQ_STAT.HEAD (bitsOf old 16 16) i j
  | .FLD_PUSH => d.pushWrite i (j / 32) (j / 8 % 4) (j % 8 * 8 + a % 8) (leBytes width (v >>> (a % 8 * 8)).toNat)
  | .TIM_CTRL => (d.wr r (putBits new 0 2 (bitsOf old 0 2))).srcWrite (bitsOf new 0 2)
  | .TMP_CMD => if ((v &&& span).getLsbD 63) then d.tmpCmd new else d.wr r new
  | .FLT_UNIT_STAT => if (v &&& span).getLsbD 0 then d.wireClear i else d
  | .FLT_THREAD_REACT | .FLT_UNIT_REACT => d.wr r (new ||| 0xB100)
  | .MEM_REGION_CTRL => if (v &&& span).getLsbD 0 then d.regionLock else d
  | .MEM_CELOG0 =>
    let d := d.wr r new
    if old.getLsbD 63 && !(new.getLsbD 63) then d.fsub MEM_CELOG_STAT.USED 1 else d
  | .ETH_CAK => if j = 3 then d.cakInstall i new else d.wr r new
  | .DBG_CTRL =>
    match src with
    | .manager _ => if (v &&& span).getLsbD 0 && d.phase != phTest then d.wr r new else d
    | _ => d
  | _ => d.wr r new

/-- The debug lock set (R669, R670): LIVE injection stops at once on every lane that has it on. -/
def Dev.debugLock (d : Dev) : Dev :=
  if d.fon CSP_STATUS.DEBUG_LOCK then d
  else
    let d := (d.fset DBG_CTRL.LOCK 1).fset CSP_STATUS.DEBUG_LOCK 1
    ((d.listed .LAN_PRBS_INJ).map (·.1)).foldl (fun d l =>
      if d.fon LAN_PRBS_INJ.LIVE l then d.fset LAN_PRBS_STAT.LIVE_REFUSED 1 l else d) d

/-- What a write starts once it is stored: the actions of SC fields written 1 (`go` are the written 1s), and what follows from
a changed setting. -/
def Dev.wrote (d : Dev) (src : CsSource) (r : Reg) (old go : Word) : Dev :=
  let i := r.i
  let j := r.j
  let on := fun (b : Nat) => go.getLsbD b
  let mgr := match src with | .manager _ => true | _ => false
  match r.k with
  | .TIM_COMMIT_STAT => if on 31 && mgr then d.commitCancel j else d
  | .WGL_ENG_CTRL =>
    let d := if on 2 then d.engineDrain j else d
    if on 3 then d.engineReturn j else d  -- DESIGN CHOICE: of both in one write, DRAIN acts first (assumption 179)
  | .WGL_THR_CTRL => if on 0 then d.kill j else d
  | .LAN_TXEQ => d.forceCoeff i
  | .LAN_MARGIN_CTRL => if on 0 then d.marginStart i else d
  | .LAN_PRBS_CTRL => d.prbsControl i (old.getLsbD 4)
  | .LAN_PRBS_INJ => if on 16 then d.injectGo i else d
  | .CXP_CONTAIN =>
    let d := if on 8 then d.releasePort i else d
    if on 9 then d.contain i 4 else d
  | .CXP_IDE_CFG => if on 2 then d.keyRefresh i else d
  | .FLD_SQ_DB => d.sqDoorbell i j (d.fget FLD_SQ_DB.TAIL i j)
  | .FLD_CQ_DB => d.cqDoorbell i j (d.fget FLD_CQ_DB.HEAD i j)
  | .FLD_PROG_CTRL => if on 63 then d.progStart i else d
  | .FLD_MSIX1 => d.msixPending i j
  | .FLD_RESET => if on 0 then d.resetWrite i else d
  | .FLD_MIG_CTRL => if on 63 then d.migGo i else d
  | .DMV_CTRL =>
    if d.fon DMV_CTRL.EN i then d.reassign else if old.getLsbD 0 then d.moverOut i else d
  | .MEM_BANK_CTRL =>
    if !(on 63) then d
    else match d.fget MEM_BANK_CTRL.OP i with
      | 1 => d.retireMacro i (d.fget MEM_BANK_CTRL.MACRO i)
      | 2 => (d.retireBank i).dirSettle
      | _ => d.bankResult i 2
  | .FLT_CTRL =>
    let d := if on 0 then d.forceEnter else d
    if on 1 then d.forceExit else d
  | .SLT_CFG => if d.fon SLT_CFG.FORCE_EN i && on 0 then d.forceEnable i else d
  | .SLT_CMD => d.slotCmd i (bitsOf go 0 3)
  | .SB_XFER => if on 32 then d.sidebandGo i else d
  | .ETH_CFG => if d.fon ETH_CFG.EN i && bitsOf old 1 2 == d.fget ETH_CFG.SPEED i then d else d.ethDown i
  | .RST_CTRL =>
    let d := if on 0 && mgr then d.softWrite else d
    if on 1 then d.standbyWrite else d
  | .DBG_CTRL => if on 0 && d.fon DBG_CTRL.LOCK then d.debugLock else d
  | _ => d

/-- A write of `width` bytes of `v` at address `a` in register `r` (R6, R114, R143, R158): what the access codes store, what is
recorded, what the write starts. A write of a user to a manager-only register is ignored (R441). Answers the cause recorded, 0
for none. -/
def Dev.regWrite (d : Dev) (src : CsSource) (r : Reg) (a width : Nat) (v : Word) : Dev × Nat :=
  if src.user && r.k.managerOnly then (d, 0)
  else
    let span := spanOf a width
    let v := v <<< (a % 8 * 8)
    let old := d.rd r
    let new := r.k.written d.lkLocked old span v
    let stage := r.k.stagedMask &&& span != 0
    let lock := d.lkLocked && (r.k.bits fun x => x == .lk) &&& span != 0
    let d := d.storeReg src r a width old new span v
    let d := d.wrote src r old (v &&& span)
    let d := if stage then d.refuse src 3 a else d
    let d := if lock then d.refuse src 4 a else d
    (d, if lock then 4 else if stage then 3 else 0)

/-! Calibration and test registers (R149; assumption 171) -/

/-- Does a calibration or test register lie at an address? The spec lists none; one can lie only in an instance of a mapped
block, where no listed register does. -/
def calibrationAt (a : Nat) : Bool :=
  match blockInfo (a / 2 ^ 40) with
  | none => false
  | some (n, s) => (s == 0 || decide (a % 2 ^ 40 / 2 ^ s < n)) && (regAt a).isNone && Config.calibration (a / 8)

/-- Its current value. -/
def Dev.calibrationWord (d : Dev) (a : Nat) : Word := Tab.get (Config.calibrationValue (a / 8)) d.calibration (a / 8)

/-- What an access of `width` bytes reads of it. -/
def Dev.calibrationRead (d : Dev) (a width : Nat) : Word := (d.calibrationWord a &&& spanOf a width) >>> (a % 8 * 8)

/-- A write of it: outside manufacturing test mode it is ignored and recorded with cause TESTREG (R149, R671). Answers the
cause. -/
def Dev.calibrationWrite (d : Dev) (src : CsSource) (a width : Nat) (v : Word) : Dev × Nat :=
  if d.phase = phTest then
    let span := spanOf a width
    let new := (d.calibrationWord a &&& ~~~ span) ||| (v <<< (a % 8 * 8) &&& span)
    ({ d with calibration := Tab.set d.calibration (a / 8) new }, 0)
  else (d.refuse src 6 a, 6)

/-- REGISTER_WRITE: a manager thread's write, or a host's through the BAR0 of its fold, where only 4 and 8 bytes are taken
(R441) and nothing is recorded. -/
def Dev.registerWrite (src : CsSource) (width a : Nat) (v : Word) (d : Dev) : Dev :=
  if a % width ≠ 0 then d.refuse src 5 a
  else match regAt a with
    | none => if calibrationAt a then (d.calibrationWrite src a width v).1 else d.refuse src 1 a
    | some r => (d.regWrite src r a width v).1

/-- Does a block answer while the soft reset runs (R169)? -/
def softAnswers (a : Nat) : Bool := [0, 2, 3, 8, 9].contains (a / 2 ^ 40)

/-- Does an access of address `a` wait: is a soft reset in progress, and does its block not answer? -/
def Dev.regWaits (d : Dev) (a : Nat) : Bool := d.phase == phSoft && !(softAnswers a)

/-- REGISTER_WRITE: one access of 2^`log` bytes. A manager thread's write that the soft reset makes wait is carried out after
it (R169; assumption 172); a host's reaches no fold then. -/
def execRegisterWrite (from_ : RegFrom) (log : Fin 4) (addr : BitVec 48) (value : Word) (s : State) : Result :=
  onReg s fun d =>
    match from_ with
    | .manager t =>
      if d.regWaits addr.toNat then { d with held := d.held ++ [.registerWrite from_ log addr value] }
      else d.registerWrite (.manager t) (2 ^ (log : Nat)) addr.toNat value
    | .host f =>
      let a := 0x200000000000 + (f : Nat) * 0x10000 + addr.toNat % 0x10000
      if d.hostWrites f && decide (2 ≤ (log : Nat)) && !(d.regWaits a) then d.registerWrite .host (2 ^ (log : Nat)) a value else d

/-! The end of a soft reset (R644) -/

/-- A write that a thread issued before it was killed, made once its block answers (R62, R169): of a CAS, if the compare
holds. -/
def Dev.orphanLands (d : Dev) (x : Orphan) : Dev :=
  let src := if x.priv then CsSource.fold x.thread else .manager x.thread
  match x.op with
  | .load _ => d
  | .store v => d.registerWrite src x.width x.addr v
  | .cas _ expected v =>
    match regAt x.addr with
    | none => d.registerWrite src x.width x.addr v
    | some r =>
      if r.k.stagedMask ≠ 0 then d.refuse src 3 x.addr
      else
        let (d, old) := d.regRead r x.addr x.width
        if old == expected &&& mask 0 (x.width * 8) then (d.regWrite src r x.addr x.width v).1 else d

/-- SOFT_RESET_DONE. -/
def execSoftResetDone (s : State) : Result :=
  onDev s fun d =>
    if d.phase = phSoft then
      let os := d.wygel.orphans
      let d := d.softDone
      os.foldl Dev.orphanLands { d with wygel := { d.wygel with orphans := [] } }
    else d

end Sys2Proof.Machine
end

