-- ==== Sys2Proof/Machine/ControlSpace.lean ====
section
/-! DEFINITION. Control space from a thread (04_wygel_instructions.md, R112 to R114, R134 to R136; 05_control_space.md): CLD and
CST, CAS, TFND, the pool aperture, waits that end, and telemetry (R615). -/

namespace Sys2Proof.Machine

/-! One access -/

/-- The source a thread's accesses have: its privilege decides (R68, R156). -/
def Thread.csSource (th : Thread) (t : Nat) : CsSource := if th.priv then .fold t else .manager t

/-- The control-space address that a thread's effective address names: its own, or for PRIV 1 in its fold's window (R75). -/
def Thread.csAddr (th : Thread) (a : Nat) : Nat := if th.priv then (0x200000000000 + th.fid * 0x10000 + a) % 2 ^ 48 else a

/-- Is an address in the pool aperture (R72)? -/
def inAperture (a : Nat) : Bool := decide (2 ^ 47 ≤ a)

/-- The register part of an access at a register that answers: the thread goes on at once, then the read or write has its
effects. A CAS of a register with ST fields raises CSPACE (R114, R134). -/
def Dev.regOp (d : Dev) (t : Nat) (op : CsOp) (width a : Nat) (r : Reg) : Dev :=
  let th := d.thr t
  let th := { th with state := .run, wait := .ready }
  let src := th.csSource t
  match op with
  | .load rd =>
    let (d, v) := d.regRead r a width
    d.retire t (th.setG rd v)
  | .store v => ((d.retire t th).regWrite src r a width v).1
  | .cas rd expected v =>
    if r.k.stagedMask ≠ 0 then ((d.setThr t th).refuse src 3 a).trap t 6 (a % 2 ^ 32)
    else
      let (d, old) := d.regRead r a width
      let same := old == expected &&& mask 0 (width * 8)
      let d := d.retire t { th.setG rd old with flags := { th.flags with z := same } }
      if same then (d.regWrite src r a width v).1 else d

/-- An access in the pool aperture (R74, R113, R148): checked by the engine Hedgerow; a load waits, a store is posted. A CAS
raises CSPACE (R134), recorded with a cause that the spec does not name. -/
def Dev.apertureOp (d : Dev) (t : Nat) (op : CsOp) (width a : Nat) : Dev :=
  let th := d.thr t
  let pool := a % 2 ^ 47
  let check := fun need => d.hpass d.commits.epoch .engine (0x200 + t) pool need none
  match op with
  | .load rd =>
    match check .read with
    | (d, .allow _ _) =>
      let (d, tag) := d.aperture (.thread t) pool width none
      d.setThr t { d.thr t with state := .wait, wait := .poolRead rd width tag }
    | (d, _) => d.trap t 7 (a % 2 ^ 32)
  | .store v =>
    match check .write with
    | (d, .allow _ _) =>
      ((d.retire t th).aperture (.thread t) pool width (some (v &&& mask 0 (width * 8)).toNat)).1
    | (d, _) => d.trap t 7 (a % 2 ^ 32)
  | .cas _ _ _ => ((d.refuse (th.csSource t) (bitsOf d.free 0 4) a).used).trap t 6 (a % 2 ^ 32)

/-- An access of a calibration or test register (R149). -/
def Dev.calibrationOp (d : Dev) (t : Nat) (op : CsOp) (width a : Nat) : Dev :=
  let th := d.thr t
  let th := { th with state := .run, wait := .ready }
  let src := th.csSource t
  let old := d.calibrationRead a width
  match op with
  | .load rd => d.retire t (th.setG rd old)
  | .store v => ((d.retire t th).calibrationWrite src a width v).1
  | .cas rd expected v =>
    let same := old == expected &&& mask 0 (width * 8)
    let d := d.retire t { th.setG rd old with flags := { th.flags with z := same } }
    if same then (d.calibrationWrite src a width v).1 else d

/-- An access of a mapped address that answers. -/
def Dev.mappedOp (d : Dev) (t : Nat) (op : CsOp) (width a : Nat) : Dev :=
  match regAt a with
  | some r => d.regOp t op width a r
  | none => d.calibrationOp t op width a

/-- Does a register lie at an address (R144, R149)? -/
def mapped (a : Nat) : Bool := (regAt a).isSome || calibrationAt a

/-- A thread's access of control space: alignment, the fold window, the aperture, the map, the wait for a soft reset, the
access (R71, R73 to R75, R112, R144, R169). -/
def Dev.controlOp (d : Dev) (t : Nat) (op : CsOp) (width ea : Nat) : Dev :=
  let th := d.thr t
  let src := th.csSource t
  let a := th.csAddr ea
  if ea % width ≠ 0 then (d.refuse src 5 a).trap t 4 (ea % 2 ^ 32)
  else if th.priv && decide (0x10000 ≤ ea) then (d.refuse src 7 a).trap t 6 (ea % 2 ^ 32)
  else if inAperture a then d.apertureOp t op width a
  else if !(mapped a) then (d.refuse src 1 a).trap t 6 (ea % 2 ^ 32)
  else if d.regWaits a then d.setThr t { th with state := .wait, wait := .regAccess op width a }
  else d.mappedOp t op width a

/-! CLD and CST (R112, R113) -/

/-- CLD of a width. -/
def Dev.cld (t rd ra : Nat) (off : BitVec 16) (width : Nat) : Dev → Dev :=
  Dev.issue t true false fun d th => d.controlOp t (.load rd) width (controlEA th ra off)

/-- CST of a width. -/
def Dev.cst (t rd ra : Nat) (off : BitVec 16) (width : Nat) : Dev → Dev :=
  Dev.issue t true false fun d th => d.controlOp t (.store (th.g rd)) width (controlEA th ra off)

/-- CLD.B. -/
def execCldB (t : Fin 64) (rd ra : Fin 32) (off : BitVec 16) (s : State) : Result := onDev s (Dev.cld t rd ra off 1)

/-- CLD.H. -/
def execCldH (t : Fin 64) (rd ra : Fin 32) (off : BitVec 16) (s : State) : Result := onDev s (Dev.cld t rd ra off 2)

/-- CLD.W. -/
def execCldW (t : Fin 64) (rd ra : Fin 32) (off : BitVec 16) (s : State) : Result := onDev s (Dev.cld t rd ra off 4)

/-- CLD.D. -/
def execCldD (t : Fin 64) (rd ra : Fin 32) (off : BitVec 16) (s : State) : Result := onDev s (Dev.cld t rd ra off 8)

/-- CST.B. -/
def execCstB (t : Fin 64) (rd ra : Fin 32) (off : BitVec 16) (s : State) : Result := onDev s (Dev.cst t rd ra off 1)

/-- CST.H. -/
def execCstH (t : Fin 64) (rd ra : Fin 32) (off : BitVec 16) (s : State) : Result := onDev s (Dev.cst t rd ra off 2)

/-- CST.W. -/
def execCstW (t : Fin 64) (rd ra : Fin 32) (off : BitVec 16) (s : State) : Result := onDev s (Dev.cst t rd ra off 4)

/-- CST.D. -/
def execCstD (t : Fin 64) (rd ra : Fin 32) (off : BitVec 16) (s : State) : Result := onDev s (Dev.cst t rd ra off 8)

/-! CAS (R134) -/

/-- CAS in scratch: the compare is of the width's low bytes. -/
def Dev.casScratch (d : Dev) (t rd ra rb width : Nat) (th : Thread) : Dev :=
  let a := (th.g ra).toNat % 2 ^ 22
  if a % width ≠ 0 then d.trap t 4 a
  else match d.scratchAddr th a width with
    | none => d.trap t 5 a
    | some p =>
      if d.scratchPoisoned p width then d.trap t 8 a
      else
        let old := BitVec.ofNat 64 (leNat (d.scratchLoad p width))
        let same := old == th.g rd &&& mask 0 (width * 8)
        let d := if same then d.scratchStore p (leBytes width (th.g rb).toNat) else d
        d.retire t { th.setG rd old with flags := { th.flags with z := same } }

/-- CAS: FUNC[0] chooses scratch or control space, FUNC[1] the width; the other bits are zero. -/
def execCas (t : Fin 64) (rd ra rb : Fin 32) (func : BitVec 11) (s : State) : Result :=
  onDev s (Dev.issue t (decide (func.toNat < 4)) false fun d th =>
    let width := if func.getLsbD 1 then 8 else 4
    if func.getLsbD 0 then d.controlOp t (.cas rd (th.g rd) (th.g rb)) width ((th.g ra).toNat % 2 ^ 48)
    else d.casScratch t rd ra rb width th)

/-! TFND (R135, R136) -/

/-- The address of element `i` of a search. -/
def Search.at_ (s : Search) (i : Nat) : Nat := s.base + i * s.stride

/-- Does a word match in a search's mode? -/
def Search.hits (s : Search) (w : Word) : Bool :=
  let x := w &&& s.msk
  match s.mode with
  | 0 => x == s.key
  | 1 => x != s.key
  | 2 => decide (x.toNat < s.key.toNat)
  | _ => decide (s.key.toNat ≤ x.toNat)

/-- The first element from `first` on that matches, by the values in force. -/
def Dev.searchFor (d : Dev) (s : Search) : Option Nat :=
  ((List.range s.count).drop s.first).find? fun i =>
    match regAt (s.at_ i) with
    | some r => s.hits (d.shown r)
    | none => calibrationAt (s.at_ i) && s.hits (d.calibrationWord (s.at_ i))

/-- The search block read from scratch. -/
def searchOf (bs : List Byte) (rd first mode flips : Nat) : Search where
  rd := rd
  base := leNat (bs.take 8)
  stride := leNat ((bs.drop 8).take 4)
  count := leNat ((bs.drop 12).take 4)
  first := first
  key := BitVec.ofNat 64 (leNat ((bs.drop 16).take 8))
  msk := BitVec.ofNat 64 (leNat ((bs.drop 24).take 8))
  mode := mode
  flips := flips

/-- Do the fields of a search block keep their rules? -/
def Search.fieldsOk (s : Search) : Bool :=
  s.base % 8 == 0 && s.stride % 8 == 0 && decide (8 ≤ s.stride ∧ s.stride ≤ 65536 ∧ 1 ≤ s.count ∧ s.count ≤ 4194304)

/-- The first element that no mapped register holds. -/
def Search.hole (s : Search) : Option Nat :=
  ((List.range s.count).map s.at_).find? fun a => inAperture a || !(mapped a)

/-- TFND: RB holds the first index; FUNC[1:0] is the mode. -/
def execTfnd (t : Fin 64) (rd ra rb : Fin 32) (func : BitVec 11) (s : State) : Result :=
  onDev s (Dev.issue t (decide (func.toNat < 4)) true fun d th =>
    match d.scratchOperand th ra 8 32 with
    | .error (c, a) => d.trap t c a
    | .ok p =>
      if d.scratchPoisoned p 32 then d.trap t 8 ((th.g ra).toNat % 2 ^ 22)
      else
        let x := searchOf (d.scratchGet p 32) rd (th.g rb).toNat func.toNat d.commits.flips
        if !x.fieldsOk then d.trap t 6 (x.base % 2 ^ 32)
        else match x.hole with
          | some a => (d.refuse (.manager t) 1 (a % 2 ^ 48)).trap t 6 (a % 2 ^ 32)
          | none => d.setThr t { th with state := .wait, wait := .search x })

/-- Can an epoch flip change what some element of a search holds? -/
def Search.staged (s : Search) : Bool :=
  ((List.range s.count).drop s.first).any fun i => match regAt (s.at_ i) with | some r => r.k.stagedMask != 0 | none => false

/-- What a search of two epochs finds, by a free value: one of the elements from `first` on, or none. -/
def Search.mixed (s : Search) (v : Word) : Option Nat :=
  let i := s.first + v.toNat % (s.count - s.first + 1)
  if i < s.count then some i else none

/-- The search ends: the index or all ones with C; V is 1 after an epoch flip, and then the result may mix the two epochs
(R136), if the elements have staged fields: which element it names is open. -/
def Dev.searchDone (d : Dev) (t : Nat) (x : Search) : Dev :=
  let flipped := d.commits.flips != x.flips
  let open_ := flipped && x.staged
  let found := if open_ then x.mixed d.free else d.searchFor x
  let v := match found with | some i => BitVec.ofNat 64 i | none => BitVec.allOnes 64
  let th := d.thr t
  let fl : Flags := ⟨false, false, found.isNone, flipped⟩
  let d := if open_ then d.used else d
  d.retire t { th.setG x.rd v with flags := fl, state := .run, wait := .ready }

/-! Waits that end (R61, R73, R74) -/

/-- The answer of an aperture read reaches its thread: POISON loads nothing. -/
def Dev.poolAnswer (d : Dev) (t rd width tag : Nat) : Dev :=
  match d.flight tag with
  | none => d
  | some fl =>
    match fl.answer with
    | none => d
    | some (v, poison) =>
      let d := d.dropFlight tag
      let th := { d.thr t with state := .run, wait := .ready }
      if poison then (d.setThr t th).trap t 8 (fl.addr % 2 ^ 32)
      else d.retire t (th.setG rd (BitVec.ofNat 64 (v % 2 ^ (8 * width))))

/-- THREAD_WAKE: the wait of thread `t` ends if what it waits for is there. -/
def Dev.threadWake (d : Dev) (t : Nat) : Dev :=
  let th := d.thr t
  if th.state != .wait || d.threadsHeld then d
  else
    let d := match th.wait with
      | .event rd _ => if th.evReady != 0 then d.safePoint t (evwEvent th rd) else d
      | .message rd p limit _ =>
        if d.receivers th.image |>.head? |> (· == some t) then
          match (d.mailFor th.image).head? with
          | some m => d.takeMail t rd p limit m false
          | none => d
        else d
      | .fence => if (d.posted t).isEmpty then d.setThr t (fenceDone th) else d
      | .regAccess op width a =>
        if d.regWaits a then d else d.mappedOp t op width a
      | .poolRead rd width tag => d.poolAnswer t rd width tag
      | .search x => if d.regWaits x.base then d else d.searchDone t x
      | _ => d
    d.trySwitch

/-- THREAD_WAKE. -/
def execThreadWake (t : Fin 64) (s : State) : Result := onDev s fun d => d.threadWake t

/-- CSBUS_TIMEOUT: a thread's register access has waited 10 µs (R73, R169). -/
def execCsbusTimeout (t : Fin 64) (s : State) : Result :=
  onDev s fun d =>
    let th := d.thr t
    match th.wait with
    | .regAccess _ _ a =>
      if th.state != .wait then d
      else
        let d := d.setThr t { th with state := .run, wait := .ready }
        (((d.refuse (th.csSource t) 2 a)).trap t 9 (a % 2 ^ 32)).trySwitch
    | _ => d

/-! Telemetry (R615, R637) -/

/-- COUNT of a telemetry entry: above 128 acts as 128. -/
def Dev.telemCount (d : Dev) (k : Nat) : Nat := min 128 (d.fget ETH_TELEM1.COUNT 0 k)

/-- Is an entry due at the course of NOW? -/
def Dev.telemDue (d : Dev) (k : Nat) : Bool :=
  d.telemCount k != 0 && d.fon ETH_TELEM1.PERIOD 0 k && d.course % d.fget ETH_TELEM1.PERIOD 0 k == 0

/-- One word of an entry, read like any CLD; all ones with ERR where no register is. -/
def Dev.telemWord (k : Nat) (acc : Dev × List Byte) (a : Nat) : Dev × List Byte :=
  match if inAperture a then none else regAt a with
  | some r =>
    let (d, v) := acc.1.regRead r a 8
    (d, acc.2 ++ leBytes 8 v.toNat)
  | none =>
    if !(inAperture a) && calibrationAt a then (acc.1, acc.2 ++ leBytes 8 (acc.1.calibrationWord a).toNat)
    else (acc.1.fset ETH_TELEM1.ERR 1 0 k, acc.2 ++ leBytes 8 (2 ^ 64 - 1))

/-- One due entry: its number, COUNT, six zero bytes and the words. -/
def Dev.telemEntry (acc : Dev × List Byte) (k : Nat) : Dev × List Byte :=
  let d := acc.1
  let n := d.telemCount k
  let stride := 2 ^ (min 15 (max 3 (d.fget ETH_TELEM1.STRIDE_LOG2 0 k)))
  let base := d.fget ETH_TELEM0.BASE 0 k / 8 * 8
  ((List.range n).map fun i => (base + i * stride) % 2 ^ 48).foldl (Dev.telemWord k)
    (d, acc.2 ++ leBytes 1 k ++ leBytes 1 n ++ leBytes 6 0)

/-- TELEMETRY_SAMPLE: the entries due at a course boundary sampled, whatever the session, and sent in one message while one is
open; a message that fits neither port's MTU is not sent (assumption 191). -/
def execTelemetrySample (s : State) : Result :=
  onReg s fun d =>
    let d := d.toCourse
    let due := (List.range 16).filter d.telemDue
    let (d, payload) := due.foldl Dev.telemEntry (d, leBytes 8 d.course)
    if due.isEmpty || !d.session || !(d.fits 0 payload.length || d.fits 1 payload.length) then d
    else
      { d.send (.telemetry d.fcp.txSeq payload) with fcp := { d.fcp with txSeq := d.fcp.txSeq + 1 } }

end Sys2Proof.Machine
end

