-- ==== Sys2Proof/Machine/Debug.lean ====
section
/-! DEFINITION. Debug and test access (21_debug_and_test.md, R660 to R673): the test access port's instructions, the debug access
port, the debug lock. -/

namespace Sys2Proof.Machine

/-! The test access port (R660 to R663) -/

/-- What the test access port does, while the device is supplied: a power-on reset holds the port in reset (R660). -/
def onTap (s : State) (f : Dev → Dev) : Result :=
  onAny s fun d => if d.gable.boot == .heldPower || d.gable.boot == .tripped then d else f d

/-- The instruction register given. -/
def Dev.setIr (d : Dev) (ir : Nat) : Dev := d.setGable { d.gable with ir := ir }

/-- TAP_RESET: IDCODE is selected. -/
def execTapReset (s : State) : Result := onTap s fun d => d.setIr 2

/-- An instruction for manufacturing test mode only: elsewhere it acts as BYPASS and sets JTAG_BLOCKED (R661). -/
def Dev.testOnly (d : Dev) (ir : Nat) : Dev :=
  if d.fon DBG_STAT.TEST then d.setIr ir else (d.setIr 0xFF).fset DBG_STAT.JTAG_BLOCKED 1

/-- EXTEST. -/
def execExtest (s : State) : Result := onTap s fun d => d.testOnly 0x00

/-- TMX[15:0] (R667 to R670): low while EN is 0, zero for group 0 and for a data group under the debug lock; the contents of the
other groups are named by kind only, so they are a free value (DESIGN CHOICE, assumption 195). -/
def Dev.tmx (d : Dev) : BitVec 16 :=
  let g := d.fget DBG_TMX_SEL.GROUP
  if !d.fon DBG_TMX_SEL.EN || g == 0 || (decide (0xD0 ≤ g) && d.fon CSP_STATUS.DEBUG_LOCK) then 0
  else BitVec.ofNat 16 d.free.toNat

/-- The period of TMX_CLK in core clocks, 2^(DIV + 3); 0 while it is held low. -/
def Dev.tmxClk (d : Dev) : Nat := if d.fon DBG_TMX_SEL.EN then 2 ^ (d.fget DBG_TMX_SEL.DIV + 3) else 0

/-- The slots that `sel` names, slot s in bit s. -/
def slotBits (sel : Nat → Bool) : BitVec 32 :=
  BitVec.ofNat 32 ((List.range 32).foldl (fun m k => if sel k then m + 2 ^ k else m) 0)

/-- SAMPLE/PRELOAD: the boundary cells capture the pins; the model shows those whose level its state holds. -/
def execSamplePreload (s : State) : Result :=
  onTap s fun d =>
    ((d.setIr 0x01).send (.pins d.tmx d.tmxClk (slotBits fun k => d.fon SLT_STAT.PG k) (slotBits fun k => d.fon SLT_STAT.EWARN k))).used

/-- IDCODE of the device (R662). -/
def Fuses.idcode (fu : Fuses) : BitVec 32 :=
  BitVec.ofNat 32 (fu.revLetter % 16 * 2 ^ 28 + 0x0512 * 2 ^ 12 + 0x5A3 * 2 + 1)

/-- IDCODE: its data register is captured. -/
def execIdcode (s : State) : Result := onTap s fun d => (d.setIr 0x02).send (.idcode d.fuses.idcode)

/-- CLAMP. -/
def execClamp (s : State) : Result := onTap s fun d => d.testOnly 0x03

/-- HIGHZ. -/
def execHighz (s : State) : Result := onTap s fun d => d.testOnly 0x04

/-- EXTEST_PULSE. -/
def execExtestPulse (s : State) : Result := onTap s fun d => d.testOnly 0x08

/-- EXTEST_TRAIN. -/
def execExtestTrain (s : State) : Result := onTap s fun d => d.testOnly 0x09

/-- BYPASS, and every opcode that the table does not list. -/
def execBypass (s : State) : Result := onTap s fun d => d.setIr 0xFF

/-! DAP_ACCESS (R664 to R666, R669, R515) -/

/-- DAP_POLL: Capture-DR loads the state of the latest access. -/
def execDapPoll (s : State) : Result :=
  onTap s fun d =>
    let g := d.gable
    (d.setIr 0x20).send (.dapCapture g.dapAddr g.dapData g.dapStatus g.dapCause)

/-- The DAP's access ends: STATUS, CAUSE and DATA; a refusal is counted. -/
def Dev.dapEnd (d : Dev) (status cause : Nat) (data : Word) : Dev :=
  let d := d.setGable { d.gable with dap := none, dapStatus := status, dapCause := cause, dapData := data }
  if status = 3 then d.fadd DBG_STAT.DAP_REFUSED 1 else d

/-- A refusal, recorded with SOURCE 2. -/
def Dev.dapRefuse (d : Dev) (cause a : Nat) : Dev := (d.refuse .dap cause a).dapEnd 3 cause 0

/-- The pattern that a denied access of the debug access port reads (R511, R515). -/
def dapDenied : Word := 0x5EA1ED005EA1ED00

/-- An aperture access (R515): checked, and in flight or denied. -/
def Dev.dapAperture (d : Dev) (write : Bool) (a : Nat) (data : Word) : Dev :=
  let (d, ok) := d.dapCheck d.commits.epoch (a % 2 ^ 47) (if write then .write else .read)
  if ok then
    let (d, tag) := d.aperture .dap (a % 2 ^ 47) 8 (if write then some data.toNat else none)
    d.setGable { d.gable with dap := some ⟨write, a, data, some tag, false⟩ }
  else d.setGable { d.gable with dap := some ⟨write, a, data, none, true⟩ }

/-- Are the registers restored, so that the port's accesses are answered (R170)? -/
def Dev.restored (d : Dev) : Bool := d.gable.boot == .up || d.gable.boot == .restored

/-- An access starts (R665): discarded while one is busy; refused at once when misaligned, when no register is restored yet
(R170), or by the debug lock. -/
def Dev.dapStart (d : Dev) (write : Bool) (a : Nat) (data : Word) : Dev :=
  let d := d.setIr 0x20
  if d.gable.dap.isSome then d
  else
    let d := d.finc DBG_STAT.DAP_ACCESSES 1
    let d := d.setGable { d.gable with dapAddr := a, dapData := 0, dapStatus := 1, dapCause := 0 }
    if a % 8 ≠ 0 then d.dapRefuse 5 a
    else if !d.restored then d.dapRefuse 2 a
    else if d.fon CSP_STATUS.DEBUG_LOCK && (write || inAperture a) then d.dapRefuse 4 a
    else if inAperture a then d.dapAperture write a data
    else d.setGable { d.gable with dap := some ⟨write, a, data, none, false⟩ }

/-- DAP_READ. -/
def execDapRead (addr : BitVec 48) (s : State) : Result := onTap s fun d => d.dapStart false addr.toNat 0

/-- DAP_WRITE. -/
def execDapWrite (addr : BitVec 48) (data : Word) (s : State) : Result := onTap s fun d => d.dapStart true addr.toNat data

/-- A register access of the port (R666): refused where only a manager thread may write, where a WO field is named (the cause
is the spec's to name, and it names none), on a register with ST fields for a write, for a locked LK field. -/
def Dev.dapRegister (d : Dev) (x : DapAccess) (r : Reg) : Dev :=
  if x.write && ((r.k == .RST_CTRL && x.data.getLsbD 0) || (r.k == .TIM_COMMIT_STAT && x.data.getLsbD 31)) then d.dapRefuse 8 x.addr
  else if r.k.writeOnly != 0 then (d.dapRefuse (bitsOf d.free 0 4) x.addr).used
  else if x.write then
    if r.k.stagedMask != 0 then d.dapRefuse 3 x.addr
    else match d.regWrite .dap r x.addr 8 x.data with
      | (d, 0) => d.dapEnd 2 0 0
      | (d, c) => d.dapEnd 3 c 0
  else
    let (d, v) := d.regRead r x.addr 8
    d.dapEnd 2 0 v

/-- An access of the port of a calibration or test register (R149). -/
def Dev.dapCalibration (d : Dev) (x : DapAccess) : Dev :=
  if x.write then
    match d.calibrationWrite .dap x.addr 8 x.data with
    | (d, 0) => d.dapEnd 2 0 0
    | (d, c) => d.dapEnd 3 c 0
  else d.dapEnd 2 0 (d.calibrationRead x.addr 8)

/-- DAP_ACCESS_DONE: the busy access completes. Of an aperture access the answer must have come; one whose answer is gone ends
as all ones do (R74). -/
def execDapAccessDone (s : State) : Result :=
  onTap s fun d =>
    match d.gable.dap with
    | none => d
    | some x =>
      if x.denied then d.dapEnd 2 0 (if x.write then 0 else dapDenied)
      else match x.tag with
        | some tag =>
          match d.flight tag with
          | some fl =>
            match fl.answer with
            | some (v, _) => (d.dropFlight tag).dapEnd 2 0 (if x.write then 0 else BitVec.ofNat 64 v)
            | none => d
          | none => d.dapEnd 2 0 (if x.write then 0 else BitVec.allOnes 64)
        | none =>
          if !d.restored then d.dapRefuse 2 x.addr
          else if !(mapped x.addr) then d.dapRefuse 1 x.addr
          else if d.regWaits x.addr then d.dapRefuse 2 x.addr
          else match regAt x.addr with
            | some r => d.dapRegister x r
            | none => d.dapCalibration x

/-! The debug lock -/

/-- DEBUG_LOCK: a manager thread's write of 1 to DBG_CTRL.LOCK, ignored in manufacturing test mode (R669, R670). -/
def execDebugLock (s : State) : Result := onWaitingReg .debugLock s Dev.debugLock

end Sys2Proof.Machine
end

