-- ==== Sys2Proof/Machine/Ingress.lean ====
section
/-! DEFINITION. What comes in on a port that is no Thatchlink (07_cxl_ports.md, 09_switch_core.md): requests, responses, and what a
host asks of its virtual switch, of its Service Function and of its folds' registers (R438, R441). -/

namespace Sys2Proof.Machine

/-- The folds assigned to a virtual switch: TotalVFs and InitialVFs of its Service Function (R438). -/
def Dev.assignedTo (d : Dev) (v : Nat) : Nat :=
  ((d.listed .FLD_CFG).filter fun x => d.fon FLD_CFG.ASSIGNED x.1 && d.fget FLD_CFG.VSW x.1 == v).length

/-- A host's read of 4 or 8 bytes of a fold's BAR0 (R441, R481): an offset that the maps do not list reads as zero, and while the
fold is RESETTING all but FLD_STAT. -/
def Dev.vfRead (d : Dev) (f off width : Nat) : Dev × Word :=
  let a := 0x200000000000 + f * 0x10000 + off % 0x10000
  match regAt a with
  | none => (d, 0)
  | some r =>
    if a % width ≠ 0 || (d.foldState f == fdResetting && r.k != .FLD_STAT) then (d, 0) else d.regRead r a width

/-- What a host asks of its own virtual switch: back-invalidate of its pool device (R405), containment of a bridge (R246), the pool
device's CDAT (R237) and configuration (R231), the slot capability of a bridge: that of R249 where the bound port has a slot
channel, none where it has not; the Service Function (R438) and the registers of its folds (R441). -/
def Dev.hostAsks (d : Dev) (v : Nat) (m : PortMsg) : Dev :=
  match m with
  | .biEnable on => d.fset DIR_HOST_STAT.BI_EN on.toNat 0 v
  | .dpcEnable vb on =>
    let rest := (d.pool v).dpc.filter (· != vb)
    d.setPool v { d.pool v with dpc := if on then rest ++ [vb] else rest }
  | .cdatRead => if d.hasPool v then d.send (.cdat v (d.cdatRegions v)) else d
  | .dcConfiguration => if d.hasPool v then d.send (.mailbox v .success (d.dcConfiguration v)) else d
  | .slotCapability vb =>
    let slot := d.vbKind v vb != 0 && d.fon CXP_PORT_CFG.SLOT_EN (d.fget CXP_VB.PORT v vb)
    d.send (.slotCap v vb slot slot slot false false false)
  | .serviceFunction =>
    if d.fon CXP_VSW_CFG.EN v then
      d.send (.serviceFn v 0x1D4A 0x0514 0x0515 0x088000 (d.assignedTo v) 1 1 [4096, 65536] 65536 8)
    else d
  | .vfRead f off quad =>
    if d.foldVsw f = v && d.foldState f != fdDisabled then
      let (d, x) := d.vfRead f off (if quad then 8 else 4)
      d.send (.vfData v f off x)
    else d
  | _ => d

/-- Viral of a pass-through device goes to its bound host only (R225). -/
def Dev.viral (d : Dev) (p ld : Nat) : Dev :=
  match d.boundTo d.commits.epoch p ld with
  | some (v, _) => d.send (.viral (d.usp v))
  | none => d.send (.log "viral of an unbound device" p)

/-- INGRESS_MESSAGE: a message on port `p` with the errors it meets. Messages on inter-switch links and Thatchlinks that are
routed by PID are PBR_MESSAGE's. -/
def execIngressMessage (p : Fin 128) (m : PortMsg) (errs : List PathErr) (s : State) : Result :=
  onDev s fun d =>
    if !(d.portUp p) || d.inL1 p || d.keptBack p m then d
    else
      let mode := d.fget CXP_PORT_CFG.MODE p
      let v := d.fget CXP_PORT_CFG.VSW p
      match m with
      | .response tag data x extra => ((d.pathErrs errs).portResponse p tag (.data data x) extra (poisons errs)).settle
      | .unsupported tag => ((d.pathErrs errs).portResponse p tag .unsupported 0 false).settle
      | .request r =>
        let d := d.pathErrs errs
        if mode = 1 then
          if (kindOf r.op).chan = .mem then d.hostMem p v r (poisons errs) errs else d.hostIo p v r (poisons errs)
        else if mode = 2 then d.deviceRequest p r (poisons errs)
        else d
      | .viral ld => if mode = 2 then d.viral p ld else d
      | m => if mode = 1 then d.hostAsks v m else d

end Sys2Proof.Machine
end

