-- ==== Sys2Proof/Machine/WygelAlu.lean ====
section
/-! DEFINITION. The integer arithmetic and logic of 04_wygel_instructions.md (R108, R109) and the scratch loads and stores
(R110, R111). -/

namespace Sys2Proof.Machine

/-- ADD (R108). -/
def execAdd (t : Fin 64) (rd ra rb : Fin 32) (s : State) : Result :=
  onDev s (Dev.alu3 t rd ra rb addFlags)

/-- SUB (R108). -/
def execSub (t : Fin 64) (rd ra rb : Fin 32) (s : State) : Result :=
  onDev s (Dev.alu3 t rd ra rb subFlags)

/-- AND (R108). -/
def execAnd (t : Fin 64) (rd ra rb : Fin 32) (s : State) : Result :=
  onDev s (Dev.alu3 t rd ra rb (fun a b => logicFlags (a &&& b)))

/-- OR (R108). -/
def execOr (t : Fin 64) (rd ra rb : Fin 32) (s : State) : Result :=
  onDev s (Dev.alu3 t rd ra rb (fun a b => logicFlags (a ||| b)))

/-- XOR (R108). -/
def execXor (t : Fin 64) (rd ra rb : Fin 32) (s : State) : Result :=
  onDev s (Dev.alu3 t rd ra rb (fun a b => logicFlags (a ^^^ b)))

/-- ANDN (R108). -/
def execAndn (t : Fin 64) (rd ra rb : Fin 32) (s : State) : Result :=
  onDev s (Dev.alu3 t rd ra rb (fun a b => logicFlags (a &&& ~~~ b)))

/-- SHL: the count is g[rb][5:0]. (R108) -/
def execShl (t : Fin 64) (rd ra rb : Fin 32) (s : State) : Result :=
  onDev s (Dev.alu3 t rd ra rb (fun a b => shlFlags a (b.toNat % 64)))

/-- SHR: the count is g[rb][5:0]. (R108) -/
def execShr (t : Fin 64) (rd ra rb : Fin 32) (s : State) : Result :=
  onDev s (Dev.alu3 t rd ra rb (fun a b => shrFlags a (b.toNat % 64)))

/-- SAR: the count is g[rb][5:0]. (R108) -/
def execSar (t : Fin 64) (rd ra rb : Fin 32) (s : State) : Result :=
  onDev s (Dev.alu3 t rd ra rb (fun a b => sarFlags a (b.toNat % 64)))

/-- MUL (R108). -/
def execMul (t : Fin 64) (rd ra rb : Fin 32) (s : State) : Result :=
  onDev s (Dev.alu3 t rd ra rb (fun a b => logicFlags (a * b)))

/-- MULHU (R108). -/
def execMulhu (t : Fin 64) (rd ra rb : Fin 32) (s : State) : Result :=
  onDev s (Dev.alu3 t rd ra rb (fun a b => logicFlags (mulHigh a b)))

/-- DIVU (R108). -/
def execDivu (t : Fin 64) (rd ra rb : Fin 32) (s : State) : Result :=
  onDev s (Dev.alu3 t rd ra rb divuFlags)

/-- REMU (R108). -/
def execRemu (t : Fin 64) (rd ra rb : Fin 32) (s : State) : Result :=
  onDev s (Dev.alu3 t rd ra rb remuFlags)

/-- CMP (R108): RD zero. -/
def execCmp (t : Fin 64) (rd ra rb : Fin 32) (s : State) : Result :=
  onDev s (Dev.compare t rd (fun th => th.g ra) (fun th => th.g rb))

/-- ADDI (R109). -/
def execAddi (t : Fin 64) (rd ra : Fin 32) (imm : BitVec 16) (s : State) : Result :=
  onDev s (Dev.aluImm t rd ra true (sext16 imm) addFlags)

/-- ANDI (R109). -/
def execAndi (t : Fin 64) (rd ra : Fin 32) (imm : BitVec 16) (s : State) : Result :=
  onDev s (Dev.aluImm t rd ra true (zext16 imm) (fun a b => logicFlags (a &&& b)))

/-- ORI (R109). -/
def execOri (t : Fin 64) (rd ra : Fin 32) (imm : BitVec 16) (s : State) : Result :=
  onDev s (Dev.aluImm t rd ra true (zext16 imm) (fun a b => logicFlags (a ||| b)))

/-- XORI (R109). -/
def execXori (t : Fin 64) (rd ra : Fin 32) (imm : BitVec 16) (s : State) : Result :=
  onDev s (Dev.aluImm t rd ra true (zext16 imm) (fun a b => logicFlags (a ^^^ b)))

/-- SHLI (R109): IMM16[15:6] zero. -/
def execShli (t : Fin 64) (rd ra : Fin 32) (imm : BitVec 16) (s : State) : Result :=
  onDev s (Dev.aluImm t rd ra (imm.toNat < 64) (zext16 imm) (fun a b => shlFlags a (b.toNat % 64)))

/-- SHRI (R109): IMM16[15:6] zero. -/
def execShri (t : Fin 64) (rd ra : Fin 32) (imm : BitVec 16) (s : State) : Result :=
  onDev s (Dev.aluImm t rd ra (imm.toNat < 64) (zext16 imm) (fun a b => shrFlags a (b.toNat % 64)))

/-- SARI (R109): IMM16[15:6] zero. -/
def execSari (t : Fin 64) (rd ra : Fin 32) (imm : BitVec 16) (s : State) : Result :=
  onDev s (Dev.aluImm t rd ra (imm.toNat < 64) (zext16 imm) (fun a b => sarFlags a (b.toNat % 64)))

/-- CMPI (R109): RD zero. -/
def execCmpi (t : Fin 64) (rd ra : Fin 32) (imm : BitVec 16) (s : State) : Result :=
  onDev s (Dev.compare t rd (fun th => th.g ra) (fun _ => sext16 imm))

/-- MOVI (R109): RA zero. -/
def execMovi (t : Fin 64) (rd ra : Fin 32) (imm : BitVec 16) (s : State) : Result :=
  onDev s (Dev.issue t ((ra : Nat) == 0) false fun d th => d.retire t (th.setG rd (sext16 imm)))

/-- MOVK (R109): k = RA[1:0], RA[4:2] zero. -/
def execMovk (t : Fin 64) (rd ra : Fin 32) (imm : BitVec 16) (s : State) : Result :=
  onDev s (Dev.issue t (decide ((ra : Nat) < 4)) false fun d th =>
    d.retire t (th.setG rd (putBits (th.g rd) (16 * ra) 16 imm.toNat)))

/-- LDB (R110). -/
def execLdb (t : Fin 64) (rd ra : Fin 32) (imm : BitVec 16) (s : State) : Result :=
  onDev s (Dev.loadScratch t rd ra imm 1)

/-- LDH (R110). -/
def execLdh (t : Fin 64) (rd ra : Fin 32) (imm : BitVec 16) (s : State) : Result :=
  onDev s (Dev.loadScratch t rd ra imm 2)

/-- LDW (R110). -/
def execLdw (t : Fin 64) (rd ra : Fin 32) (imm : BitVec 16) (s : State) : Result :=
  onDev s (Dev.loadScratch t rd ra imm 4)

/-- LDD (R110). -/
def execLdd (t : Fin 64) (rd ra : Fin 32) (imm : BitVec 16) (s : State) : Result :=
  onDev s (Dev.loadScratch t rd ra imm 8)

/-- STB (R110, R111). -/
def execStb (t : Fin 64) (rd ra : Fin 32) (imm : BitVec 16) (s : State) : Result :=
  onDev s (Dev.storeScratch t rd ra imm 1)

/-- STH (R110, R111). -/
def execSth (t : Fin 64) (rd ra : Fin 32) (imm : BitVec 16) (s : State) : Result :=
  onDev s (Dev.storeScratch t rd ra imm 2)

/-- STW (R110, R111). -/
def execStw (t : Fin 64) (rd ra : Fin 32) (imm : BitVec 16) (s : State) : Result :=
  onDev s (Dev.storeScratch t rd ra imm 4)

/-- STD (R110, R111). -/
def execStd (t : Fin 64) (rd ra : Fin 32) (imm : BitVec 16) (s : State) : Result :=
  onDev s (Dev.storeScratch t rd ra imm 8)

end Sys2Proof.Machine
end

