-- ==== Sys2Proof/Machine/Dispatch.lean ====
section
/-! DEFINITION. The meaning of every command, one arm a constructor, in the order of the opcode table. -/

namespace Sys2Proof.Machine

/-- What a command does to everything but the queue. -/
def exec (i : Instr) (s : State) : Host.Outcome State Fault Refusal :=
  match i with
  | .timeOfDay via session seq second lead => Sys2Proof.Machine.execTimeOfDay via session seq second lead s
  | .rtPpsEdge => Sys2Proof.Machine.execRtPpsEdge s
  | .sourceUpdate offset => Sys2Proof.Machine.execSourceUpdate offset s
  | .lockTestPass => Sys2Proof.Machine.execLockTestPass s
  | .timeSourceLost => Sys2Proof.Machine.execTimeSourceLost s
  | .sourcePresent => Sys2Proof.Machine.execSourcePresent s
  | .holdoverLimit => Sys2Proof.Machine.execHoldoverLimit s
  | .srcWrite v => Sys2Proof.Machine.execSrcWrite v s
  | .cmtCommit t rd ra rb sw => Sys2Proof.Machine.execCmtCommit t rd ra rb sw s
  | .cmtOpen t rd ra rb sw => Sys2Proof.Machine.execCmtOpen t rd ra rb sw s
  | .cmtDiscard t rd ra rb sw => Sys2Proof.Machine.execCmtDiscard t rd ra rb sw s
  | .stgW t rd ra rb => Sys2Proof.Machine.execStgW t rd ra rb s
  | .stgD t rd ra rb => Sys2Proof.Machine.execStgD t rd ra rb s
  | .commitLoad => Sys2Proof.Machine.execCommitLoad s
  | .commitInstant => Sys2Proof.Machine.execCommitInstant s
  | .epochDrained => Sys2Proof.Machine.execEpochDrained s
  | .resyncEnd => Sys2Proof.Machine.execResyncEnd s
  | .epochDrain tag => Sys2Proof.Machine.execEpochDrain tag s
  | .commitCancel n => Sys2Proof.Machine.execCommitCancel n s
  | .add t rd ra rb => Sys2Proof.Machine.execAdd t rd ra rb s
  | .sub t rd ra rb => Sys2Proof.Machine.execSub t rd ra rb s
  | .and t rd ra rb => Sys2Proof.Machine.execAnd t rd ra rb s
  | .or t rd ra rb => Sys2Proof.Machine.execOr t rd ra rb s
  | .xor t rd ra rb => Sys2Proof.Machine.execXor t rd ra rb s
  | .andn t rd ra rb => Sys2Proof.Machine.execAndn t rd ra rb s
  | .shl t rd ra rb => Sys2Proof.Machine.execShl t rd ra rb s
  | .shr t rd ra rb => Sys2Proof.Machine.execShr t rd ra rb s
  | .sar t rd ra rb => Sys2Proof.Machine.execSar t rd ra rb s
  | .mul t rd ra rb => Sys2Proof.Machine.execMul t rd ra rb s
  | .mulhu t rd ra rb => Sys2Proof.Machine.execMulhu t rd ra rb s
  | .divu t rd ra rb => Sys2Proof.Machine.execDivu t rd ra rb s
  | .remu t rd ra rb => Sys2Proof.Machine.execRemu t rd ra rb s
  | .cmp t rd ra rb => Sys2Proof.Machine.execCmp t rd ra rb s
  | .addi t rd ra imm => Sys2Proof.Machine.execAddi t rd ra imm s
  | .andi t rd ra imm => Sys2Proof.Machine.execAndi t rd ra imm s
  | .ori t rd ra imm => Sys2Proof.Machine.execOri t rd ra imm s
  | .xori t rd ra imm => Sys2Proof.Machine.execXori t rd ra imm s
  | .shli t rd ra imm => Sys2Proof.Machine.execShli t rd ra imm s
  | .shri t rd ra imm => Sys2Proof.Machine.execShri t rd ra imm s
  | .sari t rd ra imm => Sys2Proof.Machine.execSari t rd ra imm s
  | .cmpi t rd ra imm => Sys2Proof.Machine.execCmpi t rd ra imm s
  | .movi t rd ra imm => Sys2Proof.Machine.execMovi t rd ra imm s
  | .movk t rd ra imm => Sys2Proof.Machine.execMovk t rd ra imm s
  | .ldb t rd ra imm => Sys2Proof.Machine.execLdb t rd ra imm s
  | .ldh t rd ra imm => Sys2Proof.Machine.execLdh t rd ra imm s
  | .ldw t rd ra imm => Sys2Proof.Machine.execLdw t rd ra imm s
  | .ldd t rd ra imm => Sys2Proof.Machine.execLdd t rd ra imm s
  | .stb t rd ra imm => Sys2Proof.Machine.execStb t rd ra imm s
  | .sth t rd ra imm => Sys2Proof.Machine.execSth t rd ra imm s
  | .stw t rd ra imm => Sys2Proof.Machine.execStw t rd ra imm s
  | .std t rd ra imm => Sys2Proof.Machine.execStd t rd ra imm s
  | .cldB t rd ra off => Sys2Proof.Machine.execCldB t rd ra off s
  | .cldH t rd ra off => Sys2Proof.Machine.execCldH t rd ra off s
  | .cldW t rd ra off => Sys2Proof.Machine.execCldW t rd ra off s
  | .cldD t rd ra off => Sys2Proof.Machine.execCldD t rd ra off s
  | .cstB t rd ra off => Sys2Proof.Machine.execCstB t rd ra off s
  | .cstH t rd ra off => Sys2Proof.Machine.execCstH t rd ra off s
  | .cstW t rd ra off => Sys2Proof.Machine.execCstW t rd ra off s
  | .cstD t rd ra off => Sys2Proof.Machine.execCstD t rd ra off s
  | .br t cond off => Sys2Proof.Machine.execBr t cond off s
  | .call t cond off => Sys2Proof.Machine.execCall t cond off s
  | .yld t rd ra rb => Sys2Proof.Machine.execYld t rd ra rb s
  | .hlt t rd ra rb => Sys2Proof.Machine.execHlt t rd ra rb s
  | .eret t rd ra rb => Sys2Proof.Machine.execEret t rd ra rb s
  | .fnc t rd ra rb => Sys2Proof.Machine.execFnc t rd ra rb s
  | .mfs t rd ra rb => Sys2Proof.Machine.execMfs t rd ra rb s
  | .mts t rd ra rb => Sys2Proof.Machine.execMts t rd ra rb s
  | .jr t rd ra rb => Sys2Proof.Machine.execJr t rd ra rb s
  | .callr t rd ra rb => Sys2Proof.Machine.execCallr t rd ra rb s
  | .sys t rd ra imm => Sys2Proof.Machine.execSys t rd ra imm s
  | .frse t rd ra imm => Sys2Proof.Machine.execFrse t rd ra imm s
  | .evw t rd ra rb func => Sys2Proof.Machine.execEvw t rd ra rb func s
  | .evs t rd ra imm => Sys2Proof.Machine.execEvs t rd ra imm s
  | .spwn t rd ra rb func => Sys2Proof.Machine.execSpwn t rd ra rb func s
  | .wat t rd ra rb mode sw => Sys2Proof.Machine.execWat t rd ra rb mode sw s
  | .cas t rd ra rb func => Sys2Proof.Machine.execCas t rd ra rb func s
  | .tfnd t rd ra rb func => Sys2Proof.Machine.execTfnd t rd ra rb func s
  | .msnd t rd ra rb func => Sys2Proof.Machine.execMsnd t rd ra rb func s
  | .mrcv t rd ra rb func => Sys2Proof.Machine.execMrcv t rd ra rb func s
  | .mrcvNb t rd ra rb func => Sys2Proof.Machine.execMrcvNb t rd ra rb func s
  | .dmvk t rd ra rb func => Sys2Proof.Machine.execDmvk t rd ra rb func s
  | .threadWake t => Sys2Proof.Machine.execThreadWake t s
  | .watExpire t => Sys2Proof.Machine.execWatExpire t s
  | .evwDeadline t => Sys2Proof.Machine.execEvwDeadline t s
  | .csbusTimeout t => Sys2Proof.Machine.execCsbusTimeout t s
  | .poolAccessTimeout tag => Sys2Proof.Machine.execPoolAccessTimeout tag s
  | .limit t => Sys2Proof.Machine.execLimit t s
  | .kill t => Sys2Proof.Machine.execKill t s
  | .updateTimeout => Sys2Proof.Machine.execUpdateTimeout s
  | .imageData via session seq offset total bytes => Sys2Proof.Machine.execImageData via session seq offset total bytes s
  | .imageLoad => Sys2Proof.Machine.execImageLoad s
  | .imageUnload via session seq imageId => Sys2Proof.Machine.execImageUnload via session seq imageId s
  | .foldProgStart f => Sys2Proof.Machine.execFoldProgStart f s
  | .foldImageFetched f bytes => Sys2Proof.Machine.execFoldImageFetched f bytes s
  | .engineDrain e => Sys2Proof.Machine.execEngineDrain e s
  | .threadMove t => Sys2Proof.Machine.execThreadMove t s
  | .engineFault e => Sys2Proof.Machine.execEngineFault e s
  | .engineReturn e => Sys2Proof.Machine.execEngineReturn e s
  | .selfTestDone e pass => Sys2Proof.Machine.execSelfTestDone e pass s
  | .mbox via session seq imageId channel bytes => Sys2Proof.Machine.execMbox via session seq imageId channel bytes s
  | .mboxAck via session seq ackSeq => Sys2Proof.Machine.execMboxAck via session seq ackSeq s
  | .mboxResend mailSeq => Sys2Proof.Machine.execMboxResend mailSeq s
  | .registerWrite from_ log addr value => Sys2Proof.Machine.execRegisterWrite from_ log addr value s
  | .refclkLoss q => Sys2Proof.Machine.execRefclkLoss q s
  | .refclkRestored q => Sys2Proof.Machine.execRefclkRestored q s
  | .receiverDetection p => Sys2Proof.Machine.execReceiverDetection p s
  | .trainingDone p lane rate bypass reuse eqFailed lowMerit kind alt => Sys2Proof.Machine.execTrainingDone p lane rate bypass reuse eqFailed lowMerit kind alt s
  | .trainingFailed p cause => Sys2Proof.Machine.execTrainingFailed p cause s
  | .coeffRequest l rate pre post => Sys2Proof.Machine.execCoeffRequest l rate pre post s
  | .adaptVisit l eye => Sys2Proof.Machine.execAdaptVisit l eye s
  | .marginStart l => Sys2Proof.Machine.execMarginStart l s
  | .marginEnd l errors => Sys2Proof.Machine.execMarginEnd l errors s
  | .remoteMargin l hold => Sys2Proof.Machine.execRemoteMargin l hold s
  | .prbsChkEnable l => Sys2Proof.Machine.execPrbsChkEnable l s
  | .checkerLock l n seen => Sys2Proof.Machine.execCheckerLock l n seen s
  | .checkerLockLoss l bits errors => Sys2Proof.Machine.execCheckerLockLoss l bits errors s
  | .injectGo l => Sys2Proof.Machine.execInjectGo l s
  | .injectPeriodic x => Sys2Proof.Machine.execInjectPeriodic x s
  | .fallowWindowEnd p => Sys2Proof.Machine.execFallowWindowEnd p s
  | .fallowIdle p => Sys2Proof.Machine.execFallowIdle p s
  | .fallowWake p => Sys2Proof.Machine.execFallowWake p s
  | .lanesReady p => Sys2Proof.Machine.execLanesReady p s
  | .noticeEffect p partner => Sys2Proof.Machine.execNoticeEffect p partner s
  | .l0pRequest p what => Sys2Proof.Machine.execL0pRequest p what s
  | .aspmL1Entry p hostEnabled => Sys2Proof.Machine.execAspmL1Entry p hostEnabled s
  | .l1Exit p => Sys2Proof.Machine.execL1Exit p s
  | .hdmDecoderCommit v n hpaGib sizeGib dpaGib ways => Sys2Proof.Machine.execHdmDecoderCommit v n hpaGib sizeGib dpaGib ways s
  | .requestCapacity v region pad lo want => Sys2Proof.Machine.execRequestCapacity v region pad lo want s
  | .addDynamicCapacityResponse v accepted => Sys2Proof.Machine.execAddDynamicCapacityResponse v accepted s
  | .offerTimeout v => Sys2Proof.Machine.execOfferTimeout v s
  | .releaseDynamicCapacity v extents => Sys2Proof.Machine.execReleaseDynamicCapacity v extents s
  | .releaseDrained v => Sys2Proof.Machine.execReleaseDrained v s
  | .getDynamicCapacityExtentList v => Sys2Proof.Machine.execGetDynamicCapacityExtentList v s
  | .pbrMessage p vc dpid m errs => Sys2Proof.Machine.execPbrMessage p vc dpid m errs s
  | .ideKm p secure => Sys2Proof.Machine.execIdeKm p secure s
  | .keyRefresh p => Sys2Proof.Machine.execKeyRefresh p s
  | .ideFailure p => Sys2Proof.Machine.execIdeFailure p s
  | .linkDown p => Sys2Proof.Machine.execLinkDown p s
  | .hotReset x => Sys2Proof.Machine.execHotReset x s
  | .contain p => Sys2Proof.Machine.execContain p s
  | .release p => Sys2Proof.Machine.execRelease p s
  | .partnerDetected p => Sys2Proof.Machine.execPartnerDetected p s
  | .hostPowerControl v b on => Sys2Proof.Machine.execHostPowerControl v b on s
  | .ingressMessage p m errs => Sys2Proof.Machine.execIngressMessage p m errs s
  | .bufferAdmit n => Sys2Proof.Machine.execBufferAdmit n s
  | .egressSlot p more cs link => Sys2Proof.Machine.execEgressSlot p more cs link s
  | .tlkTxSlot p lost cs retried => Sys2Proof.Machine.execTlkTxSlot p lost cs retried s
  | .tlkDataFlit p h payload crc bad => Sys2Proof.Machine.execTlkDataFlit p h payload crc bad s
  | .tlkIdleFlit p h badRecord crcOk => Sys2Proof.Machine.execTlkIdleFlit p h badRecord crcOk s
  | .nak p seq => Sys2Proof.Machine.execNak p seq s
  | .credit p vc limit ack ackV => Sys2Proof.Machine.execCredit p vc limit ack ackV s
  | .ping p id tag => Sys2Proof.Machine.execPing p id tag s
  | .pong p id tag => Sys2Proof.Machine.execPong p id tag s
  | .init p version _pool _strict => Sys2Proof.Machine.execInit p version _pool _strict s
  | .resume p seq => Sys2Proof.Machine.execResume p seq s
  | .nakRepeat p seq => Sys2Proof.Machine.execNakRepeat p seq s
  | .replayTimeout p => Sys2Proof.Machine.execReplayTimeout p s
  | .creditTimer p vc => Sys2Proof.Machine.execCreditTimer p vc s
  | .strictTimeout p => Sys2Proof.Machine.execStrictTimeout p s
  | .llStart p lane eq offer => Sys2Proof.Machine.execLlStart p lane eq offer s
  | .initTimeout p => Sys2Proof.Machine.execInitTimeout p s
  | .phyRecovery p => Sys2Proof.Machine.execPhyRecovery p s
  | .recoveryEnd p => Sys2Proof.Machine.execRecoveryEnd p s
  | .resumeLimit p => Sys2Proof.Machine.execResumeLimit p s
  | .leaseCheck p vc lender borrower base size peer => Sys2Proof.Machine.execLeaseCheck p vc lender borrower base size peer s
  | .leaseAck p vc lender borrower status => Sys2Proof.Machine.execLeaseAck p vc lender borrower status s
  | .devLost p vc lender borrower cause => Sys2Proof.Machine.execDevLost p vc lender borrower cause s
  | .devLostAck p vc lender borrower cause => Sys2Proof.Machine.execDevLostAck p vc lender borrower cause s
  | .leaseCheckRepeat v => Sys2Proof.Machine.execLeaseCheckRepeat v s
  | .devLostRepeat v => Sys2Proof.Machine.execDevLostRepeat v s
  | .dread p vc tag lender borrower dpa expiry => Sys2Proof.Machine.execDread p vc tag lender borrower dpa expiry s
  | .dwrite p vc tag lender borrower dpa expiry data poison => Sys2Proof.Machine.execDwrite p vc tag lender borrower dpa expiry data poison s
  | .ddata p vc tag lender borrower dpa status data poison => Sys2Proof.Machine.execDdata p vc tag lender borrower dpa status data poison s
  | .ddone p vc tag lender borrower dpa status => Sys2Proof.Machine.execDdone p vc tag lender borrower dpa status s
  | .lenderDeviceDone tag data poison => Sys2Proof.Machine.execLenderDeviceDone tag data poison s
  | .split field => Sys2Proof.Machine.execSplit field s
  | .gather field dev => Sys2Proof.Machine.execGather field dev s
  | .replace field sward => Sys2Proof.Machine.execReplace field sward s
  | .abort field sward => Sys2Proof.Machine.execAbort field sward s
  | .fieldSplit field => Sys2Proof.Machine.execFieldSplit field s
  | .fieldMerge field => Sys2Proof.Machine.execFieldMerge field s
  | .halvingPass => Sys2Proof.Machine.execHalvingPass s
  | .migrationStart why => Sys2Proof.Machine.execMigrationStart why s
  | .copyPassEnd k bad => Sys2Proof.Machine.execCopyPassEnd k bad s
  | .migrationStall k => Sys2Proof.Machine.execMigrationStall k s
  | .migrationSwitch k bad => Sys2Proof.Machine.execMigrationSwitch k bad s
  | .drainRetry v => Sys2Proof.Machine.execDrainRetry v s
  | .lostWalkEnd v => Sys2Proof.Machine.execLostWalkEnd v s
  | .frameZeroed v sward n => Sys2Proof.Machine.execFrameZeroed v sward n s
  | .snoopResponse v line r => Sys2Proof.Machine.execSnoopResponse v line r s
  | .biConflict v line => Sys2Proof.Machine.execBiConflict v line s
  | .snoopTimeout v line => Sys2Proof.Machine.execSnoopTimeout v line s
  | .dirWalkEnd => Sys2Proof.Machine.execDirWalkEnd s
  | .completionLimit tag => Sys2Proof.Machine.execCompletionLimit tag s
  | .dirSweepEnd way => Sys2Proof.Machine.execDirSweepEnd way s
  | .flr f => Sys2Proof.Machine.execFlr f s
  | .sqEnable f q sizeLog2 cq => Sys2Proof.Machine.execSqEnable f q sizeLog2 cq s
  | .sqDisable f q => Sys2Proof.Machine.execSqDisable f q s
  | .cqEnable f c v => Sys2Proof.Machine.execCqEnable f c v s
  | .sqDoorbell f q tail => Sys2Proof.Machine.execSqDoorbell f q tail s
  | .cqDoorbell f c head => Sys2Proof.Machine.execCqDoorbell f c head s
  | .pushSlotWrite f q idx off len data => Sys2Proof.Machine.execPushSlotWrite f q idx off len data s
  | .entryFetch f contextBad => Sys2Proof.Machine.execEntryFetch f contextBad s
  | .fetchResponse id data bad => Sys2Proof.Machine.execFetchResponse id data bad s
  | .entryStart id => Sys2Proof.Machine.execEntryStart id s
  | .chunkAdmit c => Sys2Proof.Machine.execChunkAdmit c s
  | .chunkComplete c offset => Sys2Proof.Machine.execChunkComplete c offset s
  | .chunkTimeout c offset => Sys2Proof.Machine.execChunkTimeout c offset s
  | .completionWrite f q => Sys2Proof.Machine.execCompletionWrite f q s
  | .moderationTimer f c => Sys2Proof.Machine.execModerationTimer f c s
  | .msixUnmask f vec => Sys2Proof.Machine.execMsixUnmask f vec s
  | .vfPowerState f d3hot busMaster pmeEn fnMask => Sys2Proof.Machine.execVfPowerState f d3hot busMaster pmeEn fnMask s
  | .moverDisable m => Sys2Proof.Machine.execMoverDisable m s
  | .shareSample => Sys2Proof.Machine.execShareSample s
  | .foldReset f => Sys2Proof.Machine.execFoldReset f s
  | .foldResetDone f => Sys2Proof.Machine.execFoldResetDone f s
  | .freeze f instant => Sys2Proof.Machine.execFreeze f instant s
  | .save f dest peer peerFold addr => Sys2Proof.Machine.execSave f dest peer peerFold addr s
  | .restore f dest addr => Sys2Proof.Machine.execRestore f dest addr s
  | .thaw f instant => Sys2Proof.Machine.execThaw f instant s
  | .freezeInstant f => Sys2Proof.Machine.execFreezeInstant f s
  | .freezeDone f => Sys2Proof.Machine.execFreezeDone f s
  | .thawInstant f => Sys2Proof.Machine.execThawInstant f s
  | .saveDone f ok => Sys2Proof.Machine.execSaveDone f ok s
  | .baleReadDone f bytes bad => Sys2Proof.Machine.execBaleReadDone f bytes bad s
  | .baleData secured fromAlias f offset total bytes => Sys2Proof.Machine.execBaleData secured fromAlias f offset total bytes s
  | .baleAck f status => Sys2Proof.Machine.execBaleAck f status s
  | .baleAckTimeout f => Sys2Proof.Machine.execBaleAckTimeout f s
  | .ruleParityFail which rule => Sys2Proof.Machine.execRuleParityFail which rule s
  | .scrubVisit c r => Sys2Proof.Machine.execScrubVisit c r s
  | .regionLock => Sys2Proof.Machine.execRegionLock s
  | .regionLockDone => Sys2Proof.Machine.execRegionLockDone s
  | .retireMacro b m => Sys2Proof.Machine.execRetireMacro b m s
  | .macroCopyDone b => Sys2Proof.Machine.execMacroCopyDone b s
  | .retireBank b => Sys2Proof.Machine.execRetireBank b s
  | .bankReleased b => Sys2Proof.Machine.execBankReleased b s
  | .faultRecord => Sys2Proof.Machine.execFaultRecord s
  | .wire u a b => Sys2Proof.Machine.execWire u a b s
  | .wireFaultClear u => Sys2Proof.Machine.execWireFaultClear u s
  | .enter => Sys2Proof.Machine.execEnter s
  | .exit => Sys2Proof.Machine.execExit s
  | .quietExit => Sys2Proof.Machine.execQuietExit s
  | .presenceAssert chan => Sys2Proof.Machine.execPresenceAssert chan s
  | .presenceLoss chan => Sys2Proof.Machine.execPresenceLoss chan s
  | .debounceEnd chan => Sys2Proof.Machine.execDebounceEnd chan s
  | .identReadDone chan record => Sys2Proof.Machine.execIdentReadDone chan record s
  | .identTimeout chan => Sys2Proof.Machine.execIdentTimeout chan s
  | .on chan => Sys2Proof.Machine.execOn chan s
  | .off chan => Sys2Proof.Machine.execOff chan s
  | .onAt chan => Sys2Proof.Machine.execOnAt chan s
  | .clear chan => Sys2Proof.Machine.execClear chan s
  | .reident chan => Sys2Proof.Machine.execReident chan s
  | .forceEnable chan => Sys2Proof.Machine.execForceEnable chan s
  | .rampStart chan m => Sys2Proof.Machine.execRampStart chan m s
  | .rampTop chan m => Sys2Proof.Machine.execRampTop chan m s
  | .gateEnhanced chan => Sys2Proof.Machine.execGateEnhanced chan s
  | .qualified chan m => Sys2Proof.Machine.execQualified chan m s
  | .limitTimeout chan m => Sys2Proof.Machine.execLimitTimeout chan m s
  | .fastTrip chan => Sys2Proof.Machine.execFastTrip chan s
  | .fetHot chan f m => Sys2Proof.Machine.execFetHot chan f m s
  | .undervolt chan m => Sys2Proof.Machine.execUndervolt chan m s
  | .uvRecovered chan m => Sys2Proof.Machine.execUvRecovered chan m s
  | .retryTimer chan => Sys2Proof.Machine.execRetryTimer chan s
  | .faultCountReset chan => Sys2Proof.Machine.execFaultCountReset chan s
  | .reverse chan f => Sys2Proof.Machine.execReverse chan f s
  | .feedRestore chan f m => Sys2Proof.Machine.execFeedRestore chan f m s
  | .feedLost chan f m => Sys2Proof.Machine.execFeedLost chan f m s
  | .earlyWarning chan m => Sys2Proof.Machine.execEarlyWarning chan m s
  | .gpfComplete chan => Sys2Proof.Machine.execGpfComplete chan s
  | .gpfTimeout chan => Sys2Proof.Machine.execGpfTimeout chan s
  | .brownoutRecovered chan m => Sys2Proof.Machine.execBrownoutRecovered chan m s
  | .energyWindow chan energy => Sys2Proof.Machine.execEnergyWindow chan energy s
  | .onAtInstant chan => Sys2Proof.Machine.execOnAtInstant chan s
  | .sidebandTransfer b addr write offset ofs2 len => Sys2Proof.Machine.execSidebandTransfer b addr write offset ofs2 len s
  | .sidebandDone b answer nak => Sys2Proof.Machine.execSidebandDone b answer nak s
  | .sessionOpen via seq source managerId keepalive => Sys2Proof.Machine.execSessionOpen via seq source managerId keepalive s
  | .sessionClose via session seq => Sys2Proof.Machine.execSessionClose via session seq s
  | .keepalive via session seq => Sys2Proof.Machine.execKeepalive via session seq s
  | .sessionTimeout => Sys2Proof.Machine.execSessionTimeout s
  | .flashWrite via session seq offset bytes => Sys2Proof.Machine.execFlashWrite via session seq offset bytes s
  | .chainReset via source maskBits instant flags => Sys2Proof.Machine.execChainReset via source maskBits instant flags s
  | .chainResetInstant => Sys2Proof.Machine.execChainResetInstant s
  | .telemetrySample => Sys2Proof.Machine.execTelemetrySample s
  | .cakInstall p value => Sys2Proof.Machine.execCakInstall p value s
  | .addrInFrame addr rest => Sys2Proof.Machine.execAddrInFrame addr rest s
  | .chainHead => Sys2Proof.Machine.execChainHead s
  | .chainTimeout => Sys2Proof.Machine.execChainTimeout s
  | .addrOutFrame => Sys2Proof.Machine.execAddrOutFrame s
  | .identifySwitchDevice via session seq => Sys2Proof.Machine.execIdentifySwitchDevice via session seq s
  | .getPhysicalPortState via session seq p => Sys2Proof.Machine.execGetPhysicalPortState via session seq p s
  | .physicalPortControl via session seq p opcode => Sys2Proof.Machine.execPhysicalPortControl via session seq p opcode s
  | .sendPpbCxlIoConfigurationRequest via session seq p write reg data => Sys2Proof.Machine.execSendPpbCxlIoConfigurationRequest via session seq p write reg data s
  | .getVirtualCxlSwitchInfo via session seq v => Sys2Proof.Machine.execGetVirtualCxlSwitchInfo via session seq v s
  | .bindVppb via session seq v b p ld => Sys2Proof.Machine.execBindVppb via session seq v b p ld s
  | .unbindVppb via session seq v b => Sys2Proof.Machine.execUnbindVppb via session seq v b s
  | .generateAerEvent via session seq v b error => Sys2Proof.Machine.execGenerateAerEvent via session seq v b error s
  | .tunnelManagementCommand via session seq p request answer => Sys2Proof.Machine.execTunnelManagementCommand via session seq p request answer s
  | .sendLdCxlIoConfigurationRequest via session seq p ld request answer => Sys2Proof.Machine.execSendLdCxlIoConfigurationRequest via session seq p ld request answer s
  | .sendLdCxlIoMemoryRequest via session seq p ld request answer => Sys2Proof.Machine.execSendLdCxlIoMemoryRequest via session seq p ld request answer s
  | .getDcdInfo via session seq => Sys2Proof.Machine.execGetDcdInfo via session seq s
  | .getHostDcRegionConfiguration via session seq v => Sys2Proof.Machine.execGetHostDcRegionConfiguration via session seq v s
  | .setDcRegionConfiguration via session seq v r gib => Sys2Proof.Machine.execSetDcRegionConfiguration via session seq v r gib s
  | .getDcRegionExtentLists via session seq v => Sys2Proof.Machine.execGetDcRegionExtentLists via session seq v s
  | .initiateDynamicCapacityAdd via session seq v r gib tag => Sys2Proof.Machine.execInitiateDynamicCapacityAdd via session seq v r gib tag s
  | .initiateDynamicCapacityRelease via session seq v extents => Sys2Proof.Machine.execInitiateDynamicCapacityRelease via session seq v extents s
  | .getVersion via seq => Sys2Proof.Machine.execGetVersion via seq s
  | .getCapabilities via seq version => Sys2Proof.Machine.execGetCapabilities via seq version s
  | .negotiateAlgorithms via seq p384Offered sha384Offered => Sys2Proof.Machine.execNegotiateAlgorithms via seq p384Offered sha384Offered s
  | .getDigests via seq => Sys2Proof.Machine.execGetDigests via seq s
  | .getCertificate via seq slot offset length => Sys2Proof.Machine.execGetCertificate via seq slot offset length s
  | .challenge via seq slot nonce => Sys2Proof.Machine.execChallenge via seq slot nonce s
  | .getMeasurements via seq index signed nonce => Sys2Proof.Machine.execGetMeasurements via seq index signed nonce s
  | .powerOn => Sys2Proof.Machine.execPowerOn s
  | .resetN => Sys2Proof.Machine.execResetN s
  | .resetRelease testEn => Sys2Proof.Machine.execResetRelease testEn s
  | .bootImageStart slotA slotB => Sys2Proof.Machine.execBootImageStart slotA slotB s
  | .soft => Sys2Proof.Machine.execSoft s
  | .softResetDone => Sys2Proof.Machine.execSoftResetDone s
  | .standby => Sys2Proof.Machine.execStandby s
  | .standbyEntryDone => Sys2Proof.Machine.execStandbyEntryDone s
  | .wakeAt => Sys2Proof.Machine.execWakeAt s
  | .standbyExitDone => Sys2Proof.Machine.execStandbyExitDone s
  | .supplyWarning rail mv => Sys2Proof.Machine.execSupplyWarning rail mv s
  | .brownout rail mv => Sys2Proof.Machine.execBrownout rail mv s
  | .tempSample temps => Sys2Proof.Machine.execTempSample temps s
  | .thermtrip => Sys2Proof.Machine.execThermtrip s
  | .tapReset => Sys2Proof.Machine.execTapReset s
  | .extest => Sys2Proof.Machine.execExtest s
  | .samplePreload => Sys2Proof.Machine.execSamplePreload s
  | .idcode => Sys2Proof.Machine.execIdcode s
  | .clamp => Sys2Proof.Machine.execClamp s
  | .highz => Sys2Proof.Machine.execHighz s
  | .extestPulse => Sys2Proof.Machine.execExtestPulse s
  | .extestTrain => Sys2Proof.Machine.execExtestTrain s
  | .bypass => Sys2Proof.Machine.execBypass s
  | .dapPoll => Sys2Proof.Machine.execDapPoll s
  | .dapRead addr => Sys2Proof.Machine.execDapRead addr s
  | .dapWrite addr data => Sys2Proof.Machine.execDapWrite addr data s
  | .dapAccessDone => Sys2Proof.Machine.execDapAccessDone s
  | .debugLock => Sys2Proof.Machine.execDebugLock s
  | .d2dFail die => Sys2Proof.Machine.execD2dFail die s
  | .vfEnable v on numVFs => Sys2Proof.Machine.execVfEnable v on numVFs s
  | .tmpCmdAct => Sys2Proof.Machine.execTmpCmdAct s
  | .feedAllowed chan f m => Sys2Proof.Machine.execFeedAllowed chan f m s
  | .supplyRecovered rail => Sys2Proof.Machine.execSupplyRecovered rail s
  | .ethernetLink p x => Sys2Proof.Machine.execEthernetLink p x s
  | .mkaFrame p suite => Sys2Proof.Machine.execMkaFrame p suite s
  | .badtype via typ seq lenOk => Sys2Proof.Machine.execBadtype via typ seq lenOk s

end Sys2Proof.Machine
end

