-- ==== Sys2Proof/Machine/Step.lean ====
section
/-! DEFINITION. One step of the block: the command at the front of the queue, or with none a tick of rack time. -/

namespace Sys2Proof.Machine

/-- A nanosecond passes with no command waiting: NOW counts on, unless the device is held in reset (assumption 1). SRAM that is
being zeroed is zero by then, and every register restored: control space answers, and PHASE reads BOOT until the boot image
starts (R170; assumption 181). -/
def tick (s : State) : State :=
  let d := s.dev
  let boot := if d.gable.boot = .zeroing then .restored else d.gable.boot
  { s with dev :=
      if d.inReset then d
      else { d.fset TIM_NOW.NOW (d.now + 1) with gable := { d.gable with boot := boot } } }

/-- With no command waiting: the first register write that a soft reset held is carried out once it is over (R169; assumption
172); with none, 1 ns passes. -/
def idle (s : State) : Result :=
  match s.dev.held with
  | c :: rest => if s.dev.phase = phSoft then .next (tick s) else exec c { s with dev := { s.dev with held := rest } }
  | [] => .next (tick s)

/-- The command at the front of the queue runs with the queue's rest; with an empty queue the block idles. -/
def step (s : State) : Host.Outcome State Fault Refusal :=
  match s.pending with
  | [] => idle s
  | c :: rest => exec c { s with pending := rest }

/-- The state with the command that a word spells put at the front of its queue; unchanged where the word spells none. -/
def State.withFetchWord (s : State) (nbits w : Nat) : State :=
  match decodeTableWord nbits w with
  | some c => { s with pending := c :: s.pending }
  | none => s

end Sys2Proof.Machine
end

