-- ==== Sys2Proof/Safety.lean ====
section
/-! DEFINITION. What counts as a safe state and a safe run of the block, and the other terms the claims use. -/

namespace Sys2Proof.Machine

/-- The outcome of a command. -/
abbrev Outcome := Host.Outcome State Fault Refusal

/-- Does a step answer a next state? -/
def Safe (s : State) : Prop := ∃ t, step s = .next t

/-- The byte memories of the block keep their canonical form. -/
def Dev.memWf (d : Dev) : Bool := d.wygel.pstore.wf && d.wygel.scratch.wf

/-- Rising keys: the canonical form of a table by number. -/
def Tab.wfFrom {α : Type} : Nat → Tab α → Bool
  | _, [] => true
  | lo, (k, _) :: t => decide (lo ≤ k) && Tab.wfFrom (k + 1) t

/-- The canonical form of a table by number. -/
def Tab.wf {α : Type} (t : Tab α) : Bool := Tab.wfFrom 0 t

/-- The command answers a next state: the queue as it was, the device after. -/
def Ends (c : Instr) (s : State) (after : Dev) : Prop := exec c s = .next { s with dev := after }

/-- The command answers a next state whose queue is as it was and whose device has the property. -/
def Runs (c : Instr) (s : State) (after : Dev → Prop) : Prop :=
  ∃ d, Ends c s d ∧ after d

/-- Every register but those listed holds what it held. -/
def RegsBut (rs : List Reg) (d d' : Dev) : Prop := ∀ r, r ∉ rs → d'.rd r = d.rd r

/-- Nothing but the registers listed has changed. -/
def OnlyRegs (rs : List Reg) (d d' : Dev) : Prop := { d' with regs := d.regs } = d ∧ RegsBut rs d d'

/-- The registers that change while the device is held in reset: the sensors' (R683), what the reset itself writes (R60, R155,
R654), and what the test access port counts and records (R660, R666). -/
def RK.livesInReset (k : RK) : Bool :=
  [RK.RST_TEMP, .RST_THERM_CFG, .RST_CAUSE, .CSP_STATUS, .WGL_ENG_CTRL, .CSP_ERR, .CSP_ERR_COUNT, .DBG_STAT].contains k

/-- A device held in reset, if it is held, has nothing in it: no thread, image, stored byte, request, queue, migration, slot
record or fault record, and every register field that lists W at its reset value (R642, R655). -/
def Dev.heldClean (d : Dev) : Prop :=
  d.inReset = true →
    d.threads = [] ∧ d.wygel.images = [] ∧ d.wygel.pstore = [] ∧ d.wygel.scratch = [] ∧ d.wygel.update = none ∧ d.core = {} ∧
    d.commits = {} ∧ d.faults = {} ∧ d.time = {} ∧ d.lanes = [] ∧ d.ports = [] ∧ d.fcp = {} ∧ d.pools = [] ∧ d.thatch = {} ∧
    d.dir = {} ∧ d.folds = {} ∧ d.tlk = {} ∧ d.slots = [] ∧ d.adapters = [] ∧ d.held = [] ∧ d.calibration = [] ∧
    ∀ r : Reg, r.k.livesInReset = false → ∀ f ∈ r.k.fields, .warm ∈ f.res →
      bitsOf (d.rd r) f.lo f.w = bitsOf (r.resetVal d.fuses) f.lo f.w

/-- Can thread `t` issue an instruction that its fetch finds? It is in RUN, threads are not held, its program counter lies in
its code, the program-store word is good, no hot update waits, and it owes no other thread its engine (R116). -/
def Dev.issues (d : Dev) (t : Nat) : Prop :=
  d.inReset = false ∧ d.threadsHeld = false ∧ d.mustYield t = false ∧ d.wygel.update = none ∧ (d.thr t).state = .run ∧
  ∃ im, d.codeOf (d.thr t) = some im ∧ (d.thr t).pc.toNat < im.codeLen ∧
    fetchWord im (d.thr t).pc ∉ d.wygel.pstoreBad

/-- Does bit `b` of a register lie in a field whose access code `sel` chooses? -/
def RK.hasBit (k : RK) (b : Nat) (sel : Acc → Bool) : Bool :=
  k.fields.any fun f => sel f.acc && decide (f.lo ≤ b ∧ b < f.lo + f.w)

/-- Is a write of the register a store and nothing more? The others start something, or are kept elsewhere. -/
def RK.storesOnly (k : RK) : Bool :=
  !([RK.TIM_CTRL, .TIM_COMMIT_STAT, .WGL_ENG_CTRL, .WGL_THR_CTRL, .LAN_TXEQ, .LAN_MARGIN_CTRL, .LAN_PRBS_CTRL, .LAN_PRBS_INJ,
    .CXP_CONTAIN, .CXP_IDE_CFG, .TMP_CMD, .FLD_SQ_CFG, .FLD_CQ_CFG, .FLD_SQ_STAT, .FLD_SQ_DB, .FLD_CQ_DB, .FLD_PUSH,
    .FLD_PROG_CTRL, .FLD_MSIX1, .FLD_RESET, .FLD_MIG_CTRL, .DMV_CTRL, .MEM_REGION_CTRL, .MEM_BANK_CTRL, .MEM_CELOG0,
    .FLT_CTRL, .FLT_UNIT_STAT, .FLT_THREAD_REACT, .FLT_UNIT_REACT, .SLT_CFG, .SLT_CMD, .SB_XFER, .ETH_CFG, .ETH_CAK,
    .RST_CTRL, .DBG_CTRL].contains k)

/-- A thread after an instruction that wrote `r` to g[rd] and the flags, and went on. -/
def Thread.wrote (th : Thread) (rd : Nat) (r : Word) (fl : Flags) : Thread :=
  { th.setG rd r with flags := fl, pc := th.pc + 4 }

/-- Is a request of type `typ` executed (R608, R610, R612, R624): it reaches the device, where REQUIRE asks for it in the
secured channel, its type is accepted in recovery, its session is open, and its SEQ is neither kept, executing nor stale? -/
def Dev.executes (d : Dev) (via : FcpFrom) (typ session seq : Nat) : Prop :=
  d.reached via = true ∧ (via.secured = true ∨ d.fon ETH_MACSEC.REQUIRE via.port = false) ∧
  (d.fon CHN_BOOT.RECOVERY = false ∨ typ ∈ [0x01, 0x02, 0x03, 0x10, 0x70, 0x31]) ∧
  d.session = true ∧ d.fget ETH_SESSION.SESSION = session ∧ (∀ r ∈ d.fcp.replies, r.1 ≠ seq) ∧ seq ∉ d.fcp.executing ∧
  d.staleSeq seq = false

/-- The device while it executes the request with a SEQ: the message has crossed the gable die's interface, the session has
heard something, the SEQ is taken. -/
def Dev.executing (d : Dev) (via : FcpFrom) (seq : Nat) : Dev :=
  let x := d.gableCross via
  { x with fcp := { x.fcp with lastHeard := d.now, executing := x.fcp.executing ++ [seq] } }

/-- The requests that need the manager's session: where they arrived, type, session number, SEQ (R610). -/
def sessionRequest : Instr → Option (FcpFrom × Nat × Nat × Nat)
  | .sessionClose via n q => some (via, 0x02, n.toNat, q.toNat)
  | .keepalive via n q => some (via, 0x03, n.toNat, q.toNat)
  | .imageData via n q _ _ _ => some (via, 0x10, n.toNat, q.toNat)
  | .imageUnload via n q _ => some (via, 0x11, n.toNat, q.toNat)
  | .mbox via n q _ _ _ => some (via, 0x20, n.toNat, q.toNat)
  | .mboxAck via n q _ => some (via, 0x21, n.toNat, q.toNat)
  | .timeOfDay via n q _ _ => some (via, 0x50, n.toNat, q.toNat)
  | .flashWrite via n q _ _ => some (via, 0x70, n.toNat, q.toNat)
  | .identifySwitchDevice via n q | .getDcdInfo via n q => some (via, 0x30, n.toNat, q.toNat)
  | .getPhysicalPortState via n q _ | .getVirtualCxlSwitchInfo via n q _ => some (via, 0x30, n.toNat, q.toNat)
  | .getHostDcRegionConfiguration via n q _ | .getDcRegionExtentLists via n q _ => some (via, 0x30, n.toNat, q.toNat)
  | .physicalPortControl via n q _ _ | .unbindVppb via n q _ _ => some (via, 0x30, n.toNat, q.toNat)
  | .initiateDynamicCapacityRelease via n q _ _ => some (via, 0x30, n.toNat, q.toNat)
  | .sendPpbCxlIoConfigurationRequest via n q _ _ _ _ | .bindVppb via n q _ _ _ _ => some (via, 0x30, n.toNat, q.toNat)
  | .generateAerEvent via n q _ _ _ | .tunnelManagementCommand via n q _ _ _ => some (via, 0x30, n.toNat, q.toNat)
  | .sendLdCxlIoConfigurationRequest via n q _ _ _ _ => some (via, 0x30, n.toNat, q.toNat)
  | .sendLdCxlIoMemoryRequest via n q _ _ _ _ => some (via, 0x30, n.toNat, q.toNat)
  | .setDcRegionConfiguration via n q _ _ _ => some (via, 0x30, n.toNat, q.toNat)
  | .initiateDynamicCapacityAdd via n q _ _ _ _ => some (via, 0x30, n.toNat, q.toNat)
  | _ => none

/-- The thread that issues a command that is a Wygel instruction. -/
def issuer : Instr → Option (Fin 64)
  | .add t _ _ _ | .sub t _ _ _ | .and t _ _ _ | .or t _ _ _ | .xor t _ _ _ | .andn t _ _ _ | .shl t _ _ _ | .shr t _ _ _
  | .sar t _ _ _ | .mul t _ _ _ | .mulhu t _ _ _ | .divu t _ _ _ | .remu t _ _ _ | .cmp t _ _ _ => some t
  | .addi t _ _ _ | .andi t _ _ _ | .ori t _ _ _ | .xori t _ _ _ | .shli t _ _ _ | .shri t _ _ _ | .sari t _ _ _
  | .cmpi t _ _ _ | .movi t _ _ _ | .movk t _ _ _ => some t
  | .ldb t _ _ _ | .ldh t _ _ _ | .ldw t _ _ _ | .ldd t _ _ _ | .stb t _ _ _ | .sth t _ _ _ | .stw t _ _ _
  | .std t _ _ _ => some t
  | .cldB t _ _ _ | .cldH t _ _ _ | .cldW t _ _ _ | .cldD t _ _ _ | .cstB t _ _ _ | .cstH t _ _ _ | .cstW t _ _ _
  | .cstD t _ _ _ => some t
  | .br t _ _ | .call t _ _ => some t
  | .yld t _ _ _ | .hlt t _ _ _ | .eret t _ _ _ | .fnc t _ _ _ | .mfs t _ _ _ | .mts t _ _ _ | .jr t _ _ _
  | .callr t _ _ _ | .sys t _ _ _ | .frse t _ _ _ | .evs t _ _ _ | .stgW t _ _ _ | .stgD t _ _ _ => some t
  | .evw t _ _ _ _ | .spwn t _ _ _ _ | .cas t _ _ _ _ | .tfnd t _ _ _ _ | .msnd t _ _ _ _ | .mrcv t _ _ _ _
  | .mrcvNb t _ _ _ _ | .dmvk t _ _ _ _ | .cmtCommit t _ _ _ _ | .cmtOpen t _ _ _ _ | .cmtDiscard t _ _ _ _ => some t
  | .wat t _ _ _ _ _ => some t
  | _ => none

/-- Does an instruction set no field that its entry marks zero, and are its FUNC, COND, MODE and event listed (R105)? -/
def fieldsLegal : Instr → Bool
  | .cmp _ rd _ _ | .cmpi _ rd _ _ | .frse _ rd _ _ => rd == 0
  | .shli _ _ _ imm | .shri _ _ _ imm | .sari _ _ _ imm => decide (imm.toNat < 64)
  | .movi _ _ ra _ => ra == 0
  | .movk _ _ ra _ => decide (ra.val < 4)
  | .br _ cond _ => decide (cond.toNat < 15)
  | .call _ cond _ => cond == 0
  | .yld _ rd ra rb | .hlt _ rd ra rb | .eret _ rd ra rb | .fnc _ rd ra rb => rd == 0 && ra == 0 && rb == 0
  | .mfs _ _ ra rb => ra == 0 && decide (rb.val ≤ 6)
  | .mts _ rd _ rb => rd == 0 && decide (rb.val ≤ 6)
  | .jr _ rd _ rb => rd == 0 && rb == 0
  | .callr _ _ _ rb => rb == 0
  | .sys _ rd ra _ => rd == 0 && ra == 0
  | .evw _ _ _ rb func => rb == 0 && func == 0
  | .evs _ _ _ imm => decide (16 ≤ imm.toNat ∧ imm.toNat < 64)
  | .spwn _ _ _ _ func | .dmvk _ _ _ _ func => func == 0
  | .mrcv _ _ _ _ func | .mrcvNb _ _ _ _ func => func == 0
  | .wat _ _ _ rb mode _ => rb == 0 && mode == 0
  | .cas _ _ _ _ func | .tfnd _ _ _ _ func => decide (func.toNat < 4)
  | .msnd _ _ _ _ func => decide (func.toNat < 256)
  | .cmtOpen _ _ ra _ sw | .cmtDiscard _ _ ra _ sw => ra == 0 && sw == 0
  | _ => true

/-- The instructions for manager threads only (R68, and the entries of 04_wygel_instructions.md). -/
def managerOnly : Instr → Bool
  | .eret _ _ _ _ | .frse _ _ _ _ | .spwn _ _ _ _ _ | .stgW _ _ _ _ | .stgD _ _ _ _ | .tfnd _ _ _ _ _ | .msnd _ _ _ _ _
  | .mrcv _ _ _ _ _ | .mrcvNb _ _ _ _ _ | .cmtCommit _ _ _ _ _ | .cmtOpen _ _ _ _ _ | .cmtDiscard _ _ _ _ _ => true
  | _ => false

end Sys2Proof.Machine
end

