-- ==== Sys2Proof/Certificates/Slice0/Obligations.lean ====
section
/-! DEFINITION. The statements for the provers, in the order of OBLIGATIONS.json. A statement that gives the whole next state
gives its frame with it: what the state names as changed is all that has. -/

open Sys2Proof Sys2Proof.Machine

/-- R107, R108. Issued by a ready thread, at either privilege, each three-register operation answers a next state in which
that thread alone has changed: g[rd] holds the result (g0 stays zero, R63), Z says that the result is zero, N is its bit 63, C
and V are as R107 and R108 give (C the carry out or the borrow, V signed overflow, both 0 for logic and multiplication, the last
bit out of a shift, V set by a division by zero), and the PC stands at the next instruction. CMP writes the flags alone.
Completes: ADD, SUB, AND, OR, XOR, ANDN, SHL, SHR, SAR, MUL, MULHU, DIVU, REMU, CMP. -/
def Obligations.IntegerArithmeticResults : Prop :=
  ∀ (s : State) (t : Fin 64) (rd ra rb : Fin 32), s.dev.issues t →
    let th : Thread := { s.dev.thr t with owes := [] }
    let a := th.g ra
    let b := th.g rb
    let n := b.toNat % 64
    let wrote (rd : Nat) (r f : Word) (c v : Bool) : Outcome :=
      .next { s with dev := s.dev.setThr t (th.wrote rd r ⟨decide (f = 0), f.getLsbD 63, c, v⟩) }
    let gives (i : Instr) (r : Word) (c v : Bool) : Prop := exec i s = wrote rd r r c v
    gives (.add t rd ra rb) (a + b) (decide (2 ^ 64 ≤ a.toNat + b.toNat)) (decide ((a + b).toInt ≠ a.toInt + b.toInt)) ∧
    gives (.sub t rd ra rb) (a - b) (decide (a.toNat < b.toNat)) (decide ((a - b).toInt ≠ a.toInt - b.toInt)) ∧
    gives (.and t rd ra rb) (a &&& b) false false ∧
    gives (.or t rd ra rb) (a ||| b) false false ∧
    gives (.xor t rd ra rb) (a ^^^ b) false false ∧
    gives (.andn t rd ra rb) (a &&& ~~~b) false false ∧
    gives (.shl t rd ra rb) (a <<< n) (decide (n ≠ 0) && a.getLsbD (64 - n)) false ∧
    gives (.shr t rd ra rb) (a >>> n) (decide (n ≠ 0) && a.getLsbD (n - 1)) false ∧
    gives (.sar t rd ra rb) (a.sshiftRight n) (decide (n ≠ 0) && a.getLsbD (n - 1)) false ∧
    gives (.mul t rd ra rb) (a * b) false false ∧
    gives (.mulhu t rd ra rb) (BitVec.ofNat 64 (a.toNat * b.toNat / 2 ^ 64)) false false ∧
    gives (.divu t rd ra rb) (if b = 0 then BitVec.allOnes 64 else a / b) false (decide (b = 0)) ∧
    gives (.remu t rd ra rb) (if b = 0 then a else a % b) false (decide (b = 0)) ∧
    (rd = 0 → exec (.cmp t rd ra rb) s =
      wrote 0 0 (a - b) (decide (a.toNat < b.toNat)) (decide ((a - b).toInt ≠ a.toInt - b.toInt)))

/-- R107, R109. Issued by a ready thread, at either privilege, each register-immediate operation answers a next state in which
that thread alone has changed. The immediate is extended with its sign for ADDI, CMPI and MOVI, with zeros for the logic; a
shift's count is IMM16[5:0], its other bits zero. MOVI and MOVK change no flags; MOVK replaces one halfword of g[rd].
Completes: ADDI, ANDI, ORI, XORI, SHLI, SHRI, SARI, CMPI, MOVI, MOVK. -/
def Obligations.ImmediateResults : Prop :=
  ∀ (s : State) (t : Fin 64) (rd ra : Fin 32) (imm : BitVec 16), s.dev.issues t →
    let th : Thread := { s.dev.thr t with owes := [] }
    let a := th.g ra
    let si : Word := imm.signExtend 64
    let zi : Word := imm.zeroExtend 64
    let n := imm.toNat
    let wrote (rd : Nat) (r f : Word) (c v : Bool) : Outcome :=
      .next { s with dev := s.dev.setThr t (th.wrote rd r ⟨decide (f = 0), f.getLsbD 63, c, v⟩) }
    let gives (i : Instr) (r : Word) (c v : Bool) : Prop := exec i s = wrote rd r r c v
    gives (.addi t rd ra imm) (a + si) (decide (2 ^ 64 ≤ a.toNat + si.toNat)) (decide ((a + si).toInt ≠ a.toInt + imm.toInt)) ∧
    gives (.andi t rd ra imm) (a &&& zi) false false ∧
    gives (.ori t rd ra imm) (a ||| zi) false false ∧
    gives (.xori t rd ra imm) (a ^^^ zi) false false ∧
    (n < 64 → gives (.shli t rd ra imm) (a <<< n) (decide (n ≠ 0) && a.getLsbD (64 - n)) false) ∧
    (n < 64 → gives (.shri t rd ra imm) (a >>> n) (decide (n ≠ 0) && a.getLsbD (n - 1)) false) ∧
    (n < 64 → gives (.sari t rd ra imm) (a.sshiftRight n) (decide (n ≠ 0) && a.getLsbD (n - 1)) false) ∧
    (rd = 0 → exec (.cmpi t rd ra imm) s =
      wrote 0 0 (a - si) (decide (a.toNat < si.toNat)) (decide ((a - si).toInt ≠ a.toInt - imm.toInt))) ∧
    (ra = 0 → Ends (.movi t rd ra imm) s (s.dev.setThr t (th.wrote rd si th.flags))) ∧
    (∀ k : Fin 4, ra.val = k.val → ∃ r : Word,
      Ends (.movk t rd ra imm) s (s.dev.setThr t (th.wrote rd r th.flags)) ∧
      r.extractLsb' (16 * k) 16 = imm ∧
      ∀ i < 64, ¬ (16 * k.val ≤ i ∧ i < 16 * k.val + 16) → r.getLsbD i = (th.g rd).getLsbD i)

/-- R110, R70. A load of a ready thread whose scratch address is aligned, within what the thread may reach (all of scratch at
PRIV 0, its window at PRIV 1) and not in a poisoned word zero-extends the little-endian bytes there into g[rd], changes no
flags, goes on, and changes nothing else: no memory, no other thread, no register.
Completes: LDB, LDH, LDW, LDD. -/
def Obligations.ScratchLoads : Prop :=
  ∀ (s : State) (t : Fin 64) (rd ra : Fin 32) (imm : BitVec 16) (p : Nat), s.dev.issues t →
    let th : Thread := { s.dev.thr t with owes := [] }
    let a := (th.g ra + imm.signExtend 64).toNat % 2 ^ 22
    let loads (i : Instr) (w : Nat) : Prop :=
      a % w = 0 → s.dev.scratchAddr th a w = some p → s.dev.scratchPoisoned p w = false →
        ∃ v : Word, Ends i s (s.dev.setThr t (th.wrote rd v th.flags)) ∧
          (∀ k < w, v.extractLsb' (8 * k) 8 = s.dev.wygel.scratch.read (p + k)) ∧ v.toNat < 2 ^ (8 * w)
    loads (.ldb t rd ra imm) 1 ∧ loads (.ldh t rd ra imm) 2 ∧ loads (.ldw t rd ra imm) 4 ∧ loads (.ldd t rd ra imm) 8

/-- R110, R111. A store of a ready thread whose scratch address is aligned and within reach writes the low bytes of g[rd] at
the address the thread's own address translation gives, and every byte outside them reads as before. A poisoned word stays poisoned
unless the store covers all 8 of its bytes. The thread goes on with its registers and flags as they were, and nothing else
changes.
Completes: STB, STH, STW, STD. -/
def Obligations.ScratchStores : Prop :=
  ∀ (s : State) (t : Fin 64) (rd ra : Fin 32) (imm : BitVec 16) (p : Nat), s.dev.issues t →
    let th : Thread := { s.dev.thr t with owes := [] }
    let a := (th.g ra + imm.signExtend 64).toNat % 2 ^ 22
    let stores (i : Instr) (w : Nat) : Prop :=
      a % w = 0 → s.dev.scratchAddr th a w = some p →
        ∃ m poison, Ends i s ({ s.dev.setThr t { th with pc := th.pc + 4 } with
            wygel := { s.dev.wygel with scratch := m, scratchPoison := poison } }) ∧
          (∀ k < w, m.read (p + k) = (th.g rd).extractLsb' (8 * k) 8) ∧
          (∀ x, x < p ∨ p + w ≤ x → m.read x = s.dev.wygel.scratch.read x) ∧
          (s.dev.wygel.scratch.wf = true → m.wf = true) ∧
          (∀ x, x ∈ poison ↔ x ∈ s.dev.wygel.scratchPoison ∧ ¬ (p ≤ 8 * x ∧ 8 * x + 8 ≤ p + w))
    stores (.stb t rd ra imm) 1 ∧ stores (.sth t rd ra imm) 2 ∧ stores (.stw t rd ra imm) 4 ∧ stores (.std t rd ra imm) 8

/-- R71, R70, R76. A misaligned scratch access of a ready thread takes ALIGN; an aligned one outside the thread's reach takes
SCRATCH; a load in reach that touches a poisoned word takes POISON. DETAIL is the address, EPC the instruction, and the access
has no other effect. -/
def Obligations.ScratchTraps : Prop :=
  ∀ (s : State) (t : Fin 64) (rd ra : Fin 32) (imm : BitVec 16), s.dev.issues t →
    let th : Thread := { s.dev.thr t with owes := [] }
    let a := (th.g ra + imm.signExtend 64).toNat % 2 ^ 22
    let traps (i : Instr) (w : Nat) (load : Bool) : Prop :=
      (a % w ≠ 0 → Ends i s ((s.dev.turn t).takeException t 4 th.pc a)) ∧
      (a % w = 0 → s.dev.scratchAddr th a w = none → Ends i s ((s.dev.turn t).takeException t 5 th.pc a)) ∧
      (∀ p, load = true → a % w = 0 → s.dev.scratchAddr th a w = some p → s.dev.scratchPoisoned p w = true →
        Ends i s ((s.dev.turn t).takeException t 8 th.pc a))
    traps (.ldb t rd ra imm) 1 true ∧ traps (.ldh t rd ra imm) 2 true ∧
    traps (.ldw t rd ra imm) 4 true ∧ traps (.ldd t rd ra imm) 8 true ∧
    traps (.stb t rd ra imm) 1 false ∧ traps (.sth t rd ra imm) 2 false ∧
    traps (.stw t rd ra imm) 4 false ∧ traps (.std t rd ra imm) 8 false

/-- R115, R116. BR of a ready thread goes to PC + 4 × sext(OFF21) exactly when its condition holds by the table of R115, else to
the next instruction; CALL also leaves the return address in g31; JR and CALLR go to g[ra], and CALLR reads its target before it
writes the return address to g[rd]. No flag, no other register, no memory and no other thread changes. (A target that is no
multiple of 4, or beyond 32 bits, is the model's choice: assumption 14. The statement takes aligned targets.)
Completes: BR, CALL, JR, CALLR. -/
def Obligations.BranchesAndJumps : Prop :=
  ∀ (s : State) (t : Fin 64) (rd ra rb : Fin 32) (cond : BitVec 5) (off : BitVec 21), s.dev.issues t →
    let th : Thread := { s.dev.thr t with owes := [] }
    let f := th.flags
    let target : BitVec 32 := BitVec.ofInt 32 ((th.pc.toNat : Int) + 4 * off.toInt)
    let ends (i : Instr) (x : Thread) : Prop := Ends i s (s.dev.setThr t x)
    let taken (k : Nat) (p : Bool) : Prop :=
      cond.toNat = k → ends (.br t cond off) { th with pc := if p then target else th.pc + 4 }
    (taken 0 true ∧ taken 1 f.z ∧ taken 2 (!f.z) ∧ taken 3 f.c ∧ taken 4 (!f.c) ∧ taken 5 f.n ∧ taken 6 (!f.n) ∧
      taken 7 f.v ∧ taken 8 (!f.v) ∧ taken 9 (f.n != f.v) ∧ taken 10 (f.n == f.v) ∧ taken 11 (f.z || f.n != f.v) ∧
      taken 12 (!f.z && f.n == f.v) ∧ taken 13 (!f.c && !f.z) ∧ taken 14 (f.c || f.z)) ∧
    (cond = 0 → ends (.call t cond off) { th.setG 31 ((th.pc + 4).zeroExtend 64) with pc := target }) ∧
    (∀ a : BitVec 32, th.g ra = a.zeroExtend 64 → 4 ∣ a.toNat →
      (rd = 0 → rb = 0 → ends (.jr t rd ra rb) { th with pc := a }) ∧
      (rb = 0 → ends (.callr t rd ra rb) { th.setG rd ((th.pc + 4).zeroExtend 64) with pc := a }))

/-- R116, R61, R79, R118. YLD of an unmarked ready thread goes on, and parks a marked one there; each other ready thread of its
engine is to issue once before it issues again. HLT frees the thread's
context and touches no other thread. ERET of a handler (PRIV 0, EXL 1) takes the PC from EPC and PRIV from ECAUSE.PPRIV and
clears EXL. FNC without a posted write outstanding goes on with C telling whether one failed since the previous FNC, and else
waits. SYS takes SYSCALL with the immediate as detail and the next instruction in EPC. Everything else stays.
Completes: YLD, HLT, ERET, FNC, SYS. -/
def Obligations.SystemGroup : Prop :=
  ∀ (s : State) (t : Fin 64), s.dev.issues t →
    let th : Thread := { s.dev.thr t with owes := [] }
    let next : Thread := { th with pc := th.pc + 4 }
    let ends (i : Instr) (x : Thread) : Prop := Ends i s (s.dev.setThr t x)
    (∃ ts, Ends (.yld t 0 0 0) s { s.dev with threads := ts } ∧
      Tab.get {} ts t = (if th.marked then { next with state := .parked } else next) ∧
      ∀ u, u ≠ t.val → Tab.get {} ts u = { s.dev.thr u with
        owes := (s.dev.thr u).owes ++ (if (s.dev.thr u).state = .run ∧ (s.dev.thr u).engine = th.engine then [t.val] else []) }) ∧
    Runs (.hlt t 0 0 0) s (fun d => d.thr t = {} ∧ (∀ u, u ≠ t.val → d.thr u = s.dev.thr u) ∧
      d.wygel.scratch = s.dev.wygel.scratch ∧ d.out = s.dev.out) ∧
    (th.priv = false → th.ecause.getLsbD 9 = true → 4 ∣ th.epc.toNat →
      ∃ x : Thread, ends (.eret t 0 0 0) x ∧ x = { th with pc := th.epc, priv := th.ecause.getLsbD 8, ecause := x.ecause } ∧
        ∀ b, x.ecause.getLsbD b = (th.ecause.getLsbD b && decide (b ≠ 9))) ∧
    ((s.dev.posted t = [] → ends (.fnc t 0 0 0) { next with
        flags := { th.flags with c := th.postFail }, postFail := false, wait := .ready }) ∧
      (s.dev.posted t ≠ [] → ends (.fnc t 0 0 0) { th with state := .wait, wait := .fence })) ∧
    (∀ imm, Ends (.sys t 0 0 imm) s ((s.dev.turn t).takeException t 0xA (th.pc + 4) imm.toNat))

/-- R116, R117, R63, R65. MFS reads NOW, PRIV, FID, EVMASK, EPC, ECAUSE and the flags (Z, N, C, V from bit 0 upward) by their
numbers; MTS writes EVMASK (a fold thread only its bits 56 to 63), EPC, ECAUSE without its reserved bits, and the flags; nothing
else changes. Both take PRIV for a fold thread naming EPC or ECAUSE, MTS also for NOW, PRIV and FID.
Completes: MFS, MTS. -/
def Obligations.SpecialRegisters : Prop :=
  ∀ (s : State) (t : Fin 64) (rd ra : Fin 32), s.dev.issues t →
    let th : Thread := { s.dev.thr t with owes := [] }
    let v := th.g ra
    let f := th.flags
    let bit (b : Bool) (k : Nat) : Word := if b then BitVec.ofNat 64 (2 ^ k) else 0
    let ends (i : Instr) (x : Thread) : Prop := Ends i s (s.dev.setThr t x)
    let reads (n : Fin 32) (w : Word) : Prop := ends (.mfs t rd 0 n) (th.wrote rd w th.flags)
    let writes (n : Fin 32) (x : Thread) : Prop := ends (.mts t 0 ra n) { x with pc := th.pc + 4 }
    let refuses (i : Instr) : Prop := Ends i s ((s.dev.turn t).takeException t 2 th.pc th.pc.toNat)
    (reads 0 (BitVec.ofNat 64 s.dev.now) ∧ reads 1 (if th.priv then 1 else 0) ∧ reads 2 (BitVec.ofNat 64 th.fid) ∧
      reads 3 th.evmask ∧ reads 6 (bit f.z 0 ||| bit f.n 1 ||| bit f.c 2 ||| bit f.v 3)) ∧
    (th.priv = false → reads 4 (th.epc.zeroExtend 64) ∧ reads 5 th.ecause ∧
      writes 4 { th with epc := v.setWidth 32 } ∧
      (∃ e : Word, writes 5 { th with ecause := e } ∧
        ∀ b, e.getLsbD b = (v.getLsbD b && decide (b < 10 ∨ 32 ≤ b)))) ∧
    (∃ m : Word, writes 3 { th with evmask := m } ∧
      ∀ b < 64, m.getLsbD b = if th.priv ∧ b < 56 then th.evmask.getLsbD b else v.getLsbD b) ∧
    writes 6 { th with flags := ⟨v.getLsbD 0, v.getLsbD 1, v.getLsbD 2, v.getLsbD 3⟩ } ∧
    (th.priv = true → refuses (.mfs t rd 0 4) ∧ refuses (.mfs t rd 0 5) ∧ refuses (.mts t 0 ra 4) ∧ refuses (.mts t 0 ra 5)) ∧
    refuses (.mts t 0 ra 0) ∧ refuses (.mts t 0 ra 1) ∧ refuses (.mts t 0 ra 2)

/-- R66, R120, R118, R119. EVS of event e of 16 to 63 latches e in exactly the live threads whose EVMASK accepts it: every manager
thread, and for e of 56 or more also the threads of the fold (a fold thread's own, a manager thread's g[ra][7:0]); the issuing
thread goes on, and every other register of every thread stays. FRSE puts one record with the severity, code and detail given
into the thread's own fault source, its target taken from g[ra] for UC-C, and goes on; while that source still holds a record
it waits.
Completes: EVS, FRSE. -/
def Obligations.SoftwareEventsAndFaults : Prop :=
  ∀ (s : State) (t : Fin 64) (ra : Fin 32) (imm : BitVec 16), s.dev.issues t →
    let th : Thread := { s.dev.thr t with owes := [] }
    let e := imm.toNat
    let fold := if th.manager then (th.g ra).toNat % 256 else th.fid
    (∀ rd : Fin 32, 16 ≤ e → e < 64 → (th.priv = false ∨ 56 ≤ e) →
      ∃ ts, Ends (.evs t rd ra imm) s ({ s.dev with threads := ts }) ∧
        ∀ u, ∃ m : Word, Tab.get {} ts u =
            { s.dev.thr u with
              evpend := m, pc := if u = t then th.pc + 4 else (s.dev.thr u).pc, owes := if u = t then [] else (s.dev.thr u).owes } ∧
          ∀ b, m.getLsbD b = ((s.dev.thr u).evpend.getLsbD b ||
            (decide (b = e) && (s.dev.thr u).live && (s.dev.thr u).evmask.getLsbD e &&
              ((s.dev.thr u).manager || (decide (56 ≤ e) && (s.dev.thr u).fid == fold))))) ∧
    (th.priv = false →
      let sev := imm.toNat / 2 ^ 14
      let target (n : Nat) : Nat := if sev = 2 then n else 0
      let r : FaultRec := ⟨sev, imm.toNat % 2 ^ 14, target ((th.g ra).toNat / 4096 % 16), target ((th.g ra).toNat % 4096), th.g ra⟩
      let src := s.dev.src (412 + t)
      (src.queue = [] → Ends (.frse t 0 ra imm) s ((s.dev.setSrc (412 + t) { src with queue := [(r, false)] }).setThr t { th with pc := th.pc + 4 })) ∧
      (src.queue ≠ [] → Ends (.frse t 0 ra imm) s (s.dev.setThr t { th with state := .wait, wait := .faultSlot r })))

/-- R120, R121, R123, R124. EVW of an unmarked thread returns the lowest pending enabled event (a fold thread sees 56 to 63 only),
with its bit cleared and C = 0; else all ones and C = 1 if its deadline has passed; else it waits. WAT returns NOW with C = 1
exactly if its instant had passed at issue, or waits for it. EVW_DEADLINE ends a wait as the deadline passes, WAT_EXPIRE as the
instant comes, NOW having reached it (that the arrival of an instant is the passage of time is the model's: assumption 2).
Nothing else changes.
Completes: EVW, WAT, EVW_DEADLINE, WAT_EXPIRE. -/
def Obligations.EventAndInstantWaits : Prop :=
  ∀ (s : State) (t : Fin 64) (rd ra : Fin 32) (sw : BitVec 9),
    let th := s.dev.thr t
    let now : Thread := { th with owes := [] }
    let sees (e : Nat) : Prop := th.evpend.getLsbD e = true ∧ th.evmask.getLsbD e = true ∧ (th.priv = true → 56 ≤ e)
    let back (x : Thread) (rd : Nat) (v : Word) (c : Bool) (pend : Word) : Thread :=
      { x.setG rd v with pc := x.pc + 4, flags := { x.flags with c := c }, evpend := pend, state := .run, wait := .ready }
    let ends (i : Instr) (d : Dev) (x : Thread) : Prop := Ends i s (d.setThr t x)
    let due := ((th.g ra).toNat + sw.toNat * 1024) % 2 ^ 64
    (s.dev.issues t → th.marked = false →
      (∀ e < 64, sees e → (∀ k < e, ¬ sees k) → ∃ m : Word, (∀ b, m.getLsbD b = (th.evpend.getLsbD b && decide (b ≠ e))) ∧
        ends (.evw t rd ra 0 0) s.dev (back now rd (BitVec.ofNat 64 e) false m)) ∧
      ((∀ e < 64, ¬ sees e) →
        (th.g ra ≠ 0 → (th.g ra).toNat ≤ s.dev.now → ends (.evw t rd ra 0 0) s.dev (back now rd (BitVec.allOnes 64) true th.evpend)) ∧
        (th.g ra = 0 ∨ s.dev.now < (th.g ra).toNat → ends (.evw t rd ra 0 0) s.dev
          { now with state := .wait, wait := .event rd (th.g ra) }))) ∧
    (s.dev.issues t →
      (due ≤ s.dev.now → ends (.wat t rd ra 0 0 sw) s.dev
        (back now rd (BitVec.ofNat 64 s.dev.now) (decide (due < s.dev.now)) th.evpend)) ∧
      (s.dev.now < due → ends (.wat t rd ra 0 0 sw) s.dev
        { now with state := .wait, wait := .instant rd (BitVec.ofNat 64 due) })) ∧
    (s.dev.inReset = false → s.dev.threadsHeld = false → th.state = .wait →
      (∀ r dl, th.wait = .event r dl → dl ≠ 0 → (∀ e < 64, ¬ sees e) → th.marked = false →
        ends (.evwDeadline t) (s.dev.upTo dl.toNat) (back th r (BitVec.allOnes 64) true th.evpend)) ∧
      (∀ r i, th.wait = .instant r i → s.dev.time.steppedAt = none →
        ends (.watExpire t) (s.dev.upTo i.toNat)
          (back th r (BitVec.ofNat 64 (max s.dev.now i.toNat)) false th.evpend)))

/-- R120. SPWN of a ready manager thread with a free context starts a thread of the same image: in RUN, PC and g1 as given, every
other general register and EVMASK zero, on an engine that is ACTIVE and has as many free contexts as any; the issuing thread gets its number
with C = 0. With no free context it gets all ones with C = 1 and nothing starts. No other thread changes.
Completes: SPWN. -/
def Obligations.SpawnStartsThread : Prop :=
  ∀ (s : State) (t : Fin 64) (rd ra rb : Fin 32), s.dev.issues t → (s.dev.thr t).priv = false →
    let th : Thread := { s.dev.thr t with owes := [] }
    (s.dev.newContext = none → Ends (.spwn t rd ra rb 0) s (s.dev.setThr t (th.wrote rd (BitVec.allOnes 64) { th.flags with c := true }))) ∧
    (∀ n e k, s.dev.newContext = some (n, e, k) → ∃ x : Thread,
      Ends (.spwn t rd ra rb 0) s ((s.dev.setThr n x).setThr t (th.wrote rd (BitVec.ofNat 64 n) { th.flags with c := false })) ∧
      (s.dev.thr n).state = .free ∧ n < 64 ∧ x.state = .run ∧ x.engine = e ∧ x.slot = k ∧ x.g 1 = th.g rb ∧
      (∀ r, r ≠ 1 → x.g r = 0) ∧ x.evmask = 0 ∧ ((th.g ra).toNat < 2 ^ 32 → 4 ∣ (th.g ra).toNat → x.pc.toNat = (th.g ra).toNat) ∧
      s.dev.fget WGL_ENG_CTRL.STATE 0 e = 0 ∧ 0 < s.dev.freeSlots e ∧
      (∀ i < 16, s.dev.freeSlots i ≤ s.dev.freeSlots e) ∧ ∀ i < e, s.dev.freeSlots i < s.dev.freeSlots e)

/-- R77, R78, R65. An exception with a handler and EXL 0 saves the program counter given in EPC and the code, PRIV, EXL = 1 and the
detail in ECAUSE, sets PRIV to 0 and goes on at the handler (its address with bits 1:0 as 0, R64), with general registers and flags as they were. Without a handler,
or with EXL 1, the thread goes to FAULTED with its registers, EPC and ECAUSE kept, no hot update counting it (R93), one thread fault waits in its engine's source
if that has room, and a fold thread's program reads FAULTED. No other thread changes. -/
def Obligations.TakingAnException : Prop :=
  ∀ (d : Dev) (t code detail : Nat) (epc : BitVec 32), code < 256 → detail < 2 ^ 32 →
    let th := d.thr t
    (∀ h, d.handlerOf th = some h → th.ecause.getLsbD 9 = false → ∃ e : Word,
      d.takeException t code epc detail = d.setThr t { th with
        state := .run, wait := .ready, ecode := code, epc := epc, priv := false, pc := BitVec.ofNat 32 (h / 4 * 4), ecause := e } ∧
      e.toNat = code + (if th.priv then 256 else 0) + 512 + detail * 2 ^ 32) ∧
    (d.handlerOf th = none ∨ th.ecause.getLsbD 9 = true →
      (d.takeException t code epc detail).thr t = { th with state := .faulted, wait := .ready, marked := false, ecode := code } ∧
      (∀ u, u ≠ t → (d.takeException t code epc detail).thr u = d.thr u) ∧
      (th.manager = false → th.fid < 256 → (d.takeException t code epc detail).fget FLD_PROG_STAT.STATE th.fid = 3) ∧
      ((d.src (202 + th.engine)).queue.length < 4 →
        ∃ r : FaultRec, r.sev = 1 ∧ r.code = 0x90 ∧
          ((d.takeException t code epc detail).src (202 + th.engine)).queue =
            (d.src (202 + th.engine)).queue ++ [(r, false)]))

/-- R61, R76, R80, R105, R106, R68. For every instruction that a thread issues: a thread that is not in RUN, and any thread while
threads are held or while it owes another its engine (R116), issues nothing; with the PC outside the code section it takes FETCH, EPC and detail the PC; an uncorrectable
program-store word faults it with no handler; a field that must be zero and is not, or an unlisted FUNC, COND or MODE, takes
ILLEGAL; an instruction for managers only at PRIV 1 takes PRIV (that ILLEGAL comes before PRIV is the model's choice: assumption
24). None of these has another effect. -/
def Obligations.InstructionsNotExecuted : Prop :=
  ∀ (s : State) (i : Instr) (t : Fin 64), issuer i = some t → s.dev.inReset = false → s.dev.fget CSP_STATUS.PHASE ≠ 4 →
    let th : Thread := { s.dev.thr t with owes := [] }
    (th.state ≠ .run ∨ s.dev.threadsHeld = true ∨ s.dev.mustYield t = true → exec i s = .next s) ∧
    (th.state = .run → s.dev.threadsHeld = false → s.dev.mustYield t = false → s.dev.wygel.update = none → ∀ im, s.dev.codeOf th = some im →
      (im.codeLen ≤ th.pc.toNat → Ends i s ((s.dev.turn t).takeException t 3 th.pc th.pc.toNat)) ∧
      (th.pc.toNat < im.codeLen → fetchWord im th.pc ∈ s.dev.wygel.pstoreBad → Runs i s fun d =>
        d.thr t = { th with state := .faulted, wait := .ready, marked := false })) ∧
    (s.dev.issues t → fieldsLegal i = false → Ends i s ((s.dev.turn t).takeException t 1 th.pc th.pc.toNat)) ∧
    (s.dev.issues t → fieldsLegal i = true → managerOnly i = true → th.priv = true →
      Ends i s ((s.dev.turn t).takeException t 2 th.pc th.pc.toNat))

/-- R112, R143, R6, R160, R75. A CLD of a ready thread at an aligned address of a mapped register whose block answers zero-extends the
bytes it covers of what the register shows, write-only bits as zero, into g[rd], changes no flag, and goes on. A fold thread's
address is taken within its own fold's window of 64 KiB. Of the register file only fields of that register with the access code
RC that the access covers whole change, to their reset value; nothing else does.
Completes: CLD_B, CLD_H, CLD_W, CLD_D. -/
def Obligations.RegisterLoads : Prop :=
  ∀ (s : State) (t : Fin 64) (rd ra : Fin 32) (off : BitVec 16) (r : Reg), s.dev.issues t →
    let th : Thread := { s.dev.thr t with owes := [] }
    let ea := (th.g ra + off.signExtend 64).toNat % 2 ^ 48
    let a := if th.priv then 0x200000000000 + th.fid * 0x10000 + ea else ea
    let loads (i : Instr) (w : Nat) : Prop :=
      ea % w = 0 → (th.priv = true → ea < 0x10000 ∧ th.fid < 256) → regAt a = some r → a < 2 ^ 47 → s.dev.regWaits a = false →
        ∃ (v : Word) (regs : List RegCell),
          Ends i s { s.dev.setThr t (th.wrote rd v th.flags) with regs := regs } ∧
          (∀ b, v.getLsbD b = (decide (b < 8 * w) && (s.dev.shown r).getLsbD (8 * (a % 8) + b))) ∧
          RegsBut [r] s.dev { s.dev with regs := regs } ∧
          (∀ f ∈ r.k.fields, bitsOf (({ s.dev with regs := regs } : Dev).rd r) f.lo f.w =
            if f.acc = .rc ∧ 8 * (a % 8) ≤ f.lo ∧ f.lo + f.w ≤ 8 * (a % 8 + w) then bitsOf (r.resetVal s.dev.fuses) f.lo f.w
            else bitsOf (s.dev.rd r) f.lo f.w)
    loads (.cldB t rd ra off) 1 ∧ loads (.cldH t rd ra off) 2 ∧ loads (.cldW t rd ra off) 4 ∧ loads (.cldD t rd ra off) 8

/-- R112, R143, R6. A CST by a ready manager thread at an aligned address of a mapped register, one that only stores (it starts
nothing and is not computed) and of which the access covers no staged and no lock field: each covered bit of an RW or WO field
takes the bit of g[rd], each covered W1C bit written 1 clears, every other bit of that register stays, and so does every other
register and everything else but the thread, which goes on.
Completes: CST_B, CST_H, CST_W, CST_D. -/
def Obligations.RegisterStores : Prop :=
  ∀ (s : State) (t : Fin 64) (rd ra : Fin 32) (off : BitVec 16) (r : Reg), s.dev.issues t → (s.dev.thr t).priv = false →
    let th : Thread := { s.dev.thr t with owes := [] }
    let a := (th.g ra + off.signExtend 64).toNat % 2 ^ 48
    let stores (i : Instr) (w : Nat) : Prop :=
      a % w = 0 → regAt a = some r → a < 2 ^ 47 → s.dev.regWaits a = false → r.k.storesOnly = true →
      (∀ f ∈ r.k.fields, f.acc = .st ∨ f.acc = .stlk ∨ f.acc = .lk → f.lo + f.w ≤ 8 * (a % 8) ∨ 8 * (a % 8 + w) ≤ f.lo) →
        ∃ x : Word, Ends i s ((s.dev.setThr t { th with pc := th.pc + 4 }).wr r x) ∧
          ∀ b < 64, x.getLsbD b =
            if 8 * (a % 8) ≤ b ∧ b < 8 * (a % 8 + w) then
              let written := (th.g rd).getLsbD (b - 8 * (a % 8))
              if r.k.hasBit b (fun c => c == .rw || c == .wo) then written
              else if r.k.hasBit b (fun c => c == .w1c) then (s.dev.rd r).getLsbD b && !written
              else (s.dev.rd r).getLsbD b
            else (s.dev.rd r).getLsbD b
    stores (.cstB t rd ra off) 1 ∧ stores (.cstH t rd ra off) 2 ∧ stores (.cstW t rd ra off) 4 ∧ stores (.cstD t rd ra off) 8

/-- R71, R73, R75, R144, R156. A CLD or CST of a ready thread at a misaligned address takes ALIGN and is recorded MISALIGNED; a fold
thread's beyond its 64 KiB takes CSPACE, recorded WINDOW; one where no register is mapped takes CSPACE, recorded UNMAPPED; one of
a block that does not answer during a soft reset waits, and CSBUS_TIMEOUT then takes CSBUS, recorded UNANSWERED. The record names
the address and the thread. No register but CSP_ERR and its counter changes (the program status and counters of a thread fault
apart, where there is no handler). -/
def Obligations.RegisterAccessTraps : Prop :=
  ∀ (s : State) (t : Fin 64) (rd ra : Fin 32) (off : BitVec 16), s.dev.issues t →
    let th : Thread := { s.dev.thr t with owes := [] }
    let ea := (th.g ra + off.signExtend 64).toNat % 2 ^ 48
    let a := if th.priv then 0x200000000000 + th.fid * 0x10000 + ea else ea
    let source := if th.priv then 1 else 0
    let recorded (d : Dev) (cause addr : Nat) : Prop :=
      d.fget CSP_ERR.CAUSE = cause ∧ d.fget CSP_ERR.ADDR = addr % 2 ^ 48 ∧ d.fget CSP_ERR.SOURCE = source ∧
      d.fget CSP_ERR.THREAD = t.val ∧ d.fget CSP_ERR.VALID = 1 ∧
      OnlyRegs [⟨.CSP_ERR, 0, 0⟩, ⟨.CSP_ERR_COUNT, 0, 0⟩] (s.dev.turn t) d
    let traps (i : Instr) (cause code addr : Nat) : Prop :=
      ∃ d, recorded d cause addr ∧ Ends i s (d.takeException t code th.pc (ea % 2 ^ 32))
    let access (i : Instr) (w : Nat) (op : CsOp) : Prop :=
      (ea % w ≠ 0 → traps i 5 4 (th.csAddr ea)) ∧
      (ea % w = 0 → th.priv = true → 0x10000 ≤ ea → traps i 7 6 (th.csAddr ea)) ∧
      (ea % w = 0 → (th.priv = true → ea < 0x10000 ∧ th.fid < 256) → a < 2 ^ 47 → mapped a = false → traps i 1 6 a) ∧
      (∀ r, ea % w = 0 → (th.priv = true → ea < 0x10000 ∧ th.fid < 256) → a < 2 ^ 47 → regAt a = some r →
        s.dev.regWaits a = true →
        Ends i s (s.dev.setThr t { th with state := .wait, wait := .regAccess op w a }))
    (access (.cldB t rd ra off) 1 (.load rd) ∧ access (.cldH t rd ra off) 2 (.load rd) ∧
      access (.cldW t rd ra off) 4 (.load rd) ∧ access (.cldD t rd ra off) 8 (.load rd) ∧
      access (.cstB t rd ra off) 1 (.store (th.g rd)) ∧ access (.cstH t rd ra off) 2 (.store (th.g rd)) ∧
      access (.cstW t rd ra off) 4 (.store (th.g rd)) ∧ access (.cstD t rd ra off) 8 (.store (th.g rd)))

/-- R61, R73, R74, R116, R135. THREAD_WAKE ends a fence wait once no posted write is outstanding, gives a pool read's answered bytes
to g[rd], or the first index at which a search matches, with C = 0 (all ones and C = 1 where none does, V = 0 with no epoch flip
since it began). CSBUS_TIMEOUT takes CSBUS. POOL_ACCESS_TIMEOUT takes POISON for a read and loads nothing; a posted write counts
as failed for the next FNC.
Completes: THREAD_WAKE, CSBUS_TIMEOUT, POOL_ACCESS_TIMEOUT. -/
def Obligations.WaitsEnd : Prop :=
  ∀ (s : State) (t : Fin 64), s.dev.inReset = false → s.dev.threadsHeld = false → s.dev.wygel.update = none →
    let th := s.dev.thr t
    let back : Thread := { th with state := .run, wait := .ready }
    th.state = .wait →
    (th.wait = .fence → s.dev.posted t = [] → Ends (.threadWake t) s (s.dev.setThr t
      { back with pc := th.pc + 4, flags := { th.flags with c := th.postFail }, postFail := false })) ∧
    (∀ rd w tag fl v, th.wait = .poolRead rd w tag → s.dev.flight tag = some fl → fl.answer = some (v, false) →
      Ends (.threadWake t) s ((s.dev.dropFlight tag).setThr t
        (back.wrote rd (BitVec.ofNat 64 (v % 2 ^ (8 * w))) th.flags))) ∧
    (∀ rd w tag fl v, th.wait = .poolRead rd w tag → s.dev.flight tag = some fl → fl.answer = some (v, true) →
      Ends (.threadWake t) s
        (((s.dev.dropFlight tag).setThr t back).takeException t 8 th.pc (fl.addr % 2 ^ 32))) ∧
    (∀ x : Search, th.wait = .search x → s.dev.regWaits x.base = false → s.dev.commits.flips = x.flips →
      let matches_ (w : Word) : Prop := (x.mode = 0 → w &&& x.msk = x.key) ∧ (x.mode = 1 → w &&& x.msk ≠ x.key) ∧
        (x.mode = 2 → (w &&& x.msk).toNat < x.key.toNat) ∧ (x.mode = 3 → x.key.toNat ≤ (w &&& x.msk).toNat)
      let hit (i : Nat) : Prop :=
        (∃ r, regAt (x.base + i * x.stride) = some r ∧ matches_ (s.dev.shown r)) ∨
        (regAt (x.base + i * x.stride) = none ∧ calibrationAt (x.base + i * x.stride) = true ∧
          matches_ (s.dev.calibrationWord (x.base + i * x.stride)))
      x.mode < 4 →
      (∀ i, x.first ≤ i → i < x.count → i < 2 ^ 64 - 1 → hit i → (∀ k, x.first ≤ k → k < i → ¬ hit k) →
        Ends (.threadWake t) s (s.dev.setThr t (back.wrote x.rd (BitVec.ofNat 64 i) ⟨false, false, false, false⟩))) ∧
      ((∀ k, x.first ≤ k → k < x.count → ¬ hit k) →
        Ends (.threadWake t) s (s.dev.setThr t (back.wrote x.rd (BitVec.allOnes 64) ⟨false, false, true, false⟩)))) ∧
    (∀ op w a, th.wait = .regAccess op w a → ∃ d, d.fget CSP_ERR.CAUSE = 2 ∧ d.fget CSP_ERR.THREAD = t.val ∧
      OnlyRegs [⟨.CSP_ERR, 0, 0⟩, ⟨.CSP_ERR_COUNT, 0, 0⟩] (s.dev.setThr t back) d ∧
      Ends (.csbusTimeout t) s (d.takeException t 9 th.pc (a % 2 ^ 32))) ∧
    (∀ rd w tag fl, th.wait = .poolRead rd w tag → s.dev.flight tag = some fl → fl.answer = none → fl.write = false →
      fl.src = .thread t → Ends (.poolAccessTimeout tag) s
        (((s.dev.dropFlight tag).setThr t back).takeException t 8 th.pc (fl.addr % 2 ^ 32))) ∧
    (∀ tag fl, s.dev.flight tag = some fl → fl.answer = none → fl.write = true → fl.src = .thread t →
      Ends (.poolAccessTimeout tag) s ((s.dev.dropFlight tag).setThr t { th with postFail := true }))

/-- R134, R135, R136. CAS on scratch returns the old bytes in g[rd], sets Z exactly when they equal the low bytes g[rd] held, and
only then stores the low bytes of g[rb] there; on a control-space register with staged fields it takes CSPACE; on one that only
stores, has no RC field and whose lock and staged fields it does not cover it likewise returns the old bytes and stores only on
a match. TFND by a manager thread with a sound search block takes the thread to WAIT with the search as the block describes it;
a block with a field outside its rule takes CSPACE. (That a 4-byte CAS compares the low 4 bytes of g[rd] is read from the spec:
assumption 25.)
Completes: CAS, TFND. -/
def Obligations.CompareAndSwapAndFind : Prop :=
  ∀ (s : State) (t : Fin 64) (rd ra rb : Fin 32), s.dev.issues t →
    let th : Thread := { s.dev.thr t with owes := [] }
    let a := (th.g ra).toNat % 2 ^ 22
    let k := (th.g ra).toNat % 2 ^ 48
    let swapped (v : Word) (z : Bool) : Thread := th.wrote rd v { th.flags with z := z }
    let low (w : Nat) (v : Word) : Nat := v.toNat % 2 ^ (8 * w)
    (∀ (w p : Nat) (func : BitVec 11), (w = 4 ∧ func = 0) ∨ (w = 8 ∧ func = 2) → a % w = 0 →
      s.dev.scratchAddr th a w = some p → s.dev.scratchPoisoned p w = false →
      ∃ old : Word, old.toNat < 2 ^ (8 * w) ∧ (∀ j < w, old.extractLsb' (8 * j) 8 = s.dev.wygel.scratch.read (p + j)) ∧
        (old.toNat ≠ low w (th.g rd) → Ends (.cas t rd ra rb func) s (s.dev.setThr t (swapped old false))) ∧
        (old.toNat = low w (th.g rd) → ∃ m poison,
          Ends (.cas t rd ra rb func) s { s.dev.setThr t (swapped old true) with
            wygel := { s.dev.wygel with scratch := m, scratchPoison := poison } } ∧
          (∀ j < w, m.read (p + j) = (th.g rb).extractLsb' (8 * j) 8) ∧
          (∀ x, x < p ∨ p + w ≤ x → m.read x = s.dev.wygel.scratch.read x))) ∧
    (∀ (w : Nat) (func : BitVec 11) (r : Reg), (w = 4 ∧ func = 1) ∨ (w = 8 ∧ func = 3) → th.priv = false → k % w = 0 →
      k < 2 ^ 47 → regAt k = some r → s.dev.regWaits k = false →
      let old := (s.dev.shown r).toNat / 2 ^ (8 * (k % 8)) % 2 ^ (8 * w)
      (r.k.stagedMask ≠ 0 → ∃ d, d.fget CSP_ERR.CAUSE = 3 ∧
        OnlyRegs [⟨.CSP_ERR, 0, 0⟩, ⟨.CSP_ERR_COUNT, 0, 0⟩] (s.dev.turn t) d ∧
        Ends (.cas t rd ra rb func) s (d.takeException t 6 th.pc (k % 2 ^ 32))) ∧
      (r.k.storesOnly = true → (∀ f ∈ r.k.fields, f.acc ≠ .rc ∧ f.acc ≠ .st ∧ f.acc ≠ .stlk ∧ f.acc ≠ .lk) →
        (old ≠ low w (th.g rd) → Ends (.cas t rd ra rb func) s (s.dev.setThr t (swapped (BitVec.ofNat 64 old) false))) ∧
        (old = low w (th.g rd) → ∃ x, Ends (.cas t rd ra rb func) s
          ((s.dev.setThr t (swapped (BitVec.ofNat 64 old) true)).wr r x) ∧
          ∀ b < 64, r.k.hasBit b (fun c => c == .rw || c == .wo) = true → 8 * (k % 8) ≤ b → b < 8 * (k % 8 + w) →
            x.getLsbD b = (th.g rb).getLsbD (b - 8 * (k % 8))))) ∧
    (∀ (p : Nat) (func : BitVec 11), func.toNat < 4 → th.priv = false → a % 8 = 0 → s.dev.scratchAddr th a 32 = some p →
      p + 32 ≤ 2 ^ 22 → s.dev.scratchPoisoned p 32 = false →
      let field (o n : Nat) : Nat := leNat (s.dev.wygel.scratch.readList (p + o) n)
      let sound : Prop := field 0 8 % 8 = 0 ∧ field 8 4 % 8 = 0 ∧ 8 ≤ field 8 4 ∧ field 8 4 ≤ 65536 ∧
        1 ≤ field 12 4 ∧ field 12 4 ≤ 4194304
      (¬ sound → Ends (.tfnd t rd ra rb func) s ((s.dev.turn t).takeException t 6 th.pc (field 0 8 % 2 ^ 32))) ∧
      (sound → (∀ i < field 12 4, field 0 8 + i * field 8 4 < 2 ^ 47 ∧ (regAt (field 0 8 + i * field 8 4)).isSome) →
        let x : Search := ⟨rd, field 0 8, field 8 4, field 12 4, (th.g rb).toNat, BitVec.ofNat 64 (field 16 8),
          BitVec.ofNat 64 (field 24 8), func.toNat, s.dev.commits.flips⟩
        Ends (.tfnd t rd ra rb func) s (s.dev.setThr t { th with state := .wait, wait := .search x })))

/-- R127, R128. STG of a ready manager thread appends one write, of the low 4 or all 8 bytes of g[rd] as it is now, to the set that
g[rb][3:0] names if that is OPEN and holds fewer than 4,096; it changes no register and no flag and makes no access. Otherwise, in
this order, it takes ALIGN, CSPACE (unmapped, or no staged field), STAGE, each with the address as detail and nothing recorded.
Completes: STG_W, STG_D. -/
def Obligations.StagingWrites : Prop :=
  ∀ (s : State) (t : Fin 64) (rd ra rb : Fin 32), s.dev.issues t → (s.dev.thr t).priv = false → s.dev.phase ≠ phSoft →
    let th : Thread := { s.dev.thr t with owes := [] }
    let a := (th.g ra).toNat % 2 ^ 48
    let n := (th.g rb).toNat % 16
    let ws := s.dev.setWrites n
    let traps (i : Instr) (code : Nat) : Prop := Ends i s ((s.dev.turn t).takeException t code th.pc (a % 2 ^ 32))
    let stages (i : Instr) (w : Nat) (v : Word) : Prop :=
      (a % w ≠ 0 → traps i 4) ∧
      (a % w = 0 → regAt a = none → traps i 6) ∧
      (∀ r, a % w = 0 → regAt a = some r →
        (r.k.stagedMask = 0 → traps i 6) ∧
        (r.k.stagedMask ≠ 0 → s.dev.fget TIM_COMMIT_STAT.STATE 0 n ≠ 1 ∨ 4096 ≤ ws.length → traps i 0xB) ∧
        (r.k.stagedMask ≠ 0 → s.dev.fget TIM_COMMIT_STAT.STATE 0 n = 1 → ws.length < 4096 → ∃ sets,
          Ends i s { s.dev.setThr t { th with pc := th.pc + 4 } with commits := { s.dev.commits with sets := sets } } ∧
          Tab.get [] sets n = ws ++ [⟨a, w, v, t⟩] ∧ ∀ m, m ≠ n → Tab.get [] sets m = s.dev.setWrites m))
    stages (.stgW t rd ra rb) 4 (BitVec.ofNat 64 ((th.g rd).toNat % 2 ^ 32)) ∧ stages (.stgD t rd ra rb) 8 (th.g rd)

/-- R126, R130, R131, R132. By a ready manager thread: CMT.OPEN takes a FREE set to OPEN with no write in it, CMT.DISCARD an OPEN one
to FREE; both give 0 and Z = 1 and change nothing else. In a set of any other state each mode gives 0xF with Z = 0 and changes
nothing else; 0xF is no status of a commit. CMT.COMMIT of an OPEN set, with writes or without, gives g[rd] and LAST_STATUS the status of its checks, Z telling whether that is ACCEPTED;
accepted, the set is PENDING, recorded behind those pending already with T as its instant; else it stays OPEN with its writes.
Completes: CMT_COMMIT, CMT_OPEN, CMT_DISCARD. -/
def Obligations.CommitForms : Prop :=
  ∀ (s : State) (t : Fin 64) (rd ra rb : Fin 32) (sw : BitVec 9), s.dev.issues t → (s.dev.thr t).priv = false →
    s.dev.phase ≠ phSoft →
    let th : Thread := { s.dev.thr t with owes := [] }
    let n := (th.g rb).toNat % 16
    let state := s.dev.fget TIM_COMMIT_STAT.STATE 0 n
    let gives (v : Nat) (z : Bool) : Thread := th.wrote rd (BitVec.ofNat 64 v) { th.flags with z := z }
    let moves (i : Instr) (k : Nat) : Prop := ∃ sets,
      Ends i s ({ (s.dev.fset TIM_COMMIT_STAT.STATE k 0 n) with commits := { s.dev.commits with sets := sets } }.setThr t (gives 0 true)) ∧
      Tab.get [] sets n = [] ∧ ∀ m, m ≠ n → Tab.get [] sets m = s.dev.setWrites m
    let T := ((th.g ra).toNat / 1024 * 1024 + sw.toNat * 1024) % 2 ^ 64
    s.dev.commitStatus n T ≠ 0xF ∧
    (state = 0 → moves (.cmtOpen t rd 0 rb 0) 1) ∧
    (state = 1 → moves (.cmtDiscard t rd 0 rb 0) 0) ∧
    (state ≠ 0 → Ends (.cmtOpen t rd 0 rb 0) s (s.dev.setThr t (gives 0xF false))) ∧
    (state ≠ 1 → Ends (.cmtDiscard t rd 0 rb 0) s (s.dev.setThr t (gives 0xF false)) ∧
      Ends (.cmtCommit t rd ra rb sw) s (s.dev.setThr t (gives 0xF false))) ∧
    (state = 1 → s.dev.commitStatus n T = 0 → Runs (.cmtCommit t rd ra rb sw) s fun d =>
      (d.thr t).g rd = 0 ∧ (d.thr t).flags.z = true ∧ d.fget TIM_COMMIT_STAT.STATE 0 n = 2 ∧
      d.fget TIM_COMMIT_STAT.LAST_STATUS 0 n = 0 ∧ d.fget TIM_COMMIT_INSTANT.INSTANT 0 n = T ∧ d.commits.order = s.dev.commits.order ++ [n]) ∧
    (∀ st, st = s.dev.commitStatus n T → state = 1 → st ≠ 0 → Runs (.cmtCommit t rd ra rb sw) s fun d =>
      (rd ≠ 0 → (d.thr t).g rd = BitVec.ofNat 64 st) ∧ (d.thr t).flags.z = false ∧
      d.fget TIM_COMMIT_STAT.STATE 0 n = 1 ∧ d.fget TIM_COMMIT_STAT.LAST_STATUS 0 n = st ∧
      d.setWrites n = s.dev.setWrites n ∧ d.commits.order = s.dev.commits.order)

/-- R38, R39. The status of a commit of set n for instant T: NOTIME (4) unless the time unit is LOCKED or in HOLDOVER; then, in the
device fault state, FAULTED (10); LATE (2) for an instant nearer than 2,048 ns; FAR (3) for one more than 2^30 ns ahead; ORDER (5)
before, and CLOSE (6) less than 65,536 ns after, the latest pending or flipped one. -/
def Obligations.CommitChecks : Prop :=
  ∀ (d : Dev) (n T : Nat),
    (d.timeGood = false → d.commitStatus n T = 4) ∧
    (d.timeGood = true → d.inFault = true → d.commitStatus n T = 10) ∧
    (d.timeGood = true → d.inFault = false →
      (T < d.now + 2048 → d.commitStatus n T = 2) ∧
      (d.now + 2 ^ 30 < T → d.commitStatus n T = 3) ∧
      (∀ x, d.lastInstant = some x → d.now + 2048 ≤ T → T ≤ d.now + 2 ^ 30 →
        (T < x → d.commitStatus n T = 5) ∧ (x < T → T < x + 65536 → d.commitStatus n T = 6)))

/-- R137, R138, R139. MSND by a ready manager thread of 1 to 4,096 bytes at an aligned scratch address gives 2 without a session, 1 with
the transmit queue of 64 full, else 0 with Z = 1 and exactly the message (its image's ID, the channel, the bytes) queued and sent.
MRCV takes the oldest message of its image that no earlier waiting thread of the image is to take: at most the limit of bytes
copied to scratch, length and channel in g[rd], V set when it was cut; with none MRCV waits, and MRCV.NB gives 0 with C = 1.
Completes: MSND, MRCV, MRCV_NB. -/
def Obligations.ThreadMailboxes : Prop :=
  ∀ (s : State) (t : Fin 64) (rd ra rb : Fin 32) (channel : BitVec 11) (p : Nat), s.dev.issues t →
    (s.dev.thr t).priv = false →
    let th : Thread := { s.dev.thr t with owes := [] }
    let a := (th.g ra).toNat % 2 ^ 22
    let n := (th.g rb).toNat
    a % 8 = 0 →
    (channel.toNat < 256 → 1 ≤ n → n ≤ 4096 → s.dev.scratchAddr th a n = some p → p + n ≤ 2 ^ 22 →
      let gives (st : Nat) : Thread := th.wrote rd (BitVec.ofNat 64 st) { th.flags with z := decide (st = 0) }
      (s.dev.session = false → Ends (.msnd t rd ra rb channel) s (s.dev.setThr t (gives 2))) ∧
      (s.dev.session = true → 64 ≤ s.dev.wygel.txMail.length →
        Ends (.msnd t rd ra rb channel) s (s.dev.setThr t (gives 1))) ∧
      (s.dev.session = true → s.dev.wygel.txMail.length < 64 → ∃ m : Mail,
        Ends (.msnd t rd ra rb channel) s { s.dev.setThr t (gives 0) with
          out := s.dev.out ++ [.mbox m], wygel := { s.dev.wygel with txMail := s.dev.wygel.txMail ++ [m] },
          fcp := { s.dev.fcp with txSeq := s.dev.fcp.txSeq + 1 } } ∧
        m.image = th.image.getD 0 ∧ m.channel = channel.toNat ∧ m.seq = s.dev.fcp.txSeq ∧
        m.bytes = s.dev.wygel.scratch.readList p n)) ∧
    (s.dev.scratchAddr th a (min 4096 n) = some p →
      let first : Option Mail := (s.dev.wygel.rxMail.filter fun m => some m.image == th.image)[(s.dev.receivers th.image).length]?
      (first = none → Ends (.mrcv t rd ra rb 0) s (s.dev.setThr t
          { th with state := .wait, wait := .message rd p (th.g rb) s.dev.now }) ∧
        Ends (.mrcvNb t rd ra rb 0) s (s.dev.setThr t (th.wrote rd 0 { th.flags with c := true }))) ∧
      (∀ m, first = some m → p + m.bytes.length ≤ 2 ^ 22 → m.bytes.length < 65536 → m.channel < 256 →
        let takes (i : Instr) (nb : Bool) : Prop := Runs i s fun d =>
          (rd ≠ 0 → ((d.thr t).g rd).toNat = m.bytes.length + 65536 * m.channel) ∧
          (d.thr t).flags = { th.flags with v := decide (n < m.bytes.length), c := if nb then false else th.flags.c } ∧
          (d.thr t).pc = th.pc + 4 ∧ d.wygel.rxMail = s.dev.wygel.rxMail.erase m ∧
          (∀ x, x < p ∨ p + min n m.bytes.length ≤ x → d.wygel.scratch.read x = s.dev.wygel.scratch.read x) ∧
          d.wygel.scratch.readList p (min n m.bytes.length) = m.bytes.take n
        takes (.mrcv t rd ra rb 0) false ∧ takes (.mrcvNb t rd ra rb 0) true))

/-- R140, R141, R142. DMVK by a ready thread with both scratch operands in reach: with a slot free, the next job handle (1 to 65,535, then 1
again) in g[rd] with C = 0, and for a descriptor that is sound one more entry of work, owned by the thread's job with that
handle, that carries the 64 bytes; with no slot free 0 with C = 1 and nothing else. A fold thread's MIGRATE takes PRIV.
Completes: DMVK. -/
def Obligations.MoverJobLaunch : Prop :=
  ∀ (s : State) (t : Fin 64) (rd ra rb : Fin 32) (p c : Nat), s.dev.issues t →
    let th : Thread := { s.dev.thr t with owes := [] }
    let raw := s.dev.wygel.scratch.readList p 64
    let h := if s.dev.folds.handle = 65535 then 1 else s.dev.folds.handle + 1
    (th.g ra).toNat % 2 ^ 22 % 64 = 0 → s.dev.scratchAddr th ((th.g ra).toNat % 2 ^ 22) 64 = some p → p + 64 ≤ 2 ^ 22 →
    (th.g rb).toNat % 2 ^ 22 % 16 = 0 → s.dev.scratchAddr th ((th.g rb).toNat % 2 ^ 22) 16 = some c →
    (th.manager = true → s.dev.managerSlot = none →
      Ends (.dmvk t rd ra rb 0) s (s.dev.setThr t (th.wrote rd 0 { th.flags with c := true }))) ∧
    (∀ k, th.manager = true → s.dev.managerSlot = some k → malformed raw .manager = none → ∃ w : Work,
      Ends (.dmvk t rd ra rb 0) s { s.dev.setThr t (th.wrote rd (BitVec.ofNat 64 h) { th.flags with c := false }) with
        folds := { s.dev.folds with handle := h, nextId := s.dev.folds.nextId + 1, work := s.dev.folds.work ++ [w] } } ∧
      w.raw = raw ∧ w.owner = .job none k h t c ∧ w.id = s.dev.folds.nextId) ∧
    (th.manager = false → dOp raw = opMigrate →
      Ends (.dmvk t rd ra rb 0) s ((s.dev.turn t).takeException t 2 th.pc th.pc.toNat)) ∧
    (th.manager = false → dOp raw ≠ opMigrate → s.dev.mayTakeSlot th.fid = false →
      Ends (.dmvk t rd ra rb 0) s (s.dev.setThr t (th.wrote rd 0 { th.flags with c := true }))) ∧
    (th.manager = false → dOp raw ≠ opMigrate → s.dev.mayTakeSlot th.fid = true → malformed raw .foldJob = none →
      Runs (.dmvk t rd ra rb 0) s fun d => (rd ≠ 0 → (d.thr t).g rd = BitVec.ofNat 64 h) ∧ (d.thr t).flags.c = false ∧
        d.fget FLD_STAT.IN_FLIGHT th.fid = min (s.dev.fget FLD_STAT.IN_FLIGHT th.fid + 1) (2 ^ FLD_STAT.IN_FLIGHT.w - 1) ∧
        ∃ w : Work, d.folds.work = s.dev.folds.work ++ [w] ∧ w.raw = raw ∧ ∃ k, w.owner = .job (some th.fid) k h t c)

/-- R61, R76, R93. LIMIT takes the exception of a running fold thread with the next instruction in EPC, NOW having reached the end of its
courses. KILL frees a live thread's context, touches no other thread, no memory and nothing sent. UPDATE_TIMEOUT ends a waiting
hot update: none waits afterwards, WGL_LOAD_STAT reads TIMEOUT, no thread is marked for it, and its reply is sent.
Completes: LIMIT, KILL, UPDATE_TIMEOUT. -/
def Obligations.LimitsAndKills : Prop :=
  ∀ (s : State) (t : Fin 64),
    let th := s.dev.thr t
    (s.dev.inReset = false → s.dev.threadsHeld = false → s.dev.wygel.update = none → th.state = .run → th.manager = false →
      ∀ n, n = s.dev.fget WGL_CTRL.FOLD_RUN_LIMIT → n ≠ 0 →
        let d := s.dev.upTo (th.started + n * 1048576)
        Ends (.limit t) s ((d.setThr t { th with started := d.now }).takeException t 0xC th.pc th.pc.toNat)) ∧
    (s.dev.answers = true → s.dev.wygel.update = none → th.live = true → Runs (.kill t) s fun d =>
      d.thr t = {} ∧ (∀ u, u ≠ t.val → d.thr u = s.dev.thr u) ∧ d.wygel.scratch = s.dev.wygel.scratch ∧
      d.wygel.pstore = s.dev.wygel.pstore ∧ d.out = s.dev.out) ∧
    (s.dev.answers = true → th.live = false → exec (.kill t) s = .next s) ∧
    (∀ u : Update, s.dev.inReset = false → s.dev.wygel.update = some u → Runs .updateTimeout s fun d =>
      d.wygel.update = none ∧ d.wygel.images = s.dev.wygel.images ∧ d.fget WGL_LOAD_STAT.STATUS = 0xA ∧
      d.out = s.dev.out ++ [.fcpReply u.port 0x10 0 u.seq [0xA]] ∧
      ∀ x, ((s.dev.thr x).manager = true → (s.dev.thr x).image = some u.image.id → (d.thr x).marked = false) ∧
        (d.thr x).pc = (s.dev.thr x).pc ∧ (d.thr x).gpr = (s.dev.thr x).gpr)

/-- R613, R87, R89. A segment of IMAGE_DATA that continues the partial image is kept and answered OK, and the last one is answered by the
load; a segment at another offset, or beyond the total, is answered REFUSED and drops the partial image. IMAGE_LOAD checks the
image: WGL_LOAD_STAT takes the status, the reply carries it, and one that fails a check changes no image and no thread; one that
passes and updates nothing is listed with its ID and version. IMAGE_UNLOAD is answered NOTLOADED, REFUSED while a thread of the
image lives, or OK with the image gone and every other kept.
Completes: IMAGE_DATA, IMAGE_LOAD, IMAGE_UNLOAD. -/
def Obligations.ImageLoading : Prop :=
  ∀ (s : State) (via : FcpFrom) (session seq offset total imageId : BitVec 32) (bytes : List Byte),
    let e := s.dev.executing via seq.toNat
    let w := s.dev.wygel
    let q := seq.toNat
    (s.dev.executes via 0x10 session.toNat q → s.dev.phase ≠ phStandby →
      (w.rxWhole = none → w.update = none → ∀ i, i = Instr.imageData via session seq offset total bytes →
        let w0 := if offset = 0 then { w with rxImage := [], rxTotal := total.toNat } else w
        let got := w0.rxImage ++ bytes
        (offset.toNat = w0.rxImage.length → w0.rxTotal ≤ 3 * 2 ^ 20 → got.length < w0.rxTotal →
          Ends i s (({ e with wygel := { w0 with rxImage := got } } : Dev).finish via.port 0x10 q ⟨0, []⟩)) ∧
        (offset.toNat = w0.rxImage.length → w0.rxTotal ≤ 3 * 2 ^ 20 → got.length = w0.rxTotal →
          Ends i s { e with wygel := { w0 with rxImage := got, rxWhole := some (via.port.val, q) } }) ∧
        (offset.toNat ≠ w0.rxImage.length ∨ 3 * 2 ^ 20 < w0.rxTotal ∨ w0.rxTotal < got.length →
          Ends i s (({ e with wygel := { w with rxImage := [], rxTotal := 0 } } : Dev).finish via.port 0x10 q ⟨6, []⟩)))) ∧
    (s.dev.executes via 0x11 session.toNat q →
      (s.dev.imageOf imageId.toNat = none → Ends (.imageUnload via session seq imageId) s (e.finish via.port 0x11 q ⟨8, []⟩)) ∧
      ((s.dev.imageOf imageId.toNat).isSome → (∃ t th, (t, th) ∈ s.dev.threads ∧ th.live = true ∧ th.manager = true ∧
          th.image = some imageId.toNat) →
        Ends (.imageUnload via session seq imageId) s (e.finish via.port 0x11 q ⟨6, []⟩)) ∧
      ((s.dev.imageOf imageId.toNat).isSome → (∀ t th, (t, th) ∈ s.dev.threads → th.live = true → th.manager = true →
          th.image ≠ some imageId.toNat) →
        ∃ l, Ends (.imageUnload via session seq imageId) s
            (({ e with wygel := { w with images := l } } : Dev).finish via.port 0x11 q ⟨0, []⟩) ∧
          ∀ im, im ∈ l ↔ im ∈ w.images ∧ ¬ (im.id = imageId.toNat ∧ im.fold = none))) ∧
    (∀ p r st, s.dev.inReset = false → w.rxWhole = some (p, r) → w.update = none → s.dev.loadStatus w.rxImage .fcp = st →
      let dropped : Dev := { s.dev with wygel := { w with rxImage := [], rxTotal := 0, rxWhole := none } }
      (st ≠ 0 → Ends .imageLoad s ((((dropped.fset WGL_LOAD_STAT.STATUS st).fset WGL_LOAD_STAT.IMAGE_ID
          (imgField w.rxImage 8 4))).finish p 0x10 r ⟨0, [BitVec.ofNat 8 st]⟩)) ∧
      (st = 0 → imgField w.rxImage 6 1 ≠ 3 → s.dev.hotTarget w.rxImage .fcp = none → Runs .imageLoad s fun d =>
        d.fget WGL_LOAD_STAT.STATUS = 0 ∧ d.out.getLast? = some (.fcpReply p 0x10 0 r [0]) ∧
        ∃ im ∈ d.wygel.images, im.id = imgField w.rxImage 8 4 ∧ im.version = imgField w.rxImage 0xC 4 ∧ im.fold = none))

/-- R90, R466. A host's start of a fold program is refused with LOAD_STATUS NOCTX, and changes nothing else, where programs are not
allowed, one loads or runs, the length is 0 or too great, or a freeze is pending; else, with the fold's host reachable, the program reads LOADING with LOAD_STATUS 0. The image that comes is checked
with the fold's key: one that passes is loaded and its thread runs; a failing one leaves the program IDLE with its status and no image.
Completes: FOLD_PROG_START, FOLD_IMAGE_FETCHED. -/
def Obligations.FoldPrograms : Prop :=
  ∀ (s : State) (f : Fin 256), s.dev.answers = true →
    let len := s.dev.fget FLD_PROG_CTRL.LEN f
    let st := s.dev.fget FLD_PROG_STAT.STATE f
    let refused := s.dev.fon FLD_CFG.PROG_ALLOW f = false ∨ st = 1 ∨ st = 2 ∨ len = 0 ∨ 32992 < len ∨
      s.dev.fget FLD_MIG_STAT.STATE f = mgFreezePending
    (s.dev.hostWrites f = true → refused → Ends (.foldProgStart f) s (s.dev.fset FLD_PROG_STAT.LOAD_STATUS 7 f)) ∧
    (s.dev.hostWrites f = false → exec (.foldProgStart f) s = .next s) ∧
    (s.dev.hostWrites f = true → ¬ refused → s.dev.wygel.update = none → s.dev.portUp (s.dev.usp (s.dev.foldVsw f)) = true →
      Runs (.foldProgStart f) s fun d => d.fget FLD_PROG_STAT.STATE f = 1 ∧ d.fget FLD_PROG_STAT.LOAD_STATUS f = 0) ∧
    (∀ bs code, st = 1 → s.dev.foldState f ≠ fdResetting → s.dev.loadStatus bs (.fold f) = code → code ≠ 0 →
      (∀ t th, (t, th) ∈ s.dev.threads → th.live = true → th.fid ≠ f.val) →
      Runs (.foldImageFetched f (some bs)) s fun d =>
        d.fget FLD_PROG_STAT.STATE f = 0 ∧ d.fget FLD_PROG_STAT.LOAD_STATUS f = code % 2 ^ FLD_PROG_STAT.LOAD_STATUS.w ∧
        d.wygel.images = s.dev.wygel.images ∧ d.threads = s.dev.threads) ∧
    (∀ bs, st = 1 → s.dev.foldState f ≠ fdResetting → s.dev.loadStatus bs (.fold f) = 0 → imgField bs 6 1 ≠ 3 → imgField bs 0x34 1 = 1 →
      s.dev.newContext.isSome = true → (∀ t th, (t, th) ∈ s.dev.threads → th.live = true → th.fid ≠ f.val) →
      Runs (.foldImageFetched f (some bs)) s fun d => d.fget FLD_PROG_STAT.STATE f = 2 ∧ d.fget FLD_PROG_STAT.LOAD_STATUS f = 0 ∧
        (∃ im ∈ d.wygel.images, im.id = imgField bs 8 4 ∧ im.fold = some f.val) ∧
        let x := d.thr (d.fget FLD_PROG_STAT.THREAD f)
        x.live = true ∧ x.fid = f.val ∧ x.priv = true) ∧
    (st = 1 → s.dev.foldState f ≠ fdResetting → Runs (.foldImageFetched f none) s fun d =>
      d.fget FLD_PROG_STAT.STATE f = 0 ∧ d.wygel = s.dev.wygel ∧ d.threads = s.dev.threads)

/-- R94, R95, R96. A drain takes an ACTIVE engine that holds threads to DRAINING, one without any and a RESERVE one to OUT. A thread that can
move leaves a DRAINING engine for the emptiest ACTIVE one, its record otherwise as it was; with no place even after a promotion
NOROOM is set. A failing engine goes OUT, its live threads FAULTED, and a DE fault 0x92 waits in its source. RETURN starts the self-test of an OUT
engine, which leaves it RESERVE when it passes and sets RETURN_FAIL when it does not.
Completes: ENGINE_DRAIN, THREAD_MOVE, ENGINE_FAULT, ENGINE_RETURN, SELF_TEST_DONE. -/
def Obligations.EngineService : Prop :=
  ∀ (s : State) (e : Fin 16) (t : Fin 64),
    let state := s.dev.fget WGL_ENG_CTRL.STATE 0 e
    let th := s.dev.thr t
    (s.dev.answers = true →
      (state = 0 → s.dev.slotsHeld e ≠ [] → Runs (.engineDrain e) s fun d =>
        d.fget WGL_ENG_CTRL.STATE 0 e = 2 ∧ d.fget WGL_ENG_CTRL.DRAIN 0 e = 1 ∧ OnlyRegs [⟨.WGL_ENG_CTRL, 0, e⟩] s.dev d) ∧
      (state = 0 → s.dev.slotsHeld e = [] → Runs (.engineDrain e) s fun d =>
        d.fget WGL_ENG_CTRL.STATE 0 e = 3 ∧ d.fget WGL_ENG_CTRL.DRAIN 0 e = 0 ∧ OnlyRegs [⟨.WGL_ENG_CTRL, 0, e⟩] s.dev d) ∧
      (state = 1 → Ends (.engineDrain e) s (s.dev.fset WGL_ENG_CTRL.STATE 3 0 e)) ∧
      (state = 3 → Ends (.engineReturn e) s (s.dev.fset WGL_ENG_CTRL.RETURN 1 0 e)) ∧
      (state ≠ 3 → exec (.engineReturn e) s = .next s)) ∧
    (s.dev.inReset = false →
      (s.dev.fon WGL_ENG_CTRL.RETURN 0 e = true →
        Ends (.selfTestDone e true) s ((s.dev.fset WGL_ENG_CTRL.RETURN 0 0 e).fset WGL_ENG_CTRL.STATE 1 0 e) ∧
        Ends (.selfTestDone e false) s ((s.dev.fset WGL_ENG_CTRL.RETURN 0 0 e).fset WGL_ENG_CTRL.RETURN_FAIL 1 0 e)) ∧
      (s.dev.wygel.update = none → (s.dev.src (202 + e)).queue.length < 4 → Runs (.engineFault e) s fun d =>
        d.fget WGL_ENG_CTRL.STATE 0 e = 3 ∧
        (∀ u, (s.dev.thr u).live = true → (s.dev.thr u).engine = e → (d.thr u).state = .faulted) ∧
        (d.src (202 + e)).queue.map (·.1) = (s.dev.src (202 + e)).queue.map (·.1) ++ [⟨1, 0x92, 0, 0, BitVec.ofNat 64 e⟩]) ∧
      (th.live = true → s.dev.fget WGL_ENG_CTRL.STATE 0 th.engine = 2 → s.dev.movable t = true →
        (∀ n, s.dev.bestEngine = some n → Runs (.threadMove t) s fun d =>
          ∃ k, d.thr t = { th with engine := n, slot := k } ∧ (∀ u, u ≠ t.val → d.thr u = s.dev.thr u) ∧
            RegsBut [⟨.WGL_ENG_CTRL, 0, th.engine⟩] s.dev d) ∧
        (s.dev.bestEngine = none → s.dev.promote = s.dev →
          Ends (.threadMove t) s (s.dev.fset WGL_ENG_CTRL.NOROOM 1 0 th.engine))))

/-- R614, R649, R650. A manager's MBOX of 1 to 4,096 bytes is answered BUSY in a Standby that it does not end, NOTLOADED for an image that is
not loaded, FULL with 64 messages waiting; else OK: the message is the last of those received, and event MBOX is latched. MBOX_ACK takes the named message, and no other, out of the
transmit queue. MBOX_RESEND sends a message again, counted, at most four times, and then drops it and counts MBOX_DROPPED.
Completes: MBOX, MBOX_ACK, MBOX_RESEND. -/
def Obligations.ManagerMailboxes : Prop :=
  ∀ (s : State) (via : FcpFrom) (session seq imageId other : BitVec 32) (channel : BitVec 8) (bytes : List Byte),
    let e := s.dev.executing via seq.toNat
    let i := Instr.mbox via session seq imageId channel bytes
    let answers (st : Nat) : Prop := Ends i s (e.finish via.port 0x20 seq.toNat ⟨st, []⟩)
    (s.dev.executes via 0x20 session.toNat seq.toNat →
      (bytes = [] ∨ 4096 < bytes.length → answers 2) ∧
      (bytes ≠ [] → bytes.length ≤ 4096 →
        (s.dev.phase = phStandby → s.dev.fon RST_STANDBY_CFG.WAKE_ON_MBOX = false → answers 4) ∧
        (s.dev.phase ≠ phStandby → s.dev.imageOf imageId.toNat = none → answers 8) ∧
        (s.dev.phase ≠ phStandby → (s.dev.imageOf imageId.toNat).isSome →
          64 ≤ s.dev.wygel.rxMail.length + s.dev.gable.heldMail.length → answers 7) ∧
        (s.dev.phase ≠ phStandby → s.dev.gable.entering = false → (s.dev.imageOf imageId.toNat).isSome →
          s.dev.wygel.rxMail.length + s.dev.gable.heldMail.length < 64 →
          Ends i s ((({ e with wygel := { e.wygel with
            rxMail := e.wygel.rxMail ++ [⟨imageId.toNat, channel.toNat, bytes, seq.toNat, 0, 0⟩] } } : Dev).eventAll 1).finish
              via.port 0x20 seq.toNat ⟨0, []⟩)))) ∧
    (s.dev.executes via 0x21 session.toNat seq.toNat → ∃ l, Ends (.mboxAck via session seq other) s
          (({ e with wygel := { e.wygel with txMail := l } } : Dev).finish via.port 0x21 seq.toNat ⟨0, []⟩) ∧
        ∀ m, m ∈ l ↔ m ∈ s.dev.wygel.txMail ∧ m.seq ≠ other.toNat) ∧
    (∀ m, s.dev.inReset = false → s.dev.wygel.txMail.find? (fun m => m.seq == other.toNat) = some m →
      let x := s.dev.upTo (m.sentAt + 1000000)
      (m.sent < 5 → Runs (.mboxResend other) s fun d =>
        let again : Mail := { m with sent := m.sent + 1, sentAt := x.now }
        d.out = s.dev.out ++ [.mbox again] ∧ again ∈ d.wygel.txMail ∧ d.wygel.txMail.length = s.dev.wygel.txMail.length ∧
        d.regs = x.regs) ∧
      (5 ≤ m.sent → Ends (.mboxResend other) s (({ x with wygel := { s.dev.wygel with
        txMail := s.dev.wygel.txMail.erase m } } : Dev).fadd ETH_CNT.MBOX_DROPPED 1)))

/-- R609 to R612, R608, R624. For every request that needs the manager's session: one that does not reach the device changes nothing; one outside
the secured channel that REQUIRE asks for is discarded and counted; in recovery a type that is not accepted is answered REFUSED;
with no session of that number it is answered NOSESSION and counted; a SEQ whose reply is kept gets that reply again and is not executed again; a SEQ
still executing changes nothing but the session's timer; a SEQ older than all 64 kept is answered STALE. And an answer given (`finish`) is kept as the newest
of at most 64 replies, and is the last message sent, on the port the request came on, if it fits the least MTU; one that exceeds the greatest is not sent (R606; assumption 191).
What the requests do when they are executed, other statements say. -/
def Obligations.SessionRequests : Prop :=
  (∀ (s : State) (i : Instr) (via : FcpFrom) (typ session seq : Nat), sessionRequest i = some (via, typ, session, seq) →
    s.dev.inReset = false →
    let d := s.dev
    let x := d.gableCross via
    let heard : Dev := { x with fcp := { x.fcp with lastHeard := d.now } }
    let open_ := d.session = true ∧ d.fget ETH_SESSION.SESSION = session
    let plain := via.secured = false ∧ d.fon ETH_MACSEC.REQUIRE via.port = true
    let closed := d.fon CHN_BOOT.RECOVERY = true ∧ typ ∉ [0x01, 0x02, 0x03, 0x10, 0x70, 0x31]
    (d.reached via = false → exec i s = .next s) ∧
    (d.reached via = true → plain → Ends i s (x.fadd ETH_CNT.REFUSED 1)) ∧
    (d.reached via = true → ¬ plain → closed → Ends i s (x.send (.fcpReply via.port typ 6 seq []))) ∧
    (d.reached via = true → ¬ plain → ¬ closed →
      (¬ open_ → Ends i s ((x.fadd ETH_CNT.REFUSED 1).send (.fcpReply via.port typ 3 seq []))) ∧
      (open_ → ∀ r, (d.fcp.replies.find? fun x => x.1 == seq) = some r →
        Ends i s (heard.reply via.port r.2.1 seq ⟨r.2.2.1, r.2.2.2⟩)) ∧
      (open_ → (∀ r ∈ d.fcp.replies, r.1 ≠ seq) → seq ∈ d.fcp.executing → Ends i s heard) ∧
      (open_ → (∀ r ∈ d.fcp.replies, seq < r.1) → seq ∉ d.fcp.executing → d.fcp.replies.length = 64 →
        Ends i s ((heard.fadd ETH_CNT.STALE 1).send (.fcpReply via.port typ 5 seq []))))) ∧
  (∀ (d : Dev) (port typ seq : Nat) (r : Reply),
    let x := d.finish port typ seq r
    (64 + r.payload.length ≤ 4400 → x.out = d.out ++ [.fcpReply port typ r.status seq r.payload]) ∧
    (9000 < 64 + r.payload.length → x.out = d.out) ∧ x.fcp.replies.length ≤ 64 ∧
    x.fcp.replies = ((seq, typ, r.status, r.payload) :: d.fcp.replies).take 64 ∧ seq ∉ x.fcp.executing ∧
    { x with out := d.out, fcp := d.fcp } = d)

/-- R611, R612, R605 to R608, R624. SESSION_OPEN outside the secured channel, or from an address that is not listed, is answered REFUSED and counted;
with a session open BUSY; else a session is open with a non-zero number (which the spec leaves open) and KEEPALIVE_MS within 100 to 10,000. SESSION_CLOSE
and SESSION_TIMEOUT end it, with no reply kept and the transmit queue empty; KEEPALIVE is answered OK. A link comes up only on an enabled port that is supplied and whose SPEED is the partner's, its uncorrectable codewords counted; a lost one
takes its secured channel with it; MKA brings the channel up only with a CAK installed and the cipher suite agreed, and installing a CAK takes it down. FLASH_WRITE of 1 to 4,096 bytes
outside the booted slot writes them, a sector erased first where it starts one; into the booted slot it is REFUSED unless in recovery. A message of an
unknown type is answered BADTYPE, one of a wrong length BADLEN.
Completes: SESSION_OPEN, SESSION_CLOSE, KEEPALIVE, SESSION_TIMEOUT, ETHERNET_LINK, MKA_FRAME, CAK_INSTALL, FLASH_WRITE, BADTYPE. -/
def Obligations.SessionAndPorts : Prop :=
  ∀ (s : State) (via : FcpFrom) (session seq offset : BitVec 32) (source : BitVec 128) (id v : Word) (ka : BitVec 16)
    (p : Fin 2) (bytes : List Byte) (typ : BitVec 8) (lenOk : Bool) (suite : Option Bool)
    (rate : Fin 3) (fec : BitVec 16),
    let d := s.dev
    let x := d.gableCross via
    let e := d.executing via seq.toNat
    let arrives := d.reached via = true ∧ (via.secured = true ∨ d.fon ETH_MACSEC.REQUIRE via.port = false)
    let ended (x : Dev) : Prop := x.session = false ∧ x.fget ETH_SESSION.SESSION = 0 ∧ x.wygel.txMail = [] ∧ x.fcp.executing = []
    (arrives → via.secured = true → d.mgrAllowed via.port source = true → d.session = false →
      Runs (.sessionOpen via seq source id ka) s fun x => x.session = true ∧ x.fget ETH_SESSION.SESSION ≠ 0 ∧
        x.fget ETH_SESSION.KEEPALIVE_MS = min 10000 (max 100 ka.toNat) ∧ x.fcp.replies = [] ∧ x.fcp.lastHeard = d.now) ∧
    (arrives → via.secured = true → d.mgrAllowed via.port source = true → d.session = true →
      Ends (.sessionOpen via seq source id ka) s (x.send (.fcpReply via.port 0x01 4 seq.toNat []))) ∧
    (arrives → via.secured = false ∨ d.mgrAllowed via.port source = false →
      Ends (.sessionOpen via seq source id ka) s ((x.fadd ETH_CNT.REFUSED 1).send (.fcpReply via.port 0x01 6 seq.toNat []))) ∧
    (d.executes via 0x02 session.toNat seq.toNat →
      Runs (.sessionClose via session seq) s (fun x => ended x ∧ x.out = d.out ++ [.fcpReply via.port 0x02 0 seq.toNat []])) ∧
    (d.executes via 0x03 session.toNat seq.toNat →
      Ends (.keepalive via session seq) s (e.finish via.port 0x03 seq.toNat ⟨0, []⟩)) ∧
    (d.inReset = false → d.session = true → Runs .sessionTimeout s fun x =>
      ended x ∧ d.now ≤ x.now ∧ x.out = d.out ∧ x.fcp.replies = []) ∧
    (d.inReset = false →
      let runs := d.gableFailed = false ∧ d.fon ETH_CFG.EN p = true ∧ d.phase ≠ phTest ∧ 3 ∉ d.gable.railsLow
      let counted := d.fadd ETH_STAT.FEC_UNCORR fec.toNat p
      let down (x : Dev) : Dev := (x.fset ETH_STAT.LINK 0 p).fset ETH_STAT.SECURED 0 p
      (runs → d.fget ETH_CFG.SPEED p = rate → Ends (.ethernetLink p ⟨true, rate, fec⟩) s (counted.fset ETH_STAT.LINK 1 p)) ∧
      (runs → d.fget ETH_CFG.SPEED p ≠ rate → Ends (.ethernetLink p ⟨true, rate, fec⟩) s (down counted)) ∧
      (runs → Ends (.ethernetLink p ⟨false, rate, fec⟩) s (down counted)) ∧
      (¬ runs → exec (.ethernetLink p ⟨true, rate, fec⟩) s = .next s ∧ Ends (.ethernetLink p ⟨false, rate, fec⟩) s (down d)) ∧
      (d.gableFailed = false → d.fon ETH_STAT.LINK p = true →
        let agrees := d.fon ETH_MACSEC.CAK_VALID p = true ∧ suite = some (d.fon ETH_MACSEC.CIPHER p)
        (agrees → Ends (.mkaFrame p suite) s (d.fset ETH_STAT.SECURED 1 p)) ∧
        (¬ agrees → Ends (.mkaFrame p suite) s (d.fset ETH_STAT.SECURED 0 p)))) ∧
    (d.answers = true → Runs (.cakInstall p v) s fun x => x.fon ETH_MACSEC.CAK_VALID p = true ∧
      x.fon ETH_STAT.SECURED p = false ∧ (Tab.get [] x.gable.cak p).length = 8 ∧ (Tab.get [] x.gable.cak p)[3]? = some v ∧
      RegsBut [⟨.ETH_CAK, p, 3⟩, ⟨.ETH_MACSEC, p, 0⟩, ⟨.ETH_STAT, p, 0⟩] d x) ∧
    (d.executes via 0x70 session.toNat seq.toNat → d.phase ≠ phStandby → 1 ≤ bytes.length → bytes.length ≤ 4096 →
      let base := d.fget CSP_STATUS.BOOT_SLOT * 2 ^ 24
      (d.fon CHN_BOOT.RECOVERY = true ∨ base + 2 ^ 24 ≤ offset.toNat ∨ offset.toNat + bytes.length ≤ base →
        Ends (.flashWrite via session seq offset bytes) s ((e.send (.flash offset.toNat (offset.toNat % 65536 == 0) bytes)).finish
          via.port 0x70 seq.toNat ⟨0, []⟩)) ∧
      (d.fon CHN_BOOT.RECOVERY = false → offset.toNat < base + 2 ^ 24 → base < offset.toNat + bytes.length →
        Ends (.flashWrite via session seq offset bytes) s (e.finish via.port 0x70 seq.toNat ⟨6, []⟩))) ∧
    (arrives → d.fon CHN_BOOT.RECOVERY = false →
      (typ.toNat ∉ fcpTypes → Ends (.badtype via typ seq lenOk) s (x.send (.fcpReply via.port typ.toNat 1 seq.toNat []))) ∧
      (typ.toNat ∈ fcpTypes → lenOk = false → Ends (.badtype via typ seq lenOk) s (x.send (.fcpReply via.port typ.toNat 2 seq.toNat []))))

/-- R616, R617, R649. In the session and out of Standby, the queries answer Success and change nothing but the session's own record; a port, a bridge, a
virtual switch or a pool that is not there answers Invalid Input. PHYSICAL_PORT_CONTROL with an opcode beyond 2 answers Invalid Input. A command passed to what stands
behind a port goes out there and its answer comes back. BIND_VPPB, UNBIND_VPPB and SET_DC_REGION_CONFIGURATION take the FREE set of ETH_FMAPI.SET, stage their one register and commit it: Background Command Started;
with that set not FREE, Busy. The capacity commands answer with the return code of their operation. (That return codes and values are laid out as the model lays them is assumption 23.)
Completes: IDENTIFY_SWITCH_DEVICE, GET_PHYSICAL_PORT_STATE, PHYSICAL_PORT_CONTROL, SEND_PPB_CXL_IO_CONFIGURATION_REQUEST, GET_VIRTUAL_CXL_SWITCH_INFO,
BIND_VPPB, UNBIND_VPPB, GENERATE_AER_EVENT, TUNNEL_MANAGEMENT_COMMAND, SEND_LD_CXL_IO_CONFIGURATION_REQUEST, SEND_LD_CXL_IO_MEMORY_REQUEST,
GET_DCD_INFO, GET_HOST_DC_REGION_CONFIGURATION, SET_DC_REGION_CONFIGURATION, GET_DC_REGION_EXTENT_LISTS, INITIATE_DYNAMIC_CAPACITY_ADD,
INITIATE_DYNAMIC_CAPACITY_RELEASE. -/
def Obligations.FabricManagerApi : Prop :=
  ∀ (s : State) (via : FcpFrom) (session seq error : BitVec 32) (p : Fin 128) (v : Fin 64) (b : Fin 32) (r : Fin 8)
    (ld : Fin 16) (reg : BitVec 12) (data : BitVec 32) (opcode : BitVec 8) (gib : BitVec 17) (size : BitVec 20) (tag : Word)
    (request answer : List Byte) (extents : List ExtentRef),
    s.dev.executes via 0x30 session.toNat seq.toNat → s.dev.phase ≠ phStandby →
    let d := s.dev
    let e := d.executing via seq.toNat
    let ends (i : Instr) (x : Dev) (code : Nat) (payload : List Byte) : Prop :=
      Ends i s (x.finish via.port 0x30 seq.toNat ⟨0, BitVec.ofNat 8 code :: payload⟩)
    let queries (i : Instr) : Prop := ∃ payload, ends i e 0 payload
    let tunnels (i : Instr) (ld : Option Nat) : Prop :=
      (d.tunnelOk p = true → ends i (e.send (.tunnel p ld request)) 0 answer) ∧ (d.tunnelOk p = false → ends i e 2 [])
    let commits (i : Instr) (w : Reg) : Prop :=
      (d.setState (d.fget ETH_FMAPI.SET) ≠ 0 → ends i e 6 []) ∧
      (d.setState (d.fget ETH_FMAPI.SET) = 0 → Runs i s fun x =>
        ∃ k, k ≠ 0 ∧ x.setState (d.fget ETH_FMAPI.SET) = k ∧ k < 3 ∧
          (x.setWrites (d.fget ETH_FMAPI.SET)).map StagedWrite.reg = [some w] ∧
          (seq.toNat, 0x30, 0, [1]) ∈ x.fcp.replies)
    queries (.identifySwitchDevice via session seq) ∧ queries (.getPhysicalPortState via session seq p) ∧
    queries (.getVirtualCxlSwitchInfo via session seq v) ∧ queries (.getDcdInfo via session seq) ∧
    (d.hasPool v = true → queries (.getHostDcRegionConfiguration via session seq v) ∧
      queries (.getDcRegionExtentLists via session seq v)) ∧
    (d.hasPool v = false → ends (.getHostDcRegionConfiguration via session seq v) e 2 [] ∧
      ends (.getDcRegionExtentLists via session seq v) e 2 [] ∧
      ends (.setDcRegionConfiguration via session seq v r gib) e 2 []) ∧
    (2 < opcode.toNat → ends (.physicalPortControl via session seq p opcode) e 2 []) ∧
    (opcode = 2 → ends (.physicalPortControl via session seq p opcode) (if d.portUp p then e.hotReset p .planned else e.portReset p) 0 []) ∧
    (opcode.toNat < 2 → ends (.physicalPortControl via session seq p opcode) e 0 []) ∧
    (d.portMode p ≠ 2 → ∀ w, ends (.sendPpbCxlIoConfigurationRequest via session seq p w reg data) e 2 []) ∧
    (d.portMode p = 2 → ends (.sendPpbCxlIoConfigurationRequest via session seq p true reg data) e 0 [] ∧
      ∃ payload, ends (.sendPpbCxlIoConfigurationRequest via session seq p false reg data) e.used 0 payload) ∧
    (d.fon CXP_VSW_CFG.EN v = false → ends (.generateAerEvent via session seq v b error) e 2 []) ∧
    (d.fon CXP_VSW_CFG.EN v = true →
      ends (.generateAerEvent via session seq v b error) (e.send (.log "AER event" (v.val * 32 + b.val))) 0 []) ∧
    tunnels (.tunnelManagementCommand via session seq p request answer) none ∧
    tunnels (.sendLdCxlIoConfigurationRequest via session seq p ld request answer) (some ld) ∧
    tunnels (.sendLdCxlIoMemoryRequest via session seq p ld request answer) (some ld) ∧
    (b = 0 ∨ d.vbCount d.commits.epoch v ≤ b → ∀ l, ends (.bindVppb via session seq v b p l) e 2 []) ∧
    (b = 0 → ends (.unbindVppb via session seq v b) e 2 []) ∧
    (b ≠ 0 → b < d.vbCount d.commits.epoch v → ∀ l, commits (.bindVppb via session seq v b p l) ⟨.CXP_VB, v, b⟩) ∧
    (b ≠ 0 → commits (.unbindVppb via session seq v b) ⟨.CXP_VB, v, b⟩) ∧
    (d.hasPool v = true → commits (.setDcRegionConfiguration via session seq v r gib) ⟨.CXP_POOL_REGION, v, r⟩) ∧
    (ends (.initiateDynamicCapacityAdd via session seq v r size tag) (e.initiateAdd v r size.toNat tag.toNat).1
      (e.initiateAdd v r size.toNat tag.toNat).2.number []) ∧
    (ends (.initiateDynamicCapacityRelease via session seq v extents) (e.initiateRelease v extents).1
      (e.initiateRelease v extents).2.number [])

/-- R618. An SPDM request that arrives needs no session and changes nothing but the reply it sends: the versions 1.2 and 1.3; capabilities for those
versions; algorithms when P-384 and SHA-384 are offered; the digest and any part of slot 0's chain; a signed challenge of slot 0; the four measurements, their number under index 0, all under 0xFF, signed over
the nonce on request. What is not offered is answered by an error. (The payload layout is assumption 23; the signature, of a key that nothing can read, is uninterpreted: assumption 9. A reply goes out as `reply` sends it, within the MTU.)
Completes: GET_VERSION, GET_CAPABILITIES, NEGOTIATE_ALGORITHMS, GET_DIGESTS, GET_CERTIFICATE, CHALLENGE, GET_MEASUREMENTS. -/
def Obligations.SecurityProtocol : Prop :=
  ∀ (s : State) (via : FcpFrom) (seq : BitVec 32) (version slot index : BitVec 8) (offset length : BitVec 16) (nonce : List Byte)
    (p384Ok sha384Ok : Bool),
    s.dev.reached via = true → (via.secured = true ∨ s.dev.fon ETH_MACSEC.REQUIRE via.port = false) →
    let ends (i : Instr) (payload : List Byte) : Prop := Ends i s ((s.dev.gableCross via).reply via.port 0x31 seq.toNat ⟨0, payload⟩)
    let body := sha384 Config.certChain ++ nonce
    ends (.getVersion via seq) [1, 0x12, 0x13] ∧
    ends (.getCapabilities via seq version) (if version = 0x12 ∨ version = 0x13 then [1, version] else [0]) ∧
    ends (.negotiateAlgorithms via seq p384Ok sha384Ok) (if p384Ok ∧ sha384Ok then [1] else [0]) ∧
    ends (.getDigests via seq) ([1, 1] ++ sha384 Config.certChain) ∧
    (slot = 0 → ends (.getCertificate via seq slot offset length)
        (1 :: (Config.certChain.drop offset.toNat).take length.toNat) ∧
      ends (.challenge via seq slot nonce) (1 :: (body ++ Config.identitySign body))) ∧
    (slot ≠ 0 → ends (.getCertificate via seq slot offset length) [0] ∧ ends (.challenge via seq slot nonce) [0]) ∧
    ends (.getMeasurements via seq 0 false nonce) [1, 4] ∧
    ends (.getMeasurements via seq 1 true nonce)
      (1 :: (Config.romDigest ++ nonce ++ Config.identitySign (Config.romDigest ++ nonce))) ∧
    ends (.getMeasurements via seq 2 false nonce) (1 :: sha384 s.dev.gable.booted) ∧
    ((5 ≤ index.toNat ∧ index ≠ 0xFF) → ∀ signed, ends (.getMeasurements via seq index signed nonce) [0])

/-- R29 to R34, R16. SRC written with a new source other than 0 takes LOCKED to HOLDOVER, UNSET and LOST to ACQUIRING, and leaves ACQUIRING and HOLDOVER; 0 takes any state to UNSET. While the
gable die's interface stands, the lock test passing takes ACQUIRING to LOCKED with NOW stepped by its offset from the source, and HOLDOVER to LOCKED when the last offset lies within LOCK_THRESH, else to LOST.
A lost source takes LOCKED to HOLDOVER and breaks the run of updates in every state, the holdover limit takes HOLDOVER to LOST, a source present LOST to ACQUIRING. Each
change of state latches event TIME in every live manager thread that accepts it. A source update records its offset; a time of day from the pins' source 100 to 900 ms ahead of its
edge is kept when none is, and one that agrees is answered OK, one that disagrees REFUSED with TOD_ERR, one without that source REFUSED; an edge of the pins counts the seconds on and keeps how far NOW stands from them.
Completes: TIME_OF_DAY, RT_PPS_EDGE, SOURCE_UPDATE, LOCK_TEST_PASS, TIME_SOURCE_LOST, SOURCE_PRESENT, HOLDOVER_LIMIT, SRC_WRITE. -/
def Obligations.TimeUnit : Prop :=
  ∀ (s : State), s.dev.answers = true →
    let d := s.dev
    let st := d.fget TIM_STATUS.STATE
    let src := d.fget TIM_CTRL.SRC
    let thresh := d.fget TIM_LOCK_CFG.LOCK_THRESH
    let goes (i : Instr) (n : Nat) : Prop := Runs i s fun x => x.fget TIM_STATUS.STATE = n ∧
      (∀ t, (d.thr t).live = true → (d.thr t).manager = true → (d.thr t).evmask.getLsbD 4 = true →
        (x.thr t).evpend.getLsbD 4 = true) ∧ ∀ t, (x.thr t).gpr = (d.thr t).gpr ∧ (x.thr t).pc = (d.thr t).pc
    (∀ v : BitVec 2, v.toNat ≠ src →
      (v = 0 → st ≠ tsUnset → goes (.srcWrite v) tsUnset) ∧
      (v ≠ 0 → st = tsLocked → goes (.srcWrite v) tsHoldover) ∧
      (v ≠ 0 → st = tsUnset ∨ st = tsLost → goes (.srcWrite v) tsAcquiring) ∧
      (v ≠ 0 → st = tsAcquiring ∨ st = tsHoldover → Runs (.srcWrite v) s fun x => x.fget TIM_STATUS.STATE = st) ∧
      Runs (.srcWrite v) s (fun x => x.fget TIM_CTRL.SRC = v.toNat ∧ x.time.tod = none)) ∧
    (d.gableFailed = false →
      (d.lockTest = true →
        (st = tsAcquiring → 0 ≤ (d.now : Int) - d.sourceOffset → (d.now : Int) - d.sourceOffset < 2 ^ 64 →
          goes .lockTestPass tsLocked ∧ Runs .lockTestPass s (fun x => (x.now : Int) = d.now - d.sourceOffset)) ∧
        (st = tsHoldover → d.lastOffset.natAbs ≤ thresh → goes .lockTestPass tsLocked) ∧
        (st = tsHoldover → thresh < d.lastOffset.natAbs → goes .lockTestPass tsLost)) ∧
      (d.lockTest = false → exec .lockTestPass s = .next s) ∧
      (st = tsLost → src ≠ 0 → goes .sourcePresent tsAcquiring) ∧
      (∀ o : BitVec 64, src ≠ 0 → Runs (.sourceUpdate o) s fun x =>
        x.fget TIM_OFFSET.OFFSET = offsetShown o.toInt ∧ x.time = { d.time with offsets := (o.toInt :: d.time.offsets).take 16 } ∧
        RegsBut [⟨.TIM_OFFSET, 0, 0⟩] d x ∧ x.threads = d.threads) ∧
      (src = 3 → Ends .rtPpsEdge s { d with time := { d.time with
        tod := d.time.tod.map (· + 1), edge := d.time.tod.map fun n => (d.now : Int) - (n * 10 ^ 9 : Nat) } })) ∧
    (d.gableFailed = true → exec .lockTestPass s = .next s ∧ exec .sourcePresent s = .next s ∧ exec .rtPpsEdge s = .next s ∧
      ∀ o : BitVec 64, exec (.sourceUpdate o) s = .next s) ∧
    (st = tsLocked → goes .timeSourceLost tsHoldover) ∧
    (st ≠ tsLocked → Ends .timeSourceLost s { d with time := { d.time with offsets := [] } }) ∧
    (st = tsHoldover → goes .holdoverLimit tsLost) ∧
    (∀ via session seq second lead, d.executes via 0x50 (session : BitVec 32).toNat (seq : BitVec 32).toNat →
      let e := d.executing via seq.toNat
      let i := Instr.timeOfDay via session seq second lead
      let answers (x : Dev) (status : Nat) : Prop := Ends i s (x.finish via.port 0x50 seq.toNat ⟨status, []⟩)
      let timely := 100000000 ≤ lead.toNat ∧ lead.toNat ≤ 900000000
      (src = 3 → timely → d.time.tod = none → answers { e with time := { d.time with tod := some second.toNat } } 0) ∧
      (src = 3 → timely → d.time.tod = some second.toNat → answers e 0) ∧
      (src = 3 → ¬ timely ∨ (∃ n, d.time.tod = some n ∧ n ≠ second.toNat) → answers (e.fset TIM_STATUS.TOD_ERR 1) 6) ∧
      (src ≠ 3 → answers e 6))

/-- R42, R43, R44. The load of the next instant changes nothing that is in force. At the instant the epoch flips, once, each set pending for it is
APPLYING and pending no more, and the old epoch drains. When no request of the old epoch is outstanding the resync begins, and nothing else changes; at its
end every APPLYING set is FREE with status APPLIED. A Spar write that the drain's limit ends counts as failed for its thread's next FNC, with a fault
EPOCH_DRAIN from its engine. A withdrawal of the latest pending commit, 2 swaths or more ahead, takes its set back to OPEN with status CANCELLED; a later one is ignored.
Completes: COMMIT_LOAD, COMMIT_INSTANT, EPOCH_DRAINED, RESYNC_END, EPOCH_DRAIN, COMMIT_CANCEL. -/
def Obligations.CommitInstant : Prop :=
  ∀ (s : State), s.dev.answers = true →
    let d := s.dev
    let c := d.commits
    let idle := c.draining = false ∧ c.resyncing = false
    let state (x : Dev) (n : Nat) : Nat := x.fget TIM_COMMIT_STAT.STATE 0 n
    (∀ t ns, d.nextInstant = some (t, ns) → idle →
      (c.loaded = false → ∃ cells, Ends .commitLoad s { d with commits := { c with loaded := true, inactive := cells } }) ∧
      Runs .commitInstant s fun x => x.commits.epoch = !c.epoch ∧ x.commits.flips = c.flips + 1 ∧ x.commits.draining = true ∧
        x.commits.order = c.order.filter (fun n => !(ns.contains n)) ∧ (∀ n ∈ ns, state x n = 3) ∧ d.now ≤ x.now ∧ t ≤ x.now) ∧
    (c.draining = true → (∀ fl ∈ d.core.flights, fl.epoch = c.epoch ∨ fl.answer.isSome) →
      Ends .epochDrained s { d with commits := { c with draining := false, resyncing := true } }) ∧
    (c.resyncing = true → Runs .resyncEnd s fun x => x.commits.resyncing = false ∧ x.commits.epoch = c.epoch ∧
      ∀ n < 16, (state d n = 3 → state x n = 0 ∧ x.fget TIM_COMMIT_STAT.LAST_STATUS 0 n = 1 ∧ x.setWrites n = []) ∧
        (state d n ≠ 3 → state x n = state d n)) ∧
    (∀ tag fl t (at_ : Nat), d.flight tag = some fl → c.draining = true → fl.epoch ≠ c.epoch → fl.answer = none →
      fl.src = .thread t → fl.write = true → c.lastFlip = some at_ →
      (d.src (202 + (d.thr t).engine)).queue.length < 4 → Runs (.epochDrain tag) s fun x =>
        (x.thr t).postFail = true ∧ ∃ r ∈ (x.src (202 + (d.thr t).engine)).queue, r.1.sev = 2 ∧ r.1.code = 0x40 ∧ r.1.tkind = 0) ∧
    (∀ n : Fin 16, ∀ t, t = d.fget TIM_COMMIT_INSTANT.INSTANT 0 n →
      (state d n = 2 → d.lastInstant = some t → d.now + 2048 ≤ t → Runs (.commitCancel n) s fun x =>
        state x n = 1 ∧ x.fget TIM_COMMIT_STAT.LAST_STATUS 0 n = 9 ∧ n.val ∉ x.commits.order ∧ x.commits.epoch = c.epoch) ∧
      (state d n ≠ 2 ∨ d.lastInstant ≠ some t ∨ t < d.now + 2048 → exec (.commitCancel n) s = .next s))

/-- R639 to R643, R654, R655, R685. POWER_ON, and a brownout of VDD_CORE, VDD_SRAM or VDD_IO of a device that is not held, hold a power-on reset: every register
but the three named (whose fields say why) is what P restores it to, all threads FREE, no image, no request, no waiting fault; THERMTRIP does the same and nothing but POWER_ON ends it. RESET_N holds a warm reset, LAST_RESET 1,
unless a power-on reset or THERMTRIP holds. The release of a hold lets boot begin; TEST_EN is sampled at that of a power-on reset alone. Fuses and the key store stay through all. A supply brownout is counted with its rail;
POWER_ON alone clears that record.
Completes: POWER_ON, BROWNOUT, THERMTRIP, RESET_N, RESET_RELEASE. -/
def Obligations.PowerAndWarmResets : Prop :=
  ∀ (s : State) (rail : Fin 13) (mv : BitVec 16) (testEn : Bool),
    let d := s.dev
    let own : List RK := [.CSP_STATUS, .RST_CAUSE]
    let blank (x : Dev) : Prop := x.threads = [] ∧ x.wygel.images = [] ∧ x.wygel.scratch = [] ∧ x.core.flights = [] ∧
      x.core.buf = [] ∧ x.faults.srcs = [] ∧ x.commits.order = [] ∧ x.wygel.keys = d.wygel.keys ∧ x.fuses = d.fuses ∧
      x.out = d.out
    let restored (k : RstKind) (but : List RK) (x : Dev) : Prop :=
      ∀ r : Reg, r.k ∉ but → x.rd r = r.restored d.fuses k (d.rd r)
    (Runs .powerOn s fun x => x.gable.boot = .heldPower ∧ blank x ∧ restored .power own x ∧ x.rd ⟨.RST_CAUSE, 0, 0⟩ = 0 ∧
      x.gable.railsLow = [] ∧ x.gable.hot = [] ∧ x.gable.ir = 2) ∧
    (rail.val ≤ 2 → d.gable.boot = .up → Runs (.brownout rail mv) s fun x => x.gable.boot = .heldPower ∧ blank x ∧
      restored .power own x ∧ rail.val ∈ x.gable.railsLow ∧ x.fget RST_CAUSE.RAIL = rail ∧ x.fget RST_CAUSE.BROWNOUT = 1) ∧
    (d.gable.hot.any (16 ≤ ·) = true → Runs .thermtrip s fun x => x.gable.boot = .tripped ∧ blank x ∧ restored .power own x) ∧
    (d.gable.hot.any (16 ≤ ·) = false → exec .thermtrip s = .next s) ∧
    (d.gable.boot = .up → Runs .resetN s fun x => x.gable.boot = .heldWarm ∧ blank x ∧
      restored .warm [.CSP_STATUS, .WGL_ENG_CTRL] x ∧ x.fget CSP_STATUS.LAST_RESET = 1 ∧ x.gable.ir = d.gable.ir ∧
      ∀ e < 16, x.fget WGL_ENG_CTRL.STATE 0 e = if e + min 4 (d.fget WGL_CTRL.RESERVE) < 16 then 0 else 1) ∧
    (d.gable.boot = .heldPower ∨ d.gable.boot = .tripped → exec .resetN s = .next s) ∧
    (d.gable.boot = .heldPower → d.gable.railsLow = [] →
      Ends (.resetRelease testEn) s ((d.fset DBG_STAT.TEST testEn.toNat).setGable { d.gable with boot := .zeroing })) ∧
    (d.gable.boot = .heldPower → d.gable.railsLow ≠ [] → exec (.resetRelease testEn) s = .next s) ∧
    (d.gable.boot = .heldWarm → Ends (.resetRelease testEn) s (d.setGable { d.gable with boot := .zeroing })) ∧
    (d.gable.boot ∈ [.up, .zeroing, .restored, .tripped] → exec (.resetRelease testEn) s = .next s)

/-- R622 to R624, R638, R671. Boot acts only once SRAM is being zeroed, or is and the registers restored, after a release. In manufacturing test mode no image is loaded and PHASE reads TEST. Otherwise PHASE reads READY, TRY clears, and with neither slot
readable or both erased the device is in recovery, its slots' status says why, and neither port asks for the secured channel; the slot with the greater version, A of equals, whose image passes its checks boots, with no recovery entered.
Completes: BOOT_IMAGE_START. -/
def Obligations.Boot : Prop :=
  ∀ (s : State) (a b : Option (List Byte)),
    let d := s.dev
    let erased (x : Option (List Byte)) : Prop := ∃ bs, x = some bs ∧ bs ≠ [] ∧ ∀ y ∈ bs, y = 0xFF
    let starts := d.gable.boot = .zeroing ∨ d.gable.boot = .restored
    (¬ starts → exec (.bootImageStart a b) s = .next s) ∧
    (starts → d.fon DBG_STAT.TEST = true →
      Ends (.bootImageStart a b) s ((d.setGable { d.gable with boot := .up }).fset CSP_STATUS.PHASE phTest)) ∧
    (starts → d.fon DBG_STAT.TEST = false → Runs (.bootImageStart a b) s fun x =>
      x.gable.boot = .up ∧ x.fget CSP_STATUS.PHASE = phReady ∧ x.fon CHN_BOOT.TRY = false) ∧
    (∀ bs, starts → d.fon DBG_STAT.TEST = false → d.fon CHN_BOOT.TRY = false → bootVersion b ≤ bootVersion a → a = some bs →
      d.bootStatus a = 0 → imgField bs 6 1 ≠ 3 → d.wygel.images = [] → Runs (.bootImageStart a b) s fun x =>
        x.fget CHN_BOOT.BOOTED = 0 ∧ x.fget CHN_BOOT.A_STATUS = 0 ∧ x.fget CHN_BOOT.VERSION = imgField bs 0xC 4 ∧ x.gable.booted = bs ∧
        x.fon CHN_BOOT.RECOVERY = d.fon CHN_BOOT.RECOVERY ∧ ∃ im ∈ x.wygel.images, im.id = imgField bs 8 4) ∧
    (starts → d.fon DBG_STAT.TEST = false → (a = none ∨ erased a) → (b = none ∨ erased b) →
      Runs (.bootImageStart a b) s fun x => x.fon CHN_BOOT.RECOVERY = true ∧
        x.fget CHN_BOOT.A_STATUS = (if a = none then 0xC else 0xB) ∧ x.fget CHN_BOOT.B_STATUS = (if b = none then 0xC else 0xB) ∧
        x.fon ETH_MACSEC.REQUIRE 0 = false ∧ x.fon ETH_MACSEC.REQUIRE 1 = false ∧ x.threads = d.threads ∧ x.wygel = d.wygel)

/-- R644 to R652. A soft reset starts in READY alone and not while Standby is being entered; while it runs, PHASE reads SOFT with LAST_RESET 3, a second one is ignored, and when it ends PHASE reads READY, manager images, their scratch and the threads' registers as they were, all other scratch zero (and the register writes that ended threads had issued land, R62). STANDBY waits while a soft reset runs; it starts an
entry only when nothing refuses it, and otherwise records why and changes nothing else; the entry that is done takes PHASE to STANDBY and counts it. A wake instant that arrives starts the exit,
and the exit that is done takes PHASE back to READY, records its cause and delivers the messages held, each thread that waits in WAT past its instant resuming with C = 1.
Completes: SOFT, SOFT_RESET_DONE, STANDBY, STANDBY_ENTRY_DONE, WAKE_AT, STANDBY_EXIT_DONE. -/
def Obligations.SoftResetAndStandby : Prop :=
  ∀ (s : State), s.dev.answers = true →
    let d := s.dev
    let phase := d.fget CSP_STATUS.PHASE
    (phase = phReady → d.gable.entering = false → Runs .soft s fun x => x.fget CSP_STATUS.PHASE = phSoft ∧
      x.fget CSP_STATUS.LAST_RESET = 3 ∧ x.commits.order = [] ∧ ∀ n, x.setWrites n = []) ∧
    (phase ≠ phReady ∨ d.gable.entering = true → exec .soft s = .next s ∧ (phase ≠ phSoft → exec .standby s = .next s)) ∧
    (phase = phSoft → Ends .standby s { d with held := d.held ++ [.standby] }) ∧
    (phase = phSoft → Ends .softResetDone s (d.wygel.orphans.foldl Dev.orphanLands
      { d.softDone with wygel := { d.softDone.wygel with orphans := [] } })) ∧
    (phase ≠ phSoft → exec .softResetDone s = .next s) ∧
    (phase = phSoft → d.wygel.orphans = [] → Runs .softResetDone s fun x => x.fget CSP_STATUS.PHASE = phReady ∧ x.fget RST_CTRL.SOFT = 0 ∧
      (∀ t, (x.thr t).gpr = (d.thr t).gpr ∧ (x.thr t).pc = (d.thr t).pc) ∧ x.wygel.images = d.wygel.images ∧ x.core.buf = [] ∧
      (∀ a, d.keptScratch a = true → x.wygel.scratch.read a = d.wygel.scratch.read a) ∧
      ∀ a, d.keptScratch a = false → x.wygel.scratch.read a = 0) ∧
    (phase = phReady → d.gable.entering = false → d.standbyRefusal ≠ 0 →
      Ends .standby s (d.fset RST_STANDBY_STAT.RESULT d.standbyRefusal)) ∧
    (phase = phReady → d.gable.entering = false → d.standbyRefusal = 0 → Runs .standby s fun x =>
      x.gable.entering = true ∧ x.fget RST_CTRL.STANDBY = 1 ∧ x.commits.order = [] ∧ x.threads = d.threads) ∧
    (d.gable.entering = true → Runs .standbyEntryDone s fun x => x.fget CSP_STATUS.PHASE = phStandby ∧
      x.gable = { d.gable with entering := false } ∧ x.fget RST_STANDBY_STAT.RESULT = 0 ∧ x.fget RST_CTRL.STANDBY = 0 ∧
      x.threads = d.threads ∧ RegsBut [⟨.CSP_STATUS, 0, 0⟩, ⟨.RST_STANDBY_STAT, 0, 0⟩, ⟨.RST_CTRL, 0, 0⟩] d x) ∧
    (d.fon RST_STANDBY_CFG.WAKE_AT_EN = true → phase = phStandby → d.gable.entering = false → d.gable.wake = none →
      Ends .wakeAt s ((d.upTo d.wakeInstant).setGable { d.gable with wake := some 1 })) ∧
    (∀ c : Nat, d.gable.wake = some c → c < 4 → Runs .standbyExitDone s fun x => x.fget CSP_STATUS.PHASE = phReady ∧
      x.fget RST_STANDBY_STAT.WAKE_CAUSE = c ∧ x.gable.wake = none ∧ x.wygel.rxMail = d.wygel.rxMail ++ d.gable.heldMail ∧
      ∀ t rd due, (d.thr t).state = .wait → (d.thr t).wait = .instant rd due → due.toNat < d.now →
        (x.thr t).state = .run ∧ (x.thr t).flags.c = true ∧ (x.thr t).pc = (d.thr t).pc + 4)

/-- R653, R654, R683, R684, R699. A supply warning sets the rail's WARN bit and lowers its minimum, and changes no other register. A rail that recovers is low no more, and nothing else changes. A temperature sample sets each
sensor's TEMP and its ALERT (at or above ALERT_C, within 80 to 105 °C) and raises its PEAK, asserts THERM_ALERT_N when any sensor reads ALERT_C or more and releases it when all read 5 °C less; it changes no other register. A
brownout of VDD_GABLE (rail 3) of a running device takes both Ethernet links down and ends the session.
Completes: SUPPLY_WARNING, SUPPLY_RECOVERED, TEMP_SAMPLE. -/
def Obligations.SuppliesAndTemperatures : Prop :=
  ∀ (s : State) (rail : Fin 13) (mv : BitVec 16) (temps : Vector (BitVec 16) 11),
    let d := s.dev
    let ts : List Int := temps.toList.map BitVec.toInt
    let alert : Int := 16 * min 105 (max 80 (d.fget RST_THERM_CFG.ALERT_C : Int))
    (d.inReset = false → Runs (.supplyWarning rail mv) s fun x => x.fbit RST_SUPPLY_STAT.WARN rail = true ∧
      x.fget RST_SUPPLY_MIN.MIN_MV 0 rail = min mv.toNat (d.fget RST_SUPPLY_MIN.MIN_MV 0 rail) ∧
      OnlyRegs [⟨.RST_SUPPLY_STAT, 0, 0⟩, ⟨.RST_SUPPLY_MIN, 0, rail⟩] d x) ∧
    (∃ low, Ends (.supplyRecovered rail) s (d.setGable { d.gable with railsLow := low }) ∧
      ∀ r, r ∈ low ↔ r ∈ d.gable.railsLow ∧ r ≠ rail.val) ∧
    (Runs (.tempSample temps) s fun x =>
      (∀ k : Fin 11, x.fget RST_TEMP.TEMP 0 k = temps[k].toNat ∧
        (x.fon RST_TEMP.ALERT 0 k = true ↔ alert ≤ temps[k].toInt) ∧
        (BitVec.ofNat 16 (x.fget RST_TEMP.PEAK 0 k)).toInt =
          max temps[k].toInt (BitVec.ofNat 16 (d.fget RST_TEMP.PEAK 0 k)).toInt) ∧
      ((∃ t ∈ ts, alert ≤ t) → x.fget RST_THERM_CFG.ALERT_PIN = 1) ∧
      ((∀ t ∈ ts, t ≤ alert - 80) → x.fget RST_THERM_CFG.ALERT_PIN = 0) ∧
      (∀ r : Reg, r.k ≠ .RST_TEMP → r.k ≠ .RST_THERM_CFG → x.rd r = d.rd r) ∧ x.threads = d.threads ∧ x.out = d.out) ∧
    (rail = 3 → d.gable.boot = .up → Runs (.brownout rail mv) s fun x => x.session = false ∧
      x.fon ETH_STAT.LINK 0 = false ∧ x.fon ETH_STAT.LINK 1 = false ∧ x.fbit RST_SUPPLY_STAT.BROWNOUT 3 = true ∧
      3 ∈ x.gable.railsLow)

/-- R550, R552, R560, R566. FAULT_RECORD takes the oldest record of the source that is next; with a reaction of LOG alone it counts the record in its unit, shows its code and severity there, and
writes an entry with NOW, the detail and the record at NEXT, which moves on with SEQ. R555, R557, R558. ENTER puts the device into the device fault state with both status bits; EXIT, ignored while a UC-F condition is
held, and QUIET_EXIT, at a course boundary once QUIET courses have passed since the last UC-F, leave it and count a recovery. R546. A pair bad on two clocks sets WIRE_FAULT of its unit; the flag clears only once
the pair reads good again, and work that waited for a mover is given one. R169. A register write that comes in a soft reset waits for its end.
Completes: FAULT_RECORD, ENTER, EXIT, QUIET_EXIT, WIRE, WIRE_FAULT_CLEAR. -/
def Obligations.FaultCollection : Prop :=
  ∀ (s : State) (u : Fin 412) (a b : BitVec 2), s.dev.answers = true →
    let d := s.dev
    let bad (x : BitVec 2) : Prop := x = 0 ∨ x = 3
    let inState (x : Dev) (n : Nat) : Prop := x.fget FLT_STATUS.FAULT_STATE = n ∧ x.fget CSP_STATUS.FAULT_STATE = n
    (∀ n r o rest, d.nextSrc = some n → n < 412 → (d.src n).own = [] → (d.src n).queue = (r, o) :: rest → d.reaction n r.sev = 1 →
      r.code < 2 ^ 14 → r.sev < 4 → Runs .faultRecord s fun x =>
        (x.src n).queue = rest ∧ x.faults.last = n ∧ x.fget FLT_UNIT_LAST.CODE n = r.code ∧ x.fget FLT_UNIT_LAST.SEV n = r.sev ∧
        (r.sev = 0 → x.fget FLT_UNIT_CNT.CE n = min (d.fget FLT_UNIT_CNT.CE n + 1) (2 ^ FLT_UNIT_CNT.CE.w - 1)) ∧
        (r.sev = 1 → x.fget FLT_UNIT_CNT.DE n = min (d.fget FLT_UNIT_CNT.DE n + 1) (2 ^ FLT_UNIT_CNT.DE.w - 1)) ∧
        (let i := d.fget FLT_HIST_STAT.NEXT
         (x.rd ⟨.FLT_HIST0, 0, i⟩).toNat = d.now ∧ x.rd ⟨.FLT_HIST1, 0, i⟩ = r.detail ∧
         bitsOf (x.rd ⟨.FLT_HIST2, 0, i⟩) 0 9 = n ∧ bitsOf (x.rd ⟨.FLT_HIST2, 0, i⟩) 9 2 = r.sev ∧
         bitsOf (x.rd ⟨.FLT_HIST2, 0, i⟩) 11 14 = r.code ∧ x.fget FLT_HIST_STAT.NEXT = (i + 1) % 64 ∧
         x.fget FLT_HIST_STAT.SEQ = (d.fget FLT_HIST_STAT.SEQ + 1) % 2 ^ 32) ∧ x.out = d.out ∧ x.threads = d.threads) ∧
    (d.nextSrc = none → exec .faultRecord s = .next s) ∧
    let waits (i : Instr) : Prop := d.phase = phSoft → Ends i s { d with held := d.held ++ [i] }
    waits .enter ∧ waits .exit ∧ waits (.wireFaultClear u) ∧
    (d.phase ≠ phSoft → d.inFault = false → Runs .enter s fun x => inState x 1 ∧ x.fget FLT_LAST_UCF.NOW = d.now) ∧
    (d.phase ≠ phSoft → d.inFault = true → d.ucfHeld = false → Runs .exit s fun x => inState x 0) ∧
    (d.phase ≠ phSoft → d.inFault = false ∨ d.ucfHeld = true → exec .exit s = .next s) ∧
    (let due := d.fget FLT_LAST_UCF.NOW + min 16000 (max 1 (d.fget FLT_CTRL.QUIET)) * 1048576
     let boundary := (d.now + 1048575) / 1048576 * 1048576
     (d.inFault = true → d.ucfHeld = false → due ≤ boundary → boundary < 2 ^ 64 → Runs .quietExit s fun x =>
        inState x 0 ∧ x.now = boundary) ∧
     (d.inFault = false ∨ d.ucfHeld = true → exec .quietExit s = .next s)) ∧
    (bad a → bad b → d.fon FLT_UNIT_STAT.WIRE_FAULT u = false → Runs (.wire u a b) s fun x =>
      x.fget FLT_UNIT_STAT.WIRE_FAULT u = 1 ∧ (x.src u).own ≠ []) ∧
    (¬ bad a ∨ ¬ bad b → d.fon FLT_UNIT_STAT.WIRE_FAULT u = false → Runs (.wire u a b) s fun x =>
      x.regs = d.regs ∧ (x.src u).own = (d.src u).own ∧ ((x.src u).pairOk = true ↔ ¬ bad a ∧ ¬ bad b)) ∧
    (d.phase ≠ phSoft → (d.src u).pairOk = true →
      Ends (.wireFaultClear u) s (d.fset FLT_UNIT_STAT.WIRE_FAULT 0 u).reassign) ∧
    (d.phase ≠ phSoft → (d.src u).pairOk = false → exec (.wireFaultClear u) s = .next s)

/-- R528, R530, R532. A running scrubber moves to the next word of its cluster, when its bank has not left service; a word that reads uncorrectable is poisoned, and one that does not takes no poison; two wrong bits, which the strong code corrects, are uncorrectable under the light one (R522). R526. LOCK checks the table: LOCK_ERR takes the first
violation, and without one the lock is applied; when that ends LOCK and REGION_LOCK read 1. R536. A macro of a bank in service with a free spare is copied, and the end of the copy switches the map and takes the old macro out;
no spare gives NOSPARE. R537, R541. A fixed bank is not retired (FIXED), nor one being copied (BUSY) or out of service (BADSTATE); a reserve bank in service begins to leave, and a bank's release takes it out of the counts, a directory
bank's when its last entry has gone. R169. A register write that comes in a soft reset waits for its end. Completes: SCRUB_VISIT, REGION_LOCK, REGION_LOCK_DONE, RETIRE_MACRO, MACRO_COPY_DONE, RETIRE_BANK, BANK_RELEASED. -/
def Obligations.StoredDataIntegrity : Prop :=
  ∀ (s : State) (c : Fin 16) (b : Fin 256) (m : Fin 16), s.dev.answers = true →
    let d := s.dev
    let bank := d.fget MEM_SCRUB_STAT.BANK 0 c
    let word := d.fget MEM_SCRUB_STAT.WORD 0 c
    let st := d.fget MEM_BANK_STAT.STATE b
    let result (x : Dev) (n : Nat) : Prop := x.fget MEM_BANK_STAT.RESULT b = n
    (d.scrubberRuns c = true → d.scrubbed bank = true → word < 65535 → ∀ r, (let reads := d.readAs bank r; Runs (.scrubVisit c r) s fun x =>
      x.fget MEM_SCRUB_STAT.WORD 0 c = word + 1 ∧ x.fget MEM_SCRUB_STAT.BANK 0 c = bank ∧
      x.fget MEM_SCRUB_STAT.LAPS 0 c = d.fget MEM_SCRUB_STAT.LAPS 0 c ∧
      d.now ≤ x.now ∧
      (reads = .uncorrectable → match d.fget MEM_BANK_CFG.REGION bank with
        | 6 => d.regionWord bank word ∈ x.wygel.pstoreBad
        | 7 => 2 * d.regionWord bank word ∈ x.wygel.scratchPoison ∧ 2 * d.regionWord bank word + 1 ∈ x.wygel.scratchPoison
        | _ => bank * 65536 + word ∈ x.integ.poison) ∧
      (reads ≠ .uncorrectable → x.integ.poison = d.integ.poison ∧ x.wygel = d.wygel))) ∧
    (d.lightCode bank = true → d.readAs bank (.corrected 0xFF) = .uncorrectable) ∧
    (d.lightCode bank = false → ∀ r, d.readAs bank r = r) ∧
    (d.scrubberRuns c = false → ∀ r, exec (.scrubVisit c r) s = .next s) ∧
    let waits (i : Instr) : Prop := d.phase = phSoft → Ends i s { d with held := d.held ++ [i] }
    waits .regionLock ∧ waits (.retireMacro b m) ∧ waits (.retireBank b) ∧
    (d.phase ≠ phSoft → d.fon MEM_REGION_CTRL.LOCK = false → d.fon MEM_REGION_CTRL.BUSY = false →
      (d.lockErr = 0 → Ends .regionLock s ((d.fset MEM_REGION_CTRL.LOCK_ERR 0).fset MEM_REGION_CTRL.BUSY 1)) ∧
      (d.lockErr ≠ 0 → Ends .regionLock s (d.fset MEM_REGION_CTRL.LOCK_ERR d.lockErr))) ∧
    (d.phase ≠ phSoft → d.fon MEM_REGION_CTRL.LOCK = true ∨ d.fon MEM_REGION_CTRL.BUSY = true → exec .regionLock s = .next s) ∧
    (d.fon MEM_REGION_CTRL.BUSY = true → Runs .regionLockDone s fun x =>
      x.fget MEM_REGION_CTRL.LOCK = 1 ∧ x.fget MEM_REGION_CTRL.BUSY = 0 ∧ x.fget CSP_STATUS.REGION_LOCK = 1) ∧
    (d.phase ≠ phSoft → st = 0 → ∀ k, d.freeSpare b = some k → Runs (.retireMacro b m) s fun x => x.fget MEM_BANK_STAT.STATE b = 1 ∧
      x.integ = { d.integ with copies := x.integ.copies } ∧ Tab.get (0, 0) x.integ.copies b = (m.val, k) ∧
      OnlyRegs [⟨.MEM_BANK_STAT, b, 0⟩, ⟨.MEM_BANK_CTRL, b, 0⟩] d { x with integ := d.integ }) ∧
    (d.phase ≠ phSoft → st = 0 → d.freeSpare b = none → Runs (.retireMacro b m) s fun x => result x 3 ∧ x.fget MEM_BANK_STAT.STATE b = 0 ∧
      x.integ = d.integ) ∧
    (∀ k : Nat, d.integ.copies.find? (fun e => e.1 == b.val) = some (b.val, m.val, k) → k = 16 ∨ k = 17 → d.physMacro b m = m →
      d.fget MEM_BANK_STAT.SPARE0 b = 0x1F ∧ d.fget MEM_BANK_STAT.SPARE1 b = 0x1F →
      Runs (.macroCopyDone b) s fun x => result x 0 ∧ x.fget MEM_BANK_STAT.STATE b = 0 ∧ x.physMacro b m = k ∧
        x.fbit MEM_BANK_STAT.MACRO_OUT m b = true ∧ (∀ e ∈ x.integ.copies, e.1 ≠ b.val)) ∧
    let asked := d.fset MEM_BANK_CTRL.OP 2 b
    let ends (st r : Nat) : Prop :=
      Ends (.retireBank b) s ((asked.fset MEM_BANK_STAT.STATE st b).fset MEM_BANK_STAT.RESULT r b).dirSettle
    let refused (r : Nat) : Prop := Ends (.retireBank b) s (asked.fset MEM_BANK_STAT.RESULT r b).dirSettle
    (d.phase ≠ phSoft → st = 1 → refused 1) ∧ (d.phase ≠ phSoft → 2 ≤ st → refused 2) ∧
    (d.phase ≠ phSoft → st = 0 → d.fget MEM_BANK_CFG.REGION b = 8 ∨ d.fget MEM_BANK_CFG.REGION b = 9 → refused 5) ∧
    (d.phase ≠ phSoft → st = 0 → d.fget MEM_BANK_CFG.REGION b = 1 → d.fget MEM_BANK_CFG.POSITION b < 2 → refused 5) ∧
    (d.phase ≠ phSoft → st = 0 → d.fget MEM_BANK_CFG.REGION b = 15 → ends 2 0) ∧
    (st = 2 → d.fget MEM_BANK_CFG.REGION b = 0 →
      (∃ i ∈ d.validEntries, dirBank (i / 16) (i % 16) = d.fget MEM_BANK_CFG.POSITION b) → exec (.bankReleased b) s = .next s) ∧
    (st = 2 → d.fget MEM_BANK_CFG.REGION b ≠ 0 → Runs (.bankReleased b) s fun x => x.fget MEM_BANK_STAT.STATE b = 3 ∧
      x.fget CSP_STATUS.BANKS_IN_SERVICE = d.fget CSP_STATUS.BANKS_IN_SERVICE - 1 ∧
      x.fget MEM_REGION.BANKS 0 (d.fget MEM_BANK_CFG.REGION b) = d.fget MEM_REGION.BANKS 0 (d.fget MEM_BANK_CFG.REGION b) - 1 ∧
      { x with regs := d.regs } = d)

/-- R660 to R662. TAP_RESET and IDCODE select IDCODE, which captures bits [31:28] the revision, [27:12] 0x0512, [11:1] 0x5A3, [0] 1; SAMPLE/PRELOAD and BYPASS select theirs; EXTEST, CLAMP, HIGHZ, EXTEST_PULSE and EXTEST_TRAIN act only in manufacturing test mode, and
elsewhere as BYPASS, with JTAG_BLOCKED set. R664 to R666. A poll captures the latest access; an access is discarded while one is busy, refused at once when misaligned or locked out, and otherwise busy with its address; a register read that is done answers what the register shows, with STATUS 2. R669. The debug lock sets
both its bits and nothing undoes it. R14 to R16. A failed slot die or gable die interface is remembered, the latter's session over and its Ethernet links down.
R660. A power-on reset holds the port itself in reset; here the device is supplied. Completes: TAP_RESET, EXTEST, SAMPLE_PRELOAD, IDCODE, CLAMP, HIGHZ, EXTEST_PULSE, EXTEST_TRAIN, BYPASS, DAP_POLL, DAP_READ, DAP_WRITE, DAP_ACCESS_DONE,
DEBUG_LOCK, D2D_FAIL. -/
def Obligations.DebugAndTest : Prop :=
  ∀ (s : State) (addr : BitVec 48) (data : Word), s.dev.gable.boot ≠ .heldPower → s.dev.gable.boot ≠ .tripped →
    let d := s.dev
    let selects (i : Instr) (ir : Nat) : Prop := Ends i s (d.setGable { d.gable with ir := ir })
    let testOnly (i : Instr) (ir : Nat) : Prop :=
      (d.fon DBG_STAT.TEST = true → selects i ir) ∧
      (d.fon DBG_STAT.TEST = false → Ends i s ((d.setGable { d.gable with ir := 0xFF }).fset DBG_STAT.JTAG_BLOCKED 1))
    let port (x : Gable) : Gable := { x with ir := 0x20 }
    selects .tapReset 2 ∧ selects .bypass 0xFF ∧
    Ends .samplePreload s ((d.setGable { d.gable with ir := 1 }).send (.pins d.tmx d.tmxClk
      (slotBits fun k => d.fon SLT_STAT.PG k) (slotBits fun k => d.fon SLT_STAT.EWARN k))).used ∧
    (d.fon DBG_TMX_SEL.EN = false → d.tmx = 0 ∧ d.tmxClk = 0) ∧
    (0xD0 ≤ d.fget DBG_TMX_SEL.GROUP → d.fon CSP_STATUS.DEBUG_LOCK = true → d.tmx = 0) ∧
    testOnly .extest 0 ∧ testOnly .clamp 3 ∧ testOnly .highz 4 ∧ testOnly .extestPulse 8 ∧ testOnly .extestTrain 9 ∧
    (∃ v : BitVec 32, Ends .idcode s ((d.setGable { d.gable with ir := 2 }).send (.idcode v)) ∧
      v.extractLsb' 0 1 = 1 ∧ v.extractLsb' 1 11 = 0x5A3 ∧ v.extractLsb' 12 16 = 0x0512 ∧
      (v.extractLsb' 28 4).toNat = d.fuses.revLetter % 16) ∧
    Ends .dapPoll s ((d.setGable (port d.gable)).send
      (.dapCapture d.gable.dapAddr d.gable.dapData d.gable.dapStatus d.gable.dapCause)) ∧
    (d.gable.dap.isSome → Ends (.dapRead addr) s (d.setGable (port d.gable)) ∧
      Ends (.dapWrite addr data) s (d.setGable (port d.gable))) ∧
    (d.gable.dap = none → addr.toNat % 8 = 0 → addr.toNat < 2 ^ 47 → d.restored = true →
      (Runs (.dapRead addr) s fun x => x.gable.dap = some ⟨false, addr.toNat, 0, none, false⟩ ∧ x.gable.dapStatus = 1 ∧
        x.gable.dapAddr = addr.toNat ∧ OnlyRegs [⟨.DBG_STAT, 0, 0⟩] d { x with gable := d.gable }) ∧
      (d.fon CSP_STATUS.DEBUG_LOCK = false → Runs (.dapWrite addr data) s fun x =>
        x.gable.dap = some ⟨true, addr.toNat, data, none, false⟩ ∧ x.gable.dapStatus = 1) ∧
      (d.fon CSP_STATUS.DEBUG_LOCK = true → Runs (.dapWrite addr data) s fun x => x.gable.dap = none ∧ x.gable.dapStatus = 3 ∧
        x.gable.dapCause = 4 ∧ x.fget CSP_ERR.CAUSE = 4 ∧ x.fget CSP_ERR.SOURCE = 2 ∧ x.fget CSP_ERR.ADDR = addr.toNat)) ∧
    (d.gable.dap = none → addr.toNat % 8 ≠ 0 → Runs (.dapRead addr) s fun x => x.gable.dap = none ∧ x.gable.dapStatus = 3 ∧
      x.gable.dapCause = 5) ∧
    (∀ r a, d.gable.dap = some ⟨false, a, 0, none, false⟩ → d.restored = true → regAt a = some r → d.regWaits a = false → r.k.writeOnly = 0 →
      a % 8 = 0 → Runs .dapAccessDone s fun x => x.gable.dap = none ∧ x.gable.dapStatus = 2 ∧ x.gable.dapData = d.shown r ∧
        RegsBut [r] d x) ∧
    (d.gable.dap = none → addr.toNat % 8 = 0 → d.restored = false → Runs (.dapRead addr) s fun x => x.gable.dap = none ∧
      x.gable.dapStatus = 3 ∧ x.gable.dapCause = 2) ∧
    (∀ a, d.gable.dap = some ⟨false, a, 0, none, false⟩ → d.restored = true → mapped a = false →
      Runs .dapAccessDone s fun x => x.gable.dap = none ∧ x.gable.dapStatus = 3 ∧ x.gable.dapCause = 1) ∧
    (d.answers = true → d.phase = phSoft → Ends .debugLock s { d with held := d.held ++ [.debugLock] }) ∧
    (d.answers = true → d.phase ≠ phSoft → d.fon CSP_STATUS.DEBUG_LOCK = false → Runs .debugLock s fun x =>
      x.fget CSP_STATUS.DEBUG_LOCK = 1 ∧ x.fget DBG_CTRL.LOCK = 1 ∧ (∀ l, x.fget LAN_PRBS_INJ.LIVE l = d.fget LAN_PRBS_INJ.LIVE l)) ∧
    (d.answers = true → d.phase ≠ phSoft → d.fon CSP_STATUS.DEBUG_LOCK = true → exec .debugLock s = .next s) ∧
    (d.phase = phTest → exec .debugLock s = .next s) ∧
    (d.inReset = false → Runs (.d2dFail 9) s fun x => x.slotDieFailed = true ∧ x.threads = d.threads ∧ x.wygel = d.wygel) ∧
    (d.inReset = false → Runs (.d2dFail 8) s fun x => x.gableFailed = true ∧ x.session = false ∧
      x.fget FLT_UNIT_STAT.CONDITION 168 = 1 ∧ (∀ p : Fin 2, x.fget ETH_STAT.LINK p = 0 ∧ x.fget ETH_STAT.SECURED p = 0))

/-- R173, R178, R193, R245. A partner restarts the bring-up of a DOWN port whose quadrant has its reference, and of no other; bring-up takes the lanes from PRBS, and while no receiver is found detection repeats. R173, R219, R223,
R224, R177, R174. What training comes to: nothing without the reference; cause 9 where no width trains; cause 6 for a partner that an upstream port does not take; cause 5 for an inter-switch link below 64 GT/s; else a link of the
widest width whose logical lanes all train, at the highest rate of both ends that it reaches, within the skew of that rate. R245. A link gives UP with its figures, the FLIT code of R222, the lanes of the width
active in their order or reversed, POL_INV and EQ_FAIL as found (R176, R180), the coefficients that equalisation agreed (R184) or C-1 of 0 below 8 GT/s (R182), and the IDE state (R241); a cause gives DOWN with it. R173. A stopped reference
marks the quadrant's lanes, takes its up ports DOWN with cause 4, and clears the link layer of those in training; a restored one stops no quadrant but those that were stopped beside it.
Completes: PARTNER_DETECTED, RECEIVER_DETECTION, TRAINING_DONE, TRAINING_FAILED, REFCLK_LOSS, REFCLK_RESTORED. -/
def Obligations.PortBringUp : Prop :=
  ∀ (s : State) (p : Fin 128) (q : Fin 32), s.dev.inReset = false →
    let d := s.dev
    let st := d.portState p
    let mode := d.portMode p
    let trains (x : Dev) : Prop := x.portState p = poTraining ∧ ∀ l ∈ d.lanesOf p,
      x.fget LAN_PRBS_CTRL.GEN_EN l = 0 ∧ x.fget LAN_PRBS_CTRL.CHK_EN l = 0 ∧
      (d.fon LAN_PRBS_CTRL.GEN_EN l = true ∨ d.fon LAN_PRBS_CTRL.CHK_EN l = true → x.fget LAN_PRBS_STAT.PREEMPTED l = 1)
    let down (c : Nat) (x : Dev) : Prop := x.portState p = poDown ∧ x.fget CXP_LINK_STAT.CAUSE p = c
    (st = poDown → d.refOk p = true → Runs (.partnerDetected p) s trains) ∧
    (st ≠ poDown ∨ d.refOk p = false → exec (.partnerDetected p) s = .next s) ∧
    (st = poTraining → Runs (.receiverDetection p) s trains) ∧
    (st ≠ poTraining → exec (.receiverDetection p) s = .next s) ∧
    (∀ t : LinkTraining,
      let ends := d.trainEnd p t
      let n := d.cfgLanes p
      let order (k : Nat) : Nat := if t.reversed then n - 1 - k else k
      let done : Instr := .trainingDone p t.toLaneTraining t.rate t.bypass t.reuse t.eqFailed t.lowMerit t.toPartnerKind t.toAltProtocol
      (d.refOk p = false → ends = .on) ∧
      (d.refOk p = true → (∀ w ∈ [1, 2, 4, 8, 16], w ≤ n → ∃ k < w, d.logicalTrains p t k = false) → ends = .down 9) ∧
      (d.refOk p = true → d.trainWidth p t ≠ 0 → mode = 1 → t.partner ≠ 2 → t.partner ≠ 3 → ends = .down 6) ∧
      (d.refOk p = true → d.trainWidth p t ≠ 0 → mode = 3 → t.partner = 3 → ∀ r, d.trainRate p t = some r → r < 5 → ends = .down 5) ∧
      (∀ w r, ends = .link w r → w ∈ [1, 2, 4, 8, 16] ∧ w ≤ n ∧ (∀ k < w, d.logicalTrains p t k = true) ∧
        (∀ w' ∈ [2, 4, 8, 16], w < w' → w' ≤ n → ∃ k < w', d.logicalTrains p t k = false) ∧
        r ≤ d.rateCap p ∧ r ≤ t.rate.toNat ∧ t.skew ≤ (if r ≤ 3 then 20 else if r = 4 then 8 else 6) ∧
        (∀ r', r < r' → r' ≤ d.rateCap p → r' ≤ t.rate.toNat → d.reachesRate p t r' = false) ∧ (mode = 3 → 5 ≤ r)) ∧
      (st ≠ poTraining ∨ mode = 4 ∨ ends = .on → exec done s = .next s) ∧
      (st ≠ poTraining ∨ d.refOk p = false → exec (.trainingFailed p t) s = .next s) ∧
      (st = poTraining → mode ≠ 4 → ∀ c, ends = .down c → Runs done s (down c)) ∧
      (st = poTraining → d.refOk p = true → Runs (.trainingFailed p t) s fun x => x.portState p = poDown ∧
        ∀ c, ends = .down c → x.fget CXP_LINK_STAT.CAUSE p = c) ∧
      (st = poTraining → mode ≠ 4 → ∀ w r, ends = .link w r → Runs done s fun x =>
        x.portState p = poUp ∧ x.fget CXP_LINK_STAT.WIDTH p = w ∧ x.fget CXP_LINK_STAT.RATE p = r ∧
        x.fget CXP_LINK_STAT.PARTNER p = t.partner.toNat ∧
        x.fget CXP_LINK_STAT.FLIT p = (if t.partner = 1 ∨ t.partner = 5 then (if r ≤ 4 then 0 else 2)
          else if r ≤ 4 then 1 else if t.lo = true ∧ d.fon CXP_PORT_CFG.FLIT_LO p = true then 3 else 2) ∧
        (∀ k < n, order k < w → x.fget LAN_STATUS.ACTIVE (4 * p + k) = 1 ∧ x.fget LAN_STATUS.LOGICAL (4 * p + k) = order k ∧
          x.fget LAN_STATUS.RATE (4 * p + k) = r) ∧
        (∀ k < n, let l := 4 * p.val + k
          x.fget LAN_STATUS.POL_INV l = (t.polInv.getLsbD k).toNat ∧
          (t.lowMerit.getLsbD k = true → x.fget LAN_STATUS.EQ_FAIL l = 1) ∧
          (2 ≤ r → d.fon LAN_TXEQ.FORCE l = false → d.reuses t r l = false → (d.lane l).eqRate = some r →
            ∀ c ∈ [LAN_TXEQ.PRE, LAN_TXEQ.POST, LAN_TXEQ.MAIN], x.fget c l = d.fget c l) ∧
          (r < 2 → (d.lane l).eqRate = none → x.fget LAN_TXEQ.PRE l = 0)) ∧
        (d.fon CXP_IDE_CFG.EN p = true → x.fget CXP_IDE_CFG.STREAM p = if mode = 1 then 1 else 2))) ∧
    (∃ l, Ends (.refclkRestored q) s { d with refStopped := l } ∧ ∀ k, k ∈ l ↔ k ∈ d.refStopped ∧ k ≠ q.val) ∧
    (Runs (.refclkLoss q) s fun x => q.val ∈ x.refStopped ∧ (∀ k < 16, x.fget LAN_STATUS.REFCLK_LOST (16 * q + k) = 1) ∧
      ∀ u ∈ d.portsIn q, (d.portUp u = true → x.portState u = poDown ∧ x.fget CXP_LINK_STAT.CAUSE u = 4) ∧
        (d.portState u = poTraining → x.portState u = poTraining ∧ x.fget TLK_STATUS.LL_STATE u = 0))

/-- R241 to R248, R254, R421. Each takes an UP port out of UP, with its cause, its trained figures cleared, its lanes carrying nothing and one more in DOWN_COUNT: a link
loss to DOWN with cause 1, an IDE failure of a port with IDE to DOWN with cause 3 and one more failure, a hot reset or a planned link-down to TRAINING with cause
2. CONTAIN gives CONTAINED with cause 7 and the containment's own cause 4 in any state but OFF and CONTAINED, where it is logged alone. RELEASE starts bring-up of a contained port, clearing
its containment and its host's DEAD, unless the walk of its host runs. IDE_KM sets the stream state of an upstream port with IDE alone, but a stream that leaves the secure state takes the port down with cause 3; KEY_REFRESH draws a new
key of 256 bits on a downstream or inter-switch port and changes nothing that a register shows. R169. A register write that comes in a soft reset waits for its end. Completes: LINK_DOWN, HOT_RESET, IDE_FAILURE, IDE_KM,
KEY_REFRESH, CONTAIN, RELEASE. -/
def Obligations.PortLossAndContainment : Prop :=
  ∀ (s : State) (p : Fin 128),
    let d := s.dev
    let mode := d.portMode p
    let left (next cause : Nat) (x : Dev) : Prop := x.portState p = next ∧ x.fget CXP_LINK_STAT.CAUSE p = cause ∧
      x.fget CXP_LINK_STAT.WIDTH p = 0 ∧ x.fget CXP_LINK_STAT.RATE p = 0 ∧ x.fget CXP_LINK_STAT.PARTNER p = 0 ∧
      x.fget CXP_LINK_STAT.DOWN_COUNT p = min 65535 (d.fget CXP_LINK_STAT.DOWN_COUNT p + 1) ∧
      ∀ l ∈ d.lanesOf p, x.fget LAN_STATUS.ACTIVE l = 0
    let ide : Prop := d.fon CXP_IDE_CFG.EN p = true
    (d.inReset = false →
      (d.portUp p = true → Runs (.linkDown p) s (left poDown 1) ∧
        (∀ planned, Runs (.hotReset (p, planned)) s fun x => left poTraining 2 x ∧ x.fget CXP_IDE_CFG.STREAM p = 0) ∧
        (ide → Runs (.ideFailure p) s fun x => left poDown 3 x ∧
          x.fget CXP_IDE_CFG.FAILS p = min 65535 (d.fget CXP_IDE_CFG.FAILS p + 1))) ∧
      (d.portUp p = false → exec (.linkDown p) s = .next s ∧ ∀ b, exec (.hotReset (p, b)) s = .next s) ∧
      (d.portUp p = false ∨ ¬ ide → exec (.ideFailure p) s = .next s ∧ ∀ b, exec (.ideKm p b) s = .next s) ∧
      (d.portUp p = true → mode = 1 → ide →
        Ends (.ideKm p true) s (d.fset CXP_IDE_CFG.STREAM 2 p) ∧
        (d.fget CXP_IDE_CFG.STREAM p ≠ 2 → Ends (.ideKm p false) s (d.fset CXP_IDE_CFG.STREAM 1 p)) ∧
        (d.fget CXP_IDE_CFG.STREAM p = 2 → Runs (.ideKm p false) s (left poDown 3)))) ∧
    (d.answers = true → d.phase = phSoft → ∀ i ∈ [Instr.contain p, .release p, .keyRefresh p],
      Ends i s { d with held := d.held ++ [i] }) ∧
    (d.answers = true → d.phase ≠ phSoft →
      (d.portUp p = true → mode = 2 ∨ mode = 3 → ide →
        Runs (.keyRefresh p) s fun x => x = { d with ports := x.ports, freeCtr := d.freeCtr + 4 } ∧
          x.ports = Tab.set d.ports p { d.lanePort p with ideKey := (x.lanePort p).ideKey } ∧ (x.lanePort p).ideKey.length = 4) ∧
      (d.portUp p = false ∨ (mode ≠ 2 ∧ mode ≠ 3) ∨ ¬ ide → exec (.keyRefresh p) s = .next s) ∧
      (d.portState p = poOff ∨ d.portState p = poContained → Ends (.contain p) s (d.send (.log "containment" p))) ∧
      (d.portState p ≠ poOff → d.portState p ≠ poContained → Runs (.contain p) s fun x => x.portState p = poContained ∧
        x.fget CXP_LINK_STAT.CAUSE p = 7 ∧ x.fget CXP_CONTAIN.CONTAINED p = 1 ∧ x.fget CXP_CONTAIN.CAUSE p = 4 ∧
        (d.portUp p = true → left poContained 7 x)) ∧
      (d.portState p = poContained → mode ≠ 1 ∨ d.fon DIR_HOST_STAT.WALK 0 (d.fget CXP_PORT_CFG.VSW p) = false →
        Runs (.release p) s fun x => x.portState p = poTraining ∧ x.fget CXP_CONTAIN.CONTAINED p = 0 ∧
          x.fget CXP_CONTAIN.CAUSE p = 0 ∧ (mode = 1 → x.fget DIR_HOST_STAT.DEAD 0 (d.fget CXP_PORT_CFG.VSW p) = 0)) ∧
      (d.portState p ≠ poContained ∨ (mode = 1 ∧ d.fon DIR_HOST_STAT.WALK 0 (d.fget CXP_PORT_CFG.VSW p) = true) →
        exec (.release p) s = .next s))

/-- R182 to R196. A partner's coefficients that keep R182 and R183 at the rate they name, or at the rate of a lane that is active, on a lane not in test and not forced, are taken, MAIN
being the rest; others are rejected, logged alone. A visit of the adapter to a lane it does not skip sets EYE, moves its receiver settings, counts, and marks the lane MARGINAL after MISS_VISITS low ones in
a row. A run of margining starts with clear results, ends at once with its cause where R191 says so, and ends with the errors
counted (at most 63) and whether they reached ERR_LIMIT. A checker that is switched on starts clear, locks on bits that follow its pattern, and
counts what it checked while it was locked; a loss of lock takes more than 256 errors. Gray decoding gives back the bits coded (R192). Injection in a once mode at GO, in a periodic mode at its period, is of one bit or of a burst, on a lane in test that
generates, or of an up port with LIVE unless the debug lock refuses it. R169. A register write that comes in a soft reset waits for its end. Completes: COEFF_REQUEST, ADAPT_VISIT, MARGIN_START, MARGIN_END, REMOTE_MARGIN,
CHECKER_LOCK, CHECKER_LOCK_LOSS, PRBS_CHK_ENABLE, INJECT_GO, INJECT_PERIODIC. -/
def Obligations.LaneTests : Prop :=
  ∀ (s : State) (l : Fin 512),
    let d := s.dev
    let running : Prop := d.fget LAN_MARGIN_STAT.STATE l = 1
    let shown (x : Dev) (st cause : Nat) : Prop := x.fget LAN_MARGIN_STAT.STATE l = st ∧ x.fget LAN_MARGIN_STAT.CAUSE l = cause
    let remote (x : Dev) : Bool := (x.lane l).remote
    let apart (x : Dev) : Dev := { x with lanes := d.lanes }
    (d.inReset = false →
      (∀ (rate : BitVec 3) (pre post : BitVec 6),
        let r := if d.fon LAN_STATUS.ACTIVE l then d.fget LAN_STATUS.RATE l else rate.toNat
        let fs := if r ≤ 4 then 63 else 48
        let ok : Prop := (2 ≤ r ∧ r ≤ 4 ∧ pre.toNat ≤ 15 ∧ post.toNat ≤ 24 ∧ 21 + 2 * (pre.toNat + post.toNat) ≤ 63) ∨
          (5 ≤ r ∧ r ≤ 6 ∧ pre.toNat ≤ 12 ∧ post.toNat ≤ 18 ∧ 16 + 2 * (pre.toNat + post.toNat) ≤ 48)
        let c : Instr := .coeffRequest l rate pre post
        (d.inTest l = false → d.fon LAN_TXEQ.FORCE l = false → ok → Runs c s fun x => x.fget LAN_TXEQ.PRE l = pre.toNat ∧
          x.fget LAN_TXEQ.POST l = post.toNat ∧ x.fget LAN_TXEQ.MAIN l = fs - pre.toNat - post.toNat ∧
          (x.lane l).eqRate = some r ∧ OnlyRegs [⟨.LAN_TXEQ, l, 0⟩] d (apart x)) ∧
        (d.inTest l = false → d.fon LAN_TXEQ.FORCE l = true ∨ ¬ ok → Ends c s (d.send (.log "coefficients rejected" l))) ∧
        (d.inTest l = true → exec c s = .next s)) ∧
      (∀ eye : BitVec 16,
        let skips : Prop := d.fon LAN_CTRL.BG_ADAPT_EN l = false ∨ d.fon LAN_STATUS.ACTIVE l = false ∨ d.laneIdle l = true ∨
          d.rxShed l = true ∨ d.inTest l = true ∨ d.margining l = true ∨ (d.adapterAt l).lapOf l < (d.lane l).fromLap
        let n := if eye.toNat < d.fget LAN_ADAPT.EYE_MIN l then (d.lane l).misses + 1 else 0
        (skips → Ends (.adaptVisit l eye) s (d.adapterAt l)) ∧
        (¬ skips → Runs (.adaptVisit l eye) s fun x => x.fget LAN_STATUS.EYE l = eye.toNat ∧
          x.fget LAN_ADAPT.VISITS l = (d.fget LAN_ADAPT.VISITS l + 1) % 2 ^ 32 ∧ (x.lane l).misses = n ∧ (x.lane l).settings = d.free ∧
          (x.fon LAN_STATUS.MARGINAL l = true ↔ d.fon LAN_STATUS.MARGINAL l = true ∨ max 1 (d.fget LAN_ADAPT.MISS_VISITS l) ≤ n) ∧
          RegsBut [⟨.LAN_STATUS, l, 0⟩, ⟨.LAN_ADAPT, l, 0⟩, ⟨.FLT_UNIT_STAT, 128 + l.val / 16, 0⟩] d x)) ∧
      (∀ errors : Nat, running → Runs (.marginEnd l errors) s fun x => x.fget LAN_MARGIN_STAT.STATE l = 2 ∧
        x.fget LAN_MARGIN_STAT.ERRORS l = min 63 errors ∧ x.fget LAN_MARGIN_CTRL.START l = 0 ∧
        (x.fon LAN_MARGIN_STAT.LIMIT_HIT l = true ↔ max 1 (d.fget LAN_MARGIN_CTRL.ERR_LIMIT l) ≤ errors) ∧
        (x.lane l).sampler = none ∧ OnlyRegs [⟨.LAN_MARGIN_STAT, l, 0⟩, ⟨.LAN_MARGIN_CTRL, l, 0⟩] d (apart x)) ∧
      (∀ errors : Nat, ¬ running → exec (.marginEnd l errors) s = .next s) ∧
      (∀ p : Nat, d.portOfLane l = some p →
        Runs (.remoteMargin l false) s (fun x => remote x = false ∧ x.regs = d.regs) ∧
        (d.portUp p = true → d.portMode p ≠ 4 → d.fon LAN_PORT_CFG.REMOTE_MARGIN_EN (4 * p) = true →
          Runs (.remoteMargin l true) s fun x => remote x = true ∧ (running → shown x 3 3 ∧
            x.fget LAN_MARGIN_STAT.ERRORS l < max 1 (d.fget LAN_MARGIN_CTRL.ERR_LIMIT l))) ∧
        (d.portUp p = false ∨ d.portMode p = 4 ∨ d.fon LAN_PORT_CFG.REMOTE_MARGIN_EN (4 * p) = false →
          exec (.remoteMargin l true) s = .next s)) ∧
      (d.portOfLane l = none → ∀ hold, exec (.remoteMargin l hold) s = .next s) ∧
      (∀ bits errors : Nat,
        let locked := d.fon LAN_PRBS_STAT.LOCKED l
        let counted (x : Dev) : Prop :=
          x.fget LAN_PRBS_BITS.BITS l = (if locked then min (d.fget LAN_PRBS_BITS.BITS l + bits) (2 ^ 48 - 1) else d.fget LAN_PRBS_BITS.BITS l) ∧
          x.fget LAN_PRBS_ERR.ERRORS l =
            (if locked then min (d.fget LAN_PRBS_ERR.ERRORS l + errors) (2 ^ 32 - 1) else d.fget LAN_PRBS_ERR.ERRORS l) ∧
          OnlyRegs [⟨.LAN_PRBS_BITS, l, 0⟩, ⟨.LAN_PRBS_ERR, l, 0⟩, ⟨.LAN_PRBS_STAT, l, 0⟩] d x
        let fits (seen : List (Fin 4)) : Bool := prbsLocks (d.fget LAN_PRBS_CTRL.PATTERN l) (d.fget LAN_PRBS_CTRL.USER_PATTERN l)
          (seen.flatMap (symbolBits (decide (5 ≤ d.testRate l))))
        (∀ seen, d.checkerRuns l = true → locked = true ∨ fits seen = true → Runs (.checkerLock l (bits, errors) seen) s fun x =>
          x.fget LAN_PRBS_STAT.LOCKED l = 1 ∧ counted x) ∧
        (∀ seen, d.checkerRuns l = false ∨ (locked = false ∧ fits seen = false) →
          exec (.checkerLock l (bits, errors) seen) s = .next s) ∧
        (d.checkerRuns l = true → locked = true → 256 < errors → Runs (.checkerLockLoss l bits errors) s fun x =>
          x.fget LAN_PRBS_STAT.LOCKED l = 0 ∧
          x.fget LAN_PRBS_STAT.LOCK_LOSS l = min 255 (d.fget LAN_PRBS_STAT.LOCK_LOSS l + 1) ∧ counted x) ∧
        (d.checkerRuns l = false ∨ locked = false ∨ errors ≤ 256 → exec (.checkerLockLoss l bits errors) s = .next s))) ∧
    (∀ bits : List Bool, bits.length % 2 = 0 → (grayOf bits).flatMap (symbolBits true) = bits) ∧
    (∀ i ∈ [Instr.marginStart l, .prbsChkEnable l, .injectGo l], d.answers = true → d.phase = phSoft →
      Ends i s { d with held := d.held ++ [i] }) ∧
    (d.answers = true → d.phase ≠ phSoft →
      (running → exec (.marginStart l) s = .next s) ∧
      (¬ running → Runs (.marginStart l) s fun x => x.fget LAN_MARGIN_STAT.ERRORS l = 0 ∧ x.fget LAN_MARGIN_STAT.LIMIT_HIT l = 0 ∧
        shown x (if remote d = true ∨ (d.inTest l = false ∧ d.fon LAN_STATUS.ACTIVE l = false) ∨ d.rxShed l = true then 3 else 1)
          (if remote d = true then 3 else if d.inTest l = false ∧ d.fon LAN_STATUS.ACTIVE l = false then 1
            else if d.rxShed l = true then 2 else 0) ∧
        OnlyRegs [⟨.LAN_MARGIN_STAT, l, 0⟩, ⟨.LAN_MARGIN_CTRL, l, 0⟩] d (apart x)) ∧
      (d.fon LAN_PRBS_CTRL.CHK_EN l = false → Runs (.prbsChkEnable l) s fun x => x.fget LAN_PRBS_CTRL.CHK_EN l = 1 ∧
        x.fget LAN_PRBS_ERR.ERRORS l = 0 ∧ x.fget LAN_PRBS_BITS.BITS l = 0 ∧ x.fget LAN_PRBS_STAT.LOCK_LOSS l = 0 ∧
        x.fget LAN_PRBS_STAT.LOCKED l = 0 ∧
        OnlyRegs [⟨.LAN_PRBS_CTRL, l, 0⟩, ⟨.LAN_PRBS_ERR, l, 0⟩, ⟨.LAN_PRBS_BITS, l, 0⟩, ⟨.LAN_PRBS_STAT, l, 0⟩] d x) ∧
      (d.fon LAN_PRBS_CTRL.CHK_EN l = true → exec (.prbsChkEnable l) s = .next s) ∧
      (let m := d.fget LAN_PRBS_INJ.MODE l
       let up : Prop := ∃ p, d.portOfLane l = some p ∧ d.portUp p = true
       let made := d.send (.inject l (if m = 2 ∨ m = 4 then d.fget LAN_PRBS_INJ.BURST_LEN l + 1 else 1))
       let live := d.fon LAN_PRBS_INJ.LIVE l
       let lock := d.fon CSP_STATUS.DEBUG_LOCK
       let injects (c : Instr) : Prop :=
        (up → live = true → lock = false → Ends c s made) ∧
        (up → live = true → lock = true → Ends c s (d.fset LAN_PRBS_STAT.LIVE_REFUSED 1 l)) ∧
        (up → live = false → exec c s = .next s) ∧
        (¬ up → d.inTest l = true → d.txState l = 3 → Ends c s made) ∧
        (¬ up → d.inTest l = false ∨ d.txState l ≠ 3 → exec c s = .next s)
       (m = 1 ∨ m = 2 → injects (.injectGo l)) ∧ (m ≠ 1 → m ≠ 2 → exec (.injectGo l) s = .next s) ∧
       (∀ bits, let due : Prop := 2 ^ min 40 (max 10 (d.fget LAN_PRBS_INJ.PERIOD_LOG2 l)) ≤ bits
         (m = 3 ∨ m = 4 → due → injects (.injectPeriodic (l, bits))) ∧
         ((m ≠ 3 ∧ m ≠ 4) ∨ ¬ due → exec (.injectPeriodic (l, bits)) s = .next s))))

/-- R197 to R204, R270. At the end of a window the policy narrows a direction to half its width by a notice of 16 flits when its use is low
and half the width would hold it, or wakes its lanes when its use is high; idleness announces sleep; a flit that is ready in SLEEP wakes it. Woken lanes take up traffic at the width held before
sleep, or announce the configured width. A notice takes effect with the width it named once it has left in its flits, SLEEP only while nothing is unacknowledged or due; a partner's lanes that
change without one give Recovery. An L0p request, one step narrower at a time, or an L1 request is granted or
refused (and then logged alone) by R203 and R204; an idle upstream port enters ASPM L1 where enabled; L1_EXIT leaves it. None changes the registers of another port. R188. Lanes back from L1
adapt afresh, and the adapter takes them up on its next lap. Completes: FALLOW_WINDOW_END, FALLOW_IDLE, FALLOW_WAKE, LANES_READY, NOTICE_EFFECT, L0P_REQUEST, ASPM_L1_ENTRY, L1_EXIT. -/
def Obligations.LinkPower : Prop :=
  ∀ (s : State) (p : Fin 128), s.dev.inReset = false →
    let d := s.dev
    let l := 4 * p.val
    let h := d.lanePort p
    let st := d.fget LAN_FALLOW_STAT.STATE l
    let w := d.fget LAN_FALLOW_STAT.WIDTH l
    let full := d.fget CXP_LINK_STAT.WIDTH p
    let up : Prop := d.portUp p = true
    let link : Prop := d.portMode p = 4
    let moved (k w : Nat) (x : Dev) : Prop := x.fget LAN_FALLOW_STAT.STATE l = k ∧ x.fget LAN_FALLOW_STAT.WIDTH l = w ∧
      (k ≠ st → x.fget LAN_FALLOW_STAT.CHANGES l = (d.fget LAN_FALLOW_STAT.CHANGES l + 1) % 2 ^ 32) ∧
      (link → ∀ j, x.portOfLane j = some p.val → d.fon LAN_CTRL.LANE_EN j = true → d.fon LAN_STATUS.ACTIVE j = true → h.l1 = 0 →
        x.txState j = if d.fget LAN_STATUS.LOGICAL j < w then 1 else 2)
    (let low := d.fget LAN_FALLOW_CFG.LOW_PCT l
     let high := d.fget LAN_FALLOW_CFG.HIGH_PCT l
     let least := if d.fon LAN_FALLOW_CFG.MIN_WIDTH l then 8 else 4
     let narrow : Prop := st ≤ 1 ∧ h.used * 100 ≤ low * h.slots ∧ least * 2 ≤ w ∧ (2 * h.used * 100 < high * h.slots ∨ h.slots = 0)
     let widen : Prop := st = 1 ∧ high * h.slots ≤ h.used * 100 ∧ h.slots ≠ 0
     let ended := (d.upTo (h.windowAt + min 1024 (max 1 (d.fget LAN_FALLOW_CFG.WINDOW l)) * 1024)).toSwath
     let clear : PortHid := { h with used := 0, slots := 0, windowAt := ended.now }
     Runs (.fallowWindowEnd p) s fun x => x.now % 1024 = 0 ∧
       (d.fallowRuns p = false → x.lanePort p = clear ∧ x.regs = ended.regs) ∧
       (d.fallowRuns p = true → narrow → x.lanePort p = { clear with notice := some (w / 2), count := 16 } ∧ x.regs = ended.regs) ∧
       (d.fallowRuns p = true → ¬ narrow → widen → x.fget LAN_FALLOW_STAT.STATE l = 3 ∧ (x.lanePort p).fromSleep = false) ∧
       (d.fallowRuns p = true → ¬ narrow → ¬ widen → x.lanePort p = clear ∧ x.regs = ended.regs)) ∧
    (d.fallowRuns p = true → d.fon LAN_FALLOW_CFG.SLEEP_EN l = true → st ≤ 1 → (d.tlkPort p).replay = [] → (d.tlkPort p).naks = [] →
      (d.tlkPort p).due = [] → (∀ m ∈ d.inBuffer, m.egress ≠ p.val) → Runs (.fallowIdle p) s fun x =>
        (x.lanePort p).notice = some 0 ∧ (x.lanePort p).count = 16 ∧ (x.lanePort p).before = w ∧
        x.now = max d.now (h.lastFlit + max 1 (d.fget LAN_FALLOW_CFG.IDLE l) * 1024) % 2 ^ 64) ∧
    (d.fallowRuns p = false → exec (.fallowIdle p) s = .next s) ∧
    (up → link → st = 2 → Runs (.fallowWake p) s fun x => x.fget LAN_FALLOW_STAT.STATE l = 3 ∧ (x.lanePort p).fromSleep = true ∧
      RegsBut [⟨.LAN_FALLOW_STAT, l, 0⟩] d x) ∧
    (¬ up ∨ ¬ link ∨ st ≠ 2 → exec (.fallowWake p) s = .next s) ∧
    (up → st = 3 → h.fromSleep = true → h.before < 32 → Runs (.lanesReady p) s fun x => moved (if h.before = full then 0 else 1) h.before x ∧
      (x.lanePort p).fromSleep = false) ∧
    (up → st = 3 → h.fromSleep = false → h.notice = none →
      Ends (.lanesReady p) s (d.setLanePort p { h with notice := some full, count := 16 })) ∧
    (¬ up ∨ st ≠ 3 → exec (.lanesReady p) s = .next s) ∧
    (∀ n, up → link → h.notice = some n → n < 32 → h.count = 0 →
      (n = 0 → (d.tlkPort p).replay = [] ∧ (d.tlkPort p).naks = [] ∧ (d.tlkPort p).due = []) → Runs (.noticeEffect p false) s fun x =>
      moved (if n = 0 then 2 else if n = full then 0 else 1) n x ∧ (x.lanePort p).notice = none) ∧
    (up → link → h.notice = none ∨ h.count ≠ 0 → exec (.noticeEffect p false) s = .next s) ∧
    (up → link → (d.tlkPort p).noticeRx = none → Ends (.noticeEffect p true) s (d.tlkRecovery p)) ∧
    (∀ n, up → link → (d.tlkPort p).noticeRx = some n → Runs (.noticeEffect p true) s fun x => (x.tlkPort p).noticeRx = none ∧
      (x.lanePort p).rxWidth = (let k := if n = 1 then 4 else if n = 2 then 8 else if n = 3 then 16 else 0
        if full ≤ k then none else some k)) ∧
    (¬ up ∨ ¬ link → ∀ b, exec (.noticeEffect p b) s = .next s) ∧
    (∀ n, up → ¬ link →
      let granted : Prop := d.fon LAN_PORT_CFG.L0P_EN l = true ∧ 2 ≤ d.fget CXP_LINK_STAT.FLIT p ∧ 5 ≤ d.fget CXP_LINK_STAT.RATE p ∧
        (n = full ∨ ((n = 4 ∨ n = 8) ∧ n < full ∧ d.ridgeHeld p = false)) ∧ (2 * n = d.txWidth p ∨ d.txWidth p ≤ n)
      (granted → Runs (.l0pRequest p (.l0p n)) s fun x => (x.lanePort p).l0p = if n = full then 0 else n) ∧
      (¬ granted → Ends (.l0pRequest p (.l0p n)) s (d.send (.log "link power request refused" p)))) ∧
    (up → ¬ link →
      let granted : Prop := d.portMode p = 2 ∧ d.fon LAN_PORT_CFG.ASPM_L1_EN l = true ∧ d.ridgeHeld p = false
      let idles (k : Nat) (x : Dev) : Prop := (x.lanePort p).l1 = k ∧ (∀ j, x.portOfLane j = some p.val → x.txState j = 0) ∧
        RegsBut [⟨.TIM_NOW, 0, 0⟩] d x
      (granted → Runs (.l0pRequest p .aspmL1) s (idles 1)) ∧
      (¬ granted → Ends (.l0pRequest p .aspmL1) s (d.send (.log "link power request refused" p))) ∧
      Runs (.l0pRequest p .pciPmL1) s (idles 2) ∧
      (d.portMode p = 1 → d.fon LAN_PORT_CFG.ASPM_L1_EN l = true → d.ridgeHeld p = false → h.l1 = 0 →
        (∀ m ∈ d.inBuffer, m.egress ≠ p.val) → Runs (.aspmL1Entry p true) s fun x => idles 1 x ∧
          x.now = max d.now (h.lastFlit + (d.fget LAN_PORT_CFG.L1_IDLE l + 1) * 1000) % 2 ^ 64) ∧
      exec (.aspmL1Entry p false) s = .next s) ∧
    (up → h.l1 ≠ 0 → Runs (.l1Exit p) s fun x => (x.lanePort p).l1 = 0 ∧ x.regs = d.regs ∧
      ∀ k ∈ d.lanesOf p, d.fon LAN_STATUS.ACTIVE k = true → (x.lane k).fromLap = d.lapOf k + 1) ∧
    (¬ up ∨ h.l1 = 0 → exec (.l1Exit p) s = .next s)

/-- R267 to R284. In an open link layer: a flit whose CRC is not that of its payload and header is counted and nothing in it is acted on; a good header gives its XOFF bits and
retires what its ACK covers, a wrong one, or a record of unknown type, breaks an ACTIVE link with cause 4. By its distance from E a DATA flit moves E on, or is held, each missing sequence before it that is neither held nor asked for already being
asked for, or changes nothing in the receiver; an IDLE flit asks likewise. A NAK of a kept flit asks for its retransmission, one of a retired flit changes nothing. A
CREDIT gives the VC its LIMIT and ends STALLED. A flit slot sends the records that wait, else the first retransmission due (a replay word that is uncorrectable takes the port DOWN with cause SURPRISE in its place, R531), else one new DATA flit, which is kept with the next
sequence, or IDLE; outside the window or before RESUME no new DATA. The timers repeat a NAK, resend the oldest flit, and make a CREDIT due.
R295. A direction in SLEEP sends nothing. Completes: TLK_DATA_FLIT, TLK_IDLE_FLIT, NAK, CREDIT, PING, NAK_REPEAT, REPLAY_TIMEOUT, CREDIT_TIMER, TLK_TX_SLOT. -/
def Obligations.ThatchlinkFlits : Prop :=
  ∀ (s : State) (p : Fin 128), s.dev.inReset = false → s.dev.llOpen p = true →
    let d := s.dev
    let x := d.tlkPort p
    let E := d.fget TLK_STATUS.RX_EXPECT p
    let active : Prop := d.ll p = llActive
    let broken (cause : Nat) (y : Dev) : Prop := y.ll p = llRecovery ∧ y.fget TLK_STATUS.BROKEN_CAUSE p = cause ∧
      y.fget TLK_EVT_CNT.RECOVERIES p = min 65535 (d.fget TLK_EVT_CNT.RECOVERIES p + 1)
    let right (h : TlkHeader) : Prop := h.kind.toNat ≤ 2 ∧ h.notice.toNat ≤ 4 ∧ (h.ackV = true → d.ackOk p h.ack.toNat = true)
    let applied (h : TlkHeader) (y : Dev) : Prop := y.fget TLK_STATUS.XOFF_RX p = h.xoff.toNat ∧
      (h.ackV = true → ∀ f ∈ (y.tlkPort p).replay, 512 ≤ seqDiff h.ack.toNat f.seq)
    let asked (n : Nat) (y : Dev) : Prop := ∀ k < n,
      let q := (E + k) % 1024
      (∀ f ∈ x.held, f.seq ≠ q) → (∀ m ∈ x.missing, m.1 ≠ q) → q ∈ (y.tlkPort p).naks ∧ ∃ t, (q, t) ∈ (y.tlkPort p).missing
    (∀ (h : TlkHeader) (bytes : List Byte) (bad : List (BitVec 10)),
      let n := seqDiff h.seq.toNat E
      let crc := flitCrc h bytes
      let lost (y : Dev) : Prop := (y.tlkPort p).held = x.held ∧ (y.tlkPort p).replay = x.replay ∧
        y.fget TLK_STATUS.RX_EXPECT p = E ∧ y.fget TLK_ERR_CNT.CRC_FAILS p = min (2 ^ 32 - 1) (d.fget TLK_ERR_CNT.CRC_FAILS p + 1)
      (h.kind = 1 →
        (∀ c, c ≠ crc → Runs (.tlkDataFlit p h bytes c bad) s lost) ∧
        (∀ c b, exec (.tlkIdleFlit p h b c) s = .next s) ∧
        (active → ¬ right h → Runs (.tlkDataFlit p h bytes crc bad) s (broken 4)) ∧
        (right h →
          (n = 0 → x.held = [] → Runs (.tlkDataFlit p h bytes crc bad) s fun y => applied h y ∧
            y.fget TLK_STATUS.RX_EXPECT p = (h.seq.toNat + 1) % 1024) ∧
          (0 < n → n < 512 → (∀ f ∈ x.held, f.seq ≠ h.seq.toNat) → Runs (.tlkDataFlit p h bytes crc bad) s fun y => applied h y ∧
            y.fget TLK_STATUS.RX_EXPECT p = E ∧ (y.tlkPort p).released = x.released ∧ asked n y ∧
            ∃ f, (y.tlkPort p).held = x.held ++ [f] ∧ f.seq = h.seq.toNat ∧ f.vc = h.vc.toNat ∧ f.pool = h.pool ∧ f.payload = bytes) ∧
          (512 ≤ n → Runs (.tlkDataFlit p h bytes crc bad) s fun y => applied h y ∧ y.fget TLK_STATUS.RX_EXPECT p = E ∧
            (y.tlkPort p).held = x.held ∧ (y.tlkPort p).released = x.released ∧ (y.tlkPort p).naks = x.naks))) ∧
      (h.kind ≠ 1 →
        let strange : Prop := h.kind = 2 ∧ unknownRecord 29 bytes = true
        (∀ c, c ≠ crc → Runs (.tlkIdleFlit p h bytes c) s lost) ∧
        (∀ c b l, exec (.tlkDataFlit p h b c l) s = .next s) ∧
        (right h → ¬ strange → Runs (.tlkIdleFlit p h bytes crc) s fun y => applied h y ∧ (n < 512 → asked n y) ∧
          y.fget TLK_STATUS.RX_EXPECT p = E) ∧
        (active → ¬ right h ∨ strange → Runs (.tlkIdleFlit p h bytes crc) s (broken 4)))) ∧
    (∀ q : BitVec 10, (∃ f ∈ x.replay, f.seq = q.toNat) → q.toNat ∉ x.resend →
      Ends (.nak p q) s (d.setTlk p { x with resend := x.resend ++ [q.toNat] })) ∧
    (∀ q : BitVec 10, (∀ f ∈ x.replay, f.seq ≠ q.toNat) → exec (.nak p q) s = .next s) ∧
    (∀ (vc : Fin 8) (limit : BitVec 16) (ack : BitVec 10) (ackV : Bool),
      (ackV = true → d.ackOk p ack.toNat = true) → Runs (.credit p vc limit ack ackV) s fun y =>
        Tab.get 0 (y.tlkPort p).limit vc = limit.toNat ∧ (y.tlkPort p).creditWait = none ∧ y.fget TLK_STATUS.STALLED p = 0 ∧
        (ackV = true → ∀ f ∈ (y.tlkPort p).replay, 512 ≤ seqDiff ack.toNat f.seq) ∧
        (d.ll p = llInit → vc.val ∉ x.creditSeen → y.fget TLK_PARTNER_VC.CREDITS p vc = limit.toNat % 1024)) ∧
    (∀ id tag, Ends (.ping p id tag) s (d.setTlk p { x with pongs := x.pongs ++ [(id.toNat, tag.toNat)] })) ∧
    (∀ (q : BitVec 10) (t : Nat), x.missing.find? (fun m => m.1 == q.toNat) = some (q.toNat, t) → Runs (.nakRepeat p q) s fun y =>
      q.toNat ∈ (y.tlkPort p).naks ∧ Tab.get 0 (y.tlkPort p).missing q.toNat = y.now ∧
      y.now = max d.now (t + 2 * d.fget TLK_RTT.RTT_NS p + 64) % 2 ^ 64) ∧
    (∀ f fs, active → x.replay = f :: fs → Runs (.replayTimeout p) s fun y =>
      (y.tlkPort p).resend = (if f.seq ∈ x.resend then x.resend else f.seq :: x.resend) ∧ (y.tlkPort p).replayAt = y.now ∧
      y.fget TLK_EVT_CNT.REPLAY_TIMEOUTS p = min 65535 (d.fget TLK_EVT_CNT.REPLAY_TIMEOUTS p + 1) ∧
      y.now = max d.now (x.replayAt + max 2000 (8 * d.fget TLK_RTT.RTT_NS p)) % 2 ^ 64) ∧
    (∀ (vc : Fin 8) (n t : Nat), x.fresh.find? (fun e => e.1 == vc.val) = some (vc.val, n, t) → Runs (.creditTimer p vc) s fun y =>
      vc.val ∈ (y.tlkPort p).due ∧ y.now = max d.now (t + 256) % 2 ^ 64) ∧
    (∀ (lost : Bool) (cs : CellState) (retried : Bool),
      let st := (d.noticeTakes p).fget LAN_FALLOW_STAT.STATE (4 * p)
      let next := d.fget TLK_STATUS.TX_NEXT p
      let c : Instr := .tlkTxSlot p lost cs retried
      let sent (y : Dev) (h : TlkHeader) (rs : List TlkRecord) : Prop := ∃ parts, y.out.getLast? = some (.flit p h parts rs)
      let same (y : Dev) : Prop := y.fget TLK_STATUS.TX_NEXT p = next ∧ (y.tlkPort p).replay.map (·.seq) = x.replay.map (·.seq)
      let quiet : Prop := d.records p = [] ∧ active ∧ x.resumeSeen = true
      (st = 2 → Ends c s (d.noticeTakes p)) ∧
      (st ≠ 2 → (st = 3 → (d.lanePort p).fromSleep = false) →
        (d.records p ≠ [] → Runs c s fun y => same y ∧ ∃ h, sent y h (d.records p) ∧ h.kind = 2 ∧ h.seq.toNat = next) ∧
        (d.records p = [] → ¬ active ∨ x.resumeSeen = false → Runs c s fun y => same y ∧ ∃ h, sent y h [] ∧ h.kind = 0) ∧
        (∀ q f rest, quiet → lost = false → x.resend = q :: rest → x.replay.find? (fun f => f.seq == q) = some f →
          Runs c s fun y => same y ∧
            y.fget TLK_ERR_CNT.REPLAYED p = min (2 ^ 32 - 1) (d.fget TLK_ERR_CNT.REPLAYED p + 1) ∧
            ∃ h, sent y h [] ∧ h.kind = 1 ∧ h.replay = true ∧ h.seq = BitVec.ofNat 10 f.seq ∧ h.pool = f.pool) ∧
        (∀ q f rest, quiet → lost = true → x.resend = q :: rest → x.replay.find? (fun f => f.seq == q) = some f →
          Runs c s fun y => y.portState p = poDown ∧ y.fget CXP_LINK_STAT.CAUSE p = 1) ∧
        (quiet → x.resend = [] → Runs c s fun y => ∃ h, sent y h [] ∧
          ((h.kind = 0 ∧ same y) ∨ (h.kind = 1 ∧ h.replay = false ∧ h.seq.toNat = next ∧ seqDiff next (d.tlkOldest p) < 512 ∧
            y.fget TLK_STATUS.TX_NEXT p = (next + 1) % 1024 ∧
            ∃ f, (y.tlkPort p).replay = x.replay ++ [f] ∧ f.seq = next ∧ f.pool = h.pool)))))

/-- R265, R285 to R293. The port offers vendor ID 0x1D4A and protocol 0x54 (R264); a partner with the same and version 1 or more, 4, 8 or 16 lanes that train, give INIT with its records due and the trained figures, FLIT 2 and
PARTNER 4; another partner gives DOWN with cause 6. It reaches ACTIVE and the port UP once INIT, 8 CREDITs and 16 PONGs have come;
100 µs without them give DOWN with cause PROTOCOL. The 16th sample gives RTT_NS, the largest, H_req, and whether HEADROOM falls short of it. Recovery of an ACTIVE link keeps the port's state, its queues and the flits not acknowledged;
its end discards held flits, makes RESUME and the CREDITs due and measures the round trip afresh, at full width. RESUME retires what lies before it and resends the rest in order. A wait for credits of a VC that still waits, when it
times out, counts a stall, and breaks the link in strict mode alone. RESUME_LIMIT takes the port DOWN with cause SURPRISE. In any other state each changes nothing.
Completes: LL_START, INIT, INIT_TIMEOUT, PONG, PHY_RECOVERY, RECOVERY_END, RESUME_LIMIT, RESUME, STRICT_TIMEOUT. -/
def Obligations.ThatchlinkStates : Prop :=
  ∀ (s : State) (p : Fin 128), s.dev.inReset = false →
    let d := s.dev
    let x := d.tlkPort p
    let ll := d.ll p
    let down (cause : Nat) (y : Dev) : Prop := y.portState p = poDown ∧ y.fget CXP_LINK_STAT.CAUSE p = cause ∧ y.ll p = llDown ∧
      y.fget CXP_LINK_STAT.WIDTH p = 0
    let recovers (y : Dev) : Prop := y.ll p = llRecovery ∧ y.portState p = d.portState p ∧ y.core = d.core ∧
      (y.tlkPort p).replay = x.replay ∧ y.fget TLK_EVT_CNT.RECOVERIES p = min 65535 (d.fget TLK_EVT_CNT.RECOVERIES p + 1)
    (∀ t : LinkTraining,
      let ends := d.trainEnd p t
      let offered := d.send (.offer p 0x1D4A 0x54 0x11)
      let may : Prop := d.portState p = poTraining ∧ d.portMode p = 4 ∧ ll = llDown
      (d.portMode p = 4 → ∀ w r, ends = .link w r → w ∈ [4, 8, 16] ∧ w ≤ d.cfgLanes p ∧ r ≤ d.rateCap p ∧ d.refOk p = true ∧
        (∀ k < w, d.logicalTrains p t k = true) ∧ t.vendor = 0x1D4A ∧ t.protocol = 0x54 ∧ 1 ≤ t.version.toNat) ∧
      (d.portMode p = 4 → d.refOk p = true → 4 ≤ d.trainWidth p t → t.vendor ≠ 0x1D4A ∨ t.protocol ≠ 0x54 ∨ t.version = 0 →
        ends = .down 6) ∧
      (may → ∀ w r, ends = .link w r → Runs (.llStart p t.toLaneTraining t.toEqTraining t.toLinkOffer) s fun y => y.ll p = llInit ∧ y.fget CXP_LINK_STAT.WIDTH p = w ∧
        y.fget CXP_LINK_STAT.RATE p = r ∧ y.fget CXP_LINK_STAT.FLIT p = 2 ∧ y.fget CXP_LINK_STAT.PARTNER p = 4 ∧
        y.portState p = poTraining ∧
        y.tlkPort p = { initDue := true, due := [0, 1, 2, 3, 4, 5, 6, 7], measuring := true, since := d.now }) ∧
      (may → ∀ c, ends = .down c → Runs (.llStart p t.toLaneTraining t.toEqTraining t.toLinkOffer) s fun y => y.portState p = poDown ∧ y.fget CXP_LINK_STAT.CAUSE p = c) ∧
      (may → ends = .on → Ends (.llStart p t.toLaneTraining t.toEqTraining t.toLinkOffer) s offered) ∧
      (¬ may → exec (.llStart p t.toLaneTraining t.toEqTraining t.toLinkOffer) s = .next s)) ∧
    (∀ (v : BitVec 4) (pool : BitVec 10) (strict : Bool),
      let done : Prop := 1 ≤ v.toNat ∧ 8 ≤ x.creditSeen.length ∧ 16 ≤ x.samples.length ∧ d.refOk p = true
      (ll = llInit → Runs (.init p v pool strict) s fun y => ((y.tlkPort p).initSeen = true ↔ 1 ≤ v.toNat) ∧
        (done → y.ll p = llActive ∧ y.portState p = poUp) ∧ (¬ done → y.ll p = llInit ∧ y.portState p = d.portState p)) ∧
      (ll ≠ llInit → exec (.init p v pool strict) s = .next s)) ∧
    (ll = llInit → Runs (.initTimeout p) s (down 6)) ∧ (ll ≠ llInit → exec (.initTimeout p) s = .next s) ∧
    (∀ (id : BitVec 8) (tag : BitVec 48) (t : Nat), d.llOpen p = true →
      x.pinged.find? (fun e => e.1 == id.toNat && e.2 % 2 ^ 48 == tag.toNat) = some (id.toNat, t) →
      let all := x.samples ++ [d.now - t]
      let rtt := min 65535 (all.foldl max 0)
      let h := headroomReq (d.cfgLanes p) (d.fget CXP_LINK_STAT.RATE p) rtt
      Runs (.pong p id tag) s fun y => (y.tlkPort p).samples = all ∧ (∀ e ∈ (y.tlkPort p).pinged, e.1 ≠ id.toNat) ∧
        (x.samples.length = 15 → y.fget TLK_RTT.RTT_NS p = rtt ∧ y.fget TLK_RTT.HEADROOM_REQ p = min 65535 h ∧
          (y.fget TLK_STATUS.HEADROOM_SHORT p = 1 ↔ d.fget TLK_FC_CFG.HEADROOM p < h))) ∧
    (ll = llActive → Runs (.phyRecovery p) s recovers) ∧ (ll ≠ llActive → exec (.phyRecovery p) s = .next s) ∧
    (ll = llRecovery → Runs (.recoveryEnd p) s fun y => y.ll p = llActive ∧ (y.tlkPort p).held = [] ∧ (y.tlkPort p).missing = [] ∧
      (y.tlkPort p).replay = x.replay ∧ (y.tlkPort p).resumeDue = true ∧ (y.tlkPort p).due = [0, 1, 2, 3, 4, 5, 6, 7] ∧
      (y.tlkPort p).measuring = true ∧ (y.tlkPort p).samples = [] ∧ y.fget LAN_FALLOW_STAT.STATE (4 * p) = 0 ∧
      y.fget LAN_FALLOW_STAT.WIDTH (4 * p) = d.fget CXP_LINK_STAT.WIDTH p) ∧
    (ll = llRecovery → d.portMode p = 4 → Runs (.resumeLimit p) s (down 1)) ∧
    (ll ≠ llRecovery → exec (.recoveryEnd p) s = .next s ∧ exec (.resumeLimit p) s = .next s) ∧
    (∀ q : BitVec 10, ll = llActive → x.resumeSeen = false →
      let kept := (x.replay.map (·.seq)).filter fun n => decide (512 ≤ seqDiff ((q.toNat + 1023) % 1024) n)
      Runs (.resume p q) s fun y => (y.tlkPort p).resumeSeen = true ∧ (y.tlkPort p).replay.map (·.seq) = kept ∧
        (y.tlkPort p).resend = kept) ∧
    (∀ q : BitVec 10, ll ≠ llActive ∨ x.resumeSeen = true → exec (.resume p q) s = .next s) ∧
    (ll = llActive → d.fon TLK_STATUS.STALLED p = false →
      (∀ t c, ((d.creditWatch p).tlkPort p).creditWait = some (t, c) → Runs (.strictTimeout p) s fun y =>
        y.fget TLK_EVT_CNT.STALLS p = min 65535 (d.fget TLK_EVT_CNT.STALLS p + 1) ∧
        y.now = max d.now (t + max 1 (d.fget TLK_CFG.STRICT_TIMEOUT p) * 1000) % 2 ^ 64 ∧
        (d.fon TLK_CFG.CREDIT_MODE p = true → y.ll p = llRecovery ∧ y.fget TLK_STATUS.BROKEN_CAUSE p = 1) ∧
        (d.fon TLK_CFG.CREDIT_MODE p = false → y.ll p = llActive ∧ y.fget TLK_STATUS.STALLED p = 1)) ∧
      (((d.creditWatch p).tlkPort p).creditWait = none → Ends (.strictTimeout p) s (d.creditWatch p))) ∧
    (ll ≠ llActive ∨ d.fon TLK_STATUS.STALLED p = true → exec (.strictTimeout p) s = .next s)

/-- R24, R228, R239, R246, R308, R309, R338, R353, R405, R419, R511. A host's CXL.mem read of an address that nothing binds, or that Hedgerow denies, is answered
at once with ones and poison toward its port and stays in no flight; one that is bound, allowed, not shared and placed on a device whose port is up goes to that port
under the device's own tag. A response completes its request, and one to none is discarded and logged alone. The host's two configuration writes set BI_EN and the bridge's containment. A request routed by
PID goes to the port of its route, one without a route is answered at once. A held message enters the buffer unless an earlier one of its source, class and channel is held or no part has room. A slot of a port sends
the Ridge queue's head first, goes on with a message under way, and sends nothing where nothing waits. A port that is not up, or in L1, takes and sends nothing. A rule whose parity fails has PARITY_ERR set, and no register but
that and a fault counter changes. R326. What enters the buffer is stamped then. R13. A flit that crosses with a second retry is a corrected error of its Eave die's interface. Completes: INGRESS_MESSAGE, PBR_MESSAGE, BUFFER_ADMIT,
EGRESS_SLOT, RULE_PARITY_FAIL. -/
def Obligations.TrafficCommands : Prop :=
  ∀ (s : State) (p : Fin 128), s.dev.inReset = false →
    let d := s.dev
    let e := d.commits.epoch
    let v := d.fget CXP_PORT_CFG.VSW p
    let mode := d.portMode p
    let t := d.core.nextTag
    let up : Prop := d.portUp p = true ∧ d.inL1 p = false
    let steady : Prop := ∀ f ∈ d.core.flights, f.tag < t ∧ f.phase ≠ .resumed ∧ f.phase ≠ .behind ∧ f.phase ≠ .held
    let waits (x : Dev) (q : Nat) (b : QBody) : Prop := ∃ m ∈ x.core.buf ++ x.core.holds.map (·.2), m.egress = q ∧ m.body = b
    let answered (r : HostReq) (x : Dev) : Prop := x.core.flights = d.core.flights ∧
      waits x p (.response r.tag (some (onesOf r.len)) true none)
    (∀ m errs, d.portUp p = false ∨ d.inL1 p = true → exec (.ingressMessage p m errs) s = .next s) ∧
    (∀ vc dpid m errs, d.portUp p = false → exec (.pbrMessage p vc dpid m errs) s = .next s) ∧
    (up → mode = 1 →
      (∀ on : Bool, Ends (.ingressMessage p (.biEnable on) []) s (d.fset DIR_HOST_STAT.BI_EN on.toNat 0 v)) ∧
      (∀ vb on, Runs (.ingressMessage p (.dpcEnable vb on) []) s fun x => (∀ b, b ∈ (x.pool v).dpc ↔ if b = vb then on = true else b ∈ (d.pool v).dpc) ∧
        x.regs = d.regs ∧ x.core = d.core) ∧
      (∀ r n, d.withholds p .mem = false → steady → (kindOf r.op).need = some n → (kindOf r.op).returnsData = true →
        (kindOf r.op).chan = .mem →
        let c : Instr := .ingressMessage p (.request r) []
        (∀ nm lk rule, d.hcheck e (.port p) v r.addr n = .deny nm lk rule → Runs c s (answered r)) ∧
        (∀ rule nc, d.hcheck e (.port p) v r.addr n = .allow rule nc →
          (d.hostPool e v r.addr = none → Runs c s fun x => answered r x ∧ .log "unbound" r.addr ∈ x.out) ∧
          (∀ pool rule2 nc2 dev a, d.hostPool e v r.addr = some pool → d.integ.poison = [] → d.shared e pool = false →
            d.hcheck e .pool v pool (if nc then .read else n) = .allow rule2 nc2 → d.place e pool = .at dev a → d.inStall pool = false →
            d.portUp (d.cfg e TMP_DEV_CFG.PORT 0 dev) = true → Runs c s fun x => waits x (d.cfg e TMP_DEV_CFG.PORT 0 dev) (.request t))))) ∧
    (∀ tag data poison ex, up → steady → d.core.orphans = [] →
      (∀ f ∈ d.core.flights, f.tag ≠ tag ∨ f.egress ≠ p.val ∨ f.phase ≠ .sent ∨ f.answer ≠ none) →
        Ends (.ingressMessage p (.response tag data poison ex) []) s (d.send (.log "response discarded" tag))) ∧
    (∀ tag data poison ex fl q, up → d.awaited p tag = some fl → d.withholds p fl.kind.chan = false →
      fl.src = .port q → steady → Runs (.ingressMessage p (.response tag data poison ex) []) s fun x =>
        (∀ f ∈ x.core.flights, f.tag ≠ tag) ∧
        (d.portUp q = true → ∃ dat x', waits x q (.response fl.hostTag dat x' fl.rsv))) ∧
    (∀ vc (dpid : BitVec 12), up → mode = 3 → steady →
      (∀ typ, Ends (.pbrMessage p vc dpid (.reserved typ) []) s (d.send (.log "reserved type" typ))) ∧
      (∀ r, d.withholds p (kindOf r.op).chan = false → (kindOf r.op).returnsData = true →
        (d.pbrEgress p dpid.toNat = none → Runs (.pbrMessage p vc dpid (.request r) []) s fun x => answered r x ∧
          .log "no route" dpid.toNat ∈ x.out) ∧
        (∀ q, d.pbrEgress p dpid.toNat = some q →
          Runs (.pbrMessage p vc dpid (.request r) []) s fun x => waits x q (.request t)))) ∧
    (∀ n : Nat, d.core.holds[n]? = none → exec (.bufferAdmit n) s = .next s) ∧
    (∀ (n : Nat) (i : Option Nat) (m : QMsg), d.core.holds[n]? = some (i, m) →
      let before : Prop := ∃ h ∈ d.core.holds.take n, h.1 = m.ingress ∧ h.2.cls = m.cls ∧ h.2.chan = m.chan ∧
        (m.ingress ≠ none ∨ h.2.egress = m.egress)
      (before → exec (.bufferAdmit n) s = .next s) ∧ (d.admitPart m = none → exec (.bufferAdmit n) s = .next s) ∧
      (∀ part, ¬ before → d.admitPart m = some part → Runs (.bufferAdmit n) s fun x =>
        x.core.holds = d.core.holds.eraseIdx n ∧ x.core.buf = d.core.buf ++ [{ m with part := part, stamp := d.stampOf m }])) ∧
    (∀ more np retried,
      let c : Instr := .egressSlot p more .whole ⟨np, retried⟩
      let left (x : Dev) (m : QMsg) : Prop := ∃ load, x.out = d.out ++ [.link m.egress m.body none load]
      let response (m : QMsg) : Prop := ∃ tag dat x r, m.body = .response tag dat x r
      (d.portUp p = false ∨ d.inL1 p = true ∨ mode = 4 → exec c s = .next s) ∧
      (up → mode ≠ 0 → mode ≠ 4 →
        (∀ m, d.head p 0 0 = some m → d.underWay p = none → d.oldGen m = false → d.tooOld m = false → more = false → response m →
          Runs c s fun x => x.core.buf = d.core.buf.erase m ∧ left x m) ∧
        (∀ m, d.underWay p = some m → (∀ r, d.offered p 0 0 np = some r → r.chan ≠ .mem) →
          (more = true → Ends c s (d.eaveCross p retried)) ∧
          (more = false → response m → Runs c s fun x => x.underWay p = none ∧ left x m ∧ x.core.buf = d.core.buf)) ∧
        ((∀ m ∈ d.core.buf, m.egress ≠ p.val) → d.underWay p = none → (∀ x ∈ d.core.suspended, x.1 ≠ p.val) →
          Runs c s fun x => x.core.buf = d.core.buf ∧ x.out = d.out ∧ x.core.sending = d.core.sending))) ∧
    (∀ (which : Fin 131) (rule : Fin 1024),
      let r : Reg := if which.val < 128 then ⟨.HRW_PORT_RULE0, which, rule % 32⟩
        else if which.val = 128 then ⟨.HRW_ENG_RULE0, 0, rule % 256⟩ else if which.val = 129 then ⟨.HRW_POOL_RULE0, 0, rule⟩
        else ⟨.HRW_DEFMAP0, 0, 0⟩
      Runs (.ruleParityFail which rule) s fun x => (x.rd r).getLsbD 6 = true ∧
        RegsBut [r, ⟨.FLT_UNIT_STAT, if which.val < 128 then which else 408, 0⟩] d x)

/-- R230 to R236. A decoder commits with one way inside its part of the regions alone. Request Capacity is refused, with nothing granted, where the host may not ask, a field is wrong or an offer is open; one that can get MIN_GIB opens an
offer of what it gets at a swath boundary. A response that names an extent not offered changes nothing; any other closes the offer, and one that accepts all binds them, adding them to the accepted extents and USED_GIB while free entries last; a timeout, OFFER_TIMEOUT courses after it was opened, closes
it with none accepted. A release clears its extents' bindings and waits for the requests to them; once these are complete the command completes. The extent list is what was accepted. Completes: HDM_DECODER_COMMIT,
REQUEST_CAPACITY, ADD_DYNAMIC_CAPACITY_RESPONSE, OFFER_TIMEOUT, RELEASE_DYNAMIC_CAPACITY, RELEASE_DRAINED, GET_DYNAMIC_CAPACITY_EXTENT_LIST. -/
def Obligations.Capacity : Prop :=
  ∀ (s : State) (v : Fin 64), s.dev.inReset = false → s.dev.hasPool v = true →
    let d := s.dev
    let p := d.pool v
    let mailbox (c : RetCode) (bs : List Byte) : Dev := d.send (.mailbox v c bs)
    (∀ (n : Fin 2) (hpa : BitVec 22) (size dpa : BitVec 20) (ways : BitVec 5),
      let lo := d.regionBase v (4 * n)
      let hi := d.regionBase v (4 * n + 4)
      let fits : Prop := ways = 1 ∧ lo ≤ dpa.toNat ∧ dpa.toNat + size.toNat ≤ hi
      let c : Instr := .hdmDecoderCommit v n hpa size dpa ways
      (fits → Runs c s fun x => (x.pool v).accepted = p.accepted ∧ x.regs = d.regs ∧
        ∀ k, Tab.get none ((x.pool v).decoders.map fun e => (e.1, some e.2)) k =
          if k = n.val then some ⟨hpa.toNat * 2 ^ 30, size.toNat * 2 ^ 30, dpa.toNat * 2 ^ 30⟩
          else Tab.get none (p.decoders.map fun e => (e.1, some e.2)) k) ∧
      (¬ fits → Ends c s (d.send (.log "HDM decoder error" v)))) ∧
    (∀ (region : BitVec 8) (pad : BitVec 24) (lo want : BitVec 32),
      let c : Instr := .requestCapacity v region pad lo want
      let may : Prop := d.fon CXP_POOL_CFG.HOST_REQ_EN v = true
      let sound : Prop := region.toNat < 4 ∧ pad = 0 ∧ lo ≠ 0 ∧ lo.toNat ≤ want.toNat ∧ want.toNat ≤ d.regionGib v region.toNat
      let xs := d.plan v region.toNat 0 want.toNat
      (¬ may → Ends c s (mailbox .unsupported [])) ∧ (may → ¬ sound → Ends c s (mailbox .invalidInput [])) ∧
      (may → sound → p.offer.isSome = true → Ends c s (mailbox .busy [])) ∧
      (may → sound → p.offer = none → gibOf xs < lo.toNat → Ends c s (mailbox .exhausted [])) ∧
      (may → sound → p.offer = none → lo.toNat ≤ gibOf xs → Runs c s fun x => (x.pool v).offer = some (xs, x.now) ∧ x.now % 1024 = 0 ∧
        (x.pool v).accepted = p.accepted ∧
        x.out.getLast? = some (.mailbox v .success (leBytes 4 (gibOf xs) ++ leBytes 2 xs.length ++ leBytes 2 0)))) ∧
    (∀ refs : List ExtentRef,
      (p.offer = none → Ends (.addDynamicCapacityResponse v refs) s (mailbox .invalidInput [])) ∧
      (∀ xs k, p.offer = some (xs, k) →
        ((∃ r ∈ refs, ∀ x ∈ xs, extNames r x = false) → Ends (.addDynamicCapacityResponse v refs) s (mailbox .invalidInput [])) ∧
        ((∀ r ∈ refs, ∃ x ∈ xs, extNames r x = true) → Runs (.addDynamicCapacityResponse v refs) s fun y => (y.pool v).offer = none ∧
          (refs = [] → (y.pool v).accepted = p.accepted ∧ y.out.getLast? = some (.mailbox v .success []))) ∧
        (∀ x r, xs = [x] → refs = [r] → extNames r x = true → d.freeBinds v ≠ [] →
          Runs (.addDynamicCapacityResponse v refs) s fun y => (y.pool v).accepted = p.accepted ++ [x] ∧
            y.fget CXP_POOL_USED.USED_GIB v x.region = min (2 ^ 17 - 1) (d.fget CXP_POOL_USED.USED_GIB v x.region + x.len) ∧
            y.out.getLast? = some (.mailbox v .success [])))) ∧
    (p.offer = none → exec (.offerTimeout v) s = .next s) ∧
    (∀ xs k, p.offer = some (xs, k) → Runs (.offerTimeout v) s fun y => (y.pool v).offer = none ∧ (y.pool v).accepted = p.accepted ∧
      y.now = max d.now (k + max 1 (d.fget CXP_POOL_CFG.OFFER_TIMEOUT v) * 1048576) % 2 ^ 64) ∧
    (∀ refs : List ExtentRef,
      let xs := p.accepted.filter fun x => refs.any fun r => extNames r x
      let known : Prop := ∀ r ∈ refs, ∃ x ∈ p.accepted, extNames r x = true
      (¬ known → Ends (.releaseDynamicCapacity v refs) s (mailbox .invalidInput [])) ∧
      (known → p.release.isSome = true → Ends (.releaseDynamicCapacity v refs) s (mailbox .busy [])) ∧
      (known → p.release = none → d.pendingAddrs = [] → Runs (.releaseDynamicCapacity v refs) s fun y =>
        (y.pool v).release = some (xs, d.flightsTo v xs) ∧ (∀ x ∈ (y.pool v).accepted, x ∈ p.accepted ∧ x ∉ xs) ∧ y.out = d.out)) ∧
    (p.release = none → exec (.releaseDrained v) s = .next s) ∧
    (∀ xs ts, p.release = some (xs, ts) → (∃ t ∈ ts, (d.flight t).isSome = true) → exec (.releaseDrained v) s = .next s) ∧
    (∀ xs ts, p.release = some (xs, ts) → (∀ t ∈ ts, d.flight t = none) → Runs (.releaseDrained v) s fun y =>
      (y.pool v).release = none ∧ (p.quiet = false → .mailbox v .success [] ∈ y.out)) ∧
    Ends (.getDynamicCapacityExtentList v) s (mailbox .success (p.accepted.flatMap fun x =>
      leBytes 8 (x.dpaGib * 2 ^ 30) ++ leBytes 8 (x.len * 2 ^ 30) ++ leBytes 16 x.tag))

/-- R382 to R393, R401. TMP_CMD takes a command unless one runs, and it acts at a swath boundary: SPLIT of a WHOLE field puts 512 PLACED swards in order on its frame in
the lowest free slot, or says BADSTATE, BUSY or NOSLOT; GATHER wants a SPLIT field and a zeroed frame of an ACTIVE device; REPLACE a LOST sward; ABORT a running migration. A marked field splits; one whose
swards fill a frame in order merges to WHOLE on it. The halving pass halves a WHOLE field's COUNT where its tier is due, at a course boundary. A migration starts with its sward MIGRATING, passes go on until few
enough lines are left or MAX_PASSES abort it, the stall holds the sward, and the switch places it on the target once every line is copied, or aborts. A drain that found no room tries again at a course; the lost walk, at a boundary, leaves every field and sward of the device LOST; a frame whose every chunk was filled is
zeroed. R169. A command that comes in a soft reset waits for its end. Completes: SPLIT, GATHER, REPLACE, ABORT, TMP_CMD_ACT, FIELD_SPLIT, FIELD_MERGE, HALVING_PASS, MIGRATION_START, COPY_PASS_END, MIGRATION_STALL, MIGRATION_SWITCH,
DRAIN_RETRY, LOST_WALK_END, FRAME_ZEROED. -/
def Obligations.ThatchCommands : Prop :=
  ∀ (s : State),
    let d := s.dev
    let done (r : Nat) (x : Dev) : Prop := x.fget TMP_CMD_STAT.STATE = 2 ∧ x.fget TMP_CMD_STAT.RESULT = r
    let split (f k : Nat) (x : Dev) : Prop := x.fmode f = fSplit ∧ x.fget TMP_FIELD0.SLOT f = k ∧
      ∀ n < 512, x.fget TMP_SWARD.STATE (k * 512 + n) = swPlaced ∧ x.fget TMP_SWARD.DEV (k * 512 + n) = d.fget TMP_FIELD0.DEV f ∧
        x.fget TMP_SWARD.FRAME2M (k * 512 + n) = d.fget TMP_FIELD0.FRAME f * 512 + n
    (d.answers = true →
      let takes (c : Instr) (op f sw v : Nat) : Prop :=
        (d.phase = phSoft → Ends c s { d with held := d.held ++ [c] }) ∧
        (d.phase ≠ phSoft → d.fget TMP_CMD_STAT.STATE = 1 → exec c s = .next s) ∧
        (d.phase ≠ phSoft → d.fget TMP_CMD_STAT.STATE ≠ 1 → Runs c s fun x => x.fget TMP_CMD.OP = op ∧ x.fget TMP_CMD.FIELD = f ∧
          x.fget TMP_CMD.SWARD = sw ∧ x.fget TMP_CMD.DEV = v ∧ x.fget TMP_CMD_STAT.STATE = 1 ∧ x.fget TMP_CMD_STAT.RESULT = 0 ∧
          OnlyRegs [⟨.TMP_CMD, 0, 0⟩, ⟨.TMP_CMD_STAT, 0, 0⟩] d x)
      ∀ (f : BitVec 17) (sw : BitVec 9) (v : BitVec 8), takes (.split f) 1 f.toNat 0 0 ∧ takes (.gather f v) 2 f.toNat 0 v.toNat ∧
        takes (.replace f sw) 3 f.toNat sw.toNat 0 ∧ takes (.abort f sw) 4 f.toNat sw.toNat 0) ∧
    (d.inReset = false →
      (d.fget TMP_CMD_STAT.STATE ≠ 1 ∨ d.thatch.gather.isSome = true → exec .tmpCmdAct s = .next s) ∧
      (d.fget TMP_CMD_STAT.STATE = 1 → d.thatch.gather = none →
        let op := d.fget TMP_CMD.OP
        let f := d.fget TMP_CMD.FIELD
        let w := d.entryOf f (d.fget TMP_CMD.SWARD)
        let v := d.fget TMP_CMD.DEV
        let bad : Prop := d.fget TMP_FIELD1.PHASE f = 2
        let acts (P : Dev → Prop) : Prop := Runs .tmpCmdAct s fun x => x.now % 1024 = 0 ∧ P x
        (op = 1 →
          (d.fmode f ≠ fWhole ∨ bad → acts (done 4)) ∧
          (d.fmode f = fWhole → ¬ bad →
            (d.fieldPending f = true → acts (done 3)) ∧
            (d.fieldPending f = false → d.freeSlot = none → acts (done 1)) ∧
            (∀ k, d.fieldPending f = false → d.freeSlot = some k → acts fun x => done 0 x ∧ split f k x))) ∧
        (op = 2 →
          (d.fmode f ≠ fSplit ∨ bad ∨ d.dvState v ≠ dvActive → acts (done 4)) ∧
          (d.fmode f = fSplit → ¬ bad → d.dvState v = dvActive →
            (d.fieldPending f = true → acts (done 3)) ∧
            (d.fieldPending f = false → d.zeroedFrame v = none → acts (done 2)) ∧
            (∀ fr, d.fieldPending f = false → d.zeroedFrame v = some fr →
              (∃ n < 512, d.swardGone (d.entryOf f n) = false) → acts fun x =>
                x.fget TMP_CMD_STAT.STATE = 1 ∧ x.frame v fr = .carved ∧
                ∃ g, x.thatch.gather = some g ∧ g.field = f ∧ g.dev = v ∧ g.frame = fr ∧
                  ∀ n, n ∈ g.todo ↔ n < 512 ∧ d.swardGone (d.entryOf f n) = false))) ∧
        (op = 3 →
          (d.fmode f ≠ fSplit ∨ d.fget TMP_SWARD.STATE w ≠ swLost ∨ bad → acts (done 4)) ∧
          (d.fmode f = fSplit → d.fget TMP_SWARD.STATE w = swLost → ¬ bad → d.fieldPending f = false →
            ∀ u b, d.freeSFrame (d.fget TMP_FIELD1.TIER f) = some (u, b) → u < 256 → b < 2 ^ 33 → acts fun x => done 0 x ∧
              x.fget TMP_SWARD.STATE w = swPlaced ∧ x.fget TMP_SWARD.DEV w = u ∧ x.fget TMP_SWARD.FRAME2M w = b)) ∧
        (op = 4 →
          (d.migrationOf w = none → acts (done 4)) ∧
          (∀ k m, d.migrationOf w = some (k, m) → d.fmode f = fSplit → d.fget TMP_SWARD.STATE w = swMigrating →
            d.migr k = some m → m.why = .tier →
            acts fun x => done 0 x ∧ x.fget TMP_SWARD.STATE w = swPlaced ∧ x.migr k = none))) ∧
      (∀ field : BitVec 17,
        let f := field.toNat
        let marked : Prop := f ∈ d.thatch.splitting
        (¬ marked → d.drainsWhole f = false → exec (.fieldSplit field) s = .next s) ∧
        (d.fieldPending f = true → exec (.fieldSplit field) s = .next s ∧ exec (.fieldMerge field) s = .next s) ∧
        (∀ k, marked → d.drainsWhole f = false → d.fieldPending f = false → d.fmode f = fWhole → d.fget TMP_FIELD1.PHASE f ≠ 2 →
          d.freeSlot = some k → Runs (.fieldSplit field) s fun x => x.now % 1024 = 0 ∧ split f k x ∧ f ∉ x.thatch.splitting) ∧
        (d.mergeable f = none → exec (.fieldMerge field) s = .next s) ∧
        (∀ v fr, d.mergeable f = some (v, fr) → d.fieldPending f = false → d.fon TMP_FIELD0.MIGRATING f = false →
          d.fget TMP_FIELD1.PHASE f ≠ 2 → d.fon TMP_ALLOC_CFG.AUTO_MERGE = true → fr < 2 ^ 24 → Runs (.fieldMerge field) s fun x =>
            x.now % 1024 = 0 ∧ x.fmode f = fWhole ∧ x.fget TMP_FIELD0.DEV f = v ∧ x.fget TMP_FIELD0.FRAME f = fr ∧
            x.frame v fr = .whole)) ∧
      (Runs .halvingPass s fun x => x.now % 1048576 = 0 ∧
        ∀ f, d.fmode f = fWhole → (∀ y ∈ d.listed .TMP_FIELD0, y.1 = f → y.2 = 0) → x.fget TMP_FIELD1.COUNT f =
          if x.course % max 2 (d.fget TMP_TIER_CFG.HALVE_COURSES 0 (d.fget TMP_DEV_CFG.TIER 0 (d.fget TMP_FIELD0.DEV f))) = 0 then
            d.fget TMP_FIELD1.COUNT f / 2 else d.fget TMP_FIELD1.COUNT f) ∧
      (∀ why, d.migrSlot = none ∨ d.bestMover = none ∨ d.inFault = true → exec (.migrationStart why) s = .next s) ∧
      (∀ k m, d.migrSlot = some k → d.bestMover = some m → d.inFault = false →
        (d.thatch.candidates = [] → Ends (.migrationStart .tier) s d.toSwath) ∧
        (d.thatch.gather = none → Ends (.migrationStart .gather) s d.toSwath) ∧
        (∀ v : Fin 256, d.dvState v ≠ dvDraining → Ends (.migrationStart (.drain v)) s d.toSwath) ∧
        (∀ id, d.work id = none → Ends (.migrationStart (.job id)) s d.toSwath) ∧
        (∀ c cs u b, d.thatch.candidates = c :: cs → c.promote = true →
          (d.thatch.migrations.filter fun e => e.2.why == .tier).length < d.fget TMP_MIGR_CFG.TIER_MAX →
          let w := d.entryOf c.field c.sward
          let t := d.fget TMP_DEV_CFG.TIER 0 (d.fget TMP_SWARD.DEV w)
          d.fmode c.field = fSplit → d.fget TMP_SWARD.STATE w = swPlaced → d.fon TMP_FIELD1.PIN c.field = false → t ≠ 0 →
          d.fget TMP_FIELD1.PHASE c.field ≠ 2 → d.swardGone w = false →
          d.fieldPending c.field = false → d.freeSFrame (t - 1) = some (u, b) → Runs (.migrationStart .tier) s fun x =>
            x.now % 1024 = 0 ∧ x.thatch.candidates = cs ∧ x.fget TMP_SWARD.STATE w = swMigrating ∧
            x.fget TMP_MIGR_SLOT.STATE 0 k = 1 ∧ x.migr k = some
              { entry := w, field := c.field, srcDev := d.fget TMP_SWARD.DEV w, src := d.fget TMP_SWARD.FRAME2M w, dstDev := u,
                dst := b, left := 32768, stallAt := none, why := .tier, mover := m })) ∧
      (∀ (k : Fin 64) (bad : Option (Fin 256 × BitVec 20)),
        let st := d.fget TMP_MIGR_SLOT.STATE 0 k
        (d.migr k = none → exec (.copyPassEnd k bad) s = .next s ∧ exec (.migrationStall k) s = .next s ∧
          exec (.migrationSwitch k bad) s = .next s) ∧
        (∀ m, d.migr k = some m →
          let ready : Prop := st = 1 ∧ d.inFault = false ∧ m.stallAt = none ∧ m.scan = 32768 ∧ d.copyFlights k = []
          let m' := match bad with | some (n, _) => m.wordLost n | none => m
          let most := max 1 (d.fget TMP_MIGR_CFG.STALL_LINES)
          let passes := max 1 (d.fget TMP_MIGR_CFG.MAX_PASSES)
          (¬ ready → exec (.copyPassEnd k bad) s = .next s) ∧
          (ready → m'.left ≤ most → Runs (.copyPassEnd k bad) s fun x =>
            x.migr k = some { m' with scan := 0, stallAt := some (nextMultiple d.now 1024) } ∧
            x.fget TMP_MIGR_SLOT.DIRTY 0 k = m'.left % 2 ^ TMP_MIGR_SLOT.DIRTY.w) ∧
          (ready → most < m'.left → d.fget TMP_MIGR_SLOT.PASS 0 k < passes → Runs (.copyPassEnd k bad) s fun x =>
            x.migr k = some { m' with scan := 0 } ∧ x.fget TMP_MIGR_SLOT.PASS 0 k = (d.fget TMP_MIGR_SLOT.PASS 0 k + 1) % 16) ∧
          (ready → most < m'.left → passes ≤ d.fget TMP_MIGR_SLOT.PASS 0 k → m.why = .tier → Runs (.copyPassEnd k bad) s fun x =>
            x.migr k = none ∧ x.fget TMP_MIGR_STAT1.ABORTED = min (2 ^ 24 - 1) (d.fget TMP_MIGR_STAT1.ABORTED + 1)) ∧
          (st ≠ 1 ∨ d.inFault = true → exec (.migrationStall k) s = .next s) ∧
          (∀ b, st = 1 → d.inFault = false → m.stallAt = some b →
            (d.now ≤ b → Ends (.migrationStall k) s ((d.upTo b).fset TMP_MIGR_SLOT.STATE 2 0 k)) ∧
            (b < d.now → Ends (.migrationStall k) s
              ((d.toSwath.setMigr k { m with stallAt := some d.toSwath.now }).fset TMP_MIGR_SLOT.STATE 2 0 k))) ∧
          (st ≠ 2 → exec (.migrationSwitch k bad) s = .next s) ∧
          (st = 2 → m.why = .tier → m.dstDev < 256 → m.dst < 2 ^ 33 → d.thatch.gather = none →
            (m'.left = 0 → d.copyFlights k = [] → Runs (.migrationSwitch k bad) s fun x => x.fget TMP_SWARD.STATE m.entry = swPlaced ∧
              x.fget TMP_SWARD.DEV m.entry = m.dstDev ∧ x.fget TMP_SWARD.FRAME2M m.entry = m.dst ∧ x.migr k = none ∧
              x.fget TMP_MIGR_STAT0.COMPLETED = min (2 ^ 32 - 1) (d.fget TMP_MIGR_STAT0.COMPLETED + 1)) ∧
            (m'.left ≠ 0 ∨ d.copyFlights k ≠ [] → d.fget TMP_SWARD.STATE m.entry = swMigrating →
              Runs (.migrationSwitch k bad) s fun x =>
                x.fget TMP_SWARD.STATE m.entry = swPlaced ∧ x.fget TMP_SWARD.DEV m.entry = d.fget TMP_SWARD.DEV m.entry ∧
                x.migr k = none ∧ x.fget TMP_MIGR_STAT1.ABORTED = min (2 ^ 24 - 1) (d.fget TMP_MIGR_STAT1.ABORTED + 1))))) ∧
      (∀ v : Fin 256,
        let drains : Prop := d.dvState v = dvDraining ∧ d.fon TMP_DEV_STAT.NOSPACE 0 v = true
        (drains → Ends (.drainRetry v) s (d.toCourse.fset TMP_DEV_STAT.NOSPACE 0 0 v)) ∧
        (¬ drains → exec (.drainRetry v) s = .next s) ∧
        (d.fon TMP_DEV_STAT.WALK 0 v = false ∨ d.walkWaits v = true → exec (.lostWalkEnd v) s = .next s) ∧
        (d.fon TMP_DEV_STAT.WALK 0 v = true → d.walkWaits v = false → Runs (.lostWalkEnd v) s fun x => x.now % 1024 = 0 ∧
          x.fget TMP_DEV_STAT.WALK 0 v = 0 ∧ x.fget TMP_DEV_STAT.PLACED_SWARDS 0 v = 0 ∧
          (∀ f, d.fmode f = fWhole → d.fget TMP_FIELD0.DEV f = v → x.fmode f = fLost) ∧
          (∀ w, swPlaced ≤ d.fget TMP_SWARD.STATE w → d.fget TMP_SWARD.DEV w = v → x.fget TMP_SWARD.STATE w = swLost)) ∧
        (∀ (sw : Bool) (n : BitVec 33),
          let key := relKey sw v n.toNat
          let filled : Prop := (d.fillMover v sw n.toNat).isSome = true ∧ d.fillOf key = (fillChunks sw, []) ∧ d.fillFlights key = []
          (¬ filled → exec (.frameZeroed v sw n) s = .next s) ∧
          (filled → Runs (.frameZeroed v sw n) s fun x =>
            if sw then x.sframe v n.toNat = .zeroed ∨ x.frame v (n.toNat / 512) = .zeroed else x.frame v n.toNat = .zeroed))))

/-- R379, R380, R432, R433: a message from a Thatchlink that no released flit brought changes nothing. A LEASE_CHECK is answered with STATUS 0 only for the range as lent, which is then
remembered; an acknowledged lease joins the frames, a refused one loses the device; DEV_LOST loses the entry that names the lender and is acknowledged, repeated until it is. The lender refuses a DREAD or DWRITE with its STATUS, else
performs it and answers when the device is done; one whose class's ingress hold is full stays on the link (R289); DDATA and DDONE complete the borrower's request, or are discarded. R411, R415, R419, R420, R426, R430: an answered snoop is outstanding no longer and its entry changes as R411 gives; a
conflict is acknowledged; an expired snoop declares the host dead and contains its port; the end of a walk (but for what a BUSY line keeps of it) or of a sweep clears its bits; the completion limit completes a request that a host or the device made. Completes: LEASE_CHECK,
LEASE_ACK, LEASE_CHECK_REPEAT, DEV_LOST, DEV_LOST_ACK, DEV_LOST_REPEAT, DREAD, DWRITE, LENDER_DEVICE_DONE, DDATA, DDONE, SNOOP_RESPONSE, BI_CONFLICT, SNOOP_TIMEOUT, DIR_WALK_END, DIR_SWEEP_END, COMPLETION_LIMIT. -/
def Obligations.LendingAndDirectory : Prop :=
  ∀ (s : State), s.dev.inReset = false →
    let d := s.dev
    let t := d.core.nextTag
    let fresh : Prop := ∀ f ∈ d.core.flights, f.tag < t
    let calm : Prop := ∀ f ∈ d.core.flights, f.phase ≠ .resumed ∧ f.phase ≠ .behind
    let waits (x : Dev) (q : Nat) (b : QBody) : Prop := ∃ m ∈ x.core.buf ++ x.core.holds.map (·.2), m.egress = q ∧ m.body = b
    (∀ (p : Fin 128) (vc : Fin 8) (lender borrower : BitVec 8),
      let dl := lender.toNat
      let db := borrower.toNat
      let here : Prop := d.portUp p = true ∧ d.portMode p = 4 ∧ (d.tlkTake p vc).isSome = true
      let silent (c : Instr) : Prop := ¬ here → exec c s = .next s
      (∀ base size peer,
        let c : Instr := .leaseCheck p vc lender borrower base size peer
        let lent : Prop := d.dvState dl = dvLent ∧ d.fget TMP_DEV_RANGE.BASE_GIB 0 dl = base.toNat ∧
          d.fget TMP_DEV_CFG.SIZE_GIB 0 dl = size.toNat ∧ d.fget TMP_DEV_RANGE.PEER 0 dl = peer.toNat
        silent c ∧
        (here → lent → Runs c s fun x => x.thatch.lentTo.find? (fun e => e.1 == dl) = some (dl, db, p.val) ∧
          waits x p (.coord 0x21 (leaseBody dl db 0) false)) ∧
        (here → calm → ¬ lent → Runs c s fun x => x.thatch = d.thatch ∧ waits x p (.coord 0x21 (leaseBody dl db 1) false))) ∧
      (∀ status : BitVec 8,
        let c : Instr := .leaseAck p vc lender borrower status
        let open' : Prop := db ∈ d.thatch.leaseOpen ∧ d.fget TMP_DEV_RANGE.PEER_DEV 0 db = dl ∧ d.fget TMP_DEV_CFG.PORT 0 db = p.val
        silent c ∧ (here → calm → ¬ open' → Runs c s fun x => x.thatch = d.thatch) ∧
        (here → open' → status = 0 →
          let k := d.fget TMP_DEV_CFG.TIER 0 db
          Runs c s fun x => db ∉ x.thatch.leaseOpen ∧ x.fget TMP_TIER_STAT.FREE_GIB 0 k =
            min (2 ^ 24 - 1) (d.fget TMP_TIER_STAT.FREE_GIB 0 k + d.fget TMP_DEV_CFG.SIZE_GIB 0 db)) ∧
        (here → open' → status ≠ 0 → d.dvInPool db = true → Runs c s fun x => x.dvState db = dvLost ∧ db ∉ x.thatch.leaseOpen)) ∧
      (∀ cause : BitVec 8,
        let mine : Prop := d.fon TMP_DEV_CFG.REMOTE 0 db = true ∧ d.fget TMP_DEV_RANGE.PEER_DEV 0 db = dl ∧ d.fget TMP_DEV_CFG.PORT 0 db = p.val
        let told : Prop := (dl, db, p.val) ∈ d.thatch.lentTo
        let ack (x : Dev) : Prop := waits x p (.coord 0x23 (leaseBody dl db cause.toNat) false)
        silent (.devLost p vc lender borrower cause) ∧ silent (.devLostAck p vc lender borrower cause) ∧
        (here → mine → d.dvInPool db = true → d.portUp p = true → Runs (.devLost p vc lender borrower cause) s fun x => x.dvState db = dvLost ∧ ack x) ∧
        (here → calm → ¬ mine → Runs (.devLost p vc lender borrower cause) s fun x => x.thatch = d.thatch ∧ ack x) ∧
        (here → told → Tab.get 0 d.thatch.devLost dl = cause.toNat → Runs (.devLostAck p vc lender borrower cause) s fun x =>
          ∀ e ∈ x.thatch.devLost, e.1 ≠ dl) ∧
        (here → calm → ¬ told → Runs (.devLostAck p vc lender borrower cause) s fun x => x.thatch = d.thatch)) ∧
      (∀ (tag : BitVec 16) (dpa : BitVec 48) (expiry : BitVec 32) (data : BitVec 512) (poison : Bool),
        let room : Prop := here ∧ d.vcFull p vc = false
        let st := d.lenderStatus p dl db dpa.toNat expiry.toNat
        let head := ddBody tag.toNat dl db dpa.toNat st
        let kept (x : Dev) (w : Bool) : Prop := ∃ f ∈ x.core.flights, f.tag = t ∧ f.src = .lender p tag.toNat dl db ∧ f.addr = dpa.toNat ∧
          f.write = w
        (¬ room → exec (.dread p vc tag lender borrower dpa expiry) s = .next s ∧
          exec (.dwrite p vc tag lender borrower dpa expiry data poison) s = .next s) ∧
        (room → st ≠ 0 → Runs (.dread p vc tag lender borrower dpa expiry) s (fun x => waits x p (.coord 0x12 (head ++ leBytes 64 onesLine) true)) ∧
          Runs (.dwrite p vc tag lender borrower dpa expiry data poison) s (fun x => waits x p (.coord 0x13 head false))) ∧
        (room → st = 0 → fresh → d.portUp (d.fget TMP_DEV_CFG.PORT 0 dl) = true →
          Runs (.dread p vc tag lender borrower dpa expiry) s (fun x => kept x false) ∧
          Runs (.dwrite p vc tag lender borrower dpa expiry data poison) s (fun x => kept x true))) ∧
      (∀ (tag : BitVec 16) (dpa : BitVec 48) (status : BitVec 8) (data : BitVec 512) (poison : Bool),
        let good : Prop := d.fget TMP_DEV_RANGE.PEER_DEV 0 db = dl
        let thrown (x : Dev) : Prop := x.core.flights = d.core.flights ∧ .log "response discarded" tag.toNat ∈ x.out
        silent (.ddata p vc tag lender borrower dpa status data poison) ∧ silent (.ddone p vc tag lender borrower dpa status) ∧
        (here → calm → d.borrowed p tag.toNat db dpa.toNat false = none ∨ ¬ good →
          Runs (.ddata p vc tag lender borrower dpa status data poison) s thrown) ∧
        (here → calm → d.borrowed p tag.toNat db dpa.toNat true = none ∨ ¬ good →
          Runs (.ddone p vc tag lender borrower dpa status) s thrown) ∧
        (∀ fl q, here → fresh → good → d.borrowed p tag.toNat db dpa.toNat false = some fl → fl.src = .port q →
          Runs (.ddata p vc tag lender borrower dpa status data poison) s fun x => (∀ f ∈ x.core.flights, f.tag ≠ fl.tag) ∧
            (d.portUp q = true → waits x q (.response fl.hostTag (some (if status = 0 then data.toNat else onesLine))
              (if status = 0 then poison else true) fl.rsv))) ∧
        (∀ fl q, here → fresh → good → d.borrowed p tag.toNat db dpa.toNat true = some fl → fl.src = .port q →
          Runs (.ddone p vc tag lender borrower dpa status) s fun x => (∀ f ∈ x.core.flights, f.tag ≠ fl.tag) ∧
            (d.portUp q = true → waits x q (.response fl.hostTag none false fl.rsv))))) ∧
    (∀ v : Fin 256,
      (v.val ∉ d.thatch.leaseOpen → exec (.leaseCheckRepeat v) s = .next s) ∧
      (v.val ∈ d.thatch.leaseOpen → d.portUp (d.fget TMP_DEV_CFG.PORT 0 v) = true → Runs (.leaseCheckRepeat v) s fun x =>
        x.thatch = d.thatch ∧ ∃ b, waits x (d.fget TMP_DEV_CFG.PORT 0 v) (.coord 0x20 b false)) ∧
      ((∀ e ∈ d.thatch.devLost, e.1 ≠ v.val) → exec (.devLostRepeat v) s = .next s) ∧
      (∀ cause b q, d.thatch.devLost.find? (fun e => e.1 == v.val) = some (v.val, cause) →
        d.thatch.lentTo.find? (fun e => e.1 == v.val) = some (v.val, b, q) → d.portUp q = true → Runs (.devLostRepeat v) s fun x =>
          waits x q (.coord 0x22 (leaseBody v b cause) false))) ∧
    (∀ (tag : Nat) (data : BitVec 512) (poison : Bool),
      let c : Instr := .lenderDeviceDone tag data poison
      ((∀ f ∈ d.core.flights, f.tag ≠ tag ∨ f.phase ≠ .sent) → exec c s = .next s) ∧
      (∀ fl q g dl db, fresh → d.core.flights.find? (fun f => f.tag == tag && f.phase == .sent) = some fl → fl.src = .lender q g dl db → Runs c s fun x =>
        (∀ f ∈ x.core.flights, f.tag ≠ tag) ∧ (d.portUp q = true → waits x q (if fl.write then .coord 0x13 (ddBody g dl db fl.addr 0) false
          else .coord 0x12 (ddBody g dl db fl.addr 0 ++ leBytes 64 data.toNat) poison)))) ∧
    (∀ (v : Fin 64) (line : BitVec 41) (r : BIRsp),
      let a := line.toNat * 64
      let c : Instr := .snoopResponse v line r
      let found := d.dir.snoops.find? fun x => x.host == v.val && x.line == a
      (found = none → Ends c s (d.send (.log "snoop response discarded" a))) ∧
      (∀ sn i, found = some sn → d.findLine a = some i →
        let e := d.entry i
        (∀ lost, sn.why = .walk lost → d.core.flights = [] → e.snoops = 1 → Runs c s fun x =>
          x.entry i = .free ∧ x.dir.snoops = d.dir.snoops.erase sn) ∧
        (sn.why ≠ .sweep → d.core.flights = [] → 1 < e.snoops → sn.kind = 0 → Runs c s fun x =>
          (x.entry i).snoops = e.snoops - 1 ∧ (x.entry i).st = dS ∧ (x.entry i).sharers = e.sharers &&& ~~~ mask v 1 ∧
          x.dir.snoops = d.dir.snoops.erase sn) ∧
        (∀ fl u, d.core.flights = [fl] → sn.why = .request fl.tag → (∃ q, fl.src = .port q) → fl.vsw = some u → u < 64 → fl.kind = .readS →
          d.place fl.epoch fl.addr ≠ .lost → dirBank (i / 16) (i % 16) ∉ d.dir.retired → e.snoops = 1 → Runs c s fun x => (x.entry i).st = dS ∧ (x.entry i).busy = false ∧ (x.entry i).sharers.getLsbD u = true)) ∧
      (d.snooped v a = false → Ends (.biConflict v line) s (d.send (.log "conflict without snoop" a))) ∧
      (∀ hpa, d.snooped v a = true → d.snoopAddr d.commits.epoch v a = some hpa → Runs (.biConflict v line) s fun x =>
        waits x (d.usp v) (.snoop v hpa 3) ∧ x.dir = d.dir) ∧
      (let due := d.dir.snoops.find? fun x => x.host == v.val && x.line == a && x.sent.isSome
       (due = none → exec (.snoopTimeout v line) s = .next s) ∧
       (∀ sn b, due = some sn → sn.sent = some b → Runs (.snoopTimeout v line) s fun x => x.fget DIR_HOST_STAT.DEAD 0 v = 1 ∧
         x.fget DIR_HOST_STAT.CAUSE 0 v = 1 ∧
         x.now = max d.now (b + min 30 (max 1 (d.fget DIR_HOST_CFG.SNOOP_TIMEOUT 0 v)) * 1000) % 2 ^ 64 ∧
         (d.portUp (d.usp v) = true → x.portState (d.usp v) = poContained ∧ x.fget CXP_CONTAIN.CAUSE (d.usp v) = 2)))) ∧
    (d.fon DIR_STAT.WALK = false → exec .dirWalkEnd s = .next s) ∧
    (d.fon DIR_STAT.WALK = true → Runs .dirWalkEnd s fun x => x.dir.walkHosts = [] ∧
      (∀ v ∈ d.dir.walkHosts, x.fget DIR_HOST_STAT.WALK 0 v = 0) ∧
      (d.walkStays = false → x.fget DIR_STAT.WALK = 0 ∧ x.dir.walkEnds = [] ∧ x.dir.walkLost = false) ∧
      (d.walkStays = true → x.fget DIR_STAT.WALK = 1 ∧ x.dir.walkEnds = d.dir.walkEnds ∧ x.dir.walkLost = d.dir.walkLost)) ∧
    (∀ way : BitVec 23,
      let mine := d.dir.sweeps.find? fun w => w.1 == way.toNat
      ((mine = none ∨ ∃ l ls, mine = some (way.toNat, l :: ls)) → exec (.dirSweepEnd way) s = .next s) ∧
      (mine = some (way.toNat, []) → Runs (.dirSweepEnd way) s fun x => (∀ w ∈ x.dir.sweeps, w.1 ≠ way.toNat) ∧
        (x.fget DIR_STAT.SWEEP = 1 ↔ ∃ w ∈ d.dir.sweeps, w.1 ≠ way.toNat) ∧
        x.fget DIR_CNT1.SWEEPS = min 65535 (d.fget DIR_CNT1.SWEEPS + 1))) ∧
    (∀ tag : Nat,
      (d.flight tag = none → exec (.completionLimit tag) s = .next s) ∧
      (∀ fl q g dl db, d.flight tag = some fl → fl.src = .directory ∨ fl.src = .lender q g dl db → exec (.completionLimit tag) s = .next s) ∧
      (∀ fl q, d.flight tag = some fl → fresh → fl.src = .port q → d.shared fl.epoch fl.addr = true → fl.kind.chan = .mem →
        fl.answer = none → Runs (.completionLimit tag) s fun x => (∀ f ∈ x.core.flights, f.tag ≠ tag) ∧
          x.fget DIR_CNT2.LIMIT_COMPLETIONS = min (2 ^ 32 - 1) (d.fget DIR_CNT2.LIMIT_COMPLETIONS + 1) ∧
          x.now = max d.now (fl.admitted + 31000) % 2 ^ 64 ∧
          (fl.kind.returnsData = true → d.portUp q = true → waits x q (.response fl.hostTag (some (onesOf fl.len)) true fl.rsv))))

/-- R443, R459: a host's enable of a DISABLED SQ takes it to ENABLED, fetching from HEAD, or sets CFG_ERR; a disable discards what has not started and stops the SQ; a CQ's enable starts it at 0 with phase 1. R445, R453: a tail doorbell sets
TAIL, or halts the fold. R446: a push slot takes the bytes written, and is full once 0x3C to 0x3F are. R445 to R447, R454: the next entry takes a slot and comes from a full push slot of its index, else by a read of the ring;
a malformed one halts the fold; a fetched one starts on a mover. R458 to R460: the oldest finished entry's completion is written at TAIL, or held; a head doorbell writes what was held. R462 to R464: a vector is signalled by the moderation
timer or by an unmask, as one write to the host, or stays pending. In the states DISABLED, RESETTING and FROZEN, and in a soft reset (R644), no write of the host does anything. (That a completion for a CQ that is not enabled is held is the model's choice.) Completes: SQ_ENABLE, SQ_DISABLE, SQ_DOORBELL,
PUSH_SLOT_WRITE, COMPLETION_WRITE, CQ_ENABLE, CQ_DOORBELL, MODERATION_TIMER, MSIX_UNMASK, ENTRY_FETCH, FETCH_RESPONSE, ENTRY_START. -/
def Obligations.FoldQueues : Prop :=
  ∀ (s : State) (f : Fin 256), s.dev.inReset = false →
    let d := s.dev
    let st := d.foldState f
    let up := d.usp (d.foldVsw f)
    let hw : Prop := st ≠ fdDisabled ∧ st ≠ fdResetting ∧ st ≠ fdFrozen ∧ d.phase ≠ phSoft
    let waits (x : Dev) (b : QBody) : Prop := ∃ m ∈ x.core.buf ++ x.core.holds.map (·.2), m.egress = up ∧ m.body = b
    let halted (x : Dev) (cause q index : Nat) : Prop := x.foldState f = fdHalted ∧ x.fget FLD_STAT.HALT_CAUSE f = cause ∧
      x.fget FLD_STAT.HALT_SQ f = q ∧ x.fget FLD_STAT.HALT_INDEX f = index
    (∀ q : Fin 8,
      let sq := d.fget FLD_SQ_STAT.STATE f q
      (∀ (n : BitVec 5) (cq : Fin 8),
        let c : Instr := .sqEnable f q n cq
        let ok : Prop := 6 ≤ n.toNat ∧ n.toNat ≤ 16 ∧ d.fget FLD_CQ_CFG.EN f cq = 1
        (¬ hw → exec c s = .next s) ∧
        (hw → sq = sqDisabled → ok → Runs c s fun x => x.fget FLD_SQ_STAT.STATE f q = sqEnabled ∧ x.fget FLD_SQ_CFG.EN f q = 1 ∧
          x.fget FLD_SQ_CFG.SIZE_LOG2 f q = n.toNat ∧ x.fget FLD_SQ_CFG.CQ f q = cq.val ∧
          Tab.get 0 (x.fold f).next q = d.fget FLD_SQ_STAT.HEAD f q ∧ x.core = d.core ∧ x.folds.work = d.folds.work) ∧
        (hw → sq = sqDisabled → ¬ ok → Runs c s fun x => x.fget FLD_SQ_STAT.CFG_ERR f q = 1 ∧ x.fget FLD_SQ_STAT.STATE f q = sqDisabled ∧
          x.folds = d.folds)) ∧
      (¬ hw → exec (.sqDisable f q) s = .next s) ∧
      (hw → sq = sqEnabled → Runs (.sqDisable f q) s fun x => x.fget FLD_SQ_CFG.EN f q = 0 ∧
        (∀ w ∈ x.folds.work, ∀ i, w.owner = .ring f q i → w.state ≠ .fetching ∧ w.state ≠ .fetched) ∧
        x.fget FLD_SQ_STAT.STATE f q =
          if x.sqWorks f q = [] ∧ ∀ h ∈ (d.fold f).held, descField h.bytes 2 1 ≠ q.val then sqDisabled else sqStopping) ∧
      (∀ tail : BitVec 16,
        let c : Instr := .sqDoorbell f q tail
        (¬ hw ∨ st = fdHalted ∨ sq = sqHalted → exec c s = .next s) ∧
        (hw → st ≠ fdHalted → sq ≠ sqHalted → tail.toNat < d.sqSize f q → Ends c s (d.fset FLD_SQ_STAT.TAIL tail.toNat f q)) ∧
        (hw → st ≠ fdHalted → sq ≠ sqHalted → d.sqSize f q ≤ tail.toNat → Runs c s fun x => halted x 6 q tail.toNat)) ∧
      (∀ (i : Fin 4) (off : Fin 64) (len : Fin 65) (data : BitVec 512),
        let c : Instr := .pushSlotWrite f q i off len data
        let old := d.pushBytes f q i
        let bs := (leBytes len data.toNat).take (64 - off.val)
        (¬ hw → exec c s = .next s) ∧
        (hw → Runs c s fun x => x.pushBytes f q i = old.take off ++ bs ++ old.drop (off + bs.length) ∧
          (q.val * 4 + i.val ∈ (x.fold f).pushFull ↔
            (off.val ≤ 0x3C ∧ 0x40 ≤ off.val + bs.length) ∨ q.val * 4 + i.val ∈ (d.fold f).pushFull))) ∧
      (∀ i w stat res, (d.sqWorks f q).head? = some w → w.state = .finished stat res → w.owner = .ring f q i → st ≠ fdResetting →
        let c := d.fget FLD_SQ_CFG.CQ f q
        let head := (i + 1) % d.sqSize f q
        let t := d.fget FLD_CQ_STAT.TAIL f c
        let bytes := cplBytes (dTag w.raw) q stat res head w.gen false
        let mustHold : Prop := d.cplAsleep f = true ∨ d.cqFull f c = true ∨ ∃ h ∈ (d.fold f).held, h.cq = c
        (¬ mustHold → d.portUp up = true → Runs (.completionWrite f q) s fun x =>
          waits x (.hostWrite f (d.fget FLD_CQ_BASE.BASE f c * 16 + 16 * t) (bytes.take 15 ++ leBytes 1 (d.fget FLD_CQ_STAT.PHASE f c)) false) ∧
          (∀ y ∈ x.folds.work, y.id ≠ w.id) ∧ x.fget FLD_STAT.IN_FLIGHT f = d.fget FLD_STAT.IN_FLIGHT f - 1 ∧
          x.fget FLD_SQ_STAT.HEAD f q = head ∧ x.fget FLD_CQ_STAT.TAIL f c = (t + 1) % d.cqSize f c ∧
          x.fget FLD_CQ_STAT.PHASE f c = if (t + 1) % d.cqSize f c = 0 then 1 - d.fget FLD_CQ_STAT.PHASE f c else d.fget FLD_CQ_STAT.PHASE f c) ∧
        (mustHold → (d.fold f).held.length < 16 → Runs (.completionWrite f q) s fun x =>
          (x.fold f).held = (d.fold f).held ++ [⟨c, bytes, dFlag w.raw 3⟩] ∧ (∀ y ∈ x.folds.work, y.id ≠ w.id) ∧
          x.fget FLD_CNT.HOLD_USED f = (d.fold f).held.length + 1 ∧ (x.fold f).stalled = decide (16 ≤ (d.fold f).held.length + 1) ∧
          x.fget FLD_CNT.CQ_FULL f = min (2 ^ 32 - 1) (d.fget FLD_CNT.CQ_FULL f + 1))) ∧
      (((d.sqWorks f q).head? = none ∨ ∃ w, (d.sqWorks f q).head? = some w ∧ ∀ a b, w.state ≠ .finished a b) →
        exec (.completionWrite f q) s = .next s)) ∧
    (∀ cq : Fin 8,
      (∀ v : Word,
        let c : Instr := .cqEnable f cq v
        let was : Prop := d.fget FLD_CQ_CFG.EN f cq = 1
        (¬ hw → exec c s = .next s) ∧
        (hw → v.getLsbD 0 = true → Runs c s fun x => x.fget FLD_CQ_CFG.EN f cq = 1 ∧ (¬ was → x.fget FLD_CQ_STAT.TAIL f cq = 0 ∧
          x.fget FLD_CQ_STAT.HEAD f cq = 0 ∧ x.fget FLD_CQ_STAT.PHASE f cq = 1) ∧
          (was → x.fget FLD_CQ_STAT.TAIL f cq = d.fget FLD_CQ_STAT.TAIL f cq)) ∧
        (hw → v.getLsbD 0 = false → Runs c s fun x =>
          (x.fget FLD_CQ_CFG.EN f cq = 1 ↔ was ∧ ∃ q < 8, (d.fget FLD_SQ_STAT.STATE f q = sqEnabled ∨ d.fget FLD_SQ_STAT.STATE f q = sqStopping) ∧
            d.fget FLD_SQ_CFG.CQ f q = cq.val))) ∧
      (∀ head : BitVec 16,
        let c : Instr := .cqDoorbell f cq head
        let e := d.fset FLD_CQ_STAT.HEAD head.toNat f cq
        (¬ hw → exec c s = .next s) ∧
        (hw → (d.fold f).held = [] ∨ d.cplAsleep f = true → Ends c s e) ∧
        (∀ h, hw → (d.fold f).held = [h] → d.cplAsleep f = false → e.cqFull f h.cq = false → d.portUp up = true → Runs c s fun x =>
          (x.fold f).held = [] ∧ (x.fold f).stalled = false ∧ x.fget FLD_CNT.HOLD_USED f = 0 ∧
          waits x (.hostWrite f (d.fget FLD_CQ_BASE.BASE f h.cq * 16 + 16 * d.fget FLD_CQ_STAT.TAIL f h.cq)
            (h.bytes.take 15 ++ leBytes 1 (d.fget FLD_CQ_STAT.PHASE f h.cq)) false))) ∧
      (let c : Instr := .moderationTimer f cq
       let vec := d.fget FLD_CQ_CFG.VEC f cq
       ((∀ a, d.modTimer f cq ≠ .running a) → exec c s = .next s) ∧
       (∀ a, d.modTimer f cq = .running a → Runs c s fun x => x.modTimer f cq = .stopped ∧ x.fget FLD_CQ_STAT.PENDING f cq = 0 ∧
         x.now = max d.now (a + (d.fget FLD_CQ_CFG.TIMER f cq + 1) * 1000) % 2 ^ 64 ∧
         (d.msixFree f = true → (d.fold f).fnMask = false → d.fget FLD_MSIX1.MASK f vec = 0 → d.portUp up = true →
           waits x (.hostWrite f (d.fget FLD_MSIX0.ADDR f vec) (leBytes 4 (d.fget FLD_MSIX1.DATA f vec)) false) ∧ x.fbit FLD_PBA.PENDING vec f = false) ∧
         (d.msixFree f = false ∨ (d.fold f).fnMask = true ∨ d.fget FLD_MSIX1.MASK f vec = 1 → x.fbit FLD_PBA.PENDING vec f = true)))) ∧
    (∀ v : Fin 8,
      (¬ hw → exec (.msixUnmask f (some v)) s = .next s ∧ exec (.msixUnmask f none) s = .next s) ∧
      (hw → d.fbit FLD_PBA.PENDING v f = false → Ends (.msixUnmask f (some v)) s (d.fset FLD_MSIX1.MASK 0 f v)) ∧
      (hw → Runs (.msixUnmask f none) s fun x => (x.fold f).fnMask = false) ∧
      (hw → d.fbit FLD_PBA.PENDING v f = true → d.msixFree f = true → d.portUp up = true →
        let sent (x : Dev) : Prop := x.fbit FLD_PBA.PENDING v f = false ∧
          waits x (.hostWrite f (d.fget FLD_MSIX0.ADDR f v) (leBytes 4 (d.fget FLD_MSIX1.DATA f v)) false)
        ((d.fold f).fnMask = false → Runs (.msixUnmask f (some v)) s sent) ∧
        (d.fget FLD_MSIX1.MASK f v = 0 → Runs (.msixUnmask f none) s sent))) ∧
    (∀ bad : Bool,
      (d.fetchSq f = none → exec (.entryFetch f bad) s = .next s) ∧
      (∀ q, d.fetchSq f = some q → st ≠ fdEnabled ∨ d.mayTakeSlot f = false ∨ (d.fold f).stalled = true → exec (.entryFetch f bad) s = .next s) ∧
      (∀ q, d.fetchSq f = some q → st = fdEnabled → d.mayTakeSlot f = true → (d.fold f).stalled = false →
        let i := Tab.get 0 (d.fold f).next q
        let raw := d.pushBytes f q (i % 4)
        let pushed : Prop := q * 4 + i % 4 ∈ (d.fold f).pushFull ∧ descField raw 0x3C 2 = i
        let took (x : Dev) : Prop := x.fget FLD_STAT.IN_FLIGHT f = d.fget FLD_STAT.IN_FLIGHT f + 1 ∧
          Tab.get 0 (x.fold f).next q = (i + 1) % d.sqSize f q ∧ (x.fold f).lastSq = q ∧ q * 4 + i % 4 ∉ (x.fold f).pushFull
        (bad = true → Runs (.entryFetch f bad) s fun x => x.foldState f = fdResetting) ∧
        (bad = false → ¬ pushed → d.portUp up = true → Runs (.entryFetch f bad) s fun x => took x ∧
          waits x (.hostRead f (d.fget FLD_SQ_BASE.BASE f q * 64 + 64 * i) 64) ∧
          ∃ w, x.folds.work = d.folds.work ++ [w] ∧ w.owner = .ring f q i ∧ w.state = .fetching ∧ w.gen = d.fget FLD_STAT.GEN f) ∧
        (bad = false → pushed → malformed raw (.ring i) = none → Runs (.entryFetch f bad) s fun x => took x ∧
          ∃ w ∈ x.folds.work, w.owner = .ring f q i ∧ w.state = .fetched ∧ w.raw = raw))) ∧
    (∀ id : Nat,
      (∀ (data : BitVec 512) (bad : Bool),
        let c : Instr := .fetchResponse id data bad
        (d.work id = none → exec c s = .next s) ∧
        (∀ w q i, d.work id = some w → w.owner = .ring f q i → w.state = .fetching → q < 8 → i < 2 ^ 16 →
          let raw := leBytes 64 data.toNat
          (bad = true → Runs c s fun x => halted x 7 q i) ∧
          (bad = false → malformed raw (.ring i) = none → Ends c s (d.setWork id fun w => { w with raw := raw, state := .fetched })) ∧
          (∀ cause, bad = false → malformed raw (.ring i) = some cause → Runs c s fun x => halted x cause q i))) ∧
      (d.reassign = d → d.work id = none ∨ d.bestMover = none → exec (.entryStart id) s = .next s) ∧
      (∀ w m, d.reassign = d → d.work id = some w → d.bestMover = some m →
        (w.state ≠ .fetched ∨ d.startBlocked w = true → exec (.entryStart id) s = .next s) ∧
        (w.state = .fetched → d.startBlocked w = false → ∃ crc : BitVec 32,
          Ends (.entryStart id) s (d.setWork id fun x => { x with state := .started (some m), crc := crc }) ∧
          (dOp w.raw = opCrc → crc = ~~~ BitVec.ofNat 32 (descField w.raw 0x18 4)))))

/-- R455, R456, R478: the next chunk of a started entry, when its fold's turn comes, is denied, unbound, or issued; a chunk all of whose accesses are answered is counted, and the last one ends the entry, a COMPARE at its first difference; unanswered for 32 µs it ends the entry with TIMEOUT. The same rows
move the next line of a migration's copy (R389) and the next 4 KiB of a zero-fill (R382): reads, the writes of what they brought, and the counters of their mover; one unanswered is done again.
R454: a mover written out of service runs nothing more. R475, R476: at a course boundary N folds share the slots. R440, R464: the host's VF Enable, NumVFs, D3hot and Bus Master Enable give the state. R479, R481: a fold reset begins with the next generation and nothing
unstarted; its end restores the fields that list F, and no others of the fold, and raises event FOLD. R169. A register write in a soft reset waits for its end.
Completes: CHUNK_ADMIT, CHUNK_COMPLETE, CHUNK_TIMEOUT, MOVER_DISABLE, SHARE_SAMPLE, VF_POWER_STATE, VF_ENABLE, FLR, FOLD_RESET, FOLD_RESET_DONE. -/
def Obligations.FoldWork : Prop :=
  ∀ (s : State), s.dev.inReset = false →
    let d := s.dev
    let ended (x : Dev) (id stat res : Nat) : Prop := ∃ w, x.work id = some w ∧ w.state = .finished stat res
    let isRing (w : Work) : Prop := ∃ f q i, w.owner = .ring f q i
    let fresh : Prop := ∀ f ∈ d.core.flights, f.tag < d.core.nextTag
    (∀ id : Nat,
      (d.work id = none → exec (.chunkAdmit (.entry id)) s = .next s) ∧
      (∀ w m, d.work id = some w → w.state = .started (some m) → d.moverOn m = true → d.mayAdmit w = true → d.managerFirst m w = false →
        (d.takeTurn w = none → exec (.chunkAdmit (.entry id)) s = .next s) ∧ ∀ y, d.takeTurn w = some y →
        let o := w.next
        let r := y.chunkSides d.commits.epoch w o
        (isRing w → d.chunkFlights id = [] → (r.2.1 = .denied ∨ r.2.2 = .denied) → Runs (.chunkAdmit (.entry id)) s fun x =>
          ended x id 2 o ∧ x.fget DMV_ERR.DENIED m = min 65535 (r.1.fget DMV_ERR.DENIED m + 1)) ∧
        (isRing w → d.chunkFlights id = [] → r.2.1 ≠ .denied → r.2.2 ≠ .denied → (r.2.1 = .unbound ∨ r.2.2 = .unbound) →
          Runs (.chunkAdmit (.entry id)) s fun x => ended x id 4 o) ∧
        (∀ f q i, w.owner = .ring f q i → dOp w.raw = opFill → dFlag w.raw 1 = true → d.core.flights = [] →
          d.portUp (d.cfg d.commits.epoch CXP_VSW_CFG.USP (d.foldVsw f)) = true → Runs (.chunkAdmit (.entry id)) s fun x =>
            (∃ y, x.work id = some y ∧ y.next = o + chunkLen w.raw o) ∧
            ∃ fl ∈ x.core.flights, fl.src = .chunk m id ∧ fl.write = true ∧ fl.addr = dDst w.raw + o ∧ fl.len = chunkLen w.raw o ∧
              fl.hostTag = 2 * o ∧ fl.data = leNat (fillBytes w.raw o (chunkLen w.raw o)) ∧ fl.epoch = d.commits.epoch)) ∧
      (∀ offset : BitVec 32,
        let o := offset.toNat
        let fs := (d.chunkFlights id).filter fun x => x.hostTag / 2 == o
        let c : Instr := .chunkComplete (.entry id) offset
        let last (w : Work) : Prop := isRing w ∧ (∃ m, w.state = .started m) ∧ w.next = dLen w.raw ∧ w.ending = none ∧ w.poisonAt = none ∧
          d.chunkFlights id = fs
        (d.work id = none ∨ fs = [] ∨ (∃ x ∈ fs, x.answer = none) → exec c s = .next s) ∧
        (∀ w m f0 rest, d.work id = some w → fs = f0 :: rest → (∀ x ∈ fs, x.answer ≠ none) → f0.src = .chunk m id →
          (∀ f, w.owner.fold = some f → d.fget FLD_STAT.GEN f = w.gen) →
          let n := chunkLen w.raw o
          let counted (x : Dev) (bytes : Nat) : Prop := x.fget DMV_CHUNKS.CHUNKS m = (d.fget DMV_CHUNKS.CHUNKS m + 1) % 2 ^ 64 ∧
            x.fget DMV_BYTES.BYTES m = (d.fget DMV_BYTES.BYTES m + bytes) % 2 ^ 64 ∧ ∀ y ∈ x.chunkFlights id, y.hostTag / 2 ≠ o
          (f0.write = true → Runs c s fun x => counted x n ∧ (last w → dOp w.raw ≠ opCrc → ended x id 0 0)) ∧
          (let a := readBytes (fs.filter fun x => x.hostTag % 2 == 0)
           let b := readBytes (fs.filter fun x => x.hostTag % 2 == 1)
           f0.write = false → dOp w.raw = opCompare → a.length = n → b.length = n → (∀ y ∈ a ++ b, y.2 = false) → last w →
             (a = b → Runs c s fun x => counted x 0 ∧ ended x id 0 0) ∧
             (∀ k < n, (a.take k = b.take k) → a[k]? ≠ b[k]? → Runs c s fun x => counted x 0 ∧ ended x id 1 (o + k))))) ∧
      (∀ offset : BitVec 32,
        let o := offset.toNat
        let open' := (d.chunkFlights id).filter fun x => x.hostTag / 2 == o && x.answer.isNone
        (open' = [] → exec (.chunkTimeout (.entry id) offset) s = .next s) ∧
        (∀ f0 w m, open' = [f0] → d.chunkFlights id = [f0] → f0.src = .chunk m id → f0.admitted + 32000 < 2 ^ 64 → d.work id = some w →
          isRing w → (∃ k, w.state = .started k) → w.ending = none → Runs (.chunkTimeout (.entry id) offset) s fun x =>
            x.now = max d.now (f0.admitted + 32000) ∧ ended x id 7 o ∧ x.chunkFlights id = [] ∧
            x.fget DMV_ERR.TIMEOUTS m = min 65535 (d.fget DMV_ERR.TIMEOUTS m + 1)))) ∧
    (∀ (k : Fin 64) (offset : BitVec 32),
      let i := offset.toNat / 64
      let up (v : Nat) : Prop := d.portUp (d.fget TMP_DEV_CFG.PORT 0 v) = true
      (∀ m j, d.migr k = some m → d.fget TMP_MIGR_SLOT.STATE 0 k = 1 → d.inFault = false → m.stallAt = none → d.moverOn m.mover = true →
        up m.srcDev → up m.dstDev → nextLine m.bits (32768 - m.scan) m.scan = some j → d.writeOpen (m.lineAddr j) = false → fresh →
        Runs (.chunkAdmit (.copy k)) s fun x => x.migr k = some { m.mark j true with scan := j + 1 } ∧
          ∃ fl ∈ x.core.flights, fl.src = .copy m.mover k j ∧ fl.write = false ∧ fl.addr = m.lineAddr j ∧ fl.epoch = d.commits.epoch) ∧
      (∀ fl mv m, d.migr k = some m → d.copyFlights k = [fl] → fl.src = .copy mv k i → fresh →
        (∀ v bad, fl.answer = some (v, bad) → fl.write = false → up m.dstDev → fl.epoch = d.commits.epoch → Runs (.chunkComplete (.copy k) offset) s fun x =>
          ∃ w ∈ x.core.flights, w.src = .copy mv k i ∧ w.write = true ∧ w.data = v ∧ w.poison = bad ∧ w.addr = m.lineAddr i) ∧
        (fl.answer.isSome = true → fl.write = true → Runs (.chunkComplete (.copy k) offset) s fun x =>
          x.fget DMV_BYTES.BYTES mv = (d.fget DMV_BYTES.BYTES mv + 64) % 2 ^ 64 ∧ ∀ y ∈ x.core.flights, y.tag ≠ fl.tag) ∧
        (fl.answer.isSome = true → exec (.chunkTimeout (.copy k) offset) s = .next s) ∧
        (fl.answer = none → fl.admitted + 32000 < 2 ^ 64 → exec (.chunkComplete (.copy k) offset) s = .next s ∧
          Runs (.chunkTimeout (.copy k) offset) s fun x => x.now = max d.now (fl.admitted + 32000) ∧ x.copyFlights k = [] ∧
            x.fget DMV_ERR.TIMEOUTS mv = min 65535 (d.fget DMV_ERR.TIMEOUTS mv + 1)))) ∧
    (∀ (v : Fin 256) (sw : Bool) (n : BitVec 33) (offset : BitVec 32),
      let key := relKey sw v n.toNat
      let c := offset.toNat / 4096
      (d.fillMover v sw n.toNat = none → exec (.chunkAdmit (.fill v sw n)) s = .next s) ∧
      (∀ mv next, d.fillMover v sw n.toNat = some mv → d.fillOf key = (next, []) → next < fillChunks sw → d.fillFlights key = [] → fresh →
        d.portUp (d.fget TMP_DEV_CFG.PORT 0 v) = true → Runs (.chunkAdmit (.fill v sw n)) s fun x => x.fillOf key = (next + 1, []) ∧
          (x.fillFlights key).length = 64 ∧ ∀ fl ∈ x.fillFlights key, fl.src = .fill mv key next ∧ fl.write = true ∧ fl.data = 0) ∧
      (d.fillFlights key = [] → exec (.chunkComplete (.fill v sw n) offset) s = .next s ∧ exec (.chunkTimeout (.fill v sw n) offset) s = .next s) ∧
      (∀ mv, d.fillFlights key ≠ [] → (∀ fl ∈ d.fillFlights key, fl.src = .fill mv key c ∧ fl.answer.isSome = true) →
        Runs (.chunkComplete (.fill v sw n) offset) s fun x => x.fillFlights key = [] ∧
          x.fget DMV_CHUNKS.CHUNKS mv = (d.fget DMV_CHUNKS.CHUNKS mv + 1) % 2 ^ 64 ∧
          x.fget DMV_BYTES.BYTES mv = (d.fget DMV_BYTES.BYTES mv + 4096) % 2 ^ 64)) ∧
    (∀ m : Fin 32, d.answers = true →
      (d.phase = phSoft → Ends (.moverDisable m) s { d with held := d.held ++ [.moverDisable m] }) ∧
      (d.phase ≠ phSoft → Runs (.moverDisable m) s fun x => x.fget DMV_CTRL.EN m = 0 ∧
      (∀ w ∈ x.folds.work, w.state ≠ .started (some m.val)) ∧
      x.folds.work.map (fun w => (w.id, w.raw, w.next)) = d.folds.work.map (fun w => (w.id, w.raw, w.next)) ∧ x.core = d.core)) ∧
    Runs .shareSample s (fun x =>
      let n := ((List.range 256).filter fun f => d.foldState f != fdDisabled).length
      x.now % 2 ^ 20 = 0 ∧ ∀ f < 256, x.fget FLD_SHARE.N f = n ∧ x.fget FLD_SHARE.CAP f = (if d.foldState f = fdDisabled then 0 else 2048 / n) ∧
        (x.fget FLD_SHARE.COUNTED f = 1 ↔ d.foldState f ≠ fdDisabled)) ∧
    (∀ (f : Fin 256) (d3 bm pme mask : Bool),
      let k := d.vfIndex f
      let v := d.service (d.foldVsw f)
      Runs (.vfPowerState f d3 bm pme mask) s fun x => (x.fold f).d3hot = d3 ∧ (x.fold f).busMaster = bm ∧ (x.fold f).pmeEn = pme ∧
        (x.fold f).fnMask = mask ∧ (d.foldState f < fdHalted → x.foldState f =
          if d.fget FLD_CFG.ASSIGNED f = 0 ∨ v.vfEnable = false ∨ v.numVFs ≤ k then fdDisabled
          else if d3 = true ∨ bm = false then fdSuspended else fdEnabled)) ∧
    (∀ (v : Fin 64) (on : Bool) (n : BitVec 16), Runs (.vfEnable v on n) s fun x => x.service v = ⟨on, n.toNat⟩ ∧
      ∀ f < 256, d.fget FLD_CFG.ASSIGNED f = 1 → d.foldVsw f = v.val → d.foldState f < fdHalted → x.foldState f =
        if on = false ∨ n.toNat ≤ d.vfIndex f then fdDisabled
        else if (d.fold f).d3hot = true ∨ (d.fold f).busMaster = false then fdSuspended else fdEnabled) ∧
    (∀ f : Fin 256,
      let begun (x : Dev) : Prop := x.foldState f = fdResetting ∧ x.fget FLD_STAT.GEN f = (d.fget FLD_STAT.GEN f + 1) % 256 ∧
        x.fget FLD_RESET.DONE f = 0 ∧ x.fget FLD_RESET.RESETS f = min 65535 (d.fget FLD_RESET.RESETS f + 1) ∧
        (x.fold f).held = [] ∧ (x.fold f).pushFull = [] ∧
        ∀ w ∈ x.folds.work, w.owner.fold = some f.val → w.state ≠ .fetching ∧ w.state ≠ .fetched
      let st := d.foldState f
      (st = fdDisabled ∨ st = fdResetting → exec (.flr f) s = .next s) ∧
      (st ≠ fdDisabled → st ≠ fdResetting → Runs (.flr f) s begun) ∧
      (d.answers = true → d.phase = phSoft → Ends (.foldReset f) s { d with held := d.held ++ [.foldReset f] }) ∧
      (d.answers = true → d.phase ≠ phSoft → st = fdResetting → Ends (.foldReset f) s (d.fset FLD_RESET.RESET 1 f)) ∧
      (d.answers = true → d.phase ≠ phSoft → st ≠ fdResetting → Runs (.foldReset f) s fun x => begun x ∧ x.fget FLD_RESET.RESET f = 1) ∧
      (st ≠ fdResetting ∨ d.oldWorkLeft f = true → exec (.foldResetDone f) s = .next s) ∧
      (st = fdResetting → d.oldWorkLeft f = false → Runs (.foldResetDone f) s fun x =>
        x.foldState f = d.foldRest f ∧ x.fget FLD_RESET.RESET f = 0 ∧ x.fget FLD_RESET.DONE f = 1 ∧
        x.fget FLD_STAT.GEN f = d.fget FLD_STAT.GEN f ∧ (∀ w ∈ x.folds.work, w.owner.fold ≠ some f.val) ∧
        (∀ r fl, r.k.place.block = 0x20 → r.i = f.val → fl ∈ r.k.fields → .fold ∈ fl.res →
          bitsOf (x.rd r) fl.lo fl.w = bitsOf (r.resetVal d.fuses) fl.lo fl.w) ∧
        (∀ r, r.k.place.block ≠ 0x20 ∨ r.i ≠ f.val → x.rd r = d.rd r) ∧
        ∀ t, (d.thr t).live = true → (d.thr t).manager = true → (d.thr t).evmask.getLsbD 7 = true → (x.thr t).evpend.getLsbD 7 = true))

/-- R483, R484: FREEZE and THAW are refused, with nothing changed, by the checks of their instant (1 LATE, 2 FAR, 3 NOTIME), the state of the fold (4) or its running program (5); else they are pending. R485, R486: at its instant the fold is FROZEN, its unstarted entries go and its moderation timers
stop; when no chunk is out, or after 20 µs, each started entry has its record and event FOLD is raised. R490: SAVE writes the bale to host memory or sends it to a peer, once more after 40 µs without an answer; its end gives SAVED, or leaves FROZEN. R491 to R493: RESTORE takes a bale only whole: with a
check that fails nothing is loaded; else the fold is FROZEN as the source was. R494: a thaw returns the fold to the state before, and each recorded entry goes on. R169. A command that writes a register in a soft reset
waits for its end. (That a refused instant is told before the state, and that SAVE may be repeated, are the model's choices.) Completes: FREEZE, FREEZE_INSTANT, FREEZE_DONE, SAVE, SAVE_DONE, BALE_ACK, BALE_ACK_TIMEOUT, RESTORE, BALE_READ_DONE, BALE_DATA, THAW, THAW_INSTANT. -/
def Obligations.FoldMigration : Prop :=
  ∀ (s : State) (f : Fin 256), s.dev.inReset = false →
    let d := s.dev
    let st := d.foldState f
    let mg := d.migState f
    let y := d.fold f
    let waits (x : Dev) (b : QBody) : Prop := ∃ m ∈ x.core.buf ++ x.core.holds.map (·.2), m.egress = d.usp (d.foldVsw f) ∧ m.body = b
    let result (x : Dev) (r : Nat) : Prop := x.fget FLD_MIG_STAT.RESULT f = r
    let open' : Prop := d.answers = true ∧ d.phase ≠ phSoft
    let held (c : Instr) : Prop := d.answers = true → d.phase = phSoft → Ends c s { d with held := d.held ++ [c] }
    let refused (c : Instr) (r : Nat) : Prop := open' → Runs c s fun x => result x r ∧ x.migState f = mg ∧ x.foldState f = st ∧ x.folds = d.folds ∧
      x.core = d.core ∧ x.out = d.out
    let event7 (x : Dev) : Prop := ∀ t, (d.thr t).live = true → (d.thr t).manager = true → (d.thr t).evmask.getLsbD 7 = true →
      (x.thr t).evpend.getLsbD 7 = true
    let loaded (x : Dev) (b : List Byte) : Prop := x.foldState f = fdFrozen ∧ x.migState f = mgFrozen ∧ result x 0 ∧ event7 x ∧
      x.fget FLD_STAT.IN_FLIGHT f = descField b 6 2 ∧ x.fget FLD_STAT.GEN f = descField b 0x0E 1 ∧ (x.fold f).before = descField b 0x20 1 ∧
      (x.fold f).records.length = descField b 6 2 ∧ (∀ q < 8, x.fget FLD_SQ_STAT.HEAD f q = descField b (0x40 + 16 * q + 8) 2 ∧
        x.fget FLD_SQ_STAT.TAIL f q = descField b (0x40 + 16 * q + 10) 2 ∧ Tab.get 0 (x.fold f).next q = descField b (0x40 + 16 * q + 12) 2) ∧
      ∀ c < 8, x.fget FLD_CQ_STAT.TAIL f c = descField b (0xC0 + 32 * c + 8) 2 ∧ x.fget FLD_CQ_STAT.HEAD f c = descField b (0xC0 + 32 * c + 10) 2
    let failed (x : Dev) (r : Nat) : Prop := x.migState f = mgIdle ∧ result x r ∧ x.foldState f = st
    (∀ instant : Word,
      let t := instant.toNat / 1024 * 1024
      let timed (c : Instr) : Prop := (d.timeGood = false → refused c 3) ∧ (d.timeGood = true → t < d.now + 2048 → refused c 1) ∧
        (d.timeGood = true → d.now + 2 ^ 30 < t → refused c 2)
      let ok : Prop := d.timeGood = true ∧ d.now + 2048 ≤ t ∧ t ≤ d.now + 2 ^ 30
      let mayFreeze : Prop := mg = mgIdle ∧ (st = fdEnabled ∨ st = fdSuspended ∨ st = fdHalted)
      let mayThaw : Prop := st = fdFrozen ∧ (mg = mgFrozen ∨ mg = mgSaved)
      held (.freeze f instant) ∧ held (.thaw f instant) ∧ timed (.freeze f instant) ∧ timed (.thaw f instant) ∧
      (ok → ¬ mayFreeze → refused (.freeze f instant) 4) ∧
      (ok → mayFreeze → d.fget FLD_PROG_STAT.STATE f ≠ 0 → refused (.freeze f instant) 5) ∧
      (open' → ok → mayFreeze → d.fget FLD_PROG_STAT.STATE f = 0 → Runs (.freeze f instant) s fun x => x.migState f = mgFreezePending ∧
        x.fold f = { y with freezeAt := t } ∧ x.foldState f = st) ∧
      (ok → ¬ mayThaw → refused (.thaw f instant) 4) ∧
      (open' → ok → mayThaw → Runs (.thaw f instant) s fun x => x.migState f = mgThawPending ∧ x.fold f = { y with freezeAt := t, migWas := mg } ∧
        x.foldState f = st)) ∧
    (mg ≠ mgFreezePending → exec (.freezeInstant f) s = .next s) ∧
    (mg = mgFreezePending → Runs (.freezeInstant f) s fun x => x.now = max d.now y.freezeAt % 2 ^ 64 ∧
      (¬ (st = fdEnabled ∨ st = fdSuspended ∨ st = fdHalted) → failed x 4) ∧
      ((st = fdEnabled ∨ st = fdSuspended ∨ st = fdHalted) → x.foldState f = fdFrozen ∧ x.migState f = mgFreezing ∧ (x.fold f).before = st ∧
        (x.fold f).pushFull = [] ∧ (∀ w ∈ x.folds.work, w.owner.fold = some f.val → w.state ≠ .fetching ∧ w.state ≠ .fetched) ∧
        ∀ c < 8, ∀ a, d.modTimer f c = .running a → ∃ n, x.modTimer f c = .frozen n ∧
          n = ((d.fget FLD_CQ_CFG.TIMER f c + 1) * 1000 - (x.now - a) + 999) / 1000)) ∧
    (mg ≠ mgFreezing → exec (.freezeDone f) s = .next s) ∧
    (mg = mgFreezing → Runs (.freezeDone f) s fun x => x.migState f = mgFrozen ∧ result x 0 ∧ event7 x ∧
      (∀ w ∈ x.folds.work, w.owner.fold ≠ some f.val) ∧
      ((∃ w ∈ d.folds.work, w.owner.fold = some f.val ∧ d.outChunks w.id ≠ []) → x.now = max d.now (y.freezeAt + 20000) % 2 ^ 64) ∧
      ∀ w ∈ d.folds.work, ∀ q i, q < 8 → w.owner = .ring f q i →
        (∀ a b, w.state = .finished a b → (q, i, 1, a, b, 0) ∈ (x.fold f).records) ∧
        (∀ m, w.state = .started m → ∃ k n crc, (q, i, k, 0, n, crc) ∈ (x.fold f).records ∧
          (d.outChunks w.id = [] → k = 0 ∧ n = w.next) ∧ (d.outChunks w.id ≠ [] → k = 2 ∧ n ∈ d.outChunks w.id ∧ ∀ o ∈ d.outChunks w.id, n ≤ o))) ∧
    (∀ (dest : Bool) (peer : Fin 64) (pf : Fin 256) (addr : Word),
      let c : Instr := .save f dest peer pf addr
      let bale := d.baleOf f
      let may : Prop := mg = mgFrozen ∨ mg = mgSaved
      held c ∧ (¬ may → refused c 4) ∧
      (open' → may → dest = true ∨ d.portUp (d.usp (d.foldVsw f)) = true → Runs c s fun x => x.migState f = mgSaving ∧ (x.fold f).bale = bale ∧
        (dest = false → waits x (.hostWrite f (addr.toNat / 64 * 64) (bale.take 4096) false)) ∧
        (dest = true → .baleData peer pf 0 bale.length (bale.take 4096) ∈ x.out ∧ (x.fold f).baleSent = 1 ∧ (x.fold f).baleAck = some d.now))) ∧
    (let saving (dest : Nat) : Prop := mg = mgSaving ∧ d.fget FLD_MIG_CTRL.DEST f = dest
     let ends (c : Instr) (good : Prop) (r : Nat) : Prop :=
       (good → y.bale.length < 2 ^ 16 → y.records.length < 4096 → Runs c s fun x => x.migState f = mgSaved ∧ result x 0 ∧
         x.fget FLD_MIG_STAT.LEN f = y.bale.length ∧ x.fget FLD_MIG_STAT.RECORDS f = y.records.length ∧ x.foldState f = st) ∧
       (¬ good → Runs c s fun x => x.migState f = mgFrozen ∧ result x r ∧ x.foldState f = st)
     (∀ ok, (¬ saving 0 → exec (.saveDone f ok) s = .next s) ∧ (saving 0 → ends (.saveDone f ok) (ok = true) 6)) ∧
     (∀ a : BitVec 8, (¬ saving 1 ∨ d.streams = false → exec (.baleAck f a) s = .next s) ∧
       (saving 1 → d.streams = true → ends (.baleAck f a) (a = 0) 7)) ∧
     (y.baleAck = none ∨ mg ≠ mgSaving → exec (.baleAckTimeout f) s = .next s) ∧
     (∀ t, y.baleAck = some t → mg = mgSaving → Runs (.baleAckTimeout f) s fun x => x.now = max d.now (t + 40000) % 2 ^ 64 ∧
       (y.baleSent < 2 → x.migState f = mgSaving ∧ (x.fold f).baleSent = y.baleSent + 1 ∧ (x.fold f).baleAck = some x.now ∧ (y.bale ≠ [] →
         .baleData (d.fget FLD_MIG_CTRL.PEER f) (d.fget FLD_MIG_CTRL.PEER_FOLD f) 0 y.bale.length (y.bale.take 4096) ∈ x.out)) ∧
       (2 ≤ y.baleSent → x.migState f = mgFrozen ∧ result x 7))) ∧
    (∀ (dest : Bool) (addr : Word),
      let c : Instr := .restore f dest addr
      let free : Prop := d.fon FLD_CFG.ASSIGNED f = true ∧ d.fon CXP_VSW_CFG.EN (d.foldVsw f) = true ∧ (st = fdEnabled ∨ st = fdSuspended) ∧
        (∀ q < 8, d.fget FLD_SQ_STAT.STATE f q = sqDisabled ∧ d.fget FLD_CQ_CFG.EN f q = 0) ∧ d.fget FLD_STAT.IN_FLIGHT f = 0 ∧
        d.fget FLD_PROG_STAT.STATE f = 0 ∧ mg ≠ mgFreezePending
      held c ∧ (¬ free → refused c 4) ∧
      (open' → free → dest = true ∨ d.portUp (d.usp (d.foldVsw f)) = true → Runs c s fun x => x.migState f = mgRestoring ∧ x.foldState f = st ∧
        (dest = true → (x.fold f).armed = true ∧ (x.fold f).baleRx = []) ∧
        (dest = false → waits x (.hostRead f (addr.toNat / 64 * 64) 64)))) ∧
    (∀ (bytes : List Byte) (bad : Bool),
      let c : Instr := .baleReadDone f bytes bad
      let r := d.baleCheck f bytes
      (mg ≠ mgRestoring ∨ y.armed = true → exec c s = .next s) ∧
      (mg = mgRestoring → y.armed = false → Runs c s fun x => (bad = true → failed x 6) ∧ (bad = false → r ≠ 0 → failed x r) ∧
        (bad = false → r = 0 → loaded x bytes))) ∧
    (∀ (secured named : Bool) (offset total : BitVec 16) (bytes : List Byte),
      let c : Instr := .baleData secured named f offset total bytes
      let taken : Prop := secured = true ∧ named = true ∧ y.armed = true ∧ d.fon CHN_STATUS.VALID = true
      let rx := if offset = 0 then bytes else if offset.toNat = y.baleRx.length then y.baleRx ++ bytes else y.baleRx
      let b := rx.take total.toNat
      let r := d.baleCheck f b
      (d.streams = false → exec c s = .next s) ∧
      (d.streams = true → ¬ taken → Ends c s (d.send (.baleAck f 1 0))) ∧
      (d.streams = true → taken → rx.length < total.toNat → Ends c s (d.setFold f { y with baleRx := rx })) ∧
      (d.streams = true → taken → total.toNat ≤ rx.length → Runs c s fun x => (x.fold f).armed = false ∧
        x.out = d.out ++ [.baleAck f (if r = 0 then 0 else 2) r] ∧ (r ≠ 0 → failed x r) ∧ (r = 0 → loaded x b))) ∧
    (mg ≠ mgThawPending → exec (.thawInstant f) s = .next s) ∧
    (mg = mgThawPending → Runs (.thawInstant f) s fun x => x.migState f = mgIdle ∧ result x 0 ∧ (x.fold f).records = [] ∧
      x.now = max d.now y.freezeAt % 2 ^ 64 ∧ (y.before < fdHalted → x.foldState f = d.foldRest f) ∧
      (y.before = fdHalted → x.foldState f = fdHalted) ∧
      ∀ q i k a n crc, (q, i, k, a, n, crc) ∈ y.records → ∃ w ∈ x.folds.work, w.owner = .ring f q i ∧ w.state = .refetch k a n ∧
        w.gen = d.fget FLD_STAT.GEN f)

/-- R573: presence, stable for DEBOUNCE ms, starts the reading of the identity; its loss turns the slot off, undoes the request and keeps the serial from FAULT_WAIT and LATCHED alone. R569, R570, R584: a record that passes its checks gives the profile, and READY or what was kept; else the forced profile, or
NOIDENT. R574, R594: ON, OFF, ON_AT, CLEAR, REIDENT with their CMD_RESULT, and a host's power control as ON or OFF. R573, R576: ramp, qualification, power good. R579, R580: a fault turns a powered slot off, counts, and waits for its retry or is latched. R585 to R588: a hot feed and a reverse current turn a
FET off. R589 to R591: early warning with its flush, undervoltage, recovery. R593: an energy window. R604: a sideband transfer and its end. Where a command's condition fails, the sample it brings is stored and nothing else happens. R15: once the slot power die's interface has failed nothing is reported, and the outputs
stay, but that the die's own FAST_TRIP and REVERSE act (the model's choice, assumption 166). R169. A register write in a soft reset waits for its end. Completes: PRESENCE_ASSERT, DEBOUNCE_END, IDENT_READ_DONE, IDENT_TIMEOUT, FORCE_ENABLE,
PRESENCE_LOSS, ON, OFF, ON_AT, ON_AT_INSTANT, CLEAR, REIDENT, HOST_POWER_CONTROL, RAMP_START, RAMP_TOP, GATE_ENHANCED, QUALIFIED, LIMIT_TIMEOUT, FAST_TRIP, RETRY_TIMER, FAULT_COUNT_RESET, FET_HOT, FEED_ALLOWED, REVERSE, FEED_RESTORE,
FEED_LOST, EARLY_WARNING, GPF_COMPLETE, GPF_TIMEOUT, UNDERVOLT, UV_RECOVERED, BROWNOUT_RECOVERED, ENERGY_WINDOW, SIDEBAND_TRANSFER, SIDEBAND_DONE. -/
def Obligations.SlotPower : Prop :=
  ∀ (s : State), s.dev.inReset = false →
    let d := s.dev
    let open' : Prop := d.answers = true ∧ d.phase ≠ phSoft
    let held (c : Instr) : Prop := d.answers = true → d.phase = phSoft → Ends c s { d with held := d.held ++ [c] }
    (∀ n : Fin 32,
      let st := d.slotState n
      let h := d.slot n
      let goes (x : Dev) (k : Nat) : Prop := x.slotState n = k ∧ (st ≠ k → ∀ t, (d.thr t).live = true → (d.thr t).manager = true →
        (d.thr t).evmask.getLsbD 5 = true → (x.thr t).evpend.getLsbD 5 = true)
      let ready : Prop := st ≠ slEmpty ∧ st ≠ slLatched ∧ st ≠ slHeld ∧ d.slotDieFailed = false
      let result (r : Nat) : Dev := d.fset SLT_STAT.CMD_RESULT r n
      let faulted (x : Dev) (cause : Nat) : Prop := x.fget SLT_STAT.CAUSE n = cause ∧ x.fget SLT_STAT.PG n = 0 ∧
        x.fget SLT_STAT.FAULTS n = min 15 (d.fget SLT_STAT.FAULTS n + 1) ∧
        goes x (if max 1 (d.fget SLT_CFG.RETRY_MAX n) ≤ min 15 (d.fget SLT_STAT.FAULTS n + 1) then slLatched else slFaultWait) ∧
        (x.slotState n = slFaultWait → (x.slot n).retryEnd = d.now + min 600 (max 1 (d.fget SLT_CFG.RETRY_TIME n)) * 100000000)
      let raised (x : Dev) (code : Nat) : Prop := (d.src (258 + n)).queue.length < 4 →
        ∃ r ∈ (x.src (258 + n)).queue, r.1.code = code ∧ r.1.tkind = 3 ∧ r.1.tnum = n.val
      let forcedOk : Prop := d.forcedOk n = true
      let settled (x : Dev) (serial : Option Word) : Prop :=
        (h.kept = none → goes x slReady ∧ x.fget SLT_STAT.FAULTS n = 0) ∧
        (∀ k, h.kept = some k → (k.serial = none ∨ serial = none ∨ k.serial = serial) → goes x (if k.latched then slLatched else slFaultWait) ∧
          x.fget SLT_STAT.FAULTS n = d.fget SLT_STAT.FAULTS n ∧ (k.latched = false → (x.slot n).retryEnd = d.now + k.left)) ∧
        (∀ k, h.kept = some k → k.serial ≠ none → serial ≠ none → k.serial ≠ serial → goes x slReady ∧ x.fget SLT_STAT.FAULTS n = 0) ∧
        (x.slot n).kept = none
      let noIdentity (x : Dev) : Prop := x.fget SLT_STAT.IDENT_VALID n = 0 ∧ (∀ k < 8, x.rd ⟨.SLT_IDENT, n, k⟩ = 0) ∧
        (forcedOk → x.fget SLT_STAT.FORCED n = 1 ∧ x.fget SLT_STAT.PROFILE n = d.fget SLT_CFG.FORCE_PROFILE n ∧ settled x none) ∧
        (¬ forcedOk → x.fget SLT_STAT.FORCED n = 0 ∧ goes x slNoIdent ∧ raised x 0xA8)
      (let k := d.fget SLT_CFG.FORCE_PROFILE n
       let e := d.fset SLT_CFG.FORCE_EN 1 n
       held (.forceEnable n) ∧ (open' → st ≠ slNoIdent ∨ d.profileOk n k = false → Ends (.forceEnable n) s e) ∧
       (open' → st = slNoIdent → d.profileOk n k = true → Runs (.forceEnable n) s fun x => x.fget SLT_CFG.FORCE_EN n = 1 ∧ x.fget SLT_STAT.FORCED n = 1 ∧
         x.fget SLT_STAT.PROFILE n = k ∧ settled x (d.serialOf n))) ∧
      (let used : Prop := d.slotInUse n = true
       let onEnds (pre : Prop) (c : Instr) : Prop := (pre → used → Ends c s (result 1)) ∧ (pre → ¬ used → ¬ ready → Ends c s (result 4)) ∧
         (pre → ¬ used → ready → Ends c s ((d.fset SLT_STAT.REQ 1 n).fset SLT_STAT.CMD_RESULT 0 n))
       let offEnds (pre : Prop) (c : Instr) : Prop := (pre → used → Ends c s (result 1)) ∧
         (pre → ¬ used → Runs c s fun x => x.fget SLT_STAT.REQ n = 0 ∧ x.fget SLT_STAT.ARMED n = 0 ∧ x.fget SLT_STAT.CMD_RESULT n = 0 ∧
           (d.powered n = true → d.slotDieFailed = false → x.fget SLT_STAT.PG n = 0 ∧ goes x slReady) ∧
           (d.powered n = false ∨ d.slotDieFailed = true → x.slotState n = st))
       let at_ := d.fget SLT_ON_INSTANT.INSTANT n / 1024 * 1024
       held (.on n) ∧ held (.off n) ∧ held (.onAt n) ∧ held (.clear n) ∧ held (.reident n) ∧ onEnds open' (.on n) ∧ offEnds open' (.off n) ∧
       (∀ (v : Fin 64) (b : Fin 32),
         let p := d.fget CXP_VB.PORT v b
         let mine : Prop := d.vbKind v b ≠ 0 ∧ d.fget CXP_PORT_CFG.MODE p = 2 ∧
           d.fon CXP_PORT_CFG.SLOT_EN p = true
         (mine → d.fget CXP_PORT_CFG.SLOT p = n.val → onEnds True (.hostPowerControl v b true) ∧ offEnds True (.hostPowerControl v b false)) ∧
         (¬ mine → ∀ on, exec (.hostPowerControl v b on) s = .next s)) ∧
       (open' → used → Ends (.onAt n) s (result 1)) ∧ (open' → ¬ used → ¬ ready → Ends (.onAt n) s (result 4)) ∧
       (open' → ¬ used → ready → at_ < d.now + 2048 → Ends (.onAt n) s (result 2)) ∧
       (open' → ¬ used → ready → d.now + 2 ^ 30 < at_ → Ends (.onAt n) s (result 3)) ∧
       (open' → ¬ used → ready → d.now + 2048 ≤ at_ → at_ ≤ d.now + 2 ^ 30 → Runs (.onAt n) s fun x => x.fget SLT_STAT.ARMED n = 1 ∧
         (x.slot n).onAt = at_ ∧ x.fget SLT_STAT.CMD_RESULT n = 0 ∧ x.slotState n = st)) ∧
      (d.fon SLT_STAT.ARMED n = false → exec (.onAtInstant n) s = .next s) ∧
      (d.fon SLT_STAT.ARMED n = true → Runs (.onAtInstant n) s fun x => x.now = max d.now h.onAt % 2 ^ 64 ∧ x.fget SLT_STAT.ARMED n = 0 ∧
        (ready → x.fget SLT_STAT.REQ n = 1) ∧ (¬ ready → x.fget SLT_STAT.CMD_RESULT n = 4)) ∧
      (open' → st = slLatched ∨ st = slHeld → Runs (.clear n) s fun x => goes x slReady ∧ x.fget SLT_STAT.FAULTS n = 0 ∧ x.fget SLT_STAT.CMD_RESULT n = 0) ∧
      (open' → ¬ (st = slLatched ∨ st = slHeld) → Ends (.clear n) s (result 4)) ∧
      (open' → st = slNoIdent ∨ st = slReady → Runs (.reident n) s fun x => goes x slIdent ∧ (x.slot n).tries = 0 ∧ x.fget SLT_STAT.CMD_RESULT n = 0) ∧
      (open' → ¬ (st = slNoIdent ∨ st = slReady) → Ends (.reident n) s (result 4)) ∧
      (d.powered n = true → Runs (.fastTrip n) s fun x => faulted x 1 ∧ raised x 0xA0) ∧
      (d.powered n = false → exec (.fastTrip n) s = .next s) ∧
      (∀ f : Feed,
        (d.fon (feedFld f) n = true → Runs (.reverse n f) s fun x => x.fget (feedFld f) n = 0 ∧ feedNo f ∈ (x.slot n).rev ∧ raised x 0xA4) ∧
        (d.fon (feedFld f) n = false → exec (.reverse n f) s = .next s)) ∧
      (d.slotDieFailed = true → ∀ (f : Feed) (m : SlotSample) (record : BitVec 512) (energy : BitVec 56),
        ∀ c ∈ [Instr.presenceAssert n, .debounceEnd n, .identReadDone n record, .identTimeout n, .presenceLoss n, .rampStart n m, .rampTop n m,
          .gateEnhanced n, .qualified n m, .limitTimeout n m, .retryTimer n, .faultCountReset n, .fetHot n f m, .feedAllowed n f m,
          .feedRestore n f m, .feedLost n f m, .earlyWarning n m, .gpfComplete n, .gpfTimeout n, .undervolt n m, .uvRecovered n m,
          .brownoutRecovered n m, .energyWindow n energy], exec c s = .next s) ∧
      (d.slotDieFailed = false →
      (st = slEmpty → 4 ∉ d.gable.railsLow → Runs (.presenceAssert n) s fun x => goes x slDebounce) ∧
      (st ≠ slEmpty ∨ 4 ∈ d.gable.railsLow → exec (.presenceAssert n) s = .next s) ∧
      (st = slDebounce → Runs (.debounceEnd n) s fun x => goes x slIdent ∧ x.fget SLT_STAT.PRESENT n = 1 ∧ (x.slot n).tries = 0 ∧
        x.now = max d.now (h.since + max 1 (d.fget SLT_CFG.DEBOUNCE n) * 1000000) % 2 ^ 64) ∧
      (st ≠ slDebounce → exec (.debounceEnd n) s = .next s) ∧
      (∀ record : BitVec 512,
        let bs := leBytes 64 record.toNat
        let c : Instr := .identReadDone n record
        (st ≠ slIdent ∨ d.busOn n = false → exec c s = .next s) ∧
        (st = slIdent → d.busOn n = true → d.identErr n bs ≠ 0 → Runs c s noIdentity) ∧
        (st = slIdent → d.busOn n = true → d.identErr n bs = 0 → Runs c s fun x => x.fget SLT_STAT.IDENT_VALID n = 1 ∧ x.fget SLT_STAT.FORCED n = 0 ∧
          x.fget SLT_STAT.PROFILE n = leNat ((bs.drop 5).take 1) ∧ (∀ k < 8, x.rd ⟨.SLT_IDENT, n, k⟩ = record.extractLsb' (64 * k) 64) ∧
          settled x (some (record.extractLsb' 64 64)))) ∧
      (st ≠ slIdent → exec (.identTimeout n) s = .next s) ∧
      (st = slIdent → h.tries < 2 → Ends (.identTimeout n) s ((d.setSlotHid n { h with tries := h.tries + 1 }).askIdent n)) ∧
      (st = slIdent → 2 ≤ h.tries → Runs (.identTimeout n) s noIdentity) ∧
      (st = slEmpty → exec (.presenceLoss n) s = .next s) ∧
      (st ≠ slEmpty → Runs (.presenceLoss n) s fun x => goes x slEmpty ∧ x.fget SLT_STAT.PRESENT n = 0 ∧ x.fget SLT_STAT.REQ n = 0 ∧
        x.fget SLT_STAT.ARMED n = 0 ∧ x.fget SLT_STAT.PG n = 0 ∧ x.fget SLT_STAT.EWARN n = 0 ∧ (x.slot n).gpf = none ∧
        (x.slot n).kept = (if st = slFaultWait then some ⟨d.serialOf n, false, h.retryEnd - d.now⟩
          else if st = slLatched then some ⟨d.serialOf n, true, 0⟩ else none) ∧
        x.fget SLT_STAT.FAULTS n = if st = slFaultWait ∨ st = slLatched then d.fget SLT_STAT.FAULTS n else 0) ∧
      (st = slRamp ∧ h.top = true → Runs (.gateEnhanced n) s fun x => goes x slQual) ∧
      (¬ (st = slRamp ∧ h.top = true) → exec (.gateEnhanced n) s = .next s) ∧
      (st = slFaultWait → Runs (.retryTimer n) s fun x => x.now = max d.now h.retryEnd % 2 ^ 64 ∧
        goes x (if d.fon SLT_STAT.REQ n = true then slRamp else slReady)) ∧
      (st ≠ slFaultWait → exec (.retryTimer n) s = .next s) ∧
      (let good : Prop := st = slOn ∧ d.fon SLT_STAT.PG n = true
       (good → Runs (.faultCountReset n) s fun x => x.fget SLT_STAT.FAULTS n = 0 ∧ x.now = max d.now (h.since + 60000000000) % 2 ^ 64 ∧ x.slotState n = st) ∧
       (¬ good → exec (.faultCountReset n) s = .next s)) ∧
      Ends (.gpfComplete n) s (d.setSlotHid n { h with gpf := none }) ∧
      (h.gpf = none → exec (.gpfTimeout n) s = .next s) ∧
      (∀ t, h.gpf = some t → Runs (.gpfTimeout n) s fun x => (x.slot n).gpf = none ∧ raised x 0xA9 ∧
        x.now = max d.now (t + max 1 (d.fget SLT_CFG.GPF_TIMEOUT n) * 1000000) % 2 ^ 64) ∧
      (∀ energy : BitVec 56, let w := max 1 h.window * 1048576
        d.now + 2 * w < 2 ^ 64 → Runs (.energyWindow n energy) s fun x => x.now % w = 0 ∧ d.now ≤ x.now ∧
          x.fget SLT_ENERGY.ENERGY n = (d.fget SLT_ENERGY.ENERGY n + energy.toNat) % 2 ^ 64 ∧ x.fget SLT_ENERGY_WIN.ENERGY n = (energy.toNat + h.winMetered / 200000) % 2 ^ SLT_ENERGY_WIN.ENERGY.w ∧
          x.fget SLT_ENERGY_WIN.VALID n = 1 ∧ (x.fget SLT_ENERGY_WIN.UNSYNC n = 1 ↔ d.timeGood = false ∨ h.winStart < d.time.goodSince ∨ h.winSteps ≠ d.time.steps) ∧
          x.fget SLT_ENERGY_END.COURSE n = x.now / 1048576 ∧ (x.slot n).winStart = x.now ∧ (x.slot n).window = max 1 (d.fget SLT_CFG.WINDOW n)) ∧
      (∀ m : SlotSample,
        let e := d.sample n m
        let vbus := m.vbus.toNat
        let good : Prop := d.goodMv n ≤ vbus
        let only (c : Instr) (p : Prop) : Prop := ¬ p → Ends c s e
        (e.fget SLT_MEAS.CURRENT n = m.ma.toNat ∧ e.fget SLT_MEAS2.V_BUS n = vbus ∧ e.fget SLT_MEAS2.POWER_MW n = m.power.toNat) ∧
        (let p : Prop := st = slReady ∧ d.fon SLT_STAT.REQ n = true ∧ good
         only (.rampStart n m) p ∧ (p → Runs (.rampStart n m) s fun x => goes x slRamp ∧ (x.slot n).warmed = true ∧
           .slotRamp n (d.iSet n) (d.rampSlope n) (d.tripMa n) ∈ x.out)) ∧
        (let p : Prop := st = slRamp ∧ vbus ≤ m.vout.toNat + 100
         only (.rampTop n m) p ∧ (p → Ends (.rampTop n m) s (e.setSlotHid n { e.slot n with top := true }))) ∧
        (let p : Prop := st = slQual ∧ d.atLimit n m = false
         only (.qualified n m) p ∧ (p → Runs (.qualified n m) s fun x => goes x slOn ∧ x.fget SLT_STAT.PG n = 1 ∧
           x.now = max d.now (h.since + 50000) % 2 ^ 64)) ∧
        (let p : Prop := d.powered n = true ∧ d.atLimit n m = true
         only (.limitTimeout n m) p ∧ (p → Runs (.limitTimeout n m) s fun x => faulted x 2 ∧ raised x 0xA1)) ∧
        (∀ f : Feed,
          let v := match f with | .a => m.va.toNat | .b => m.vb.toNat
          let hot : Prop := feedNo f ∈ h.hot
          let other : Prop := e.fon (feedFld (otherFeed f)) n = true
          (hot → Ends (.fetHot n f m) s e) ∧
          (¬ hot → Runs (.fetHot n f m) s fun x => feedNo f ∈ (x.slot n).hot ∧ x.fget (feedFld f) n = 0 ∧ raised x 0xA3 ∧
            x.fget (tempFld f) n = d.fget SLT_BOARD.T_MAX n * 16 ∧ (d.powered n = true → ¬ other → faulted x 3) ∧
            (d.powered n = false ∨ other → x.slotState n = st)) ∧
          only (.feedAllowed n f m) hot ∧ (hot → Runs (.feedAllowed n f m) s fun x => feedNo f ∉ (x.slot n).hot ∧
            x.fget SLT_MEAS.CURRENT n = m.ma.toNat ∧ (h.warmed = false → x.fget (tempFld f) n = (d.fget SLT_BOARD.T_MAX n - 10) * 16)) ∧
          only (.feedRestore n f m) (vbus + 50 ≤ v) ∧ (vbus + 50 ≤ v → Runs (.feedRestore n f m) s fun x => feedNo f ∉ (x.slot n).rev) ∧
          only (.feedLost n f m) (v < d.warnMv n ∧ good) ∧
          (v < d.warnMv n ∧ good → Runs (.feedLost n f m) s fun x => raised x 0xA5 ∧ x.slotState n = st)) ∧
        (let p : Prop := st ≠ slEmpty ∧ vbus < d.warnMv n
         only (.earlyWarning n m) p ∧ (p → Runs (.earlyWarning n m) s fun x => x.fget SLT_STAT.EWARN n = 1 ∧
           (x.slot n).low = (if d.fon SLT_STAT.EWARN n = true then min h.low vbus else vbus) ∧
           ∀ q, d.fon SLT_STAT.EWARN n = false → d.fon SLT_CFG.GPF_ON_WARN n = true → d.gpfPort n = some q → (x.slot n).gpf = some d.now ∧
             .log "global persistent flush" q ∈ x.out)) ∧
        (let p : Prop := d.powered n = true ∧ vbus < d.resetMv n
         only (.undervolt n m) p ∧ (p → Runs (.undervolt n m) s fun x => goes x slUvWait ∧ x.fget SLT_STAT.EWARN n = 1 ∧ x.fget SLT_STAT.PG n = 0)) ∧
        (let p : Prop := st = slUvWait ∧ good
         only (.uvRecovered n m) p ∧ (p → Runs (.uvRecovered n m) s fun x => x.now = max d.now (h.since + 10000000) % 2 ^ 64 ∧
           goes x (if d.fon SLT_STAT.REQ n = true then slRamp else slReady))) ∧
        (let p : Prop := d.fon SLT_STAT.EWARN n = true ∧ good
         only (.brownoutRecovered n m) p ∧ (p → Runs (.brownoutRecovered n m) s fun x => x.fget SLT_STAT.EWARN n = 0 ∧ raised x 0xA6 ∧
           x.now = max d.now (h.lowAt + 1000000) % 2 ^ 64))))) ∧
    (∀ b : Fin 48,
      let busy : Prop := d.fget SB_XFER.STATUS b = 1
      (∀ (addr : BitVec 7) (w : Bool) (offset : BitVec 16) (ofs2 : Bool) (len : BitVec 7),
        let owned : Prop := b.val < 32 ∧ (d.slotState b = slDebounce ∨ d.slotState b = slIdent)
        let off : Prop := d.busOn b = false
        held (.sidebandTransfer b addr w offset ofs2 len) ∧
        (open' → Runs (.sidebandTransfer b addr w offset ofs2 len) s fun x => x.fget SB_XFER.ADDR b = addr.toNat ∧ x.fget SB_XFER.WRITE b = w.toNat ∧
          x.fget SB_XFER.OFFSET b = offset.toNat ∧ x.fget SB_XFER.LEN b = len.toNat ∧
          (x.fget SB_XFER.STATUS b = if busy then 1 else if owned ∨ off then 5 else 1) ∧
          (¬ busy → ¬ owned → ¬ off → x.fget SB_XFER.GO b = 1))) ∧
      (∀ (a : Option (BitVec 512)) (nak : Bool),
        let c : Instr := .sidebandDone b a nak
        let e := d.fset SB_XFER.GO 0 b
        (¬ busy → exec c s = .next s) ∧
        (busy → a = none → Ends c s (e.fset SB_XFER.STATUS (if nak then 3 else 4) b)) ∧
        (∀ v, busy → a = some v → d.fon SB_XFER.WRITE b = true → Ends c s (e.fset SB_XFER.STATUS 2 b)) ∧
        (∀ v, busy → a = some v → d.fon SB_XFER.WRITE b = false → d.sidebandLen b = 64 → Runs c s fun x => x.fget SB_XFER.STATUS b = 2 ∧
          ∀ k < 8, x.rd ⟨.SB_DATA, b, k⟩ = v.extractLsb' (64 * k) 64)))

/-- R628: CHAIN_RESET is armed only when every condition holds; at its instant the warm reset starts, LAST_RESET 2, and RENUMBER clears the chain address, which is kept else. R626, R627: two good frames that agree give the address, or where one is kept that differs set MISMATCH; a tie-high gives address 0 and HEAD; without
an address in 2 s nothing is taken. R625: a device with an address below 63 sends the next. R615: at a course boundary nothing is read or sent without a due entry, and a due entry of one word is sent while a session is open, all ones with ERR where nothing is mapped. R6, R143, R158, R441: a write
of a register that only stores takes the bits of its RW and WO fields and clears the W1C bits written 1; a host reaches its own fold's window alone, with 4 or 8 bytes, not the manager's registers, and records nothing. (That two agreeing frames are needed for MISMATCH is the model's reading, and that a missing address is only logged is its choice.)
R149, R169. A calibration register outside the test mode is refused with TESTREG; a manager's write of a block that does not answer waits for the end of the soft reset. Completes: CHAIN_RESET, CHAIN_RESET_INSTANT, ADDR_IN_FRAME,
CHAIN_HEAD, CHAIN_TIMEOUT, ADDR_OUT_FRAME, TELEMETRY_SAMPLE, REGISTER_WRITE. -/
def Obligations.ChainTelemetryWrites : Prop :=
  ∀ (s : State), s.dev.answers = true →
    let d := s.dev
    let g := d.gable
    let a := d.fget CHN_STATUS.ADDR
    let valid : Prop := d.fon CHN_STATUS.VALID = true
    (∀ via source (m instant : Word) (flags : BitVec 8),
      let c : Instr := .chainReset via source m instant flags
      let t := instant.toNat
      let ok : Prop := d.reached via = true ∧ via.secured = true ∧ d.fon CHN_BOOT.RECOVERY = false ∧ d.mgrAllowed via.port source = true ∧ valid ∧
        m.getLsbD a = true ∧ d.timeGood = true ∧ d.now + 2048 ≤ t ∧ t ≤ d.now + 2 ^ 30
      let e := if d.reached via then d.gableCross via else d
      let armed := e.setGable { g with chainArm := some (t, flags.getLsbD 0) }
      (¬ ok → Ends c s e) ∧ (ok → g.chainArm = none → Ends c s armed) ∧
      (∀ u r, ok → g.chainArm = some (u, r) → (t < u → Ends c s armed) ∧ (u ≤ t → Ends c s e))) ∧
    (g.chainArm = none → exec .chainResetInstant s = .next s) ∧
    (∀ t renumber, g.chainArm = some (t, renumber) → Runs .chainResetInstant s fun x => x.gable.boot = .zeroing ∧
      x.fget CSP_STATUS.LAST_RESET = 2 ∧ x.threads = [] ∧ x.core = {} ∧ x.commits = {} ∧ x.out = d.out ∧
      (renumber = true → x.fget CHN_STATUS.ADDR = 0 ∧ x.fget CHN_STATUS.VALID = 0 ∧ x.fget CSP_STATUS.CHAIN_VALID = 0) ∧
      (renumber = false → x.fget CHN_STATUS.ADDR = a ∧ (x.fon CHN_STATUS.VALID = true ↔ valid))) ∧
    (∀ addr rest, chainAddr (chainBits addr rest) = none ∨ d.gableFailed = true → exec (.addrInFrame addr rest) s = .next s) ∧
    (∀ (n : BitVec 6) (rest : BitVec 4), chainBits n rest = chainFrame n.toNat → d.gableFailed = false →
      let c : Instr := .addrInFrame n rest
      let seen := (d.fset CHN_STATUS.IN_SEEN n.toNat).setGable { g with chainLast := some n.toNat }
      let agree : Prop := g.chainLast = some n.toNat
      (¬ agree ∨ (valid ∧ a = n.toNat) → Ends c s seen) ∧
      (agree → valid → a ≠ n.toNat → Ends c s (seen.fset CHN_STATUS.MISMATCH 1)) ∧
      (agree → ¬ valid → Runs c s fun x => x.fget CHN_STATUS.ADDR = n.toNat ∧ x.fon CHN_STATUS.VALID = true ∧
        x.fget CHN_STATUS.HEAD = 0 ∧ (x.fget CHN_STATUS.END = 1 ↔ n.toNat = 63) ∧ x.fget CSP_STATUS.CHAIN_ADDR = n.toNat ∧
        x.fget CSP_STATUS.CHAIN_VALID = 1 ∧ OnlyRegs [⟨.CHN_STATUS, 0, 0⟩, ⟨.CSP_STATUS, 0, 0⟩] { d with gable := x.gable } x)) ∧
    (valid ∨ d.gableFailed = true → exec .chainHead s = .next s) ∧
    (¬ valid → d.gableFailed = false → Runs .chainHead s fun x => x.fget CHN_STATUS.ADDR = 0 ∧ x.fon CHN_STATUS.VALID = true ∧
      x.fget CHN_STATUS.HEAD = 1 ∧ OnlyRegs [⟨.CHN_STATUS, 0, 0⟩, ⟨.CSP_STATUS, 0, 0⟩] d x) ∧
    (valid → exec .chainTimeout s = .next s) ∧ (¬ valid → Ends .chainTimeout s (d.send (.log "no chain address" 0))) ∧
    (let sends : Prop := valid ∧ a < 63 ∧ d.gableFailed = false
     (sends → Ends .addrOutFrame s (d.send (.addrOut (chainFrame (a + 1))))) ∧ (¬ sends → exec .addrOutFrame s = .next s)) ∧
    (let e := d.toCourse
     ((∀ k < 16, e.telemDue k = false) → Ends .telemetrySample s e) ∧
     (∀ k : Fin 16, e.telemDue k = true → (∀ j < 16, j ≠ k.val → e.telemDue j = false) → d.fget ETH_TELEM1.COUNT 0 k = 1 →
       let base := d.fget ETH_TELEM0.BASE 0 k / 8 * 8
       let told (v : Nat) : OutMsg := .telemetry d.fcp.txSeq
         (leBytes 8 e.course ++ (leBytes 1 k ++ leBytes 1 1 ++ leBytes 6 0 ++ leBytes 8 v))
       let sent (x : Dev) (v : Nat) : Dev := { x.send (told v) with fcp := { d.fcp with txSeq := d.fcp.txSeq + 1 } }
       (∀ r, base < 2 ^ 47 → regAt base = some r → (∀ f ∈ r.k.fields, f.acc ≠ .rc) →
         Ends .telemetrySample s (if d.session then sent e (e.shown r).toNat else e)) ∧
       let x := e.fset ETH_TELEM1.ERR 1 0 k
       let failed : Prop := Ends .telemetrySample s (if d.session then sent x (2 ^ 64 - 1) else x)
       (base < 2 ^ 47 → regAt base = none → if calibrationAt base = true
         then Ends .telemetrySample s (if d.session then sent e (e.calibrationWord base).toNat else e) else failed) ∧
       (2 ^ 47 ≤ base → failed))) ∧
    (∀ (log : Fin 4) (addr : BitVec 48) (v : Word),
      let w := 2 ^ log.val
      let stores (c : Instr) (at_ : Nat) : Prop := ∀ r, at_ % w = 0 → regAt at_ = some r → r.k.storesOnly = true →
        (∀ f ∈ r.k.fields, f.acc = .st ∨ f.acc = .stlk ∨ f.acc = .lk → f.lo + f.w ≤ 8 * (at_ % 8) ∨ 8 * (at_ % 8 + w) ≤ f.lo) →
        ∃ x : Word, Ends c s (d.wr r x) ∧ ∀ b < 64, x.getLsbD b =
          if 8 * (at_ % 8) ≤ b ∧ b < 8 * (at_ % 8 + w) then
            let written := v.getLsbD (b - 8 * (at_ % 8))
            if r.k.hasBit b (fun c => c == .rw || c == .wo) then written
            else if r.k.hasBit b (fun c => c == .w1c) then (d.rd r).getLsbD b && !written
            else (d.rd r).getLsbD b
          else (d.rd r).getLsbD b
      (∀ t : Fin 64,
        let c : Instr := .registerWrite (.manager t) log addr v
        let refuses (cause : Nat) : Prop := Runs c s fun x => x.fget CSP_ERR.CAUSE = cause ∧ x.fget CSP_ERR.ADDR = addr.toNat ∧
          x.fget CSP_ERR.SOURCE = 0 ∧ x.fget CSP_ERR.THREAD = t.val ∧ OnlyRegs [⟨.CSP_ERR, 0, 0⟩, ⟨.CSP_ERR_COUNT, 0, 0⟩] d x
        (d.regWaits addr.toNat = true → Ends c s { d with held := d.held ++ [c] }) ∧
        (d.regWaits addr.toNat = false → stores c addr.toNat ∧ (addr.toNat % w ≠ 0 → refuses 5) ∧
          (addr.toNat % w = 0 → regAt addr.toNat = none → refuses (if calibrationAt addr.toNat then 6 else 1)))) ∧
      (∀ f : Fin 256,
        let c : Instr := .registerWrite (.host f) log addr v
        let at_ := 0x200000000000 + f.val * 0x10000 + addr.toNat % 0x10000
        (d.hostWrites f = false ∨ log.val < 2 ∨ d.regWaits at_ = true ∨ at_ % w ≠ 0 ∨ regAt at_ = none → exec c s = .next s) ∧
        (∀ r, regAt at_ = some r → r.k.managerOnly = true → exec c s = .next s) ∧
        (d.hostWrites f = true → 2 ≤ log.val → d.regWaits at_ = false → (∀ r, regAt at_ = some r → r.k.managerOnly = false) → stores c at_)))

/-- A step with command c at the front of the queue is exec of c on the state with the queue's rest; the rest stays as it is, and no command changes a fuse (R655). With no command waiting 1 ns of rack time passes, memory that was being zeroed is zero, and nothing does while the device is held in reset: that choice is
the model's (assumptions 1, 181). A register write that a soft reset made wait is carried out once it is over (R169; assumption 172). The spec gives a command an effect, an answer, or no effect; the model stops on none. -/
def Obligations.StepRunsFront : Prop :=
  (∀ (c : Instr) (s : State), step { s with pending := c :: s.pending } = exec c s) ∧
  (∀ (c : Instr) (s : State), ∃ d, exec c s = .next ⟨d, s.pending⟩ ∧ d.fuses = s.dev.fuses) ∧
  (∀ s : State, s.pending = [] →
    let d := s.dev
    let later : Dev := { d.fset TIM_NOW.NOW (d.now + 1) with
      gable := { d.gable with boot := if d.gable.boot = .zeroing then .restored else d.gable.boot } }
    (d.inReset = true → d.held = [] → step s = .next s) ∧
    (d.inReset = false → d.held = [] ∨ d.phase = phSoft → step s = .next { s with dev := later }) ∧
    (∀ c rest, d.held = c :: rest → d.phase ≠ phSoft → step s = exec c { s with dev := { d with held := rest } }))

/-- R7, R170, R643, R655. After the release of a power-on reset no command waits, no thread lives, no image is loaded, memory lists nothing, no request is in flight and no fault record waits; every register reads the reset value its field map gives (CSP_STATUS: BOOT, 256 banks), NOW is 0, the time unit
is UNSET, and until the boot no register access is answered. The fuses are the configuration's. That state meets the invariant of a device held in reset. (Where the spec gives no reset value, the value is the model's, as its assumption log says.) -/
def Obligations.ResetState : Prop :=
  let d := State.reset.dev
  State.reset.pending = [] ∧ d.threads = [] ∧ d.wygel.images = [] ∧ d.wygel.pstore = [] ∧ d.wygel.scratch = [] ∧ d.core.flights = [] ∧
  d.core.buf = [] ∧ d.faults.srcs = [] ∧ d.out = [] ∧ d.fuses.serial = Config.serial ∧ (∀ r : Reg, d.rd r = r.resetVal d.fuses) ∧
  d.rd ⟨.CSP_STATUS, 0, 0⟩ = BitVec.ofNat 64 (256 * 2 ^ 32) ∧ d.now = 0 ∧ d.fget TIM_STATUS.STATE = tsUnset ∧
  d.gable.boot = .zeroing ∧ d.memWf = true ∧ d.heldClean ∧
  ∀ a v, exec (.registerWrite (.manager 0) 3 a v) State.reset = .next State.reset

/-- R639 to R643, R655, R683, R685. While a power-on or warm reset is held, or THERMTRIP, no thread lives, no image, no stored byte, no request, no queue, no migration, no slot and no fault record is there, and every register field that lists W holds its reset value: no step changes that, whatever command comes, and every
step that begins such a hold makes it so. The registers apart are the ones that the sensors (R683), the reset itself (LAST_RESET, RST_CAUSE, the engines that WGL_CTRL.RESERVE gives) and the test access port, which runs on (R660), write meanwhile. -/
def Obligations.HeldResetStaysClean : Prop :=
  ∀ s s' : State, s.dev.heldClean → step s = .next s' → s'.dev.heldClean

/-- R72, R143 to R147. The address of every register element that the map lists (block, instance, offset, element) leads back to that element; an address that leads to a register is within the 8 bytes of its address; an offset at or beyond the instance count times the stride, or in a block that the map does not list, leads to none. -/
def Obligations.RegisterAddresses : Prop :=
  (∀ (r : Reg) (n sh : Nat), blockInfo r.k.place.block = some (n, sh) → r.i < n → r.j < r.k.place.count →
    (r.k.place.block = 0x08 → 0x8000 ≤ r.k.place.off → r.i = 0) → (r.k = .SCH_CLASS_CFG → r.j ≠ 0) → regAt r.addr = some r) ∧
  (∀ (a : Nat) (r : Reg), regAt a = some r → r.addr = a / 8 * 8 ∧ r.j < r.k.place.count) ∧
  (∀ b x n sh : Nat, x < 2 ^ 40 → blockInfo b = some (n, sh) → n * 2 ^ sh ≤ x → sh ≠ 0 → regAt (b * 2 ^ 40 + x) = none) ∧
  (∀ b x : Nat, x < 2 ^ 40 → blockInfo b = none → regAt (b * 2 ^ 40 + x) = none)
end

