-- ==== Sys2Proof/Laws/State.lean ====
section
/-! SUPPORT. One lemma per field of the device per update: what the named operations leave, and what they set. -/

namespace Sys2Proof.Machine

/-! `wr` -/

@[simp] theorem wr_fuses (d : Dev) (r : Reg) (v : Word) : (d.wr r v).fuses = d.fuses := rfl
@[simp] theorem wr_freeCtr (d : Dev) (r : Reg) (v : Word) : (d.wr r v).freeCtr = d.freeCtr := rfl
@[simp] theorem wr_out (d : Dev) (r : Reg) (v : Word) : (d.wr r v).out = d.out := rfl
@[simp] theorem wr_threads (d : Dev) (r : Reg) (v : Word) : (d.wr r v).threads = d.threads := rfl
@[simp] theorem wr_wygel (d : Dev) (r : Reg) (v : Word) : (d.wr r v).wygel = d.wygel := rfl
@[simp] theorem wr_time (d : Dev) (r : Reg) (v : Word) : (d.wr r v).time = d.time := rfl
@[simp] theorem wr_commits (d : Dev) (r : Reg) (v : Word) : (d.wr r v).commits = d.commits := rfl
@[simp] theorem wr_faults (d : Dev) (r : Reg) (v : Word) : (d.wr r v).faults = d.faults := rfl
@[simp] theorem wr_lanes (d : Dev) (r : Reg) (v : Word) : (d.wr r v).lanes = d.lanes := rfl
@[simp] theorem wr_adapters (d : Dev) (r : Reg) (v : Word) : (d.wr r v).adapters = d.adapters := rfl
@[simp] theorem wr_ports (d : Dev) (r : Reg) (v : Word) : (d.wr r v).ports = d.ports := rfl
@[simp] theorem wr_refStopped (d : Dev) (r : Reg) (v : Word) : (d.wr r v).refStopped = d.refStopped := rfl
@[simp] theorem wr_fcp (d : Dev) (r : Reg) (v : Word) : (d.wr r v).fcp = d.fcp := rfl
@[simp] theorem wr_core (d : Dev) (r : Reg) (v : Word) : (d.wr r v).core = d.core := rfl
@[simp] theorem wr_pools (d : Dev) (r : Reg) (v : Word) : (d.wr r v).pools = d.pools := rfl
@[simp] theorem wr_thatch (d : Dev) (r : Reg) (v : Word) : (d.wr r v).thatch = d.thatch := rfl
@[simp] theorem wr_dir (d : Dev) (r : Reg) (v : Word) : (d.wr r v).dir = d.dir := rfl
@[simp] theorem wr_folds (d : Dev) (r : Reg) (v : Word) : (d.wr r v).folds = d.folds := rfl
@[simp] theorem wr_integ (d : Dev) (r : Reg) (v : Word) : (d.wr r v).integ = d.integ := rfl
@[simp] theorem wr_tlk (d : Dev) (r : Reg) (v : Word) : (d.wr r v).tlk = d.tlk := rfl
@[simp] theorem wr_slots (d : Dev) (r : Reg) (v : Word) : (d.wr r v).slots = d.slots := rfl
@[simp] theorem wr_slotDieFailed (d : Dev) (r : Reg) (v : Word) : (d.wr r v).slotDieFailed = d.slotDieFailed := rfl
@[simp] theorem wr_gableFailed (d : Dev) (r : Reg) (v : Word) : (d.wr r v).gableFailed = d.gableFailed := rfl
@[simp] theorem wr_gable (d : Dev) (r : Reg) (v : Word) : (d.wr r v).gable = d.gable := rfl
@[simp] theorem wr_held (d : Dev) (r : Reg) (v : Word) : (d.wr r v).held = d.held := rfl
@[simp] theorem wr_calibration (d : Dev) (r : Reg) (v : Word) : (d.wr r v).calibration = d.calibration := rfl

/-! `fset` -/

@[simp] theorem fset_fuses (d : Dev) (f : Fld) (n i j : Nat) : (d.fset f n i j).fuses = d.fuses := rfl
@[simp] theorem fset_freeCtr (d : Dev) (f : Fld) (n i j : Nat) : (d.fset f n i j).freeCtr = d.freeCtr := rfl
@[simp] theorem fset_out (d : Dev) (f : Fld) (n i j : Nat) : (d.fset f n i j).out = d.out := rfl
@[simp] theorem fset_threads (d : Dev) (f : Fld) (n i j : Nat) : (d.fset f n i j).threads = d.threads := rfl
@[simp] theorem fset_wygel (d : Dev) (f : Fld) (n i j : Nat) : (d.fset f n i j).wygel = d.wygel := rfl
@[simp] theorem fset_time (d : Dev) (f : Fld) (n i j : Nat) : (d.fset f n i j).time = d.time := rfl
@[simp] theorem fset_commits (d : Dev) (f : Fld) (n i j : Nat) : (d.fset f n i j).commits = d.commits := rfl
@[simp] theorem fset_faults (d : Dev) (f : Fld) (n i j : Nat) : (d.fset f n i j).faults = d.faults := rfl
@[simp] theorem fset_lanes (d : Dev) (f : Fld) (n i j : Nat) : (d.fset f n i j).lanes = d.lanes := rfl
@[simp] theorem fset_adapters (d : Dev) (f : Fld) (n i j : Nat) : (d.fset f n i j).adapters = d.adapters := rfl
@[simp] theorem fset_ports (d : Dev) (f : Fld) (n i j : Nat) : (d.fset f n i j).ports = d.ports := rfl
@[simp] theorem fset_refStopped (d : Dev) (f : Fld) (n i j : Nat) : (d.fset f n i j).refStopped = d.refStopped := rfl
@[simp] theorem fset_fcp (d : Dev) (f : Fld) (n i j : Nat) : (d.fset f n i j).fcp = d.fcp := rfl
@[simp] theorem fset_core (d : Dev) (f : Fld) (n i j : Nat) : (d.fset f n i j).core = d.core := rfl
@[simp] theorem fset_pools (d : Dev) (f : Fld) (n i j : Nat) : (d.fset f n i j).pools = d.pools := rfl
@[simp] theorem fset_thatch (d : Dev) (f : Fld) (n i j : Nat) : (d.fset f n i j).thatch = d.thatch := rfl
@[simp] theorem fset_dir (d : Dev) (f : Fld) (n i j : Nat) : (d.fset f n i j).dir = d.dir := rfl
@[simp] theorem fset_folds (d : Dev) (f : Fld) (n i j : Nat) : (d.fset f n i j).folds = d.folds := rfl
@[simp] theorem fset_integ (d : Dev) (f : Fld) (n i j : Nat) : (d.fset f n i j).integ = d.integ := rfl
@[simp] theorem fset_tlk (d : Dev) (f : Fld) (n i j : Nat) : (d.fset f n i j).tlk = d.tlk := rfl
@[simp] theorem fset_slots (d : Dev) (f : Fld) (n i j : Nat) : (d.fset f n i j).slots = d.slots := rfl
@[simp] theorem fset_slotDieFailed (d : Dev) (f : Fld) (n i j : Nat) : (d.fset f n i j).slotDieFailed = d.slotDieFailed := rfl
@[simp] theorem fset_gableFailed (d : Dev) (f : Fld) (n i j : Nat) : (d.fset f n i j).gableFailed = d.gableFailed := rfl
@[simp] theorem fset_gable (d : Dev) (f : Fld) (n i j : Nat) : (d.fset f n i j).gable = d.gable := rfl
@[simp] theorem fset_held (d : Dev) (f : Fld) (n i j : Nat) : (d.fset f n i j).held = d.held := rfl
@[simp] theorem fset_calibration (d : Dev) (f : Fld) (n i j : Nat) : (d.fset f n i j).calibration = d.calibration := rfl

/-! `fadd` -/

@[simp] theorem fadd_fuses (d : Dev) (f : Fld) (n i j : Nat) : (d.fadd f n i j).fuses = d.fuses := rfl
@[simp] theorem fadd_freeCtr (d : Dev) (f : Fld) (n i j : Nat) : (d.fadd f n i j).freeCtr = d.freeCtr := rfl
@[simp] theorem fadd_out (d : Dev) (f : Fld) (n i j : Nat) : (d.fadd f n i j).out = d.out := rfl
@[simp] theorem fadd_threads (d : Dev) (f : Fld) (n i j : Nat) : (d.fadd f n i j).threads = d.threads := rfl
@[simp] theorem fadd_wygel (d : Dev) (f : Fld) (n i j : Nat) : (d.fadd f n i j).wygel = d.wygel := rfl
@[simp] theorem fadd_time (d : Dev) (f : Fld) (n i j : Nat) : (d.fadd f n i j).time = d.time := rfl
@[simp] theorem fadd_commits (d : Dev) (f : Fld) (n i j : Nat) : (d.fadd f n i j).commits = d.commits := rfl
@[simp] theorem fadd_faults (d : Dev) (f : Fld) (n i j : Nat) : (d.fadd f n i j).faults = d.faults := rfl
@[simp] theorem fadd_lanes (d : Dev) (f : Fld) (n i j : Nat) : (d.fadd f n i j).lanes = d.lanes := rfl
@[simp] theorem fadd_adapters (d : Dev) (f : Fld) (n i j : Nat) : (d.fadd f n i j).adapters = d.adapters := rfl
@[simp] theorem fadd_ports (d : Dev) (f : Fld) (n i j : Nat) : (d.fadd f n i j).ports = d.ports := rfl
@[simp] theorem fadd_refStopped (d : Dev) (f : Fld) (n i j : Nat) : (d.fadd f n i j).refStopped = d.refStopped := rfl
@[simp] theorem fadd_fcp (d : Dev) (f : Fld) (n i j : Nat) : (d.fadd f n i j).fcp = d.fcp := rfl
@[simp] theorem fadd_core (d : Dev) (f : Fld) (n i j : Nat) : (d.fadd f n i j).core = d.core := rfl
@[simp] theorem fadd_pools (d : Dev) (f : Fld) (n i j : Nat) : (d.fadd f n i j).pools = d.pools := rfl
@[simp] theorem fadd_thatch (d : Dev) (f : Fld) (n i j : Nat) : (d.fadd f n i j).thatch = d.thatch := rfl
@[simp] theorem fadd_dir (d : Dev) (f : Fld) (n i j : Nat) : (d.fadd f n i j).dir = d.dir := rfl
@[simp] theorem fadd_folds (d : Dev) (f : Fld) (n i j : Nat) : (d.fadd f n i j).folds = d.folds := rfl
@[simp] theorem fadd_integ (d : Dev) (f : Fld) (n i j : Nat) : (d.fadd f n i j).integ = d.integ := rfl
@[simp] theorem fadd_tlk (d : Dev) (f : Fld) (n i j : Nat) : (d.fadd f n i j).tlk = d.tlk := rfl
@[simp] theorem fadd_slots (d : Dev) (f : Fld) (n i j : Nat) : (d.fadd f n i j).slots = d.slots := rfl
@[simp] theorem fadd_slotDieFailed (d : Dev) (f : Fld) (n i j : Nat) : (d.fadd f n i j).slotDieFailed = d.slotDieFailed := rfl
@[simp] theorem fadd_gableFailed (d : Dev) (f : Fld) (n i j : Nat) : (d.fadd f n i j).gableFailed = d.gableFailed := rfl
@[simp] theorem fadd_gable (d : Dev) (f : Fld) (n i j : Nat) : (d.fadd f n i j).gable = d.gable := rfl
@[simp] theorem fadd_held (d : Dev) (f : Fld) (n i j : Nat) : (d.fadd f n i j).held = d.held := rfl
@[simp] theorem fadd_calibration (d : Dev) (f : Fld) (n i j : Nat) : (d.fadd f n i j).calibration = d.calibration := rfl

/-! `finc` -/

@[simp] theorem finc_fuses (d : Dev) (f : Fld) (n i j : Nat) : (d.finc f n i j).fuses = d.fuses := rfl
@[simp] theorem finc_freeCtr (d : Dev) (f : Fld) (n i j : Nat) : (d.finc f n i j).freeCtr = d.freeCtr := rfl
@[simp] theorem finc_out (d : Dev) (f : Fld) (n i j : Nat) : (d.finc f n i j).out = d.out := rfl
@[simp] theorem finc_threads (d : Dev) (f : Fld) (n i j : Nat) : (d.finc f n i j).threads = d.threads := rfl
@[simp] theorem finc_wygel (d : Dev) (f : Fld) (n i j : Nat) : (d.finc f n i j).wygel = d.wygel := rfl
@[simp] theorem finc_time (d : Dev) (f : Fld) (n i j : Nat) : (d.finc f n i j).time = d.time := rfl
@[simp] theorem finc_commits (d : Dev) (f : Fld) (n i j : Nat) : (d.finc f n i j).commits = d.commits := rfl
@[simp] theorem finc_faults (d : Dev) (f : Fld) (n i j : Nat) : (d.finc f n i j).faults = d.faults := rfl
@[simp] theorem finc_lanes (d : Dev) (f : Fld) (n i j : Nat) : (d.finc f n i j).lanes = d.lanes := rfl
@[simp] theorem finc_adapters (d : Dev) (f : Fld) (n i j : Nat) : (d.finc f n i j).adapters = d.adapters := rfl
@[simp] theorem finc_ports (d : Dev) (f : Fld) (n i j : Nat) : (d.finc f n i j).ports = d.ports := rfl
@[simp] theorem finc_refStopped (d : Dev) (f : Fld) (n i j : Nat) : (d.finc f n i j).refStopped = d.refStopped := rfl
@[simp] theorem finc_fcp (d : Dev) (f : Fld) (n i j : Nat) : (d.finc f n i j).fcp = d.fcp := rfl
@[simp] theorem finc_core (d : Dev) (f : Fld) (n i j : Nat) : (d.finc f n i j).core = d.core := rfl
@[simp] theorem finc_pools (d : Dev) (f : Fld) (n i j : Nat) : (d.finc f n i j).pools = d.pools := rfl
@[simp] theorem finc_thatch (d : Dev) (f : Fld) (n i j : Nat) : (d.finc f n i j).thatch = d.thatch := rfl
@[simp] theorem finc_dir (d : Dev) (f : Fld) (n i j : Nat) : (d.finc f n i j).dir = d.dir := rfl
@[simp] theorem finc_folds (d : Dev) (f : Fld) (n i j : Nat) : (d.finc f n i j).folds = d.folds := rfl
@[simp] theorem finc_integ (d : Dev) (f : Fld) (n i j : Nat) : (d.finc f n i j).integ = d.integ := rfl
@[simp] theorem finc_tlk (d : Dev) (f : Fld) (n i j : Nat) : (d.finc f n i j).tlk = d.tlk := rfl
@[simp] theorem finc_slots (d : Dev) (f : Fld) (n i j : Nat) : (d.finc f n i j).slots = d.slots := rfl
@[simp] theorem finc_slotDieFailed (d : Dev) (f : Fld) (n i j : Nat) : (d.finc f n i j).slotDieFailed = d.slotDieFailed := rfl
@[simp] theorem finc_gableFailed (d : Dev) (f : Fld) (n i j : Nat) : (d.finc f n i j).gableFailed = d.gableFailed := rfl
@[simp] theorem finc_gable (d : Dev) (f : Fld) (n i j : Nat) : (d.finc f n i j).gable = d.gable := rfl
@[simp] theorem finc_held (d : Dev) (f : Fld) (n i j : Nat) : (d.finc f n i j).held = d.held := rfl
@[simp] theorem finc_calibration (d : Dev) (f : Fld) (n i j : Nat) : (d.finc f n i j).calibration = d.calibration := rfl

/-! `fsub` -/

@[simp] theorem fsub_fuses (d : Dev) (f : Fld) (n i j : Nat) : (d.fsub f n i j).fuses = d.fuses := rfl
@[simp] theorem fsub_freeCtr (d : Dev) (f : Fld) (n i j : Nat) : (d.fsub f n i j).freeCtr = d.freeCtr := rfl
@[simp] theorem fsub_out (d : Dev) (f : Fld) (n i j : Nat) : (d.fsub f n i j).out = d.out := rfl
@[simp] theorem fsub_threads (d : Dev) (f : Fld) (n i j : Nat) : (d.fsub f n i j).threads = d.threads := rfl
@[simp] theorem fsub_wygel (d : Dev) (f : Fld) (n i j : Nat) : (d.fsub f n i j).wygel = d.wygel := rfl
@[simp] theorem fsub_time (d : Dev) (f : Fld) (n i j : Nat) : (d.fsub f n i j).time = d.time := rfl
@[simp] theorem fsub_commits (d : Dev) (f : Fld) (n i j : Nat) : (d.fsub f n i j).commits = d.commits := rfl
@[simp] theorem fsub_faults (d : Dev) (f : Fld) (n i j : Nat) : (d.fsub f n i j).faults = d.faults := rfl
@[simp] theorem fsub_lanes (d : Dev) (f : Fld) (n i j : Nat) : (d.fsub f n i j).lanes = d.lanes := rfl
@[simp] theorem fsub_adapters (d : Dev) (f : Fld) (n i j : Nat) : (d.fsub f n i j).adapters = d.adapters := rfl
@[simp] theorem fsub_ports (d : Dev) (f : Fld) (n i j : Nat) : (d.fsub f n i j).ports = d.ports := rfl
@[simp] theorem fsub_refStopped (d : Dev) (f : Fld) (n i j : Nat) : (d.fsub f n i j).refStopped = d.refStopped := rfl
@[simp] theorem fsub_fcp (d : Dev) (f : Fld) (n i j : Nat) : (d.fsub f n i j).fcp = d.fcp := rfl
@[simp] theorem fsub_core (d : Dev) (f : Fld) (n i j : Nat) : (d.fsub f n i j).core = d.core := rfl
@[simp] theorem fsub_pools (d : Dev) (f : Fld) (n i j : Nat) : (d.fsub f n i j).pools = d.pools := rfl
@[simp] theorem fsub_thatch (d : Dev) (f : Fld) (n i j : Nat) : (d.fsub f n i j).thatch = d.thatch := rfl
@[simp] theorem fsub_dir (d : Dev) (f : Fld) (n i j : Nat) : (d.fsub f n i j).dir = d.dir := rfl
@[simp] theorem fsub_folds (d : Dev) (f : Fld) (n i j : Nat) : (d.fsub f n i j).folds = d.folds := rfl
@[simp] theorem fsub_integ (d : Dev) (f : Fld) (n i j : Nat) : (d.fsub f n i j).integ = d.integ := rfl
@[simp] theorem fsub_tlk (d : Dev) (f : Fld) (n i j : Nat) : (d.fsub f n i j).tlk = d.tlk := rfl
@[simp] theorem fsub_slots (d : Dev) (f : Fld) (n i j : Nat) : (d.fsub f n i j).slots = d.slots := rfl
@[simp] theorem fsub_slotDieFailed (d : Dev) (f : Fld) (n i j : Nat) : (d.fsub f n i j).slotDieFailed = d.slotDieFailed := rfl
@[simp] theorem fsub_gableFailed (d : Dev) (f : Fld) (n i j : Nat) : (d.fsub f n i j).gableFailed = d.gableFailed := rfl
@[simp] theorem fsub_gable (d : Dev) (f : Fld) (n i j : Nat) : (d.fsub f n i j).gable = d.gable := rfl
@[simp] theorem fsub_held (d : Dev) (f : Fld) (n i j : Nat) : (d.fsub f n i j).held = d.held := rfl
@[simp] theorem fsub_calibration (d : Dev) (f : Fld) (n i j : Nat) : (d.fsub f n i j).calibration = d.calibration := rfl

/-! `fputBit` -/

@[simp] theorem fputBit_fuses (d : Dev) (f : Fld) (b : Nat) (on : Bool) (i j : Nat) : (d.fputBit f b on i j).fuses = d.fuses := rfl
@[simp] theorem fputBit_freeCtr (d : Dev) (f : Fld) (b : Nat) (on : Bool) (i j : Nat) : (d.fputBit f b on i j).freeCtr = d.freeCtr := rfl
@[simp] theorem fputBit_out (d : Dev) (f : Fld) (b : Nat) (on : Bool) (i j : Nat) : (d.fputBit f b on i j).out = d.out := rfl
@[simp] theorem fputBit_threads (d : Dev) (f : Fld) (b : Nat) (on : Bool) (i j : Nat) : (d.fputBit f b on i j).threads = d.threads := rfl
@[simp] theorem fputBit_wygel (d : Dev) (f : Fld) (b : Nat) (on : Bool) (i j : Nat) : (d.fputBit f b on i j).wygel = d.wygel := rfl
@[simp] theorem fputBit_time (d : Dev) (f : Fld) (b : Nat) (on : Bool) (i j : Nat) : (d.fputBit f b on i j).time = d.time := rfl
@[simp] theorem fputBit_commits (d : Dev) (f : Fld) (b : Nat) (on : Bool) (i j : Nat) : (d.fputBit f b on i j).commits = d.commits := rfl
@[simp] theorem fputBit_faults (d : Dev) (f : Fld) (b : Nat) (on : Bool) (i j : Nat) : (d.fputBit f b on i j).faults = d.faults := rfl
@[simp] theorem fputBit_lanes (d : Dev) (f : Fld) (b : Nat) (on : Bool) (i j : Nat) : (d.fputBit f b on i j).lanes = d.lanes := rfl
@[simp] theorem fputBit_adapters (d : Dev) (f : Fld) (b : Nat) (on : Bool) (i j : Nat) : (d.fputBit f b on i j).adapters = d.adapters := rfl
@[simp] theorem fputBit_ports (d : Dev) (f : Fld) (b : Nat) (on : Bool) (i j : Nat) : (d.fputBit f b on i j).ports = d.ports := rfl
@[simp] theorem fputBit_refStopped (d : Dev) (f : Fld) (b : Nat) (on : Bool) (i j : Nat) : (d.fputBit f b on i j).refStopped = d.refStopped := rfl
@[simp] theorem fputBit_fcp (d : Dev) (f : Fld) (b : Nat) (on : Bool) (i j : Nat) : (d.fputBit f b on i j).fcp = d.fcp := rfl
@[simp] theorem fputBit_core (d : Dev) (f : Fld) (b : Nat) (on : Bool) (i j : Nat) : (d.fputBit f b on i j).core = d.core := rfl
@[simp] theorem fputBit_pools (d : Dev) (f : Fld) (b : Nat) (on : Bool) (i j : Nat) : (d.fputBit f b on i j).pools = d.pools := rfl
@[simp] theorem fputBit_thatch (d : Dev) (f : Fld) (b : Nat) (on : Bool) (i j : Nat) : (d.fputBit f b on i j).thatch = d.thatch := rfl
@[simp] theorem fputBit_dir (d : Dev) (f : Fld) (b : Nat) (on : Bool) (i j : Nat) : (d.fputBit f b on i j).dir = d.dir := rfl
@[simp] theorem fputBit_folds (d : Dev) (f : Fld) (b : Nat) (on : Bool) (i j : Nat) : (d.fputBit f b on i j).folds = d.folds := rfl
@[simp] theorem fputBit_integ (d : Dev) (f : Fld) (b : Nat) (on : Bool) (i j : Nat) : (d.fputBit f b on i j).integ = d.integ := rfl
@[simp] theorem fputBit_tlk (d : Dev) (f : Fld) (b : Nat) (on : Bool) (i j : Nat) : (d.fputBit f b on i j).tlk = d.tlk := rfl
@[simp] theorem fputBit_slots (d : Dev) (f : Fld) (b : Nat) (on : Bool) (i j : Nat) : (d.fputBit f b on i j).slots = d.slots := rfl
@[simp] theorem fputBit_slotDieFailed (d : Dev) (f : Fld) (b : Nat) (on : Bool) (i j : Nat) : (d.fputBit f b on i j).slotDieFailed = d.slotDieFailed := rfl
@[simp] theorem fputBit_gableFailed (d : Dev) (f : Fld) (b : Nat) (on : Bool) (i j : Nat) : (d.fputBit f b on i j).gableFailed = d.gableFailed := rfl
@[simp] theorem fputBit_gable (d : Dev) (f : Fld) (b : Nat) (on : Bool) (i j : Nat) : (d.fputBit f b on i j).gable = d.gable := rfl
@[simp] theorem fputBit_held (d : Dev) (f : Fld) (b : Nat) (on : Bool) (i j : Nat) : (d.fputBit f b on i j).held = d.held := rfl
@[simp] theorem fputBit_calibration (d : Dev) (f : Fld) (b : Nat) (on : Bool) (i j : Nat) : (d.fputBit f b on i j).calibration = d.calibration := rfl

/-! `send` -/

@[simp] theorem send_regs (d : Dev) (m : OutMsg) : (d.send m).regs = d.regs := rfl
@[simp] theorem send_fuses (d : Dev) (m : OutMsg) : (d.send m).fuses = d.fuses := rfl
@[simp] theorem send_freeCtr (d : Dev) (m : OutMsg) : (d.send m).freeCtr = d.freeCtr := rfl
@[simp] theorem send_threads (d : Dev) (m : OutMsg) : (d.send m).threads = d.threads := rfl
@[simp] theorem send_wygel (d : Dev) (m : OutMsg) : (d.send m).wygel = d.wygel := rfl
@[simp] theorem send_time (d : Dev) (m : OutMsg) : (d.send m).time = d.time := rfl
@[simp] theorem send_commits (d : Dev) (m : OutMsg) : (d.send m).commits = d.commits := rfl
@[simp] theorem send_faults (d : Dev) (m : OutMsg) : (d.send m).faults = d.faults := rfl
@[simp] theorem send_lanes (d : Dev) (m : OutMsg) : (d.send m).lanes = d.lanes := rfl
@[simp] theorem send_adapters (d : Dev) (m : OutMsg) : (d.send m).adapters = d.adapters := rfl
@[simp] theorem send_ports (d : Dev) (m : OutMsg) : (d.send m).ports = d.ports := rfl
@[simp] theorem send_refStopped (d : Dev) (m : OutMsg) : (d.send m).refStopped = d.refStopped := rfl
@[simp] theorem send_fcp (d : Dev) (m : OutMsg) : (d.send m).fcp = d.fcp := rfl
@[simp] theorem send_core (d : Dev) (m : OutMsg) : (d.send m).core = d.core := rfl
@[simp] theorem send_pools (d : Dev) (m : OutMsg) : (d.send m).pools = d.pools := rfl
@[simp] theorem send_thatch (d : Dev) (m : OutMsg) : (d.send m).thatch = d.thatch := rfl
@[simp] theorem send_dir (d : Dev) (m : OutMsg) : (d.send m).dir = d.dir := rfl
@[simp] theorem send_folds (d : Dev) (m : OutMsg) : (d.send m).folds = d.folds := rfl
@[simp] theorem send_integ (d : Dev) (m : OutMsg) : (d.send m).integ = d.integ := rfl
@[simp] theorem send_tlk (d : Dev) (m : OutMsg) : (d.send m).tlk = d.tlk := rfl
@[simp] theorem send_slots (d : Dev) (m : OutMsg) : (d.send m).slots = d.slots := rfl
@[simp] theorem send_slotDieFailed (d : Dev) (m : OutMsg) : (d.send m).slotDieFailed = d.slotDieFailed := rfl
@[simp] theorem send_gableFailed (d : Dev) (m : OutMsg) : (d.send m).gableFailed = d.gableFailed := rfl
@[simp] theorem send_gable (d : Dev) (m : OutMsg) : (d.send m).gable = d.gable := rfl
@[simp] theorem send_held (d : Dev) (m : OutMsg) : (d.send m).held = d.held := rfl
@[simp] theorem send_calibration (d : Dev) (m : OutMsg) : (d.send m).calibration = d.calibration := rfl

/-! `used` -/

@[simp] theorem used_regs (d : Dev) : (d.used).regs = d.regs := rfl
@[simp] theorem used_fuses (d : Dev) : (d.used).fuses = d.fuses := rfl
@[simp] theorem used_out (d : Dev) : (d.used).out = d.out := rfl
@[simp] theorem used_threads (d : Dev) : (d.used).threads = d.threads := rfl
@[simp] theorem used_wygel (d : Dev) : (d.used).wygel = d.wygel := rfl
@[simp] theorem used_time (d : Dev) : (d.used).time = d.time := rfl
@[simp] theorem used_commits (d : Dev) : (d.used).commits = d.commits := rfl
@[simp] theorem used_faults (d : Dev) : (d.used).faults = d.faults := rfl
@[simp] theorem used_lanes (d : Dev) : (d.used).lanes = d.lanes := rfl
@[simp] theorem used_adapters (d : Dev) : (d.used).adapters = d.adapters := rfl
@[simp] theorem used_ports (d : Dev) : (d.used).ports = d.ports := rfl
@[simp] theorem used_refStopped (d : Dev) : (d.used).refStopped = d.refStopped := rfl
@[simp] theorem used_fcp (d : Dev) : (d.used).fcp = d.fcp := rfl
@[simp] theorem used_core (d : Dev) : (d.used).core = d.core := rfl
@[simp] theorem used_pools (d : Dev) : (d.used).pools = d.pools := rfl
@[simp] theorem used_thatch (d : Dev) : (d.used).thatch = d.thatch := rfl
@[simp] theorem used_dir (d : Dev) : (d.used).dir = d.dir := rfl
@[simp] theorem used_folds (d : Dev) : (d.used).folds = d.folds := rfl
@[simp] theorem used_integ (d : Dev) : (d.used).integ = d.integ := rfl
@[simp] theorem used_tlk (d : Dev) : (d.used).tlk = d.tlk := rfl
@[simp] theorem used_slots (d : Dev) : (d.used).slots = d.slots := rfl
@[simp] theorem used_slotDieFailed (d : Dev) : (d.used).slotDieFailed = d.slotDieFailed := rfl
@[simp] theorem used_gableFailed (d : Dev) : (d.used).gableFailed = d.gableFailed := rfl
@[simp] theorem used_gable (d : Dev) : (d.used).gable = d.gable := rfl
@[simp] theorem used_held (d : Dev) : (d.used).held = d.held := rfl
@[simp] theorem used_calibration (d : Dev) : (d.used).calibration = d.calibration := rfl

/-! `setThr` -/

@[simp] theorem setThr_regs (d : Dev) (t : Nat) (th : Thread) : (d.setThr t th).regs = d.regs := rfl
@[simp] theorem setThr_fuses (d : Dev) (t : Nat) (th : Thread) : (d.setThr t th).fuses = d.fuses := rfl
@[simp] theorem setThr_freeCtr (d : Dev) (t : Nat) (th : Thread) : (d.setThr t th).freeCtr = d.freeCtr := rfl
@[simp] theorem setThr_out (d : Dev) (t : Nat) (th : Thread) : (d.setThr t th).out = d.out := rfl
@[simp] theorem setThr_wygel (d : Dev) (t : Nat) (th : Thread) : (d.setThr t th).wygel = d.wygel := rfl
@[simp] theorem setThr_time (d : Dev) (t : Nat) (th : Thread) : (d.setThr t th).time = d.time := rfl
@[simp] theorem setThr_commits (d : Dev) (t : Nat) (th : Thread) : (d.setThr t th).commits = d.commits := rfl
@[simp] theorem setThr_faults (d : Dev) (t : Nat) (th : Thread) : (d.setThr t th).faults = d.faults := rfl
@[simp] theorem setThr_lanes (d : Dev) (t : Nat) (th : Thread) : (d.setThr t th).lanes = d.lanes := rfl
@[simp] theorem setThr_adapters (d : Dev) (t : Nat) (th : Thread) : (d.setThr t th).adapters = d.adapters := rfl
@[simp] theorem setThr_ports (d : Dev) (t : Nat) (th : Thread) : (d.setThr t th).ports = d.ports := rfl
@[simp] theorem setThr_refStopped (d : Dev) (t : Nat) (th : Thread) : (d.setThr t th).refStopped = d.refStopped := rfl
@[simp] theorem setThr_fcp (d : Dev) (t : Nat) (th : Thread) : (d.setThr t th).fcp = d.fcp := rfl
@[simp] theorem setThr_core (d : Dev) (t : Nat) (th : Thread) : (d.setThr t th).core = d.core := rfl
@[simp] theorem setThr_pools (d : Dev) (t : Nat) (th : Thread) : (d.setThr t th).pools = d.pools := rfl
@[simp] theorem setThr_thatch (d : Dev) (t : Nat) (th : Thread) : (d.setThr t th).thatch = d.thatch := rfl
@[simp] theorem setThr_dir (d : Dev) (t : Nat) (th : Thread) : (d.setThr t th).dir = d.dir := rfl
@[simp] theorem setThr_folds (d : Dev) (t : Nat) (th : Thread) : (d.setThr t th).folds = d.folds := rfl
@[simp] theorem setThr_integ (d : Dev) (t : Nat) (th : Thread) : (d.setThr t th).integ = d.integ := rfl
@[simp] theorem setThr_tlk (d : Dev) (t : Nat) (th : Thread) : (d.setThr t th).tlk = d.tlk := rfl
@[simp] theorem setThr_slots (d : Dev) (t : Nat) (th : Thread) : (d.setThr t th).slots = d.slots := rfl
@[simp] theorem setThr_slotDieFailed (d : Dev) (t : Nat) (th : Thread) : (d.setThr t th).slotDieFailed = d.slotDieFailed := rfl
@[simp] theorem setThr_gableFailed (d : Dev) (t : Nat) (th : Thread) : (d.setThr t th).gableFailed = d.gableFailed := rfl
@[simp] theorem setThr_gable (d : Dev) (t : Nat) (th : Thread) : (d.setThr t th).gable = d.gable := rfl
@[simp] theorem setThr_held (d : Dev) (t : Nat) (th : Thread) : (d.setThr t th).held = d.held := rfl
@[simp] theorem setThr_calibration (d : Dev) (t : Nat) (th : Thread) : (d.setThr t th).calibration = d.calibration := rfl

/-! `mapThr` -/

@[simp] theorem mapThr_regs (d : Dev) (f : Nat → Thread → Thread) : (d.mapThr f).regs = d.regs := rfl
@[simp] theorem mapThr_fuses (d : Dev) (f : Nat → Thread → Thread) : (d.mapThr f).fuses = d.fuses := rfl
@[simp] theorem mapThr_freeCtr (d : Dev) (f : Nat → Thread → Thread) : (d.mapThr f).freeCtr = d.freeCtr := rfl
@[simp] theorem mapThr_out (d : Dev) (f : Nat → Thread → Thread) : (d.mapThr f).out = d.out := rfl
@[simp] theorem mapThr_wygel (d : Dev) (f : Nat → Thread → Thread) : (d.mapThr f).wygel = d.wygel := rfl
@[simp] theorem mapThr_time (d : Dev) (f : Nat → Thread → Thread) : (d.mapThr f).time = d.time := rfl
@[simp] theorem mapThr_commits (d : Dev) (f : Nat → Thread → Thread) : (d.mapThr f).commits = d.commits := rfl
@[simp] theorem mapThr_faults (d : Dev) (f : Nat → Thread → Thread) : (d.mapThr f).faults = d.faults := rfl
@[simp] theorem mapThr_lanes (d : Dev) (f : Nat → Thread → Thread) : (d.mapThr f).lanes = d.lanes := rfl
@[simp] theorem mapThr_adapters (d : Dev) (f : Nat → Thread → Thread) : (d.mapThr f).adapters = d.adapters := rfl
@[simp] theorem mapThr_ports (d : Dev) (f : Nat → Thread → Thread) : (d.mapThr f).ports = d.ports := rfl
@[simp] theorem mapThr_refStopped (d : Dev) (f : Nat → Thread → Thread) : (d.mapThr f).refStopped = d.refStopped := rfl
@[simp] theorem mapThr_fcp (d : Dev) (f : Nat → Thread → Thread) : (d.mapThr f).fcp = d.fcp := rfl
@[simp] theorem mapThr_core (d : Dev) (f : Nat → Thread → Thread) : (d.mapThr f).core = d.core := rfl
@[simp] theorem mapThr_pools (d : Dev) (f : Nat → Thread → Thread) : (d.mapThr f).pools = d.pools := rfl
@[simp] theorem mapThr_thatch (d : Dev) (f : Nat → Thread → Thread) : (d.mapThr f).thatch = d.thatch := rfl
@[simp] theorem mapThr_dir (d : Dev) (f : Nat → Thread → Thread) : (d.mapThr f).dir = d.dir := rfl
@[simp] theorem mapThr_folds (d : Dev) (f : Nat → Thread → Thread) : (d.mapThr f).folds = d.folds := rfl
@[simp] theorem mapThr_integ (d : Dev) (f : Nat → Thread → Thread) : (d.mapThr f).integ = d.integ := rfl
@[simp] theorem mapThr_tlk (d : Dev) (f : Nat → Thread → Thread) : (d.mapThr f).tlk = d.tlk := rfl
@[simp] theorem mapThr_slots (d : Dev) (f : Nat → Thread → Thread) : (d.mapThr f).slots = d.slots := rfl
@[simp] theorem mapThr_slotDieFailed (d : Dev) (f : Nat → Thread → Thread) : (d.mapThr f).slotDieFailed = d.slotDieFailed := rfl
@[simp] theorem mapThr_gableFailed (d : Dev) (f : Nat → Thread → Thread) : (d.mapThr f).gableFailed = d.gableFailed := rfl
@[simp] theorem mapThr_gable (d : Dev) (f : Nat → Thread → Thread) : (d.mapThr f).gable = d.gable := rfl
@[simp] theorem mapThr_held (d : Dev) (f : Nat → Thread → Thread) : (d.mapThr f).held = d.held := rfl
@[simp] theorem mapThr_calibration (d : Dev) (f : Nat → Thread → Thread) : (d.mapThr f).calibration = d.calibration := rfl

/-! `latch` -/

@[simp] theorem latch_regs (d : Dev) (e : Nat) (sel : Nat → Thread → Bool) : (d.latch e sel).regs = d.regs := rfl
@[simp] theorem latch_fuses (d : Dev) (e : Nat) (sel : Nat → Thread → Bool) : (d.latch e sel).fuses = d.fuses := rfl
@[simp] theorem latch_freeCtr (d : Dev) (e : Nat) (sel : Nat → Thread → Bool) : (d.latch e sel).freeCtr = d.freeCtr := rfl
@[simp] theorem latch_out (d : Dev) (e : Nat) (sel : Nat → Thread → Bool) : (d.latch e sel).out = d.out := rfl
@[simp] theorem latch_wygel (d : Dev) (e : Nat) (sel : Nat → Thread → Bool) : (d.latch e sel).wygel = d.wygel := rfl
@[simp] theorem latch_time (d : Dev) (e : Nat) (sel : Nat → Thread → Bool) : (d.latch e sel).time = d.time := rfl
@[simp] theorem latch_commits (d : Dev) (e : Nat) (sel : Nat → Thread → Bool) : (d.latch e sel).commits = d.commits := rfl
@[simp] theorem latch_faults (d : Dev) (e : Nat) (sel : Nat → Thread → Bool) : (d.latch e sel).faults = d.faults := rfl
@[simp] theorem latch_lanes (d : Dev) (e : Nat) (sel : Nat → Thread → Bool) : (d.latch e sel).lanes = d.lanes := rfl
@[simp] theorem latch_adapters (d : Dev) (e : Nat) (sel : Nat → Thread → Bool) : (d.latch e sel).adapters = d.adapters := rfl
@[simp] theorem latch_ports (d : Dev) (e : Nat) (sel : Nat → Thread → Bool) : (d.latch e sel).ports = d.ports := rfl
@[simp] theorem latch_refStopped (d : Dev) (e : Nat) (sel : Nat → Thread → Bool) : (d.latch e sel).refStopped = d.refStopped := rfl
@[simp] theorem latch_fcp (d : Dev) (e : Nat) (sel : Nat → Thread → Bool) : (d.latch e sel).fcp = d.fcp := rfl
@[simp] theorem latch_core (d : Dev) (e : Nat) (sel : Nat → Thread → Bool) : (d.latch e sel).core = d.core := rfl
@[simp] theorem latch_pools (d : Dev) (e : Nat) (sel : Nat → Thread → Bool) : (d.latch e sel).pools = d.pools := rfl
@[simp] theorem latch_thatch (d : Dev) (e : Nat) (sel : Nat → Thread → Bool) : (d.latch e sel).thatch = d.thatch := rfl
@[simp] theorem latch_dir (d : Dev) (e : Nat) (sel : Nat → Thread → Bool) : (d.latch e sel).dir = d.dir := rfl
@[simp] theorem latch_folds (d : Dev) (e : Nat) (sel : Nat → Thread → Bool) : (d.latch e sel).folds = d.folds := rfl
@[simp] theorem latch_integ (d : Dev) (e : Nat) (sel : Nat → Thread → Bool) : (d.latch e sel).integ = d.integ := rfl
@[simp] theorem latch_tlk (d : Dev) (e : Nat) (sel : Nat → Thread → Bool) : (d.latch e sel).tlk = d.tlk := rfl
@[simp] theorem latch_slots (d : Dev) (e : Nat) (sel : Nat → Thread → Bool) : (d.latch e sel).slots = d.slots := rfl
@[simp] theorem latch_slotDieFailed (d : Dev) (e : Nat) (sel : Nat → Thread → Bool) : (d.latch e sel).slotDieFailed = d.slotDieFailed := rfl
@[simp] theorem latch_gableFailed (d : Dev) (e : Nat) (sel : Nat → Thread → Bool) : (d.latch e sel).gableFailed = d.gableFailed := rfl
@[simp] theorem latch_gable (d : Dev) (e : Nat) (sel : Nat → Thread → Bool) : (d.latch e sel).gable = d.gable := rfl
@[simp] theorem latch_held (d : Dev) (e : Nat) (sel : Nat → Thread → Bool) : (d.latch e sel).held = d.held := rfl
@[simp] theorem latch_calibration (d : Dev) (e : Nat) (sel : Nat → Thread → Bool) : (d.latch e sel).calibration = d.calibration := rfl

/-! `eventAll` -/

@[simp] theorem eventAll_regs (d : Dev) (e : Nat) : (d.eventAll e).regs = d.regs := rfl
@[simp] theorem eventAll_fuses (d : Dev) (e : Nat) : (d.eventAll e).fuses = d.fuses := rfl
@[simp] theorem eventAll_freeCtr (d : Dev) (e : Nat) : (d.eventAll e).freeCtr = d.freeCtr := rfl
@[simp] theorem eventAll_out (d : Dev) (e : Nat) : (d.eventAll e).out = d.out := rfl
@[simp] theorem eventAll_wygel (d : Dev) (e : Nat) : (d.eventAll e).wygel = d.wygel := rfl
@[simp] theorem eventAll_time (d : Dev) (e : Nat) : (d.eventAll e).time = d.time := rfl
@[simp] theorem eventAll_commits (d : Dev) (e : Nat) : (d.eventAll e).commits = d.commits := rfl
@[simp] theorem eventAll_faults (d : Dev) (e : Nat) : (d.eventAll e).faults = d.faults := rfl
@[simp] theorem eventAll_lanes (d : Dev) (e : Nat) : (d.eventAll e).lanes = d.lanes := rfl
@[simp] theorem eventAll_adapters (d : Dev) (e : Nat) : (d.eventAll e).adapters = d.adapters := rfl
@[simp] theorem eventAll_ports (d : Dev) (e : Nat) : (d.eventAll e).ports = d.ports := rfl
@[simp] theorem eventAll_refStopped (d : Dev) (e : Nat) : (d.eventAll e).refStopped = d.refStopped := rfl
@[simp] theorem eventAll_fcp (d : Dev) (e : Nat) : (d.eventAll e).fcp = d.fcp := rfl
@[simp] theorem eventAll_core (d : Dev) (e : Nat) : (d.eventAll e).core = d.core := rfl
@[simp] theorem eventAll_pools (d : Dev) (e : Nat) : (d.eventAll e).pools = d.pools := rfl
@[simp] theorem eventAll_thatch (d : Dev) (e : Nat) : (d.eventAll e).thatch = d.thatch := rfl
@[simp] theorem eventAll_dir (d : Dev) (e : Nat) : (d.eventAll e).dir = d.dir := rfl
@[simp] theorem eventAll_folds (d : Dev) (e : Nat) : (d.eventAll e).folds = d.folds := rfl
@[simp] theorem eventAll_integ (d : Dev) (e : Nat) : (d.eventAll e).integ = d.integ := rfl
@[simp] theorem eventAll_tlk (d : Dev) (e : Nat) : (d.eventAll e).tlk = d.tlk := rfl
@[simp] theorem eventAll_slots (d : Dev) (e : Nat) : (d.eventAll e).slots = d.slots := rfl
@[simp] theorem eventAll_slotDieFailed (d : Dev) (e : Nat) : (d.eventAll e).slotDieFailed = d.slotDieFailed := rfl
@[simp] theorem eventAll_gableFailed (d : Dev) (e : Nat) : (d.eventAll e).gableFailed = d.gableFailed := rfl
@[simp] theorem eventAll_gable (d : Dev) (e : Nat) : (d.eventAll e).gable = d.gable := rfl
@[simp] theorem eventAll_held (d : Dev) (e : Nat) : (d.eventAll e).held = d.held := rfl
@[simp] theorem eventAll_calibration (d : Dev) (e : Nat) : (d.eventAll e).calibration = d.calibration := rfl

/-! `eventMgr` -/

@[simp] theorem eventMgr_regs (d : Dev) (e : Nat) : (d.eventMgr e).regs = d.regs := rfl
@[simp] theorem eventMgr_fuses (d : Dev) (e : Nat) : (d.eventMgr e).fuses = d.fuses := rfl
@[simp] theorem eventMgr_freeCtr (d : Dev) (e : Nat) : (d.eventMgr e).freeCtr = d.freeCtr := rfl
@[simp] theorem eventMgr_out (d : Dev) (e : Nat) : (d.eventMgr e).out = d.out := rfl
@[simp] theorem eventMgr_wygel (d : Dev) (e : Nat) : (d.eventMgr e).wygel = d.wygel := rfl
@[simp] theorem eventMgr_time (d : Dev) (e : Nat) : (d.eventMgr e).time = d.time := rfl
@[simp] theorem eventMgr_commits (d : Dev) (e : Nat) : (d.eventMgr e).commits = d.commits := rfl
@[simp] theorem eventMgr_faults (d : Dev) (e : Nat) : (d.eventMgr e).faults = d.faults := rfl
@[simp] theorem eventMgr_lanes (d : Dev) (e : Nat) : (d.eventMgr e).lanes = d.lanes := rfl
@[simp] theorem eventMgr_adapters (d : Dev) (e : Nat) : (d.eventMgr e).adapters = d.adapters := rfl
@[simp] theorem eventMgr_ports (d : Dev) (e : Nat) : (d.eventMgr e).ports = d.ports := rfl
@[simp] theorem eventMgr_refStopped (d : Dev) (e : Nat) : (d.eventMgr e).refStopped = d.refStopped := rfl
@[simp] theorem eventMgr_fcp (d : Dev) (e : Nat) : (d.eventMgr e).fcp = d.fcp := rfl
@[simp] theorem eventMgr_core (d : Dev) (e : Nat) : (d.eventMgr e).core = d.core := rfl
@[simp] theorem eventMgr_pools (d : Dev) (e : Nat) : (d.eventMgr e).pools = d.pools := rfl
@[simp] theorem eventMgr_thatch (d : Dev) (e : Nat) : (d.eventMgr e).thatch = d.thatch := rfl
@[simp] theorem eventMgr_dir (d : Dev) (e : Nat) : (d.eventMgr e).dir = d.dir := rfl
@[simp] theorem eventMgr_folds (d : Dev) (e : Nat) : (d.eventMgr e).folds = d.folds := rfl
@[simp] theorem eventMgr_integ (d : Dev) (e : Nat) : (d.eventMgr e).integ = d.integ := rfl
@[simp] theorem eventMgr_tlk (d : Dev) (e : Nat) : (d.eventMgr e).tlk = d.tlk := rfl
@[simp] theorem eventMgr_slots (d : Dev) (e : Nat) : (d.eventMgr e).slots = d.slots := rfl
@[simp] theorem eventMgr_slotDieFailed (d : Dev) (e : Nat) : (d.eventMgr e).slotDieFailed = d.slotDieFailed := rfl
@[simp] theorem eventMgr_gableFailed (d : Dev) (e : Nat) : (d.eventMgr e).gableFailed = d.gableFailed := rfl
@[simp] theorem eventMgr_gable (d : Dev) (e : Nat) : (d.eventMgr e).gable = d.gable := rfl
@[simp] theorem eventMgr_held (d : Dev) (e : Nat) : (d.eventMgr e).held = d.held := rfl
@[simp] theorem eventMgr_calibration (d : Dev) (e : Nat) : (d.eventMgr e).calibration = d.calibration := rfl

/-! `setSrc` -/

@[simp] theorem setSrc_regs (d : Dev) (u : Nat) (x : FaultSrc) : (d.setSrc u x).regs = d.regs := rfl
@[simp] theorem setSrc_fuses (d : Dev) (u : Nat) (x : FaultSrc) : (d.setSrc u x).fuses = d.fuses := rfl
@[simp] theorem setSrc_freeCtr (d : Dev) (u : Nat) (x : FaultSrc) : (d.setSrc u x).freeCtr = d.freeCtr := rfl
@[simp] theorem setSrc_out (d : Dev) (u : Nat) (x : FaultSrc) : (d.setSrc u x).out = d.out := rfl
@[simp] theorem setSrc_threads (d : Dev) (u : Nat) (x : FaultSrc) : (d.setSrc u x).threads = d.threads := rfl
@[simp] theorem setSrc_wygel (d : Dev) (u : Nat) (x : FaultSrc) : (d.setSrc u x).wygel = d.wygel := rfl
@[simp] theorem setSrc_time (d : Dev) (u : Nat) (x : FaultSrc) : (d.setSrc u x).time = d.time := rfl
@[simp] theorem setSrc_commits (d : Dev) (u : Nat) (x : FaultSrc) : (d.setSrc u x).commits = d.commits := rfl
@[simp] theorem setSrc_lanes (d : Dev) (u : Nat) (x : FaultSrc) : (d.setSrc u x).lanes = d.lanes := rfl
@[simp] theorem setSrc_adapters (d : Dev) (u : Nat) (x : FaultSrc) : (d.setSrc u x).adapters = d.adapters := rfl
@[simp] theorem setSrc_ports (d : Dev) (u : Nat) (x : FaultSrc) : (d.setSrc u x).ports = d.ports := rfl
@[simp] theorem setSrc_refStopped (d : Dev) (u : Nat) (x : FaultSrc) : (d.setSrc u x).refStopped = d.refStopped := rfl
@[simp] theorem setSrc_fcp (d : Dev) (u : Nat) (x : FaultSrc) : (d.setSrc u x).fcp = d.fcp := rfl
@[simp] theorem setSrc_core (d : Dev) (u : Nat) (x : FaultSrc) : (d.setSrc u x).core = d.core := rfl
@[simp] theorem setSrc_pools (d : Dev) (u : Nat) (x : FaultSrc) : (d.setSrc u x).pools = d.pools := rfl
@[simp] theorem setSrc_thatch (d : Dev) (u : Nat) (x : FaultSrc) : (d.setSrc u x).thatch = d.thatch := rfl
@[simp] theorem setSrc_dir (d : Dev) (u : Nat) (x : FaultSrc) : (d.setSrc u x).dir = d.dir := rfl
@[simp] theorem setSrc_folds (d : Dev) (u : Nat) (x : FaultSrc) : (d.setSrc u x).folds = d.folds := rfl
@[simp] theorem setSrc_integ (d : Dev) (u : Nat) (x : FaultSrc) : (d.setSrc u x).integ = d.integ := rfl
@[simp] theorem setSrc_tlk (d : Dev) (u : Nat) (x : FaultSrc) : (d.setSrc u x).tlk = d.tlk := rfl
@[simp] theorem setSrc_slots (d : Dev) (u : Nat) (x : FaultSrc) : (d.setSrc u x).slots = d.slots := rfl
@[simp] theorem setSrc_slotDieFailed (d : Dev) (u : Nat) (x : FaultSrc) : (d.setSrc u x).slotDieFailed = d.slotDieFailed := rfl
@[simp] theorem setSrc_gableFailed (d : Dev) (u : Nat) (x : FaultSrc) : (d.setSrc u x).gableFailed = d.gableFailed := rfl
@[simp] theorem setSrc_gable (d : Dev) (u : Nat) (x : FaultSrc) : (d.setSrc u x).gable = d.gable := rfl
@[simp] theorem setSrc_held (d : Dev) (u : Nat) (x : FaultSrc) : (d.setSrc u x).held = d.held := rfl
@[simp] theorem setSrc_calibration (d : Dev) (u : Nat) (x : FaultSrc) : (d.setSrc u x).calibration = d.calibration := rfl

/-! `setGable` -/

@[simp] theorem setGable_regs (d : Dev) (g : Gable) : (d.setGable g).regs = d.regs := rfl
@[simp] theorem setGable_fuses (d : Dev) (g : Gable) : (d.setGable g).fuses = d.fuses := rfl
@[simp] theorem setGable_freeCtr (d : Dev) (g : Gable) : (d.setGable g).freeCtr = d.freeCtr := rfl
@[simp] theorem setGable_out (d : Dev) (g : Gable) : (d.setGable g).out = d.out := rfl
@[simp] theorem setGable_threads (d : Dev) (g : Gable) : (d.setGable g).threads = d.threads := rfl
@[simp] theorem setGable_wygel (d : Dev) (g : Gable) : (d.setGable g).wygel = d.wygel := rfl
@[simp] theorem setGable_time (d : Dev) (g : Gable) : (d.setGable g).time = d.time := rfl
@[simp] theorem setGable_commits (d : Dev) (g : Gable) : (d.setGable g).commits = d.commits := rfl
@[simp] theorem setGable_faults (d : Dev) (g : Gable) : (d.setGable g).faults = d.faults := rfl
@[simp] theorem setGable_lanes (d : Dev) (g : Gable) : (d.setGable g).lanes = d.lanes := rfl
@[simp] theorem setGable_adapters (d : Dev) (g : Gable) : (d.setGable g).adapters = d.adapters := rfl
@[simp] theorem setGable_ports (d : Dev) (g : Gable) : (d.setGable g).ports = d.ports := rfl
@[simp] theorem setGable_refStopped (d : Dev) (g : Gable) : (d.setGable g).refStopped = d.refStopped := rfl
@[simp] theorem setGable_fcp (d : Dev) (g : Gable) : (d.setGable g).fcp = d.fcp := rfl
@[simp] theorem setGable_core (d : Dev) (g : Gable) : (d.setGable g).core = d.core := rfl
@[simp] theorem setGable_pools (d : Dev) (g : Gable) : (d.setGable g).pools = d.pools := rfl
@[simp] theorem setGable_thatch (d : Dev) (g : Gable) : (d.setGable g).thatch = d.thatch := rfl
@[simp] theorem setGable_dir (d : Dev) (g : Gable) : (d.setGable g).dir = d.dir := rfl
@[simp] theorem setGable_folds (d : Dev) (g : Gable) : (d.setGable g).folds = d.folds := rfl
@[simp] theorem setGable_integ (d : Dev) (g : Gable) : (d.setGable g).integ = d.integ := rfl
@[simp] theorem setGable_tlk (d : Dev) (g : Gable) : (d.setGable g).tlk = d.tlk := rfl
@[simp] theorem setGable_slots (d : Dev) (g : Gable) : (d.setGable g).slots = d.slots := rfl
@[simp] theorem setGable_slotDieFailed (d : Dev) (g : Gable) : (d.setGable g).slotDieFailed = d.slotDieFailed := rfl
@[simp] theorem setGable_gableFailed (d : Dev) (g : Gable) : (d.setGable g).gableFailed = d.gableFailed := rfl
@[simp] theorem setGable_held (d : Dev) (g : Gable) : (d.setGable g).held = d.held := rfl
@[simp] theorem setGable_calibration (d : Dev) (g : Gable) : (d.setGable g).calibration = d.calibration := rfl

@[simp] theorem send_out_eq (d : Dev) (m : OutMsg) : (d.send m).out = d.out ++ [m] := rfl
@[simp] theorem used_freeCtr_eq (d : Dev) : d.used.freeCtr = d.freeCtr + 1 := rfl
@[simp] theorem setGable_gable_eq (d : Dev) (g : Gable) : (d.setGable g).gable = g := rfl

/-! `upTo` moves NOW alone, `raise` the source's record and its register alone. -/

@[simp] theorem upTo_fuses (d : Dev) (n : Nat) : (d.upTo n).fuses = d.fuses := by unfold Dev.upTo; split <;> rfl
@[simp] theorem upTo_freeCtr (d : Dev) (n : Nat) : (d.upTo n).freeCtr = d.freeCtr := by unfold Dev.upTo; split <;> rfl
@[simp] theorem upTo_out (d : Dev) (n : Nat) : (d.upTo n).out = d.out := by unfold Dev.upTo; split <;> rfl
@[simp] theorem upTo_threads (d : Dev) (n : Nat) : (d.upTo n).threads = d.threads := by unfold Dev.upTo; split <;> rfl
@[simp] theorem upTo_wygel (d : Dev) (n : Nat) : (d.upTo n).wygel = d.wygel := by unfold Dev.upTo; split <;> rfl
@[simp] theorem upTo_time (d : Dev) (n : Nat) : (d.upTo n).time = d.time := by unfold Dev.upTo; split <;> rfl
@[simp] theorem upTo_commits (d : Dev) (n : Nat) : (d.upTo n).commits = d.commits := by unfold Dev.upTo; split <;> rfl
@[simp] theorem upTo_faults (d : Dev) (n : Nat) : (d.upTo n).faults = d.faults := by unfold Dev.upTo; split <;> rfl
@[simp] theorem upTo_lanes (d : Dev) (n : Nat) : (d.upTo n).lanes = d.lanes := by unfold Dev.upTo; split <;> rfl
@[simp] theorem upTo_adapters (d : Dev) (n : Nat) : (d.upTo n).adapters = d.adapters := by unfold Dev.upTo; split <;> rfl
@[simp] theorem upTo_ports (d : Dev) (n : Nat) : (d.upTo n).ports = d.ports := by unfold Dev.upTo; split <;> rfl
@[simp] theorem upTo_refStopped (d : Dev) (n : Nat) : (d.upTo n).refStopped = d.refStopped := by unfold Dev.upTo; split <;> rfl
@[simp] theorem upTo_fcp (d : Dev) (n : Nat) : (d.upTo n).fcp = d.fcp := by unfold Dev.upTo; split <;> rfl
@[simp] theorem upTo_core (d : Dev) (n : Nat) : (d.upTo n).core = d.core := by unfold Dev.upTo; split <;> rfl
@[simp] theorem upTo_pools (d : Dev) (n : Nat) : (d.upTo n).pools = d.pools := by unfold Dev.upTo; split <;> rfl
@[simp] theorem upTo_thatch (d : Dev) (n : Nat) : (d.upTo n).thatch = d.thatch := by unfold Dev.upTo; split <;> rfl
@[simp] theorem upTo_dir (d : Dev) (n : Nat) : (d.upTo n).dir = d.dir := by unfold Dev.upTo; split <;> rfl
@[simp] theorem upTo_folds (d : Dev) (n : Nat) : (d.upTo n).folds = d.folds := by unfold Dev.upTo; split <;> rfl
@[simp] theorem upTo_integ (d : Dev) (n : Nat) : (d.upTo n).integ = d.integ := by unfold Dev.upTo; split <;> rfl
@[simp] theorem upTo_tlk (d : Dev) (n : Nat) : (d.upTo n).tlk = d.tlk := by unfold Dev.upTo; split <;> rfl
@[simp] theorem upTo_slots (d : Dev) (n : Nat) : (d.upTo n).slots = d.slots := by unfold Dev.upTo; split <;> rfl
@[simp] theorem upTo_slotDieFailed (d : Dev) (n : Nat) : (d.upTo n).slotDieFailed = d.slotDieFailed := by unfold Dev.upTo; split <;> rfl
@[simp] theorem upTo_gableFailed (d : Dev) (n : Nat) : (d.upTo n).gableFailed = d.gableFailed := by unfold Dev.upTo; split <;> rfl
@[simp] theorem upTo_gable (d : Dev) (n : Nat) : (d.upTo n).gable = d.gable := by unfold Dev.upTo; split <;> rfl
@[simp] theorem upTo_held (d : Dev) (n : Nat) : (d.upTo n).held = d.held := by unfold Dev.upTo; split <;> rfl
@[simp] theorem upTo_calibration (d : Dev) (n : Nat) : (d.upTo n).calibration = d.calibration := by unfold Dev.upTo; split <;> rfl

@[simp] theorem raise_fuses (d : Dev) (u : Nat) (r : FaultRec) : (d.raise u r).fuses = d.fuses := by
  unfold Dev.raise; dsimp only; split <;> rfl
@[simp] theorem raise_freeCtr (d : Dev) (u : Nat) (r : FaultRec) : (d.raise u r).freeCtr = d.freeCtr := by
  unfold Dev.raise; dsimp only; split <;> rfl
@[simp] theorem raise_out (d : Dev) (u : Nat) (r : FaultRec) : (d.raise u r).out = d.out := by
  unfold Dev.raise; dsimp only; split <;> rfl
@[simp] theorem raise_threads (d : Dev) (u : Nat) (r : FaultRec) : (d.raise u r).threads = d.threads := by
  unfold Dev.raise; dsimp only; split <;> rfl
@[simp] theorem raise_wygel (d : Dev) (u : Nat) (r : FaultRec) : (d.raise u r).wygel = d.wygel := by
  unfold Dev.raise; dsimp only; split <;> rfl
@[simp] theorem raise_time (d : Dev) (u : Nat) (r : FaultRec) : (d.raise u r).time = d.time := by
  unfold Dev.raise; dsimp only; split <;> rfl
@[simp] theorem raise_commits (d : Dev) (u : Nat) (r : FaultRec) : (d.raise u r).commits = d.commits := by
  unfold Dev.raise; dsimp only; split <;> rfl
@[simp] theorem raise_lanes (d : Dev) (u : Nat) (r : FaultRec) : (d.raise u r).lanes = d.lanes := by
  unfold Dev.raise; dsimp only; split <;> rfl
@[simp] theorem raise_adapters (d : Dev) (u : Nat) (r : FaultRec) : (d.raise u r).adapters = d.adapters := by
  unfold Dev.raise; dsimp only; split <;> rfl
@[simp] theorem raise_ports (d : Dev) (u : Nat) (r : FaultRec) : (d.raise u r).ports = d.ports := by
  unfold Dev.raise; dsimp only; split <;> rfl
@[simp] theorem raise_refStopped (d : Dev) (u : Nat) (r : FaultRec) : (d.raise u r).refStopped = d.refStopped := by
  unfold Dev.raise; dsimp only; split <;> rfl
@[simp] theorem raise_fcp (d : Dev) (u : Nat) (r : FaultRec) : (d.raise u r).fcp = d.fcp := by
  unfold Dev.raise; dsimp only; split <;> rfl
@[simp] theorem raise_core (d : Dev) (u : Nat) (r : FaultRec) : (d.raise u r).core = d.core := by
  unfold Dev.raise; dsimp only; split <;> rfl
@[simp] theorem raise_pools (d : Dev) (u : Nat) (r : FaultRec) : (d.raise u r).pools = d.pools := by
  unfold Dev.raise; dsimp only; split <;> rfl
@[simp] theorem raise_thatch (d : Dev) (u : Nat) (r : FaultRec) : (d.raise u r).thatch = d.thatch := by
  unfold Dev.raise; dsimp only; split <;> rfl
@[simp] theorem raise_dir (d : Dev) (u : Nat) (r : FaultRec) : (d.raise u r).dir = d.dir := by
  unfold Dev.raise; dsimp only; split <;> rfl
@[simp] theorem raise_folds (d : Dev) (u : Nat) (r : FaultRec) : (d.raise u r).folds = d.folds := by
  unfold Dev.raise; dsimp only; split <;> rfl
@[simp] theorem raise_integ (d : Dev) (u : Nat) (r : FaultRec) : (d.raise u r).integ = d.integ := by
  unfold Dev.raise; dsimp only; split <;> rfl
@[simp] theorem raise_tlk (d : Dev) (u : Nat) (r : FaultRec) : (d.raise u r).tlk = d.tlk := by
  unfold Dev.raise; dsimp only; split <;> rfl
@[simp] theorem raise_slots (d : Dev) (u : Nat) (r : FaultRec) : (d.raise u r).slots = d.slots := by
  unfold Dev.raise; dsimp only; split <;> rfl
@[simp] theorem raise_slotDieFailed (d : Dev) (u : Nat) (r : FaultRec) : (d.raise u r).slotDieFailed = d.slotDieFailed := by
  unfold Dev.raise; dsimp only; split <;> rfl
@[simp] theorem raise_gableFailed (d : Dev) (u : Nat) (r : FaultRec) : (d.raise u r).gableFailed = d.gableFailed := by
  unfold Dev.raise; dsimp only; split <;> rfl
@[simp] theorem raise_gable (d : Dev) (u : Nat) (r : FaultRec) : (d.raise u r).gable = d.gable := by
  unfold Dev.raise; dsimp only; split <;> rfl
@[simp] theorem raise_held (d : Dev) (u : Nat) (r : FaultRec) : (d.raise u r).held = d.held := by
  unfold Dev.raise; dsimp only; split <;> rfl
@[simp] theorem raise_calibration (d : Dev) (u : Nat) (r : FaultRec) : (d.raise u r).calibration = d.calibration := by
  unfold Dev.raise; dsimp only; split <;> rfl

end Sys2Proof.Machine
end

