-- ==== Sys2Proof/Laws/Store.lean ====
section
/-! SUPPORT. The laws of the stores: bit fields, tables, byte memory and its canonical form, register cells. -/

namespace Sys2Proof.Machine

/-! Bit fields -/

theorem mask_getElem (lo w k : Nat) (hk : k < 64) : (mask lo w)[k] = decide (lo ≤ k ∧ k < lo + w) := by
  rw [← BitVec.getLsbD_eq_getElem, mask, BitVec.getLsbD_ofNat, Nat.testBit_mul_two_pow, Nat.testBit_two_pow_sub_one]
  simp only [hk, decide_true, Bool.true_and]
  by_cases h : lo ≤ k
  · simp only [h, decide_true, Bool.true_and, true_and]; congr 1; apply propext; omega
  · simp [h]

theorem putBits_getElem (v : Word) (lo w n k : Nat) (hk : k < 64) :
    (putBits v lo w n)[k] = if lo ≤ k ∧ k < lo + w then n.testBit (k - lo) else v[k] := by
  have hv : (BitVec.ofNat 64 (n * 2 ^ lo))[k] = (decide (lo ≤ k) && n.testBit (k - lo)) := by
    rw [← BitVec.getLsbD_eq_getElem, BitVec.getLsbD_ofNat, Nat.testBit_mul_two_pow]; simp [hk]
  simp only [putBits, BitVec.getElem_or, BitVec.getElem_and, BitVec.getElem_not, mask_getElem, hv]
  by_cases h : lo ≤ k <;> by_cases h' : k < lo + w <;> simp [h, h']

theorem bitsOf_testBit (v : Word) (lo w k : Nat) :
    (bitsOf v lo w).testBit k = (decide (k < w) && v.getLsbD (lo + k)) := by
  simp [bitsOf, Nat.testBit_mod_two_pow, Nat.testBit_shiftRight, BitVec.getLsbD]

/-- A field written and read again. -/
@[simp] theorem bitsOf_putBits_same (v : Word) (lo w n : Nat) (h : lo + w ≤ 64) :
    bitsOf (putBits v lo w n) lo w = n % 2 ^ w := by
  apply Nat.eq_of_testBit_eq
  intro k
  rw [bitsOf_testBit, Nat.testBit_mod_two_pow]
  by_cases hk : k < w
  · have h1 : lo + k < 64 := by omega
    have h2 : lo + k - lo = k := by omega
    simp [hk, BitVec.getLsbD_eq_getElem h1, putBits_getElem, h2]
  · simp [hk]

/-- A field written leaves the fields beside it. -/
theorem bitsOf_putBits_other (v : Word) (lo w n lo' w' : Nat) (h : lo + w ≤ lo' ∨ lo' + w' ≤ lo) :
    bitsOf (putBits v lo w n) lo' w' = bitsOf v lo' w' := by
  apply Nat.eq_of_testBit_eq
  intro k
  rw [bitsOf_testBit, bitsOf_testBit]
  by_cases hk : k < w'
  · by_cases h1 : lo' + k < 64
    · have : ¬ (lo ≤ lo' + k ∧ lo' + k < lo + w) := by omega
      simp [hk, BitVec.getLsbD_eq_getElem h1, putBits_getElem, this]
    · simp [BitVec.getLsbD_of_ge, Nat.le_of_not_lt h1]
  · simp [hk]

/-! Tables -/

@[simp] theorem tab_get_set_same {α : Type} (dflt : α) (t : Tab α) (k : Nat) (v : α) : Tab.get dflt (Tab.set t k v) k = v := by
  induction t with
  | nil => simp [Tab.set, Tab.get]
  | cons e t ih =>
    obtain ⟨k', v'⟩ := e
    unfold Tab.set
    split
    · simp [Tab.get]
    · split
      · simp [Tab.get]
      · rename_i h; simp [Tab.get, h, ih]

theorem tab_get_set_other {α : Type} (dflt : α) (t : Tab α) (k k' : Nat) (v : α) (h : k' ≠ k) :
    Tab.get dflt (Tab.set t k v) k' = Tab.get dflt t k' := by
  induction t with
  | nil => simp [Tab.set, Tab.get, h]
  | cons e t ih =>
    obtain ⟨k2, v2⟩ := e
    unfold Tab.set
    split
    · simp [Tab.get, h]
    · split
      · rename_i h2; simp [Tab.get, h, ← h2]
      · simp only [Tab.get]; split <;> simp [ih]

/-! Byte memory -/

theorem mem_read_insert (m : Mem) (a a' : Nat) (b : Byte) :
    Mem.read (Mem.insert m a b) a' = if a' = a then b else Mem.read m a' := by
  induction m with
  | nil => simp [Mem.insert, Mem.read]
  | cons c m ih =>
    obtain ⟨a2, b2⟩ := c
    unfold Mem.insert
    split
    · simp [Mem.read]
    · split
      · rename_i h; subst h; simp only [Mem.read]; split <;> simp_all
      · rename_i h; simp only [Mem.read, ih]; split <;> split <;> simp_all

theorem mem_read_filter (m : Mem) (a a' : Nat) :
    Mem.read (m.filter fun c => c.1 != a) a' = if a' = a then 0 else Mem.read m a' := by
  induction m with
  | nil => simp [Mem.read]
  | cons c m ih =>
    obtain ⟨a2, b2⟩ := c
    by_cases h : a2 = a
    · subst h
      rw [List.filter_cons_of_neg (by simp), ih, Mem.read]
      by_cases h : a' = a2 <;> simp only [h, if_true, if_false]
    · have : (a2 != a) = true := by simpa using h
      simp only [List.filter_cons, this, if_true, Mem.read, ih]; split <;> split <;> simp_all

/-- A byte written reads as written; every other byte reads as before. -/
theorem mem_read_write (m : Mem) (a a' : Nat) (b : Byte) :
    (m.write a b).read a' = if a' = a then b else m.read a' := by
  unfold Mem.write
  split
  · rename_i h; rw [mem_read_filter, h]
  · rw [mem_read_insert]

theorem mem_wf_mono (m : Mem) (lo lo' : Nat) (h : lo' ≤ lo) (hw : Mem.wfFrom lo m = true) : Mem.wfFrom lo' m = true := by
  cases m with
  | nil => rfl
  | cons c m =>
    obtain ⟨a, b⟩ := c
    simp only [Mem.wfFrom, Bool.and_eq_true, decide_eq_true_eq] at *
    exact ⟨⟨by omega, hw.1.2⟩, hw.2⟩

theorem mem_wf_insert (m : Mem) (lo a : Nat) (b : Byte) (hb : b ≠ 0) (h : lo ≤ a) (hw : Mem.wfFrom lo m = true) :
    Mem.wfFrom lo (Mem.insert m a b) = true := by
  induction m generalizing lo with
  | nil => simp only [Mem.insert, Mem.wfFrom, Bool.and_eq_true, decide_eq_true_eq, bne_iff_ne]; exact ⟨⟨h, hb⟩, trivial⟩
  | cons c m ih =>
    obtain ⟨a2, b2⟩ := c
    simp only [Mem.wfFrom, Bool.and_eq_true, decide_eq_true_eq, bne_iff_ne] at hw
    unfold Mem.insert
    split
    · simp only [Mem.wfFrom, Bool.and_eq_true, decide_eq_true_eq, bne_iff_ne]
      exact ⟨⟨h, hb⟩, ⟨by omega, hw.1.2⟩, hw.2⟩
    · split
      · rename_i h2; subst h2
        simp only [Mem.wfFrom, Bool.and_eq_true, decide_eq_true_eq, bne_iff_ne]
        exact ⟨⟨h, hb⟩, hw.2⟩
      · simp only [Mem.wfFrom, Bool.and_eq_true, decide_eq_true_eq, bne_iff_ne]
        exact ⟨hw.1, ih (a2 + 1) (by omega) hw.2⟩

theorem mem_wf_filter (m : Mem) (lo a : Nat) (hw : Mem.wfFrom lo m = true) :
    Mem.wfFrom lo (m.filter fun c => c.1 != a) = true := by
  induction m generalizing lo with
  | nil => rfl
  | cons c m ih =>
    obtain ⟨a2, b2⟩ := c
    simp only [Mem.wfFrom, Bool.and_eq_true, decide_eq_true_eq, bne_iff_ne] at hw
    by_cases h : a2 = a
    · simp only [List.filter_cons, h, bne_self_eq_false]
      exact ih lo (mem_wf_mono m (a2 + 1) lo (by omega) hw.2)
    · have : (a2 != a) = true := by simpa using h
      simp only [List.filter_cons, this, if_true, Mem.wfFrom, Bool.and_eq_true, decide_eq_true_eq, bne_iff_ne]
      exact ⟨hw.1, ih (a2 + 1) hw.2⟩

/-- A write keeps the canonical form. -/
theorem mem_wf_write (m : Mem) (a : Nat) (b : Byte) (hw : m.wf = true) : (m.write a b).wf = true := by
  unfold Mem.write Mem.wf at *
  split
  · exact mem_wf_filter m 0 a hw
  · rename_i h; exact mem_wf_insert m 0 a b h (Nat.zero_le _) hw

/-- Writing a list of bytes keeps the canonical form. -/
theorem mem_wf_writeList (m : Mem) (a : Nat) (bs : List Byte) (hw : m.wf = true) : (m.writeList a bs).wf = true := by
  induction bs generalizing m a with
  | nil => exact hw
  | cons b bs ih => exact ih _ _ (mem_wf_write m a b hw)

/-- A list of bytes written reads as before outside it. -/
theorem mem_read_writeList_other (m : Mem) (a a' : Nat) (bs : List Byte) (h : a' < a ∨ a + bs.length ≤ a') :
    (m.writeList a bs).read a' = m.read a' := by
  induction bs generalizing m a with
  | nil => rfl
  | cons b bs ih =>
    simp only [List.length_cons] at h
    rw [Mem.writeList, ih _ _ (by omega), mem_read_write, if_neg (by omega)]

/-! Register cells -/

theorem regFind_insert (l : List RegCell) (r r' : Reg) (v : Word) :
    regFind (regInsert l r v) r' = if r' = r then some v else regFind l r' := by
  induction l with
  | nil => simp [regInsert, regFind]
  | cons c l ih =>
    obtain ⟨r2, v2⟩ := c
    unfold regInsert
    split
    · rename_i h; subst h; simp only [regFind]; split <;> simp_all
    · split
      · simp [regFind]
      · rename_i h _; simp only [regFind, ih]; split <;> split <;> simp_all

theorem regFind_filter (l : List RegCell) (r r' : Reg) :
    regFind (l.filter fun c => c.1 != r) r' = if r' = r then none else regFind l r' := by
  induction l with
  | nil => simp [regFind]
  | cons c l ih =>
    obtain ⟨r2, v2⟩ := c
    by_cases h : r2 = r
    · subst h; simp only [bne_self_eq_false, List.filter_cons, regFind]; split <;> simp_all
    · have : (r2 != r) = true := by simpa using h
      simp only [List.filter_cons, this, if_true, regFind, ih]; split <;> split <;> simp_all

/-- A register given a value: it reads so, every other register reads as before. -/
theorem rd_wr (d : Dev) (r r' : Reg) (v : Word) : (d.wr r v).rd r' = if r' = r then v else d.rd r' := by
  unfold Dev.rd Dev.wr
  by_cases h : v = r.resetVal d.fuses
  · simp only [h, if_true, regFind_filter]; split <;> simp_all
  · simp only [h, if_false, regFind_insert]; split <;> simp_all

@[simp] theorem rd_wr_same (d : Dev) (r : Reg) (v : Word) : (d.wr r v).rd r = v := by simp [rd_wr]

theorem rd_wr_other (d : Dev) (r r' : Reg) (v : Word) (h : r' ≠ r) : (d.wr r v).rd r' = d.rd r' := by simp [rd_wr, h]

/-- A field set in a register leaves every other register. -/
theorem rd_fset_other (d : Dev) (f : Fld) (n i j : Nat) (r : Reg) (h : r ≠ ⟨f.k, i, j⟩) : (d.fset f n i j).rd r = d.rd r :=
  rd_wr_other d _ r _ h

/-- What a field set does to every register. -/
theorem rd_fset (d : Dev) (f : Fld) (n i j : Nat) (r : Reg) :
    (d.fset f n i j).rd r = if r = ⟨f.k, i, j⟩ then putBits (d.rd r) f.lo f.w n else d.rd r := by
  unfold Dev.fset; rw [rd_wr]; split <;> simp_all

/-- A field set reads so. -/
theorem fget_fset_same (d : Dev) (f : Fld) (n i j : Nat) (h : f.lo + f.w ≤ 64) :
    (d.fset f n i j).fget f i j = n % 2 ^ f.w := by
  simp [Dev.fget, Dev.fset, h]

/-- A field set in another register, element or instance, or beside the field. -/
theorem fget_fset_other (d : Dev) (f g : Fld) (n i j i' j' : Nat)
    (h : f.k ≠ g.k ∨ i ≠ i' ∨ j ≠ j' ∨ f.lo + f.w ≤ g.lo ∨ g.lo + g.w ≤ f.lo) :
    (d.fset f n i j).fget g i' j' = d.fget g i' j' := by
  unfold Dev.fget
  rw [rd_fset]
  split
  · rename_i e
    simp only [Reg.mk.injEq] at e
    apply bitsOf_putBits_other
    rcases h with h | h | h | h
    · exact absurd e.1.symm h
    · exact absurd e.2.1.symm h
    · exact absurd e.2.2.symm h
    · exact h
  · rfl

/-! Bytes -/

@[simp] theorem leBytes_length (n v : Nat) : (leBytes n v).length = n := by
  induction n generalizing v with
  | zero => rfl
  | succ n ih => simp [leBytes, ih]

/-- The value of the `n` bytes of a value is its value below 256^n. -/
@[simp] theorem leNat_leBytes (n v : Nat) : leNat (leBytes n v) = v % 256 ^ n := by
  induction n generalizing v with
  | zero => simp [leBytes, leNat, Nat.mod_one]
  | succ n ih =>
    have h : v % 256 ^ (n + 1) = v % 256 + 256 * (v / 256 % 256 ^ n) := by rw [pow_succ', Nat.mod_mul]
    simp [leBytes, leNat, ih, h]

end Sys2Proof.Machine
end

