-- ==== Sys2Proof/Laws/Issue.lean ====
section
/-! SUPPORT. What the wrappers of a meaning do (`onReset`, `onAny`, `onDev`, `onReg`, `onTap`), and the issue of a Wygel
instruction. -/

namespace Sys2Proof.Machine

/-- A command that moves neither `boot` nor a fuse has its effect. -/
theorem onAny_next (s : State) (f : Dev → Dev) (hb : (f s.dev).gable.boot = s.dev.gable.boot)
    (hf : (f s.dev).fuses = s.dev.fuses) : onAny s f = .next { s with dev := f s.dev } := by
  simp only [onAny, onReset]; rw [← hb, ← hf]

theorem onDev_next (s : State) (f : Dev → Dev) (h : s.dev.inReset = false) (hb : (f s.dev).gable.boot = s.dev.gable.boot)
    (hf : (f s.dev).fuses = s.dev.fuses) : onDev s f = .next { s with dev := f s.dev } := by
  unfold onDev
  rw [onAny_next] <;> simp [h, hb, hf]

/-- While the device is held in reset, a command has no effect. -/
theorem onDev_held (s : State) (f : Dev → Dev) (h : s.dev.inReset = true) : onDev s f = .next s := by
  unfold onDev
  rw [onAny_next] <;> simp [h]

/-- Control space answers: a write of a register in a block that answers has its effect. -/
theorem onReg_next (s : State) (f : Dev → Dev) (h : s.dev.answers = true) (hb : (f s.dev).gable.boot = s.dev.gable.boot)
    (hf : (f s.dev).fuses = s.dev.fuses) : onReg s f = .next { s with dev := f s.dev } := by
  unfold onReg
  rw [onAny_next] <;> simp [h, hb, hf]

/-- Where control space does not answer, the write has no effect. -/
theorem onReg_held (s : State) (f : Dev → Dev) (h : s.dev.answers = false) : onReg s f = .next s := by
  unfold onReg
  rw [onAny_next] <;> simp [h]

/-- Outside a soft reset, a register write in a block that would wait for it has its effect. -/
theorem onWaitingReg_next (c : Instr) (s : State) (f : Dev → Dev) (h : s.dev.answers = true)
    (hp : s.dev.fget CSP_STATUS.PHASE ≠ 4) (hb : (f s.dev).gable.boot = s.dev.gable.boot)
    (hf : (f s.dev).fuses = s.dev.fuses) : onWaitingReg c s f = .next { s with dev := f s.dev } := by
  unfold onWaitingReg
  rw [onAny_next] <;> simp [h, hp, hb, hf]

/-- In a soft reset it waits. -/
theorem onWaitingReg_waits (c : Instr) (s : State) (f : Dev → Dev) (h : s.dev.answers = true)
    (hp : s.dev.fget CSP_STATUS.PHASE = 4) :
    onWaitingReg c s f = .next { s with dev := { s.dev with held := s.dev.held ++ [c] } } := by
  unfold onWaitingReg
  rw [onAny_next] <;> simp [h, hp]

@[simp] theorem turn_thr (d : Dev) (t : Nat) : (d.turn t).thr t = { d.thr t with owes := [] } := by
  simp [Dev.turn, Dev.thr, Dev.setThr]

@[simp] theorem turn_codeOf (d : Dev) (t : Nat) (th : Thread) : (d.turn t).codeOf th = d.codeOf th := rfl

/-- An instruction issued: ILLEGAL, then PRIV, then its own effect. -/
theorem issue_runs (d : Dev) (t : Nat) (legal mgr : Bool) (act : Dev → Thread → Dev) (h : d.issues t) :
    d.issue t legal mgr act =
      (let e := d.turn t
       let th := e.thr t
       if !legal then e.takeException t 1 th.pc th.pc.toNat
       else if mgr && th.priv then e.takeException t 2 th.pc th.pc.toNat
       else act e th).trySwitch := by
  obtain ⟨_, hh, hy, _, hr, im, hc, hp, hb⟩ := h
  have hp' : ¬ im.codeLen ≤ (d.thr t).pc.toNat := by omega
  have hc' : d.codeOf { d.thr t with owes := [] } = some im := hc
  have hb' : (d.turn t).wygel.pstoreBad.contains (fetchWord im (d.thr t).pc) = false := by
    simpa using (show fetchWord im (d.thr t).pc ∉ (d.turn t).wygel.pstoreBad from hb)
  unfold Dev.issue
  rw [if_neg (by simp [hr, hh, hy])]
  simp only [turn_thr, turn_codeOf, hc', hp', hb', if_false, Bool.false_eq_true]
  split <;> [rfl; split <;> rfl]

/-- With no hot update waiting, none switches. -/
theorem trySwitch_none (d : Dev) (h : d.wygel.update = none) : d.trySwitch = d := by
  unfold Dev.trySwitch; rw [h]

end Sys2Proof.Machine
end

