-- ==== Sys2Proof/WellFormed.lean ====
section
/-! DEFINITION. Which commands a sender can send: the bounds that the operand types leave open. A meaning is total all the
same; these checks say what lies inside the spec's formats. -/

namespace Sys2Proof

/-- A request's form (R24, R407, R502): a CXL.mem or CXL.cache request is of one aligned line of 64 bytes, a CXL.io request of 1
to 4,096 bytes; the data fits the length; addresses have 64 bits, a virtual switch has 32 bridges, and a message 32 cells
(R339). -/
def HostReq.wellFormed (r : HostReq) : Bool :=
  let line := match r.op with
    | .ioRead | .ioNonPosted | .ioAtomic | .ioPosted => false
    | _ => true
  (if line then r.len == 64 && r.addr % 64 == 0 else decide (1 ≤ r.len ∧ r.len ≤ 4096)) &&
    decide (r.data < 256 ^ r.len ∧ r.addr < 2 ^ 64 ∧ r.vb < 32 ∧ 16 + r.len + r.extra ≤ 8192)

/-- A port message's form. -/
def PortMsg.wellFormed : PortMsg → Bool
  | .request r => r.wellFormed
  | .response _ data _ extra => decide (data < 256 ^ 4096 ∧ 16 + extra ≤ 4096)
  | .unsupported _ => true
  | .biEnable _ => true
  | .dpcEnable vb _ | .slotCapability vb => decide (vb < 32)
  | .vfRead f off _ => decide (f < 256) && decide (off < 0x10000)
  | .viral ld => decide (ld < 16)
  | .cdatRead | .dcConfiguration | .serviceFunction => true
  | .reserved typ => decide (typ < 256)

/-- A corrected bit is one of a word's 146, or 0xFF for two bits (R522, R543). -/
def WordRead.wellFormed : WordRead → Bool
  | .good | .uncorrectable => true
  | .corrected b => decide (b < 146) || b == 255

/-- A path error's form. -/
def PathErr.wellFormed : PathErr → Bool
  | .table _ r => r.wellFormed
  | .datapath _ _ | .retry _ => true

/-- A cell state's form: a message has at most 64 data words of 64 bytes. -/
def CellState.wellFormed : CellState → Bool
  | .words n => decide (1 ≤ n ∧ n ≤ 64)
  | .whole | .header => true

/-- An L0p request names a width (R203). -/
def LinkPm.wellFormed : LinkPm → Bool
  | .l0p w => w == 4 || w == 8 || w == 16
  | .aspmL1 | .pciPmL1 => true

/-- The payload of a message that carries bytes: 1 to 4,096 of them (R610). -/
def payloadOk (bytes : List Byte) : Bool := decide (1 ≤ bytes.length ∧ bytes.length ≤ 4096)

/-- A command's form. -/
def Instr.wellFormed : Instr → Bool
  | .imageData _ _ _ _ _ bytes => decide (1 ≤ bytes.length ∧ bytes.length < 2 ^ 16)
  | .mbox _ _ _ _ _ bytes => payloadOk bytes
  | .flashWrite _ _ _ _ bytes => payloadOk bytes
  | .baleData _ _ _ _ _ bytes => decide (bytes.length < 2 ^ 16)
  | .challenge _ _ _ nonce => nonce.length == 32
  | .getMeasurements _ _ _ _ nonce => nonce.length == 32
  | .ingressMessage _ m errs => m.wellFormed && errs.all PathErr.wellFormed
  | .pbrMessage _ _ _ m errs => m.wellFormed && errs.all PathErr.wellFormed
  | .egressSlot _ _ cs _ => cs.wellFormed
  | .tlkTxSlot _ _ cs _ => cs.wellFormed
  | .tlkDataFlit _ _ payload _ _ => payload.length == 236
  | .tlkIdleFlit _ _ payload _ => payload.length == 236
  | .l0pRequest _ what => what.wellFormed
  | .scrubVisit _ r => r.wellFormed
  | _ => true

end Sys2Proof
end

