-- ==== Sys2Proof/Tests/Slice0.lean ====
section
/-! SUPPORT. The model's own tests: ill-formed commands that the form check refuses; for each statement of
Certificates/Slice0/Obligations.lean a state and operands that meet the hypotheses of its clauses; and single commands whose
effect the cited rule gives. Expected values come from the spec or from hand calculation by its rules. -/

namespace Sys2Proof.Tests

set_option Elab.async false

open Sys2Proof.Machine

/-! Helpers -/

/-- What a command makes of a device, for a command that answers a next state. -/
def after (i : Instr) (d : Dev) : Dev :=
  match exec i ⟨d, []⟩ with
  | .next s => s.dev
  | _ => d

/-- A manager image with both handlers, code 64 bytes long in page 0, scratch in pages 1 and 2. -/
def mgrImage : Image := ⟨1, 1, 1, 64, 8192, 0, 16, 32, 0, 0, 1, 1, 2, none, []⟩

/-- A second manager image without a handler. -/
def bareImage : Image := { mgrImage with id := 2, excEntry := 0xFFFFFFFF, codePage := 1, scratchPage := 3 }

/-- The image of fold 5: its scratch window is page 8. -/
def foldImage : Image := ⟨0, 1, 0, 64, 4096, 0, 0xFFFFFFFF, 0xFFFFFFFF, 0, 2, 1, 8, 1, some 5, []⟩

/-- A device that runs, with nothing in it and its fuses blank. -/
def bare : Dev := { fuses := ⟨0, 0, false, 0⟩, wygel := { keys := [], slotEntry := [0, 1, 2, 3] }, gable := { boot := .up } }

/-- A running manager thread of image 1 at address 8. -/
def mgr : Thread := { state := .run, pc := 8, image := some 1 }

/-- A running thread of fold 5 at address 8. -/
def fld : Thread := { state := .run, pc := 8, priv := true, fid := 5, engine := 1 }

/-- The device with three images, a manager thread 0 and a fold thread 1; image 1 is the supervisor's. -/
def dev0 : Dev :=
  ({ bare with
      wygel := { bare.wygel with images := [mgrImage, bareImage, foldImage] }, threads := [(0, mgr), (1, fld)] } : Dev).fset
    WGL_CTRL.SUPV_IMG 1

/-- `dev0` with thread 0 changed. -/
def with0 (f : Thread → Thread) : Dev := dev0.setThr 0 (f mgr)

/-- Thread 0's registers 1 and 2 given. -/
def regs (a b : Word) : Dev := with0 fun th => { th with gpr := [(1, a), (2, b)] }

/-- `Dev.issues` as a computation. -/
def ready (d : Dev) (t : Nat) : Bool :=
  !d.inReset && !d.threadsHeld && !d.mustYield t && d.wygel.update.isNone && (d.thr t).state == .run &&
    match d.codeOf (d.thr t) with
    | some im => decide ((d.thr t).pc.toNat < im.codeLen) && !d.wygel.pstoreBad.contains (fetchWord im (d.thr t).pc)
    | none => false

theorem ready_issues (d : Dev) (t : Nat) (h : ready d t = true) : d.issues t := by
  unfold ready at h
  simp only [Bool.and_eq_true, Bool.not_eq_true', Option.isNone_iff_eq_none, beq_iff_eq] at h
  obtain ⟨⟨⟨⟨⟨h1, h2⟩, h3⟩, h4⟩, h5⟩, h6⟩ := h
  split at h6
  · rename_i im he
    simp only [Bool.and_eq_true, decide_eq_true_eq, Bool.not_eq_true', List.contains_eq_mem, decide_eq_false_iff_not] at h6
    exact ⟨h1, h2, h3, h4, h5, im, he, h6.1, h6.2⟩
  · cases h6

/-- A frame for port 0 of a device with a blank serial (R630). -/
def frame0 : EthFrame := ⟨none, bare.macOf 0, bare.linkLocal, false⟩

/-- Port 0, in the secured channel. -/
def via : FcpFrom := ⟨0, true, false, frame0⟩

/-- `dev0` with Ethernet port 0 up and secured, and session 9 open. -/
def net : Dev :=
  ((((dev0.fset ETH_CFG.EN 1).fset ETH_STAT.LINK 1).fset ETH_STAT.SECURED 1).fset ETH_SESSION.OPEN 1).fset ETH_SESSION.SESSION 9

/-- `Dev.executes` as a computation. -/
def takes (d : Dev) (via : FcpFrom) (typ session seq : Nat) : Bool :=
  d.reached via && (via.secured || !d.fon ETH_MACSEC.REQUIRE via.port) &&
    (!d.fon CHN_BOOT.RECOVERY || [0x01, 0x02, 0x03, 0x10, 0x70, 0x31].contains typ) &&
    d.session && d.fget ETH_SESSION.SESSION == session && (d.fcp.replies.all fun r => r.1 != seq) &&
    !d.fcp.executing.contains seq && !d.staleSeq seq

theorem takes_executes (d : Dev) (via : FcpFrom) (typ session seq : Nat) (h : takes d via typ session seq = true) :
    d.executes via typ session seq := by
  simp only [takes, Bool.and_eq_true, Bool.or_eq_true, Bool.not_eq_true', beq_iff_eq, List.all_eq_true, bne_iff_ne, ne_eq,
    List.contains_eq_mem, decide_eq_false_iff_not, decide_eq_true_eq] at h
  obtain ⟨⟨⟨⟨⟨⟨⟨h1, h2⟩, h3⟩, h4⟩, h5⟩, h6⟩, h7⟩, h8⟩ := h
  exact ⟨h1, h2, h3, h4, h5, h6, h7, h8⟩

/-- What the device sent. -/
def sent (i : Instr) (d : Dev) : List OutMsg := (after i d).out

/-- Thread 0 with a register address in g1 and a value in g2. -/
def atReg (a : Nat) (v : Word) : Dev := regs (BitVec.ofNat 64 a) v

/-- A request of thread 0 to the pool, in flight. -/
def poolFlight (write : Bool) (answer : Option (Nat × Bool)) : Flight :=
  { tag := 7, epoch := false, src := .thread 0, kind := .readU, write := write, addr := 0x1000, admitted := 0, answer := answer }

/-- Thread 0 waiting, with a flight. -/
def waiting (w : Wait) (fs : List Flight) : Dev :=
  { with0 fun th => { th with state := .wait, wait := w, postFail := true } with core := { dev0.core with flights := fs } }

/-- A search of the four CSP_SCRATCH registers for 5. -/
def scratchSearch (mode first : Nat) : Search := ⟨3, 0x40, 8, 4, first, 5, 0xFF, mode, 0⟩

/-- A search block at scratch 0x1000 (manager address 0): base 0x40, stride 8, `n` elements, mask and key 0. -/
def searchBlock (n : Nat) : Dev :=
  { regs 0 2 with wygel := { dev0.wygel with scratch := (Mem.writeList [] 0x1000 (leBytes 8 0x40 ++ leBytes 4 8 ++ leBytes 4 n)) } }

/-- Time LOCKED at NOW = 10^6, thread 0 with T in g1 and set 3 in g2. -/
def locked (T : Nat) : Dev :=
  ((regs (BitVec.ofNat 64 T) 3).fset TIM_STATUS.STATE 2).fset TIM_NOW.NOW 1000000

/-- Thread 0 with scratch operand 0x100 in g1 and a length in g2. -/
def mailer (n : Nat) : Dev := net.setThr 0 { mgr with gpr := [(1, 0x100), (2, BitVec.ofNat 64 n)] }

/-- A message for image 1 on channel 7. -/
def letter (bs : List Byte) : Mail := ⟨1, 7, bs, 3, 0, 0⟩

/-- A descriptor of 64 bytes: opcode, LEN, SRC, DST. -/
def desc (op len src dst : Nat) : List Byte :=
  leBytes 1 op ++ leBytes 3 0 ++ leBytes 4 len ++ leBytes 8 src ++ leBytes 8 dst ++ List.replicate 40 0

/-- A ZERO job's descriptor at the start of the thread's scratch, for thread 0 or a thread of fold 5. -/
def jobs (op : Nat) : Dev :=
  let d : Dev := { dev0 with wygel := { dev0.wygel with
    scratch := Mem.writeList (Mem.writeList [] 0x1000 (desc op 64 0 0x2000)) 0x8000 (desc op 64 0 0x2000) } }
  ((d.setThr 0 { mgr with gpr := [(1, 0), (2, 0x40)] }).setThr 1 { fld with gpr := [(1, 0), (2, 0x40)] }).fset FLD_SHARE.COUNTED 1 5

/-- An image of 288 bytes by R81: 4 bytes of code, no data, no scratch, no thread. -/
def imageBytes (typ flags id threads : Nat) : List Byte :=
  leBytes 4 0x4C475957 ++ leBytes 2 1 ++ leBytes 1 typ ++ leBytes 1 flags ++ leBytes 4 id ++ leBytes 4 1 ++
    leBytes 4 0x80 ++ leBytes 4 4 ++ leBytes 4 192 ++ leBytes 4 0 ++ leBytes 4 0 ++
    leBytes 4 0 ++ leBytes 4 0xFFFFFFFF ++ leBytes 4 0xFFFFFFFF ++ leBytes 4 0xFFFFFFFF ++ leBytes 1 threads ++ leBytes 3 0 ++
    leBytes 4 288 ++ List.replicate 68 0 ++ [1, 2, 3, 4] ++ List.replicate 60 0 ++ List.replicate 96 0

/-- `net` with an image received whole, the reply of its last message still to come. -/
def received (bs : List Byte) : Dev :=
  { net with wygel := { net.wygel with keys := [⟨1, 2, true, false⟩], rxImage := bs, rxTotal := bs.length, rxWhole := some (0, 4) } }

/-- `net` outside the secured channel, which REQUIRE asks for, and inside it. -/
def plain : FcpFrom := ⟨0, false, false, frame0⟩

/-- `net` with 64 replies kept, for SEQ 100. -/
def kept : Dev := { net with fcp := { net.fcp with replies := List.replicate 64 (100, 0x20, 0, []) } }

/-- `net` with time locked, virtual switch 2 with a pool, and LEAD of ETH_FMAPI within the commit's limits. -/
def fabric : Dev := ((net.fset TIM_STATUS.STATE 2).fset CXP_VSW_CFG.EN 1 2)

/-- What an FM-API command answers. -/
def answers (i : Instr) (d : Dev) : Option OutMsg := (sent i d).getLast?

/-- The time unit in a state with a source, at NOW = 10^6, with LOCK_COUNT measured offsets. -/
def timed (state src : Nat) (o : Int) : Dev :=
  let d := (((with0 fun th => { th with evmask := 16 }).fset TIM_STATUS.STATE state).fset TIM_CTRL.SRC src).fset TIM_NOW.NOW 1000000
  { d with time := { d.time with offsets := List.replicate (max 1 (d.fget TIM_LOCK_CFG.LOCK_COUNT)) o } }

/-- Set 3 pending at 2 × 10^6 with DEFAULT_CLASS = 5 staged. -/
def pending3 : Dev :=
  let d := ((locked 0).fset TIM_COMMIT_STAT.STATE 2 0 3).fset TIM_COMMIT_INSTANT.INSTANT 2000000 0 3
  { d with commits := { d.commits with order := [3], sets := [(3, [⟨0x140000000018, 8, 5, 0⟩])] } }

/-- Port `p` in a mode and a state, trained to four lanes. -/
def aPort (p mode st : Nat) (d : Dev) : Dev :=
  ((d.fset CXP_PORT_CFG.MODE mode p).fset CXP_LINK_STAT.STATE st p).fset CXP_LINK_STAT.WIDTH 4 p

/-- Register fields set: field, value, instance, element. -/
def sets (l : List (Fld × Nat × Nat × Nat)) (d : Dev) : Dev := l.foldl (fun (d : Dev) x => d.fset x.1 x.2.1 x.2.2.1 x.2.2.2) d

/-- Host of virtual switch 2 on port 4, and pool device 9 behind port 8; DPA 0 to 4 GiB of the host, decoded from HPA 256 GiB, is
bound to fields 10 to 13, of which field 10 is WHOLE in frame 3 of device 9; the Hedgerow rules allow everything but HPA 257 GiB. -/
def cxl : Dev :=
  let d := sets [(CXP_VSW_CFG.EN, 1, 2, 0), (CXP_VSW_CFG.USP, 4, 2, 0), (CXP_PORT_CFG.VSW, 2, 4, 0), (CXP_POOL_REGION.SIZE_GIB, 4, 2, 0),
    (TMP_BIND0.VALID, 1, 128, 0), (TMP_BIND0.LEN_GIB, 4, 128, 0), (TMP_BIND1.FIELD, 10, 128, 0),
    (TMP_FIELD0.MODE, 2, 10, 0), (TMP_FIELD0.DEV, 9, 10, 0), (TMP_FIELD0.FRAME, 3, 10, 0), (TMP_FIELD1.BIND_COUNT, 1, 10, 0),
    (TMP_DEV_CFG.PORT, 8, 0, 9), (TMP_DEV_CFG.STATE, 1, 0, 9), (TMP_DEV_STAT.STATE, 1, 0, 9), (TMP_DEV_CFG.SIZE_GIB, 16, 0, 9),
    (HRW_PORT_RULE0.VALID, 1, 4, 0), (HRW_PORT_RULE0.BASE, 257 * 2 ^ 18, 4, 0), (HRW_PORT_RULE1.LIMIT, 258 * 2 ^ 18 - 1, 4, 0),
    (HRW_PORT_RULE0.VALID, 1, 4, 1), (HRW_PORT_RULE0.READ, 1, 4, 1), (HRW_PORT_RULE0.WRITE, 1, 4, 1), (HRW_PORT_RULE0.CACHE, 1, 4, 1),
    (HRW_PORT_RULE1.LIMIT, 2 ^ 40 - 1, 4, 1), (HRW_POOL_RULE0.VALID, 1, 0, 0), (HRW_POOL_RULE0.READ, 1, 0, 0),
    (HRW_POOL_RULE0.WRITE, 1, 0, 0), (HRW_POOL_RULE0.CACHE, 1, 0, 0), (HRW_POOL_RULE1.LIMIT, 2 ^ 40 - 1, 0, 0),
    (HRW_POOL_RULE2.HOSTS, 2 ^ 64 - 1, 0, 0)] (aPort 8 2 2 (aPort 4 1 2 bare))
  d.setPool 2 { decoders := [(0, ⟨256 * 2 ^ 30, 4 * 2 ^ 30, 0⟩)] }

/-- A read of one line by the host, with its tag. -/
def rdLine (a tag : Nat) : HostReq := ⟨.memRd .none true, a, 64, tag, 0, false, 0, 0⟩

/-- A Thatchlink port 4, its link layer in a state, with its flits kept and its next sequence. -/
def tlk (ll : Nat) (x : TlkPort) : Dev :=
  (sets [(TLK_STATUS.LL_STATE, ll, 4, 0), (TLK_STATUS.RX_EXPECT, 1023, 4, 0), (TLK_STATUS.TX_NEXT, 7, 4, 0)] (aPort 4 4 2 dev0)).setTlk 4 x

/-- A DATA flit as kept. -/
def kflit (seq : Nat) : TlkFlit := { seq := seq, vc := 1, pool := false, ends := 1, opens := false }

/-- `imageBytes 1 0 9 1` with VERSION 3, without its signature. -/
def unsigned : List Byte := ((imageBytes 1 0 9 1).take 192).set 12 3

/-- Its SHA-384. -/
def digest : Nat :=
  0x6dfdc5cfa1bb1961922f77c44a479a6e2cc2580d2f392f9dd5968d7b9f8f6cc09c446653b2e6e69315196dce0e13907f

/-- That image signed with r = s = its digest. -/
def signed : List Byte := unsigned ++ beBytes 48 digest ++ beBytes 48 digest

/-- A key under which ECDSA accepts this: with u1 = u2 = 1 it is the point of abscissa r less the generator. -/
def signer : KeyEntry :=
  ⟨0x5333f0a38050164951f60b0504413e8240be4b34e2c5149a216829a2c02da0dfe4444ff3616a9484523fce1e68cf5444,
   0x91348bc0cf359c7c631a831685c2e9e4d9aebe6242e02c2c6c96d1910eb5ffb46d57bc8fde0437d1da6ae0f5c7903590, true, false⟩

/-- What a bring-up finds: the lanes that train, reversed or not, a rate, and a partner. -/
def trained (lanes : BitVec 16) (reversed : Bool) (rate partner : BitVec 3) : LinkTraining :=
  ⟨⟨lanes, reversed, 6, 4⟩, ⟨rate, false, false, [], 2⟩, ⟨partner, false, false⟩, ⟨0x1D4A, 0x54, 1⟩⟩

/-- TRAINING_DONE with what a bring-up finds, and LL_START. -/
def trainsTo (p : Fin 128) (t : LinkTraining) : Instr :=
  .trainingDone p t.toLaneTraining t.rate t.bypass t.reuse t.eqFailed t.lowMerit t.toPartnerKind t.toAltProtocol
def startsWith (p : Fin 128) (t : LinkTraining) : Instr := .llStart p t.toLaneTraining t.toEqTraining t.toLinkOffer

/-- Lanes 16 to 19 equalised at a rate. -/
def equal (rate : Nat) (d : Dev) : Dev :=
  [16, 17, 18, 19].foldl (fun (d : Dev) l => d.setLane l { d.lane l with eqRate := some rate }) d

/-- Lanes 16 to 19 switched off: nothing that bring-up puts into them is open. -/
def dark (d : Dev) : Dev := [16, 17, 18, 19].foldl (fun (d : Dev) l => d.fset LAN_CTRL.LANE_EN 0 l) d

/-- A response waiting for port 4 in class 1. -/
def rsp (tag : Nat) : QMsg :=
  { body := .response tag (some 5) false none, ingress := some 8, egress := 4, cls := 1, flow := 0, chan := .mem, len := 80, ep := false }

/-- A tiering migration of sward entry 2562 to device 6. -/
def tierMove : Migration := ⟨2562, 20, 9, 6 * 512 + 2, 6, 7, 32768, none, .tier, 0, 0, 0⟩

/-- `cxl` with device 9 on tier 1 and device 6 on tier 0; field 20 SPLIT in slot 5: sward 0 PLACED, 1 LOST, 2 MIGRATING in slot 3 of the
migrations; device 6 has a zeroed frame 2 and a free sward frame 100; mover 0 runs. -/
def tmp : Dev :=
  let d := sets [(TMP_DEV_CFG.TIER, 1, 0, 9), (TMP_DEV_STAT.STATE, 1, 0, 6), (TMP_DEV_CFG.SIZE_GIB, 16, 0, 6), (TMP_DEV_CFG.PORT, 8, 0, 6),
    (TMP_FIELD0.MODE, 3, 20, 0), (TMP_FIELD0.SLOT, 5, 20, 0), (TMP_SWARD.STATE, 2, 2560, 0), (TMP_SWARD.DEV, 9, 2560, 0),
    (TMP_SWARD.FRAME2M, 6 * 512, 2560, 0), (TMP_SWARD.STATE, 1, 2561, 0), (TMP_SWARD.STATE, 3, 2562, 0), (TMP_SWARD.DEV, 9, 2562, 0),
    (TMP_SWARD.FRAME2M, 6 * 512 + 2, 2562, 0), (TMP_MIGR_CFG.TIER_MAX, 4, 0, 0), (DMV_CTRL.EN, 1, 0, 0), (TMP_MIGR_SLOT.STATE, 1, 0, 3),
    (TMP_MIGR_SLOT.PASS, 1, 0, 3), (TMP_MIGR_CFG.MAX_PASSES, 4, 0, 0), (TMP_MIGR_CFG.STALL_LINES, 64, 0, 0), (TMP_MIGR_STAT0.ACTIVE, 1, 0, 0),
    (TMP_ALLOC_CFG.ZERO_MOVERS, 1, 0, 0), (TIM_NOW.NOW, 1500, 0, 0)] cxl
  { d with thatch := { d.thatch with
    frames := [(frameKey 6 0, .carved), (frameKey 6 2, .zeroed), (frameKey 9 3, .whole), (frameKey 9 6, .carved)]
    sframes := [(sframeKey 6 100, .zeroed)]
    migrations := [(3, tierMove)] } }

/-! Wygel: arithmetic, scratch, control (03_wygel_machine.md, 04_wygel_instructions.md) -/

/-- Threads 0 and 1 of `dev0` issue. -/
theorem witness_issues : dev0.issues 0 ∧ dev0.issues 1 := ⟨ready_issues _ _ (by decide +kernel), ready_issues _ _ (by decide +kernel)⟩

/-- IntegerArithmeticResults: R107's carry, R108's overflow and division by zero. -/
theorem witness_IntegerArithmeticResults :
    let d := regs 0x8000000000000000 0x8000000000000000
    ready d 0 = true ∧
    (let e := after (.add 0 3 1 2) d;
      (e.thr 0).g 3 = 0 ∧ (e.thr 0).flags = ⟨true, false, true, true⟩ ∧ (e.thr 0).pc = 12) ∧
    (let e := after (.divu 0 3 1 0) d;
      (e.thr 0).g 3 = 0xFFFFFFFFFFFFFFFF ∧ (e.thr 0).flags = ⟨false, true, false, true⟩) ∧
    ((after (.cmp 0 0 0 1) d).thr 0).flags = ⟨false, true, true, true⟩ := by decide +kernel

theorem test_shift : let d := regs 0xC000000000000001 0x41
    ready d 0 = true ∧
    (((after (.shl 0 3 1 2) d).thr 0).g 3, ((after (.shl 0 3 1 2) d).thr 0).flags.c) = (0x8000000000000002, true) ∧
    (((after (.shr 0 3 1 2) d).thr 0).g 3, ((after (.shr 0 3 1 2) d).thr 0).flags.c) = (0x6000000000000000, true) ∧
    ((after (.sar 0 3 1 2) d).thr 0).g 3 = 0xE000000000000000 := by decide +kernel

theorem test_logic_mul : let d := regs 0xF0F0 0xFFFFFFFFFFFFFFFF
    ((after (.and 0 3 1 2) d).thr 0).g 3 = 0xF0F0 ∧ ((after (.or 0 3 1 2) d).thr 0).g 3 = 0xFFFFFFFFFFFFFFFF ∧
    ((after (.xor 0 3 1 2) d).thr 0).g 3 = 0xFFFFFFFFFFFF0F0F ∧ ((after (.andn 0 3 1 2) d).thr 0).g 3 = 0 ∧
    ((after (.sub 0 3 1 2) d).thr 0).g 3 = 0xF0F1 ∧ ((after (.mul 0 3 1 2) d).thr 0).g 3 = 0xFFFFFFFFFFFF0F10 ∧
    ((after (.mulhu 0 3 1 2) d).thr 0).g 3 = 0xF0EF ∧ ((after (.remu 0 3 2 1) d).thr 0).g 3 = 0xf0f := by
  decide +kernel

/-- ImmediateResults: the two extensions, the shift counts at their bounds, MOVK's halfwords. -/
theorem witness_ImmediateResults :
    let d := regs 1 0
    ready d 0 = true ∧
    ((after (.addi 0 3 1 0xFFFF) d).thr 0).g 3 = 0 ∧ ((after (.ori 0 3 1 0xFFFF) d).thr 0).g 3 = 0xFFFF ∧
    ((after (.andi 0 3 1 0xFFFF) d).thr 0).g 3 = 1 ∧ ((after (.xori 0 3 1 0xFFFF) d).thr 0).g 3 = 0xFFFE ∧
    ((after (.shli 0 3 1 63) d).thr 0).g 3 = 0x8000000000000000 ∧ ((after (.shri 0 3 1 1) d).thr 0).flags = ⟨true, false, true, false⟩ ∧
    ((after (.sari 0 3 1 0) d).thr 0).g 3 = 1 ∧ ((after (.cmpi 0 0 1 0xFFFF) d).thr 0).flags = ⟨false, false, true, false⟩ ∧
    ((after (.movi 0 3 0 0x8000) d).thr 0).g 3 = 0xFFFFFFFFFFFF8000 ∧
    ((after (.movk 0 1 3 0xABCD) d).thr 0).g 1 = 0xABCD000000000001 := by decide +kernel

/-- ScratchLoads, ScratchStores and ScratchTraps: the last bytes within reach, the first beyond, a misaligned address, a
poisoned word; a fold thread's window is page 8. -/
theorem witness_Scratch :
    let d : Dev := { regs 0x1122334455667788 0x1FF8 with wygel := { dev0.wygel with scratchPoison := [512] } }
    let f := d.setThr 1 { fld with gpr := [(1, 0xAB), (2, 4095)] }
    ready d 0 = true ∧ ready f 1 = true ∧ d.scratchAddr (d.thr 0) 0x1FF8 8 = some 0x2FF8 ∧
    d.scratchPoisoned 0x2FF8 8 = false ∧ d.scratchPoisoned 0x1000 1 = true ∧
    f.scratchAddr (f.thr 1) 4095 1 = some 0x8FFF ∧ f.scratchAddr (f.thr 1) 4096 1 = none ∧
    (let e := after (.std 0 1 2 0) d;
      (e.wygel.scratch.read 0x2FF8, e.wygel.scratch.read 0x2FFF) = (0x88, 0x11) ∧ e.wygel.scratch.wf = true ∧
      ((after (.ldw 0 3 2 4) e).thr 0).g 3 = 0x11223344 ∧ ((after (.ldh 0 3 2 6) e).thr 0).g 3 = 0x1122 ∧
      ((after (.ldd 0 3 2 0) e).thr 0).g 3 = 0x1122334455667788 ∧
      ((after (.ldb 0 3 2 3) e).thr 0).g 3 = 0x55) ∧
    (after (.stb 1 1 2 0) f).wygel.scratch.read 0x8FFF = 0xAB ∧
    (after (.std 0 1 0 0) d).wygel.scratchPoison = [] ∧ (after (.stw 0 1 0 0) d).wygel.scratchPoison = [512] ∧
    (after (.sth 0 1 2 2) d).wygel.scratch.read 0x2FFB = 0x77 ∧
    ((after (.ldd 0 3 2 4) d).thr 0).ecode = 4 ∧ ((after (.ldb 1 3 2 1) f).thr 1).ecode = 5 ∧
    ((after (.ldb 0 3 0 7) d).thr 0).ecode = 8 := by decide +kernel

/-- BranchesAndJumps: each condition is met by some flags, a backward target, CALLR onto its own register. -/
theorem witness_BranchesAndJumps :
    let d := with0 fun th => { th with flags := ⟨false, true, false, false⟩, gpr := [(1, 0x20)] }
    ready d 0 = true ∧
    ((List.range 15).map fun k => ((after (.br 0 (BitVec.ofNat 5 k) 0x1FFFFF) d).thr 0).pc.toNat) =
      [4, 12, 4, 12, 4, 4, 12, 12, 4, 4, 12, 4, 12, 4, 12] ∧
    (let e := after (.call 0 0 4) d;
      (e.thr 0).pc = 24 ∧ (e.thr 0).g 31 = 12) ∧
    ((after (.jr 0 0 1 0) d).thr 0).pc = 0x20 ∧
    (let e := after (.callr 0 1 1 0) d;
      (e.thr 0).pc = 0x20 ∧ (e.thr 0).g 1 = 12) := by decide +kernel

/-- SystemGroup: a marked thread parks, FNC with and without a posted write, the handler's return. -/
theorem witness_SystemGroup :
    let d := with0 fun th => { th with marked := true, postFail := true, ecause := 0x30000034A, epc := 0x24 }
    ready d 0 = true ∧ d.posted 0 = [] ∧
    ((after (.yld 0 0 0 0) d).thr 0).state = .parked ∧ ((after (.hlt 0 0 0 0) d).thr 0) = {} ∧
    ((after (.fnc 0 0 0 0) d).thr 0).flags.c = true ∧
    (let e := after (.eret 0 0 0 0) d;
      (e.thr 0).pc = 0x24 ∧ (e.thr 0).priv = true ∧ (e.thr 0).ecause = 0x30000014A) ∧
    (let e := after (.sys 0 0 0 0x1234) dev0;
      (e.thr 0).pc = 16 ∧ (e.thr 0).epc = 12 ∧ (e.thr 0).ecause = 0x12340000020A) := by decide +kernel

/-- SpecialRegisters: a fold thread's MTS to EVMASK, its refused reads, a manager's ECAUSE without the reserved bits. -/
theorem witness_SpecialRegisters :
    let d := (regs 0xFFFFFFFFFFFFFFFF 0).setThr 1 { fld with gpr := [(1, 0xFFFFFFFFFFFFFFFF)] }
    ready d 0 = true ∧ ready d 1 = true ∧ (d.thr 0).priv = false ∧ (d.thr 1).priv = true ∧
    ((after (.mts 1 0 1 3) d).thr 1).evmask = 0xFF00000000000000 ∧ ((after (.mts 0 0 1 3) d).thr 0).evmask = 0xFFFFFFFFFFFFFFFF ∧
    ((after (.mfs 1 3 0 4) d).thr 1).ecode = 2 ∧ ((after (.mts 0 0 1 2) d).thr 0).ecode = 2 ∧
    ((after (.mts 0 0 1 5) d).thr 0).ecause = 0xFFFFFFFF000003FF ∧ ((after (.mts 0 0 1 6) d).thr 0).flags = ⟨true, true, true, true⟩ ∧
    ((after (.mfs 1 3 0 2) d).thr 1).g 3 = 5 := by decide +kernel

/-- SoftwareEventsAndFaults: EVS of event 16 reaches the manager threads only, of 56 the fold; FRSE with room and without. -/
theorem witness_SoftwareEventsAndFaults :
    let all : Word := 0xFFFFFFFFFFFFFFFF
    let d := (with0 fun th => { th with evmask := all, gpr := [(1, 0x2005)] }).setThr 1 { fld with evmask := all }
    ready d 0 = true ∧ (d.src 412).queue = [] ∧
    (let e := after (.evs 0 0 0 16) d;
      (e.thr 0).evpend = 0x10000 ∧ (e.thr 1).evpend = 0) ∧
    (let e := after (.evs 1 0 0 63) d;
      (e.thr 0).evpend = 0x8000000000000000 ∧ (e.thr 1).evpend = 0x8000000000000000) ∧
    (let e := after (.frse 0 0 1 0x8123) d;
      (e.src 412).queue = [(⟨2, 0x123, 2, 5, 0x2005⟩, false)] ∧ (e.thr 0).pc = 12 ∧
      ((after (.frse 0 0 1 0) e).thr 0).wait = .faultSlot ⟨0, 0, 0, 0, 0x2005⟩) := by decide +kernel

/-- EventAndInstantWaits: each clause once, the instant at its boundary. -/
theorem witness_EventAndInstantWaits :
    let d := (with0 fun th => { th with evmask := 0x30, gpr := [(1, 100), (2, 99)] }).fset TIM_NOW.NOW 100
    let p := d.setThr 0 { d.thr 0 with evpend := 0xF0 }
    let w := d.setThr 0 { d.thr 0 with state := .wait, wait := .event 3 200 }
    let i := d.setThr 0 { d.thr 0 with state := .wait, wait := .instant 3 1124 }
    ready d 0 = true ∧ ready p 0 = true ∧ (d.thr 0).marked = false ∧ d.time.steppedAt = none ∧
    (let e := after (.evw 0 3 0 0 0) p;
      (e.thr 0).g 3 = 4 ∧ (e.thr 0).evpend = 0xE0 ∧ (e.thr 0).flags.c = false) ∧
    ((after (.evw 0 3 1 0 0) d).thr 0).flags.c = true ∧ ((after (.evw 0 3 0 0 0) d).thr 0).wait = .event 3 0 ∧
    (let e := after (.wat 0 3 1 0 0 0) d;
      (e.thr 0).g 3 = 100 ∧ (e.thr 0).flags.c = false) ∧
    ((after (.wat 0 3 2 0 0 0) d).thr 0).flags.c = true ∧ ((after (.wat 0 3 1 0 0 1) d).thr 0).wait = .instant 3 1124 ∧
    (let e := after (.evwDeadline 0) w;
      (e.thr 0).g 3 = 0xFFFFFFFFFFFFFFFF ∧ e.now = 200 ∧ (e.thr 0).state = .run) ∧
    (let e := after (.watExpire 0) i;
      (e.thr 0).g 3 = 1124 ∧ (e.thr 0).flags.c = false) := by decide +kernel

/-- SpawnStartsThread: with a free context, and with every context taken. -/
theorem witness_SpawnStartsThread :
    let d := regs 0x20 0x77
    let full : Dev := { d with threads := (List.range 64).map fun t => (t, { mgr with engine := t / 4, slot := t % 4 }) }
    ready d 0 = true ∧ d.newContext = some (2, 2, 0) ∧ ready full 0 = true ∧ full.newContext = none ∧
    (let e := after (.spwn 0 3 1 2 0) d;
      (e.thr 2).pc = 0x20 ∧ (e.thr 2).g 1 = 0x77 ∧ (e.thr 2).image = some 1 ∧ (e.thr 0).g 3 = 2) ∧
    ((after (.spwn 0 3 1 2 0) full).thr 0).flags.c = true := by decide +kernel

/-- TakingAnException: with a handler, without one, and with EXL already 1; a fold thread goes to the fold handler. -/
theorem witness_TakingAnException :
    dev0.handlerOf mgr = some 16 ∧ dev0.handlerOf { mgr with image := some 2 } = none ∧ dev0.handlerOf fld = some 32 ∧
    mgr.ecause.getLsbD 9 = false ∧ (dev0.src 202).queue.length < 4 ∧
    (let e := dev0.takeException 1 5 8 0x10;
      (e.thr 1).pc = 32 ∧ (e.thr 1).priv = false ∧ (e.thr 1).ecause = 0x1000000305) ∧
    (let e := (with0 fun th => { th with ecause := 0x200 }).takeException 0 1 8 8;
      (e.thr 0).state = .faulted ∧ (e.src 202).queue.length = 1) := by decide +kernel

/-- InstructionsNotExecuted: a thread that waits, threads held, the PC at the end of its code, a bad word, a field that must
be zero, a manager instruction of a fold thread. -/
theorem witness_InstructionsNotExecuted :
    issuer (.add 0 1 2 3) = some 0 ∧ dev0.fget CSP_STATUS.PHASE ≠ 4 ∧
    ((after (.movi 0 3 0 7) (with0 fun th => { th with state := .wait })).thr 0).g 3 = 0 ∧
    ((after (.movi 0 3 0 7) (dev0.fset CSP_STATUS.PHASE 2)).thr 0).g 3 = 0 ∧
    ((after (.movi 0 3 0 7) (with0 fun th => { th with pc := 64 })).thr 0).ecode = 3 ∧
    (let d : Dev := { dev0 with wygel := { dev0.wygel with pstoreBad := [0] } };
      ((after (.movi 0 3 0 7) d).thr 0).state = .faulted) ∧
    fieldsLegal (.movi 0 3 1 7) = false ∧ ((after (.movi 0 3 1 7) dev0).thr 0).ecode = 1 ∧
    managerOnly (.stgW 1 1 2 3) = true ∧ ((after (.stgW 1 1 2 3) dev0).thr 1).ecode = 2 := by decide +kernel

/-! Control space, staging, commits (02_rack_time.md, 04_wygel_instructions.md, 05_control_space.md) -/

/-- RegisterLoads: a counter that clears when read whole, not when read in part, a fold thread's own window, the top byte. -/
theorem witness_RegisterLoads :
    let d := (((atReg 0x30 0).fset CSP_ERR_COUNT.COUNT 0x12345).fset CSP_SCRATCH.VALUE 0xAB00000000000000).setThr 1
      { fld with gpr := [(1, 0x10010)] }
    let f := (d.setThr 1 { fld with gpr := [(1, 8)] }).fset FLD_STAT.GEN 0x7F 5
    ready d 0 = true ∧ ready f 1 = true ∧ regAt 0x30 = some ⟨.CSP_ERR_COUNT, 0, 0⟩ ∧ d.regWaits 0x30 = false ∧
    regAt 0x200000050008 = some ⟨.FLD_STAT, 5, 0⟩ ∧ f.regWaits 0x200000050008 = false ∧
    (let e := after (.cldW 0 3 1 0) d; (e.thr 0).g 3 = 0x12345 ∧ e.fget CSP_ERR_COUNT.COUNT = 0) ∧
    (let e := after (.cldH 0 3 1 0) d; (e.thr 0).g 3 = 0x2345 ∧ e.fget CSP_ERR_COUNT.COUNT = 0x12345) ∧
    ((after (.cldB 0 3 1 0x17) d).thr 0).g 3 = 0xAB ∧ ((after (.cldD 1 3 1 0) f).thr 1).g 3 = 0x7F00 := by decide +kernel

/-- RegisterStores: a byte of an RW field, W1C bits, a lock register left aside. -/
theorem witness_RegisterStores :
    let d := (((atReg 0x40 0x1122334455667788).fset CSP_SCRATCH.VALUE 0xFFFFFFFFFFFFFFFF).fset RST_SUPPLY_STAT.WARN 7).setThr 1 fld
    ready d 0 = true ∧ (d.thr 0).priv = false ∧ regAt 0x43 = some ⟨.CSP_SCRATCH, 0, 0⟩ ∧ d.regWaits 0x43 = false ∧
    RK.storesOnly .CSP_SCRATCH = true ∧ RK.storesOnly .RST_SUPPLY_STAT = true ∧
    (∀ f ∈ RK.fields .CSP_SCRATCH, ¬ (f.acc = .st ∨ f.acc = .stlk ∨ f.acc = .lk)) ∧
    (after (.cstB 0 2 1 3) d).fget CSP_SCRATCH.VALUE = 0xFFFFFFFF88FFFFFF ∧
    (after (.cstH 0 2 1 6) d).fget CSP_SCRATCH.VALUE = 0x7788FFFFFFFFFFFF ∧
    (after (.cstD 0 2 1 0) d).fget CSP_SCRATCH.VALUE = 0x1122334455667788 ∧
    (let e := atReg 0x10000000028 5; (after (.cstW 0 2 1 0) (e.fset RST_SUPPLY_STAT.WARN 7)).fget RST_SUPPLY_STAT.WARN = 2) := by
  decide +kernel

/-- RegisterAccessTraps: misaligned, unmapped, beyond the fold's 64 KiB at its first byte, and a block that does not answer. -/
theorem witness_RegisterAccessTraps :
    let d := (atReg 0x100000000000 0).setThr 1 { fld with gpr := [(1, 0x10000)] }
    let soft := d.fset CSP_STATUS.PHASE 4
    ready d 0 = true ∧ ready d 1 = true ∧ ready soft 0 = true ∧ regAt 0x0B0000000000 = none ∧
    regAt 0x100000000000 = some ⟨.LAN_CTRL, 0, 0⟩ ∧ soft.regWaits 0x100000000000 = true ∧
    (let e := after (.cldD 0 3 1 4) d
     (e.thr 0).ecode = 4 ∧ e.fget CSP_ERR.CAUSE = 5 ∧ e.fget CSP_ERR.ADDR = 0x100000000004) ∧
    (let e := after (.cstB 1 2 1 0) d; (e.thr 1).ecode = 6 ∧ e.fget CSP_ERR.CAUSE = 7 ∧ e.fget CSP_ERR.SOURCE = 1) ∧
    (let e := after (.cldD 0 3 1 0) (atReg 0x0B0000000000 0); (e.thr 0).ecode = 6 ∧ e.fget CSP_ERR.CAUSE = 1 ∧ e.fget CSP_ERR_COUNT.COUNT = 1) ∧
    (let e := after (.cstD 0 2 1 0) soft; (e.thr 0).wait = .regAccess (.store 0) 8 0x100000000000) := by decide +kernel

/-- WaitsEnd: each wait's end once; the search at its last element and past it. -/
theorem witness_WaitsEnd :
    let fen := waiting .fence []
    let got := waiting (.poolRead 3 2 7) [poolFlight false (some (0xABCDEF, false))]
    let bad := waiting (.poolRead 3 2 7) [poolFlight false (some (0, true))]
    let none' := waiting (.poolRead 3 8 7) [poolFlight false none]
    let post := waiting .fence [poolFlight true none]
    let look (m k : Nat) := ((waiting (.search (scratchSearch m k)) []).fset CSP_SCRATCH.VALUE 5 0 3)
    let acc := waiting (.regAccess (.load 3) 8 0x100000000000) []
    fen.posted 0 = [] ∧ (fen.thr 0).state = .wait ∧ fen.threadsHeld = false ∧
    (let e := after (.threadWake 0) fen; (e.thr 0).flags.c = true ∧ (e.thr 0).pc = 12) ∧
    (let e := after (.threadWake 0) got; (e.thr 0).g 3 = 0xCDEF ∧ e.core.flights = []) ∧
    ((after (.threadWake 0) bad).thr 0).ecode = 8 ∧
    (look 0 0).regWaits 0x40 = false ∧ ((after (.threadWake 0) (look 0 0)).thr 0).g 3 = 3 ∧
    (let e := after (.threadWake 0) (look 0 4); (e.thr 0).g 3 = 0xFFFFFFFFFFFFFFFF ∧ (e.thr 0).flags = ⟨false, false, true, false⟩) ∧
    ((after (.threadWake 0) (look 2 0)).thr 0).g 3 = 0 ∧ ((after (.threadWake 0) (look 3 0)).thr 0).g 3 = 3 ∧
    (let e := after (.csbusTimeout 0) acc; (e.thr 0).ecode = 9 ∧ e.fget CSP_ERR.CAUSE = 2) ∧
    ((after (.poolAccessTimeout 7) none').thr 0).ecode = 8 ∧
    (let e := after (.poolAccessTimeout 7) post; (e.thr 0).postFail = true ∧ e.core.flights = []) := by decide +kernel

/-- CompareAndSwapAndFind: CAS on scratch and on a register, equal and not; on a staged register; a sound and an unsound block. -/
theorem witness_CompareAndSwapAndFind :
    let d : Dev := { with0 fun th => { th with gpr := [(1, 8), (2, 0x99), (3, 0x1_0000_0005)] } with
      wygel := { dev0.wygel with scratch := [(0x1008, 5)] } }
    let c := (with0 fun th => { th with gpr := [(1, 0x40), (2, 0x99), (3, 5)] }).fset CSP_SCRATCH.VALUE 5
    ready d 0 = true ∧ d.scratchAddr (d.thr 0) 8 4 = some 0x1008 ∧ d.scratchPoisoned 0x1008 4 = false ∧
    (let e := after (.cas 0 3 1 2 0) d; (e.thr 0).g 3 = 5 ∧ (e.thr 0).flags.z = true ∧ e.wygel.scratch = [(0x1008, 0x99)]) ∧
    (let e := after (.cas 0 3 1 2 2) d; (e.thr 0).g 3 = 5 ∧ (e.thr 0).flags.z = false ∧ e.wygel.scratch = [(0x1008, 5)]) ∧
    (let e := after (.cas 0 3 1 2 3) c; (e.thr 0).g 3 = 5 ∧ (e.thr 0).flags.z = true ∧ e.fget CSP_SCRATCH.VALUE = 0x99) ∧
    (let e := after (.cas 0 0 1 2 3) c; (e.thr 0).flags.z = false ∧ e.fget CSP_SCRATCH.VALUE = 5) ∧
    RK.stagedMask .LAN_CTRL ≠ 0 ∧ RK.storesOnly .CSP_SCRATCH = true ∧
    (let e := after (.cas 0 3 1 2 1) (with0 fun th => { th with gpr := [(1, 0x100000000000)] })
     (e.thr 0).ecode = 6 ∧ e.fget CSP_ERR.CAUSE = 3) ∧
    ready (searchBlock 4) 0 = true ∧ (searchBlock 4).scratchAddr ((searchBlock 4).thr 0) 0 32 = some 0x1000 ∧
    (∀ i < 4, (regAt (0x40 + i * 8)).isSome) ∧
    ((after (.tfnd 0 3 1 2 0) (searchBlock 4)).thr 0).wait = .search ⟨3, 0x40, 8, 4, 2, 0, 0, 0, 0⟩ ∧
    ((after (.tfnd 0 3 1 2 0) (searchBlock 0)).thr 0).ecode = 6 ∧
    ((after (.tfnd 0 3 1 2 0) { regs 0 2 with wygel := { dev0.wygel with scratch := (
      Mem.writeList [] 0x1000 (leBytes 8 0x0B0000000000 ++ leBytes 4 8 ++ leBytes 4 4)) } }).thr 0).ecode = 6 := by
  decide +kernel

/-- StagingWrites: into an OPEN set, its 4,097th write, a set that is FREE, an address that is misaligned, unmapped, not staged. -/
theorem witness_StagingWrites :
    let d := (with0 fun th => { th with gpr := [(1, 0x100000000000), (2, 3), (4, 0xFFFFFFFF00000006)] }).fset TIM_COMMIT_STAT.STATE 1 0 3
    let full : Dev := { d with commits := { d.commits with sets := [(3, List.replicate 4096 ⟨0, 8, 0, 0⟩)] } }
    let at_ (a : Word) := d.setThr 0 { d.thr 0 with gpr := [(1, a), (2, 3)] }
    ready d 0 = true ∧ (d.thr 0).priv = false ∧ d.phase ≠ phSoft ∧ ready full 0 = true ∧ (full.setWrites 3).length = 4096 ∧
    (after (.stgW 0 4 1 2) d).setWrites 3 = [⟨0x100000000000, 4, 6, 0⟩] ∧
    (after (.stgD 0 4 1 2) d).setWrites 3 = [⟨0x100000000000, 8, 0xFFFFFFFF00000006, 0⟩] ∧
    ((after (.stgD 0 4 1 2) full).thr 0).ecode = 0xB ∧ ((after (.stgD 0 4 1 0) d).thr 0).ecode = 0xB ∧
    ((after (.stgD 0 4 1 2) (at_ 0x100000000004)).thr 0).ecode = 4 ∧ ((after (.stgD 0 4 1 2) (at_ 0x0B0000000000)).thr 0).ecode = 6 ∧
    ((after (.stgD 0 4 1 2) (at_ 0x40)).thr 0).ecode = 6 := by decide +kernel

/-- CommitForms: OPEN and DISCARD of a set in and out of their state; COMMIT accepted, refused as LATE, and of a FREE set. -/
theorem witness_CommitForms :
    let free := locked 3000320
    let op := free.fset TIM_COMMIT_STAT.STATE 1 0 3
    ready op 0 = true ∧ op.phase ≠ phSoft ∧ op.commitStatus 3 3000320 = 0 ∧ op.commitStatus 3 0 = 2 ∧
    (let e := after (.cmtOpen 0 4 0 2 0) free; e.fget TIM_COMMIT_STAT.STATE 0 3 = 1 ∧ (e.thr 0).flags.z = true) ∧
    (let e := after (.cmtDiscard 0 4 0 2 0) op; e.fget TIM_COMMIT_STAT.STATE 0 3 = 0 ∧ (e.thr 0).g 4 = 0) ∧
    ((after (.cmtOpen 0 4 0 2 0) op).thr 0).g 4 = 0xF ∧ ((after (.cmtDiscard 0 4 0 2 0) free).thr 0).g 4 = 0xF ∧
    ((after (.cmtCommit 0 4 1 2 0) free).thr 0).g 4 = 0xF ∧
    (let e := after (.cmtCommit 0 4 1 2 0) op
     e.fget TIM_COMMIT_STAT.STATE 0 3 = 2 ∧ e.fget TIM_COMMIT_INSTANT.INSTANT 0 3 = 3000320 ∧ e.commits.order = [3]) ∧
    (let e := after (.cmtCommit 0 4 0 2 0) op
     e.fget TIM_COMMIT_STAT.STATE 0 3 = 1 ∧ (e.thr 0).g 4 = 2 ∧ e.fget TIM_COMMIT_STAT.LAST_STATUS 0 3 = 2) := by decide +kernel

/-- CommitChecks: each clause, at the instants where two of them meet. -/
theorem witness_CommitChecks :
    let d := locked 0
    let p : Dev := { (d.fset TIM_COMMIT_STAT.STATE 2 0 4).fset TIM_COMMIT_INSTANT.INSTANT 2000000 0 4 with
      commits := { d.commits with order := [4] } }
    dev0.timeGood = false ∧ dev0.commitStatus 3 0 = 4 ∧ (d.fset FLT_STATUS.FAULT_STATE 1).commitStatus 3 0 = 10 ∧
    d.commitStatus 3 1002047 = 2 ∧ d.commitStatus 3 1002048 = 0 ∧ d.commitStatus 3 (1000000 + 2 ^ 30) = 0 ∧
    d.commitStatus 3 (1000001 + 2 ^ 30) = 3 ∧ p.lastInstant = some 2000000 ∧ p.commitStatus 3 1999999 = 5 ∧
    p.commitStatus 3 2000001 = 6 ∧ p.commitStatus 3 2065535 = 6 ∧ p.commitStatus 3 2065536 = 0 := by decide +kernel

/-! Mailboxes, mover jobs, hot updates, images, engines (03_wygel_machine.md, 04_wygel_instructions.md, 19_ethernet_and_chain.md) -/

theorem witness_executes : net.executes via 0x20 9 5 := takes_executes _ _ _ _ _ (by decide +kernel)

/-- ThreadMailboxes: MSND with no session, with a full queue, of one byte; MRCV of a message cut short, and with none. -/
theorem witness_ThreadMailboxes :
    let d := mailer 1
    let full : Dev := { d with wygel := { d.wygel with txMail := List.replicate 64 (letter [1]) } }
    let m : Dev := { d with wygel := { d.wygel with rxMail := [letter [0xA, 0xB]] } }
    ready d 0 = true ∧ d.scratchAddr (d.thr 0) 0x100 1 = some 0x1100 ∧ (mailer 4096).scratchAddr ((mailer 4096).thr 0) 0x100 4096 = some 0x1100 ∧
    d.session = true ∧ (d.receivers (some 1)).length = 0 ∧
    ((after (.msnd 0 3 1 2 5) (d.fset ETH_SESSION.OPEN 0)).thr 0).g 3 = 2 ∧ ((after (.msnd 0 3 1 2 5) full).thr 0).g 3 = 1 ∧
    (let e := after (.msnd 0 3 1 2 255) d; (e.thr 0).g 3 = 0 ∧ e.wygel.txMail.map (fun m => (m.image, m.channel, m.bytes)) = [(1, 255, [0])]) ∧
    (let e := after (.mrcv 0 3 1 2 0) m
     (e.thr 0).g 3 = 0x70002 ∧ (e.thr 0).flags.v = true ∧ e.wygel.scratch = [(0x1100, 0xA)] ∧ e.wygel.rxMail = []) ∧
    ((after (.mrcv 0 3 1 2 0) d).thr 0).wait = .message 3 0x1100 1 0 ∧
    (let e := after (.mrcvNb 0 3 1 2 0) d; (e.thr 0).g 3 = 0 ∧ (e.thr 0).flags.c = true) := by decide +kernel

/-- MoverJobLaunch: a manager's job with a slot and with none, a fold's job with its share and without, a fold's MIGRATE. -/
theorem witness_MoverJobLaunch :
    let d := jobs 3
    let full : Dev := { d with folds := { d.folds with work := (List.range 64).map fun k => { id := k, owner := .job none k 1 0 0 } } }
    ready d 0 = true ∧ ready d 1 = true ∧ d.scratchAddr (d.thr 0) 0 64 = some 0x1000 ∧ d.scratchAddr (d.thr 1) 0x40 16 = some 0x8040 ∧
    d.managerSlot = some 0 ∧ full.managerSlot = none ∧ malformed (desc 3 64 0 0x2000) .manager = none ∧
    malformed (desc 3 64 0 0x2000) .foldJob = none ∧ (d.fset FLD_SHARE.CAP 1 5).mayTakeSlot 5 = true ∧ (d.fset FLD_SHARE.CAP 0 5).mayTakeSlot 5 = false ∧
    dOp (desc 0x10 0 0 0) = opMigrate ∧
    (let e := after (.dmvk 0 3 1 2 0) d; (e.thr 0).g 3 = 1 ∧ e.folds.work.map (·.owner) = [.job none 0 1 0 0x1040]) ∧
    (let e := after (.dmvk 0 3 1 2 0) full; (e.thr 0).g 3 = 0 ∧ (e.thr 0).flags.c = true) ∧
    (let e := after (.dmvk 1 3 1 2 0) (d.fset FLD_SHARE.CAP 1 5); (e.thr 1).g 3 = 1 ∧ e.fget FLD_STAT.IN_FLIGHT 5 = 1) ∧
    ((after (.dmvk 1 3 1 2 0) (d.fset FLD_SHARE.CAP 0 5)).thr 1).flags.c = true ∧ ((after (.dmvk 1 3 1 2 0) (jobs 0x10)).thr 1).ecode = 2 := by
  decide +kernel

/-- LimitsAndKills: a fold thread's limit of one course, a live and a FREE thread killed, an update that waits. -/
theorem witness_LimitsAndKills :
    let l := dev0.fset WGL_CTRL.FOLD_RUN_LIMIT 1
    let u : Dev := { with0 (fun th => { th with marked := true, state := .parked }) with
      wygel := { dev0.wygel with update := some ⟨{ mgrImage with version := 2 }, 0, 1, 77⟩ } }
    (let e := after (.limit 1) l; (e.thr 1).ecode = 0xC ∧ (e.thr 1).epc = 8 ∧ e.now = 1048576) ∧
    ((after (.kill 0) dev0).thr 0) = {} ∧ (after (.kill 2) dev0).threads = dev0.threads ∧
    (let e := after .updateTimeout u
     e.wygel.update = none ∧ e.fget WGL_LOAD_STAT.STATUS = 10 ∧ (e.thr 0).marked = false ∧ e.out = [.fcpReply 1 0x10 0 77 [10]]) := by
  decide +kernel

/-- ImageLoading: segments that continue the image, end it, or do not fit; an image with a bad MAGIC; unloading. -/
theorem witness_ImageLoading :
    let d := received (5 :: (imageBytes 1 0 9 0).tail)
    let some1 : Dev := { net with wygel := { net.wygel with rxImage := [1], rxTotal := 3 } }
    let idle : Dev := { net with threads := [] }
    takes some1 via 0x10 9 5 = true ∧ some1.phase ≠ phStandby ∧ some1.wygel.rxWhole = none ∧
    (after (.imageData via 9 5 1 3 [2]) some1).wygel.rxImage = [1, 2] ∧
    (after (.imageData via 9 5 1 3 [2, 3]) some1).wygel.rxWhole = some (0, 5) ∧
    sent (.imageData via 9 5 2 3 [2]) some1 = [.fcpReply 0 0x10 6 5 []] ∧
    sent (.imageUnload via 9 5 7) net = [.fcpReply 0 0x11 8 5 []] ∧ sent (.imageUnload via 9 5 1) net = [.fcpReply 0 0x11 6 5 []] ∧
    (after (.imageUnload via 9 5 1) idle).wygel.images = [bareImage, foldImage] ∧
    d.loadStatus d.wygel.rxImage .fcp = 1 ∧ sent .imageLoad d = [.fcpReply 0 0x10 0 4 [1]] ∧
    (after .imageLoad d).fget WGL_LOAD_STAT.STATUS = 1 := by decide +kernel

theorem test_digest : sha384 unsigned = beBytes 48 digest := by decide +kernel

theorem test_signature : signatureOk signer.x signer.y unsigned (signed.drop 192) = true := by decide +kernel

/-- ImageLoading, the last clause: an image whose signature verifies passes every check and is loaded. -/
theorem witness_ImageLoads :
    let d := received signed
    let d : Dev := { d with wygel := { d.wygel with keys := [signer] } }
    d.loadStatus signed .fcp = 0 ∧ imgField signed 6 1 ≠ 3 ∧ d.hotTarget signed .fcp = none ∧
    sent .imageLoad d = [.fcpReply 0 0x10 0 4 [0]] := by decide +kernel

/-- FoldPrograms: a start that is refused, one that is not, a host that may not write, an image that fails its checks, none. -/
theorem witness_FoldPrograms :
    let on := (((sets [(CXP_VSW_CFG.USP, 4, 0, 0)] (aPort 4 1 2 dev0)).fset FLD_STAT.STATE 1 7).fset FLD_PROG_CTRL.LEN 288 7).fset FLD_CFG.PROG_ALLOW 1 7
    let ld := on.fset FLD_PROG_STAT.STATE 1 7
    on.hostWrites 7 = true ∧ dev0.hostWrites 7 = false ∧ on.fget FLD_MIG_STAT.STATE 7 ≠ mgFreezePending ∧
    (after (.foldProgStart 7) ld).fget FLD_PROG_STAT.LOAD_STATUS 7 = 7 ∧
    (after (.foldProgStart 7) (on.fset FLD_PROG_CTRL.LEN 32993 7)).fget FLD_PROG_STAT.LOAD_STATUS 7 = 7 ∧
    on.portUp (on.usp (on.foldVsw 7)) = true ∧ (after (.foldProgStart 7) (on.fset FLD_PROG_CTRL.LEN 32992 7)).fget FLD_PROG_STAT.STATE 7 = 1 ∧
    (after (.foldProgStart 7) dev0).fget FLD_PROG_STAT.STATE 7 = 0 ∧
    (let e := after (.foldImageFetched 7 (some (5 :: (imageBytes 2 0 0 1).tail))) ld
     e.fget FLD_PROG_STAT.STATE 7 = 0 ∧ e.fget FLD_PROG_STAT.LOAD_STATUS 7 = 1 ∧ e.wygel.images.length = 3) ∧
    ld.foldState 7 ≠ fdResetting ∧ ld.fget FLD_PROG_STAT.STATE 7 = 1 ∧
    (let u := ld.fset FLD_CFG.UNSIGNED_OK 1 7
     let bs := imageBytes 2 0 9 1
     let e := after (.foldImageFetched 7 (some bs)) u
     u.loadStatus bs (.fold 7) = 0 ∧ u.newContext.isSome = true ∧ e.fget FLD_PROG_STAT.STATE 7 = 2 ∧
      (e.thr (e.fget FLD_PROG_STAT.THREAD 7)).fid = 7) := by decide +kernel

/-- EngineService: each state of a drained engine, a failing engine, a self-test, a thread that moves, and one that cannot. -/
theorem witness_EngineService :
    let dr := dev0.fset WGL_ENG_CTRL.STATE 2 0 0
    let none' : Dev := (List.range 15).foldl (fun (d : Dev) e => d.fset WGL_ENG_CTRL.STATE 3 0 (e + 1)) dr
    let rt := (dev0.fset WGL_ENG_CTRL.STATE 3 0 3).fset WGL_ENG_CTRL.RETURN 1 0 3
    dev0.slotsHeld 0 = [0] ∧ dev0.slotsHeld 2 = [] ∧
    (after (.engineDrain 0) dev0).fget WGL_ENG_CTRL.STATE 0 0 = 2 ∧ (after (.engineDrain 2) dev0).fget WGL_ENG_CTRL.STATE 0 2 = 3 ∧
    (after (.engineDrain 15) dev0).fget WGL_ENG_CTRL.STATE 0 15 = 3 ∧ (after (.engineReturn 3) rt).fget WGL_ENG_CTRL.RETURN 0 3 = 1 ∧
    (after (.engineReturn 0) dev0).fget WGL_ENG_CTRL.RETURN 0 0 = 0 ∧ (after (.selfTestDone 3 true) rt).fget WGL_ENG_CTRL.STATE 0 3 = 1 ∧
    (after (.selfTestDone 3 false) rt).fget WGL_ENG_CTRL.RETURN_FAIL 0 3 = 1 ∧
    (let e := after (.engineFault 1) dev0; (e.thr 1).state = .faulted ∧ (e.thr 0).state = .run ∧ e.fget WGL_ENG_CTRL.STATE 0 14 = 0) ∧
    dr.movable 0 = true ∧ dr.bestEngine = some 2 ∧ ((after (.threadMove 0) dr).thr 0).engine = 2 ∧
    (after (.threadMove 0) dr).fget WGL_ENG_CTRL.STATE 0 0 = 3 ∧
    none'.bestEngine = none ∧ none'.promote = none' ∧ (after (.threadMove 0) none').fget WGL_ENG_CTRL.NOROOM 0 0 = 1 := by
  decide +kernel

/-- ManagerMailboxes: each answer once; the queue at its 64th message; a message sent its fourth time again, and dropped. -/
theorem witness_ManagerMailboxes :
    let full : Dev := { net with wygel := { net.wygel with rxMail := List.replicate 64 (letter [1]) } }
    let tx (n : Nat) : Dev := { net with wygel := { net.wygel with txMail := [{ letter [1] with sent := n }, ⟨1, 0, [2], 4, 1, 0⟩] } }
    takes net via 0x20 9 5 = true ∧ takes full via 0x20 9 5 = true ∧ net.gable.entering = false ∧
    sent (.mbox via 9 5 1 7 []) net = [.fcpReply 0 0x20 2 5 []] ∧
    sent (.mbox via 9 5 1 7 [1]) ((net.fset CSP_STATUS.PHASE 2).fset RST_STANDBY_CFG.WAKE_ON_MBOX 0) = [.fcpReply 0 0x20 4 5 []] ∧
    sent (.mbox via 9 5 3 7 [1]) net = [.fcpReply 0 0x20 8 5 []] ∧ sent (.mbox via 9 5 1 7 [1]) full = [.fcpReply 0 0x20 7 5 []] ∧
    (let e := after (.mbox via 9 5 1 7 [1]) (net.setThr 0 { mgr with evmask := 2 })
     e.out = [.fcpReply 0 0x20 0 5 []] ∧ e.wygel.rxMail.map (·.bytes) = [[1]] ∧ (e.thr 0).evpend = 2) ∧
    takes (tx 1) via 0x21 9 5 = true ∧ (after (.mboxAck via 9 5 4) (tx 1)).wygel.txMail.map (·.seq) = [3] ∧
    (after (.mboxResend 3) (tx 4)).wygel.txMail.map (·.sent) = [5, 1] ∧
    (let e := after (.mboxResend 3) (tx 5); e.wygel.txMail.map (·.seq) = [4] ∧ e.fget ETH_CNT.MBOX_DROPPED = 1) := by
  decide +kernel

/-! The session, the FM-API, SPDM (19_ethernet_and_chain.md) -/

/-- SessionRequests: each clause once; a SEQ at and below the oldest of the 64 kept. -/
theorem witness_SessionRequests :
    sessionRequest (.keepalive via 9 5) = some (via, 0x03, 9, 5) ∧
    dev0.reached via = false ∧ sent (.keepalive via 9 5) dev0 = [] ∧
    net.reached plain = true ∧ net.fon ETH_MACSEC.REQUIRE 0 = true ∧
    (after (.keepalive plain 9 5) net).fget ETH_CNT.REFUSED = 1 ∧
    sent (.mboxAck via 9 5 1) (net.fset CHN_BOOT.RECOVERY 1) = [.fcpReply 0 0x21 6 5 []] ∧
    sent (.keepalive via 8 5) net = [.fcpReply 0 0x03 3 5 []] ∧ sent (.keepalive via 9 100) kept = [.fcpReply 0 0x20 0 100 []] ∧
    sent (.keepalive via 9 99) kept = [.fcpReply 0 0x03 5 99 []] ∧ kept.fcp.replies.length = 64 ∧
    sent (.keepalive via 9 5) { net with fcp := { net.fcp with executing := [5] } } = [] ∧
    (let e := after (.keepalive via 9 164) kept
     e.out = [.fcpReply 0 0x03 0 164 []] ∧ e.fcp.replies.length = 64 ∧ e.fcp.replies.head? = some (164, 0x03, 0, [])) := by
  decide +kernel

/-- SessionAndPorts: an allowed and a refused opening, one with a session open, and the other messages; a link, MKA, a CAK; a
flash write that ends at the booted slot's first byte, one that reaches it, an unknown type and a wrong length. -/
theorem witness_SessionAndPorts :
    let shut := net.fset ETH_SESSION.OPEN 0
    let b1 := net.fset CSP_STATUS.BOOT_SLOT 1
    shut.reached via = true ∧ shut.session = false ∧ shut.mgrAllowed 0 7 = true ∧
    (shut.fset ETH_MGR_ALLOW.ADDRESS 8 0 0).mgrAllowed 0 7 = false ∧ (shut.fset ETH_MGR_ALLOW.ADDRESS 7 0 0).mgrAllowed 0 7 = true ∧
    sent (.sessionOpen via 5 7 1 50) net = [.fcpReply 0 0x01 4 5 []] ∧
    sent (.sessionOpen via 5 7 1 50) (shut.fset ETH_MGR_ALLOW.ADDRESS 8 0 0) = [.fcpReply 0 0x01 6 5 []] ∧
    (after (.sessionClose via 9 5) net).session = false ∧ (after .sessionTimeout net).session = false ∧
    (after (.ethernetLink 1 ⟨true, 0, 0⟩) (net.fset ETH_CFG.EN 1 1)).fget ETH_STAT.LINK 1 = 1 ∧
    (after (.ethernetLink 0 ⟨false, 0, 0⟩) net).fget ETH_STAT.SECURED = 0 ∧
    (after (.mkaFrame 0 (some false)) ((net.fset ETH_STAT.SECURED 0).fset ETH_MACSEC.CAK_VALID 1)).fget ETH_STAT.SECURED = 1 ∧
    (after (.mkaFrame 0 (some false)) (net.fset ETH_STAT.SECURED 0)).fget ETH_STAT.SECURED = 0 ∧
    (let e := after (.cakInstall 0 5) net; e.fget ETH_MACSEC.CAK_VALID = 1 ∧ e.fget ETH_STAT.SECURED = 0) ∧
    sent (.flashWrite via 9 5 0xFFFFFF [1]) b1 = [.flash 0xFFFFFF false [1], .fcpReply 0 0x70 0 5 []] ∧
    sent (.flashWrite via 9 5 0xFFFFFF [1, 2]) b1 = [.fcpReply 0 0x70 6 5 []] ∧
    sent (.flashWrite via 9 5 0 [1]) b1 = [.flash 0 true [1], .fcpReply 0 0x70 0 5 []] ∧
    sent (.badtype via 0xEE 5 true) net = [.fcpReply 0 0xEE 1 5 []] ∧ sent (.badtype via 0x03 5 false) net = [.fcpReply 0 0x03 2 5 []] := by
  decide +kernel

/-- FabricManagerApi: each group of commands, with what it names there and not there. -/
theorem witness_FabricManagerApi :
    let busy := (fabric.fset CXP_VSW_CFG.VB_COUNT 2 2).fset TIM_COMMIT_STAT.STATE 1 0 (fabric.fget ETH_FMAPI.SET)
    let tun := ((fabric.fset CXP_PORT_CFG.MODE 2 4).fset CXP_LINK_STAT.STATE 2 4).fset TMP_DEV_CFG.STATE 1 0 9
    takes fabric via 0x30 9 5 = true ∧ fabric.phase ≠ phStandby ∧ fabric.hasPool 2 = true ∧ fabric.hasPool 3 = false ∧
    fabric.setState (fabric.fget ETH_FMAPI.SET) = 0 ∧ fabric.portUp 4 = false ∧ fabric.portMode 4 ≠ 2 ∧ tun.portMode 4 = 2 ∧
    answers (.getHostDcRegionConfiguration via 9 5 3) fabric = some (.fcpReply 0 0x30 0 5 [2]) ∧
    answers (.physicalPortControl via 9 5 4 3) fabric = some (.fcpReply 0 0x30 0 5 [2]) ∧
    answers (.physicalPortControl via 9 5 4 2) fabric = some (.fcpReply 0 0x30 0 5 [0]) ∧
    answers (.sendPpbCxlIoConfigurationRequest via 9 5 4 true 0 0) fabric = some (.fcpReply 0 0x30 0 5 [2]) ∧
    answers (.sendPpbCxlIoConfigurationRequest via 9 5 4 true 0 0) tun = some (.fcpReply 0 0x30 0 5 [0]) ∧
    answers (.generateAerEvent via 9 5 3 1 0) fabric = some (.fcpReply 0 0x30 0 5 [2]) ∧
    answers (.generateAerEvent via 9 5 2 1 0) fabric = some (.fcpReply 0 0x30 0 5 [0]) ∧
    answers (.tunnelManagementCommand via 9 5 4 [1] [2]) fabric = some (.fcpReply 0 0x30 0 5 [2]) ∧
    answers (.bindVppb via 9 5 2 0 4 none) fabric = some (.fcpReply 0 0x30 0 5 [2]) ∧
    answers (.bindVppb via 9 5 2 1 4 none) busy = some (.fcpReply 0 0x30 0 5 [6]) ∧
    answers (.unbindVppb via 9 5 2 1) fabric = some (.fcpReply 0 0x30 0 5 [1]) ∧
    answers (.setDcRegionConfiguration via 9 5 2 1 4) fabric = some (.fcpReply 0 0x30 0 5 [1]) ∧
    answers (.initiateDynamicCapacityAdd via 9 5 3 1 4 0) fabric = some (.fcpReply 0 0x30 0 5 [2]) := by decide +kernel

/-- SecurityProtocol: with no session; a version that is not offered, a slot that is empty, an index beyond the last. -/
theorem witness_SecurityProtocol :
    let d := net.fset ETH_SESSION.OPEN 0
    d.reached via = true ∧ sent (.getVersion via 5) d = [.fcpReply 0 0x31 0 5 [1, 0x12, 0x13]] ∧
    sent (.getCapabilities via 5 0x11) d = [.fcpReply 0 0x31 0 5 [0]] ∧
    sent (.negotiateAlgorithms via 5 true false) d = [.fcpReply 0 0x31 0 5 [0]] ∧
    sent (.getCertificate via 5 1 0 4) d = [.fcpReply 0 0x31 0 5 [0]] ∧
    sent (.getMeasurements via 5 0 false []) d = [.fcpReply 0 0x31 0 5 [1, 4]] ∧
    sent (.getMeasurements via 5 5 true []) d = [.fcpReply 0 0x31 0 5 [0]] := by decide +kernel

/-! Rack time, commits, resets, boot, standby (02_rack_time.md, 20_resets_and_power_states.md) -/

/-- TimeUnit: each change of state, the lock in HOLDOVER at LOCK_THRESH and past it, a time of day at its two limits. -/
theorem witness_TimeUnit :
    let th := dev0.fget TIM_LOCK_CFG.LOCK_THRESH
    let pins := net.fset TIM_CTRL.SRC 3
    let tod (lead : Word) := Instr.timeOfDay via 9 5 77 lead
    let st (i : Instr) (d : Dev) := (after i d).fget TIM_STATUS.STATE
    st (.srcWrite 0) (timed 2 1 0) = tsUnset ∧ st (.srcWrite 2) (timed 2 1 0) = tsHoldover ∧ st (.srcWrite 2) (timed 0 0 0) = tsAcquiring ∧
    ((after (.srcWrite 0) (timed 2 1 0)).thr 0).evpend = 16 ∧
    (timed 1 1 (-5)).lockTest = true ∧ st .lockTestPass (timed 1 1 (-5)) = tsLocked ∧ (after .lockTestPass (timed 1 1 (-5))).now = 1000005 ∧
    st .lockTestPass (timed 3 1 th) = tsLocked ∧ st .lockTestPass (timed 3 1 (th + 1)) = tsLost ∧ dev0.lockTest = false ∧
    st .timeSourceLost (timed 2 1 0) = tsHoldover ∧ st .holdoverLimit (timed 3 1 0) = tsLost ∧ st .sourcePresent (timed 4 1 0) = tsAcquiring ∧
    (after (.sourceUpdate 0xFFFFFFFFFFFFFFFF) (timed 1 1 0)).lastOffset = -1 ∧
    (after .rtPpsEdge { pins with time := { pins.time with tod := some 6 } }).time.tod = some 7 ∧
    takes pins via 0x50 9 5 = true ∧
    (after (tod 100000000) pins).time.tod = some 77 ∧ (after (tod 900000000) pins).time.tod = some 77 ∧
    sent (tod 99999999) pins = [.fcpReply 0 0x50 6 5 []] ∧ (after (tod 900000001) pins).fget TIM_STATUS.TOD_ERR = 1 ∧
    sent (tod 100000000) { pins with time := { pins.time with tod := some 6 } } = [.fcpReply 0 0x50 6 5 []] := by decide +kernel

/-- A commit from its load to the end of its resync, and a request of the old epoch in between. -/
theorem witness_CommitInstant :
    let l := after .commitLoad pending3
    let i := after .commitInstant l
    let r := after .epochDrained i
    let e := after .resyncEnd r
    let old : Dev := { i with core := { i.core with flights := [{ poolFlight true none with epoch := false }] } }
    pending3.nextInstant = some (2000000, [3]) ∧ l.commits.loaded = true ∧ l.fget SWC_CLASS_CFG.DEFAULT_CLASS = 1 ∧
    i.fget SWC_CLASS_CFG.DEFAULT_CLASS = 5 ∧ i.commits.epoch = true ∧ i.fget TIM_COMMIT_STAT.STATE 0 3 = 3 ∧ i.now = 2000000 ∧
    i.commits.draining = true ∧ i.commits.lastFlip = some 2000000 ∧ r.commits.resyncing = true ∧ e.fget TIM_COMMIT_STAT.STATE 0 3 = 0 ∧
    e.fget TIM_COMMIT_STAT.LAST_STATUS 0 3 = 1 ∧ old.flight 7 = some { poolFlight true none with epoch := false } ∧
    (let x := after (.epochDrain 7) old; (x.thr 0).postFail = true ∧ (x.src 202).queue.length = 1) ∧
    (let x := after (.commitCancel 3) pending3; x.fget TIM_COMMIT_STAT.STATE 0 3 = 1 ∧ x.fget TIM_COMMIT_STAT.LAST_STATUS 0 3 = 9) ∧
    (after (.commitCancel 3) (pending3.fset TIM_NOW.NOW 1997953)).fget TIM_COMMIT_STAT.STATE 0 3 = 2 ∧
    (after (.commitCancel 3) (pending3.fset TIM_NOW.NOW 1997952)).fget TIM_COMMIT_STAT.STATE 0 3 = 1 ∧
    (after (.commitCancel 4) pending3).commits.order = [3] := by decide +kernel

/-- PowerAndWarmResets: each hold and release; CSP_SCRATCH lists P alone. -/
theorem witness_PowerAndWarmResets :
    let d := (net.fset CSP_SCRATCH.VALUE 7).fset FLD_CFG.PROG_ALLOW 1 5
    let p := after .powerOn d
    let w := after .resetN d
    let hot : Dev := { d with gable := { d.gable with hot := [16] } }
    let t := after .thermtrip hot
    (p.gable.boot, p.threads, p.fget CSP_SCRATCH.VALUE, p.fget FLD_CFG.PROG_ALLOW 5) = (.heldPower, [], 0, 0) ∧
    (w.gable.boot, w.threads, w.fget CSP_SCRATCH.VALUE, w.fget FLD_CFG.PROG_ALLOW 5) = (.heldWarm, [], 7, 0) ∧
    w.fget CSP_STATUS.LAST_RESET = 1 ∧ w.fget WGL_ENG_CTRL.STATE 0 14 = 1 ∧
    (after (.brownout 0 600) d).gable.boot = .heldPower ∧ (after (.brownout 2 600) d).fget RST_CAUSE.RAIL = 2 ∧
    t.gable.boot = .tripped ∧ d.gable.hot.any (16 ≤ ·) = false ∧ (after .resetN p).gable.boot = .heldPower ∧
    (after (.resetRelease true) p).gable.boot = .zeroing ∧ (after (.resetRelease true) p).fget DBG_STAT.TEST = 1 ∧
    (after (.resetRelease true) (after (.brownout 0 600) d)).gable.boot = .heldPower ∧
    (after (.resetRelease true) w).fget DBG_STAT.TEST = 0 ∧ (after (.resetRelease false) t).gable.boot = .tripped := by decide +kernel

/-- Boot: not before a release, in test mode, and with an unreadable and an erased slot, and with a good slot A. -/
theorem witness_Boot :
    let z : Dev := { bare with gable := { bare.gable with boot := .zeroing } }
    (after (.bootImageStart none none) bare).fget CHN_BOOT.RECOVERY = 0 ∧
    (after (.bootImageStart none none) (z.fset DBG_STAT.TEST 1)).fget CSP_STATUS.PHASE = 3 ∧
    (let x := after (.bootImageStart none (some [0xFF, 0xFF])) (z.fset CHN_BOOT.TRY 1)
     x.fget CSP_STATUS.PHASE = 1 ∧ x.fget CHN_BOOT.RECOVERY = 1 ∧ x.fget CHN_BOOT.TRY = 0 ∧ x.fget CHN_BOOT.A_STATUS = 0xC ∧
      x.fget CHN_BOOT.B_STATUS = 0xB ∧ x.fget ETH_MACSEC.REQUIRE 1 = 0) ∧
    (let k : Dev := { z with wygel := { z.wygel with keys := [signer] } }
     let x := after (.bootImageStart (some signed) none) k
     k.bootStatus (some signed) = 0 ∧ imgField signed 6 1 ≠ 3 ∧ k.wygel.images = [] ∧ bootVersion none ≤ bootVersion (some signed) ∧
      x.fget CHN_BOOT.BOOTED = 0 ∧ x.fget CHN_BOOT.VERSION = 3 ∧ x.wygel.images.map (·.id) = [9]) := by decide +kernel

/-- SoftResetAndStandby: a soft reset from start to end with scratch in and out of an image; Standby refused, entered, woken, left. -/
theorem witness_SoftResetAndStandby :
    let d : Dev := { with0 (fun th => { th with gpr := [(1, 9)] }) with
      wygel := { dev0.wygel with scratch := [(0x1000, 1), (0x9000, 2)] } }
    let d := d.fset CSP_STATUS.PHASE 1
    let s := after .soft d
    let r := after .softResetDone s
    let one := (d.setThr 1 {})
    let st := after .standby one
    let w : Dev := { one.fset CSP_STATUS.PHASE 2 with gable := { one.gable with heldMail := [letter [1]] } }
    let w := ((w.fset RST_STANDBY_CFG.WAKE_AT_EN 1).fset RST_WAKE_AT.INSTANT 3000320).setThr 0 { mgr with state := .wait, wait := .instant 3 5 }
    s.fget CSP_STATUS.PHASE = 4 ∧ s.fget CSP_STATUS.LAST_RESET = 3 ∧ (after .soft s).fget CSP_STATUS.PHASE = 4 ∧
    r.fget CSP_STATUS.PHASE = 1 ∧ (r.thr 0).g 1 = 9 ∧ r.wygel.scratch = [(0x1000, 1)] ∧ s.keptScratch 0x1000 = true ∧ s.keptScratch 0x9000 = false ∧
    d.standbyRefusal = 3 ∧ (after .standby d).fget RST_STANDBY_STAT.RESULT = 3 ∧ one.standbyRefusal = 0 ∧ st.gable.entering = true ∧
    (let x := after .standbyEntryDone st; x.fget CSP_STATUS.PHASE = 2 ∧ x.fget RST_STANDBY_STAT.ENTRIES = 1) ∧
    (let x := after .wakeAt w; x.gable.wake = some 1 ∧ x.now = 3000320 ∧
      (let y := after .standbyExitDone x
       y.fget CSP_STATUS.PHASE = 1 ∧ y.fget RST_STANDBY_STAT.WAKE_CAUSE = 1 ∧ y.wygel.rxMail = [letter [1]] ∧ (y.thr 0).flags.c = true)) := by
  decide +kernel

/-- SuppliesAndTemperatures: a warning, a recovery, a sample at the alert and 5 °C below it, a brownout of VDD_GABLE. -/
theorem witness_SuppliesAndTemperatures :
    let at' (t : BitVec 16) : Vector (BitVec 16) 11 := ⟨Array.mk [t, 0, 0, 0, 0, 0, 0, 0, 0, 0, 0], rfl⟩
    let d := (net.fset RST_THERM_CFG.ALERT_C 90).fset RST_SUPPLY_MIN.MIN_MV 800 0 4
    let a := after (.tempSample (at' 1440)) d
    (let x := after (.supplyWarning 4 700) d; x.fget RST_SUPPLY_STAT.WARN = 16 ∧ x.fget RST_SUPPLY_MIN.MIN_MV 0 4 = 700) ∧
    (after (.supplyWarning 4 900) d).fget RST_SUPPLY_MIN.MIN_MV 0 4 = 800 ∧
    (after (.supplyRecovered 4) { d with gable := { d.gable with railsLow := [4, 5] } }).gable.railsLow = [5] ∧
    a.fget RST_TEMP.ALERT 0 0 = 1 ∧ a.fget RST_THERM_CFG.ALERT_PIN = 1 ∧ a.fget RST_TEMP.PEAK 0 0 = 1440 ∧ a.fget RST_TEMP.ALERT 0 1 = 0 ∧
    (after (.tempSample (at' 1361)) a).fget RST_THERM_CFG.ALERT_PIN = 1 ∧ (after (.tempSample (at' 1360)) a).fget RST_THERM_CFG.ALERT_PIN = 0 ∧
    (let x := after (.brownout 3 600) d; x.session = false ∧ x.fget ETH_STAT.LINK = 0 ∧ x.gable.railsLow = [3]) := by decide +kernel

/-! Faults, stored data, debug and test (16 to 18, 21) -/

/-- A CE record waiting in unit 3's source, whose reaction is LOG. -/
def faulty : Dev := ((dev0.raise 3 (recCE 0x10 0xAB)).fset TIM_NOW.NOW 77).fset FLT_UNIT_REACT.CE 1 3

/-- FaultCollection: a record logged, none to take, the fault state entered and left at the course boundary on which QUIET ends
and not before, a wire pair bad once and on both clocks, its flag cleared. -/
theorem witness_FaultCollection :
    let q := ((dev0.fset FLT_STATUS.FAULT_STATE 1).fset CSP_STATUS.FAULT_STATE 1).fset FLT_CTRL.QUIET 1
    let quiet (now : Nat) := after .quietExit (q.fset TIM_NOW.NOW now)
    let one := after (.wire 3 1 0) dev0
    let two := after (.wire 3 3 0) dev0
    faulty.nextSrc = some 3 ∧ (faulty.src 3).own = [] ∧ faulty.reaction 3 0 = 1 ∧ dev0.nextSrc = none ∧
    (let x := after .faultRecord faulty
     (x.src 3).queue = [] ∧ x.fget FLT_UNIT_CNT.CE 3 = 1 ∧ x.fget FLT_UNIT_LAST.CODE 3 = 0x10 ∧ x.rd ⟨.FLT_HIST0, 0, 0⟩ = 77 ∧
      x.rd ⟨.FLT_HIST1, 0, 0⟩ = 0xAB ∧ x.fget FLT_HIST_STAT.NEXT = 1 ∧ x.fget FLT_HIST_STAT.SEQ = 1) ∧
    (after .enter dev0).fget CSP_STATUS.FAULT_STATE = 1 ∧ q.inFault = true ∧ q.ucfHeld = false ∧ (after .exit q).fget FLT_STATUS.FAULT_STATE = 0 ∧
    (after .exit dev0).fget FLT_STATUS.FAULT_STATE = 0 ∧ (quiet 0).fget FLT_STATUS.FAULT_STATE = 1 ∧
    (quiet 1).fget FLT_STATUS.FAULT_STATE = 0 ∧ (quiet 1).now = 1048576 ∧
    one.fget FLT_UNIT_STAT.WIRE_FAULT 3 = 0 ∧ two.fget FLT_UNIT_STAT.WIRE_FAULT 3 = 1 ∧ (two.src 3).pairOk = false ∧
    (after (.wireFaultClear 3) two).fget FLT_UNIT_STAT.WIRE_FAULT 3 = 1 ∧
    (after (.wireFaultClear 3) (after (.wire 3 1 2) two)).fget FLT_UNIT_STAT.WIRE_FAULT 3 = 0 := by decide +kernel

/-- StoredDataIntegrity: a visit, a held scrubber, the lock's two ends, a macro copied to spare 16, no spare left, a fixed bank,
a reserve bank, a bank that leaves. -/
theorem witness_StoredDataIntegrity :
    let run := dev0.fset MEM_SCRUB_CFG.SCRUB_EN 1
    let m := after (.retireMacro 5 3) dev0
    let m2 := after (.macroCopyDone 5) m
    let no := (dev0.fset MEM_BANK_STAT.SPARE0 1 5).fset MEM_BANK_STAT.SPARE1 2 5
    let gone := after (.retireBank 251) dev0
    run.scrubberRuns 2 = true ∧ (dev0.fset MEM_SCRUB_CFG.SCRUB_EN 0).scrubberRuns 2 = false ∧
    (let x := after (.scrubVisit 2 .uncorrectable) run
     x.fget MEM_SCRUB_STAT.WORD 0 2 = 1 ∧ x.integ.poison = [32 * 65536] ∧ x.fget MEM_SCRUB_STAT.BANK 0 2 = 32) ∧
    dev0.lockErr = 0 ∧ (after .regionLock dev0).fget MEM_REGION_CTRL.BUSY = 1 ∧
    (after .regionLockDone (after .regionLock dev0)).fget CSP_STATUS.REGION_LOCK = 1 ∧
    ((dev0.fset MEM_SUBST.EN 1 0 0).fset MEM_SUBST.BANK 255 0 0).lockErr ≠ 0 ∧
    dev0.freeSpare 5 = some 16 ∧ m.integ.copies = [(5, (3, 16))] ∧ m2.physMacro 5 3 = 16 ∧ m2.fbit MEM_BANK_STAT.MACRO_OUT 3 5 = true ∧
    no.freeSpare 5 = none ∧ (after (.retireMacro 5 3) no).fget MEM_BANK_STAT.RESULT 5 = 3 ∧
    dev0.fget MEM_BANK_CFG.REGION 250 = 9 ∧ (after (.retireBank 250) dev0).fget MEM_BANK_STAT.STATE 250 = 0 ∧
    dev0.fget MEM_BANK_CFG.REGION 251 = 15 ∧ gone.fget MEM_BANK_STAT.STATE 251 = 2 ∧
    (after (.bankReleased 251) gone).fget MEM_BANK_STAT.STATE 251 = 3 ∧
    (after (.bankReleased 251) gone).fget CSP_STATUS.BANKS_IN_SERVICE = dev0.fget CSP_STATUS.BANKS_IN_SERVICE - 1 := by decide +kernel

/-- DebugAndTest: test instructions in and out of test mode, the captures, an access busy, refused, done; the lock; lost dies. -/
theorem witness_DebugAndTest :
    let d : Dev := { dev0 with fuses := ⟨0xA, 1, false, 0⟩ }
    let busy := after (.dapRead 0x40) (d.fset CSP_SCRATCH.VALUE 0x77)
    let lk := after .debugLock d
    (after .tapReset d).gable.ir = 2 ∧ (after .extest d).gable.ir = 0xFF ∧ (after .extest d).fget DBG_STAT.JTAG_BLOCKED = 1 ∧
    (after .extestTrain (d.fset DBG_STAT.TEST 1)).gable.ir = 9 ∧ sent .idcode d = [.idcode 0xA0512B47] ∧
    busy.gable.dap = some ⟨false, 0x40, 0, none, false⟩ ∧ sent .dapPoll busy = [.dapCapture 0x40 0 1 0] ∧
    (after (.dapWrite 0x48 1) busy).gable.dapAddr = 0x40 ∧ regAt 0x40 = some ⟨.CSP_SCRATCH, 0, 0⟩ ∧ busy.regWaits 0x40 = false ∧
    RK.writeOnly .CSP_SCRATCH = 0 ∧
    (let x := after .dapAccessDone busy; x.gable.dapData = 0x77 ∧ x.gable.dapStatus = 2 ∧ x.gable.dap = none) ∧
    (let x := after (.dapWrite 0x40 1) lk; x.gable.dapCause = 4 ∧ x.fget CSP_ERR.SOURCE = 2 ∧ x.fget CSP_ERR.CAUSE = 4) ∧
    (after .dapAccessDone (after (.dapWrite 0x40 9) d)).fget CSP_SCRATCH.VALUE = 9 ∧
    (after (.dapRead 0x44) d).gable.dapCause = 5 ∧ d.phase ≠ phTest ∧ lk.fget CSP_STATUS.DEBUG_LOCK = 1 ∧ lk.fget DBG_CTRL.LOCK = 1 ∧
    (after (.d2dFail 9) d).slotDieFailed = true ∧ (after (.d2dFail 8) net).session = false := by decide +kernel

/-! Lanes and ports (06_lanes.md, 07_cxl_ports.md) -/

/-- PortBringUp: from DOWN through TRAINING to UP, reversed, at the two FLIT codes; what does not come up; the reference. -/
theorem witness_PortBringUp :
    let dn := aPort 4 2 3 dev0
    let tr := (aPort 4 2 1 dev0).fset LAN_PRBS_CTRL.CHK_EN 1 17
    let us := aPort 4 1 1 dev0
    let isl := aPort 4 3 1 dev0
    let x5 := trained 0xC true 5 3
    let up := after (trainsTo 4 x5) (equal 5 tr)
    let lost := after (.refclkLoss 1) (aPort 4 2 2 dev0)
    let off := { tr with refStopped := [1] }
    dn.portState 4 = poDown ∧ dn.refOk 4 = true ∧ (after (.partnerDetected 4) (dark dn)).portState 4 = 1 ∧ tr.refOk 4 = true ∧
    (after (.receiverDetection 4) (dark tr)).fget LAN_PRBS_STAT.PREEMPTED 17 = 1 ∧ (after (.receiverDetection 4) dn).portState 4 = 3 ∧
    tr.trainEnd 4 x5 = .link 2 5 ∧ tr.trainEnd 4 (trained 0 true 5 3) = .down 9 ∧ us.trainEnd 4 (trained 0xC true 5 1) = .down 6 ∧
    isl.trainEnd 4 (trained 0xC true 4 3) = .down 5 ∧ off.refOk 4 = false ∧ off.trainEnd 4 x5 = .on ∧ isl.trainRate 4 (trained 0xC true 4 3) = some 4 ∧
    (let x := after (.trainingFailed 4 (trained 0xC true 5 1)) us; x.portState 4 = 3 ∧ x.fget CXP_LINK_STAT.CAUSE 4 = 6) ∧
    (let x := after (trainsTo 4 (trained 0 true 5 1)) tr; x.portState 4 = 3 ∧ x.fget CXP_LINK_STAT.CAUSE 4 = 9) ∧
    up.portState 4 = 2 ∧ up.fget CXP_LINK_STAT.FLIT 4 = 2 ∧ up.fget CXP_LINK_STAT.WIDTH 4 = 2 ∧
    (after (trainsTo 4 (trained 0xC true 4 3)) (equal 4 tr)).fget CXP_LINK_STAT.FLIT 4 = 1 ∧
    (after (trainsTo 4 (trained 0xC true 4 1)) (equal 4 tr)).fget CXP_LINK_STAT.FLIT 4 = 0 ∧ tr.trainEnd 4 (trained 0xC true 1 1) = .link 2 1 ∧
    up.fget LAN_STATUS.ACTIVE 18 = 1 ∧ up.fget LAN_STATUS.LOGICAL 18 = 1 ∧ up.fget LAN_STATUS.ACTIVE 16 = 0 ∧ up.fget LAN_STATUS.EQ_FAIL 17 = 1 ∧
    up.fget LAN_STATUS.POL_INV 18 = 1 ∧ lost.portState 4 = 3 ∧ lost.fget CXP_LINK_STAT.CAUSE 4 = 4 ∧
    lost.fget LAN_STATUS.REFCLK_LOST 31 = 1 ∧ (after (.refclkRestored 1) lost).refStopped = [] := by decide +kernel

/-- PortLossAndContainment: each way out of UP, containment of a port that is OFF, the release with and without a walk, IDE. -/
theorem witness_PortLossAndContainment :
    let up := ((aPort 4 2 2 dev0).fset LAN_STATUS.ACTIVE 1 16).fset CXP_IDE_CFG.EN 1 4
    let us := (aPort 4 1 2 dev0).fset CXP_IDE_CFG.EN 1 4
    let ct := aPort 4 1 4 dev0
    (let x := after (.linkDown 4) up
     x.portState 4 = 3 ∧ x.fget CXP_LINK_STAT.CAUSE 4 = 1 ∧ x.fget CXP_LINK_STAT.DOWN_COUNT 4 = 1 ∧ x.fget LAN_STATUS.ACTIVE 16 = 0) ∧
    (after (.hotReset (4, true)) (dark up)).portState 4 = 1 ∧ (after (.ideFailure 4) up).fget CXP_IDE_CFG.FAILS 4 = 1 ∧ dev0.portUp 4 = false ∧
    (after (.ideKm 4 true) us).fget CXP_IDE_CFG.STREAM 4 = 2 ∧ (after (.keyRefresh 4) up).freeCtr = 4 ∧ (after (.keyRefresh 4) us).freeCtr = 0 ∧
    sent (.contain 4) dev0 = [.log "containment" 4] ∧ (after (.contain 4) up).fget CXP_CONTAIN.CAUSE 4 = 4 ∧
    (after (.release 4) (dark ct)).portState 4 = 1 ∧ (after (.release 4) (ct.fset DIR_HOST_STAT.WALK 1 0 0)).portState 4 = 4 ∧
    (after (.release 4) up).portState 4 = 2 := by decide +kernel

/-- LaneTests: coefficients at R183's limit and beyond, a visit, a margining run ended at the limit, the checker, injections. -/
theorem witness_LaneTests :
    let d := aPort 4 2 2 dev0
    let act := (d.fset LAN_STATUS.ACTIVE 1 16).fset LAN_CTRL.BG_ADAPT_EN 1 16
    let mg := (act.fset LAN_MARGIN_STAT.STATE 1 16).fset LAN_MARGIN_CTRL.ERR_LIMIT 4 16
    let seen := (prbsRun 0 100 [true, true, true, true, true, true, true]).reverse.map fun b => if b then (3 : Fin 4) else 0
    let chk := dev0.fset LAN_PRBS_CTRL.CHK_EN 1 16
    let lk := after (.checkerLock 16 (0, 0) seen) chk
    let inj (m : Nat) := ((dev0.fset LAN_PRBS_INJ.MODE m 16).fset LAN_PRBS_CTRL.GEN_EN 1 16).fset LAN_PRBS_INJ.BURST_LEN 63 16
    let live (m : Nat) := (d.fset LAN_PRBS_INJ.MODE m 16).fset LAN_PRBS_INJ.LIVE 1 16
    let rm := d.fset LAN_PORT_CFG.REMOTE_MARGIN_EN 1 16
    d.inTest 16 = false ∧ dev0.inTest 16 = true ∧ (after (.coeffRequest 16 4 0 21) d).fget LAN_TXEQ.MAIN 16 = 42 ∧
    sent (.coeffRequest 16 4 0 22) d = [.log "coefficients rejected" 16] ∧ (after (.coeffRequest 16 6 8 8) d).fget LAN_TXEQ.MAIN 16 = 32 ∧
    sent (.coeffRequest 16 1 0 0) d = [.log "coefficients rejected" 16] ∧ sent (.coeffRequest 16 1 0 0) dev0 = [] ∧
    (after (.adaptVisit 16 300) act).fget LAN_STATUS.EYE 16 = 300 ∧ (after (.adaptVisit 16 300) d).fget LAN_STATUS.EYE 16 = 0 ∧
    (after (.adaptVisit 16 0) (act.fset LAN_ADAPT.EYE_MIN 1 16)).fget LAN_STATUS.MARGINAL 16 = 0 ∧
    (after (.adaptVisit 16 0) ((act.fset LAN_ADAPT.EYE_MIN 1 16).fset LAN_ADAPT.MISS_VISITS 1 16)).fget LAN_STATUS.MARGINAL 16 = 1 ∧
    (let x := after (.marginEnd 16 4) mg; x.fget LAN_MARGIN_STAT.STATE 16 = 2 ∧ x.fget LAN_MARGIN_STAT.LIMIT_HIT 16 = 1) ∧
    (after (.marginEnd 16 3) mg).fget LAN_MARGIN_STAT.LIMIT_HIT 16 = 0 ∧ (after (.marginEnd 16 3) act).fget LAN_MARGIN_STAT.STATE 16 = 0 ∧
    (after (.marginStart 16) act).fget LAN_MARGIN_STAT.STATE 16 = 1 ∧ (after (.marginStart 16) d).fget LAN_MARGIN_STAT.CAUSE 16 = 1 ∧
    rm.portOfLane 16 = some 4 ∧ (Tab.get {} (after (.remoteMargin 16 true) rm).lanes 16).remote = true ∧
    (Tab.get {} (after (.remoteMargin 16 true) dev0).lanes 16).remote = false ∧
    (after (.prbsChkEnable 16) dev0).fget LAN_PRBS_CTRL.CHK_EN 16 = 1 ∧ chk.checkerRuns 16 = true ∧ lk.fget LAN_PRBS_STAT.LOCKED 16 = 1 ∧
    (let x := after (.checkerLockLoss 16 1000 300) lk
     x.fget LAN_PRBS_ERR.ERRORS 16 = 300 ∧ x.fget LAN_PRBS_BITS.BITS 16 = 1000 ∧ x.fget LAN_PRBS_STAT.LOCK_LOSS 16 = 1) ∧
    sent (.injectGo 16) (inj 1) = [.inject 16 1] ∧ sent (.injectGo 16) (inj 2) = [.inject 16 64] ∧ sent (.injectGo 16) (inj 3) = [] ∧
    sent (.injectPeriodic (16, 2 ^ 40)) (inj 4) = [.inject 16 64] ∧ sent (.injectPeriodic (16, 2 ^ 40)) (live 3) = [.inject 16 1] ∧
    sent (.injectGo 16) (live 3) = [] ∧
    (let x := after (.injectPeriodic (16, 2 ^ 40)) ((live 3).fset CSP_STATUS.DEBUG_LOCK 1); x.out = [] ∧ x.fget LAN_PRBS_STAT.LIVE_REFUSED 16 = 1) := by
  decide +kernel

/-- A Thatchlink port 4 up with fallow enabled, its window's use given. -/
def fallow (used slots : Nat) : Dev :=
  let d := (aPort 4 4 2 dev0).fset CXP_PORT_CFG.WIDTH 1 4
  let d := ((d.fset CXP_LINK_STAT.WIDTH 8 4).fset LAN_FALLOW_STAT.WIDTH 8 16).fset LAN_FALLOW_CFG.FALLOW_EN 1 16
  let d := (d.fset LAN_FALLOW_CFG.LOW_PCT 20 16).fset LAN_FALLOW_CFG.HIGH_PCT 80 16
  d.setLanePort 4 { d.lanePort 4 with used := used, slots := slots }

/-- LinkPower: a window at LOW_PCT and above it, a narrowed direction at HIGH_PCT, sleep and waking, notices, L0p and L1. -/
theorem witness_LinkPower :
    let notice (d : Dev) := ((after (.fallowWindowEnd 4) d).lanePort 4).notice
    let nar := (fallow 80 100).fset LAN_FALLOW_STAT.STATE 1 16
    let sl := (fallow 0 0).fset LAN_FALLOW_STAT.STATE 2 16
    let wk := ((fallow 0 0).fset LAN_FALLOW_STAT.STATE 3 16)
    let wks := wk.setLanePort 4 { wk.lanePort 4 with fromSleep := true, before := 8 }
    let nt (n : Nat) := let d := fallow 0 0; d.setLanePort 4 { d.lanePort 4 with notice := some n }
    let cx := ((aPort 4 2 2 dev0).fset LAN_PORT_CFG.L0P_EN 1 16).fset LAN_PORT_CFG.ASPM_L1_EN 1 16
    let cx := ((cx.fset CXP_LINK_STAT.FLIT 2 4).fset CXP_LINK_STAT.RATE 5 4).fset CXP_LINK_STAT.WIDTH 16 4
    let us := (cx.fset CXP_PORT_CFG.MODE 1 4).fset LAN_STATUS.TX_STATE 1 16
    (fallow 0 0).fallowRuns 4 = true ∧ notice (fallow 20 100) = some 4 ∧ notice (fallow 21 100) = none ∧
    (after (.fallowWindowEnd 4) nar).fget LAN_FALLOW_STAT.STATE 16 = 3 ∧ dev0.fallowRuns 4 = false ∧
    ((after (.fallowIdle 4) ((fallow 0 0).fset LAN_FALLOW_CFG.SLEEP_EN 1 16)).lanePort 4).notice = some 0 ∧
    (after (.fallowWake 4) sl).fget LAN_FALLOW_STAT.STATE 16 = 3 ∧ (after (.fallowWake 4) nar).fget LAN_FALLOW_STAT.STATE 16 = 1 ∧
    (after (.lanesReady 4) wks).fget LAN_FALLOW_STAT.STATE 16 = 0 ∧ ((after (.lanesReady 4) wk).lanePort 4).notice = some 8 ∧
    (after (.noticeEffect 4 false) (nt 0)).fget LAN_FALLOW_STAT.STATE 16 = 2 ∧ (after (.noticeEffect 4 false) (nt 4)).fget LAN_FALLOW_STAT.WIDTH 16 = 4 ∧
    ((after (.noticeEffect 4 true) ((fallow 0 0).setTlk 4 { noticeRx := some 1 })).lanePort 4).rxWidth = some 4 ∧
    ((after (.l0pRequest 4 (.l0p 8)) cx).lanePort 4).l0p = 8 ∧ sent (.l0pRequest 4 (.l0p 4)) (cx.fset CXP_LINK_STAT.RATE 4 4) = [.log "link power request refused" 4] ∧
    ((after (.l0pRequest 4 .aspmL1) cx).lanePort 4).l1 = 1 ∧ sent (.l0pRequest 4 .aspmL1) us = [.log "link power request refused" 4] ∧
    ((after (.l0pRequest 4 .pciPmL1) cx).lanePort 4).l1 = 2 ∧ ((after (.aspmL1Entry 4 true) us).lanePort 4).l1 = 1 ∧
    ((after (.l1Exit 4) (after (.aspmL1Entry 4 true) us)).lanePort 4).l1 = 0 := by decide +kernel

/-! Thatchlink, requests and capacity (01, 07 to 11) -/

/-- A link header: its kind, sequence, ACK. -/
def hdr (kind : BitVec 3) (seq ack : BitVec 10) (ackV : Bool) : TlkHeader := ⟨kind, false, 1, false, seq, ack, ackV, 0x81, 0, 0, false⟩

/-- ThatchlinkFlits: a DATA flit in order (E wraps), ahead, at distance 512; a bad CRC, a wrong ACK; IDLE; NAK, CREDIT, PING; the
three timers; a slot with a record, a retransmission, one that is lost, nothing. -/
theorem witness_ThatchlinkFlits :
    let d := tlk 2 { replay := [kflit 5, kflit 6], limit := [(1, 9)], missing := [(900, 10)], fresh := [(2, 1, 50)] }
    let data (h : TlkHeader) (ok : Bool) := after (.tlkDataFlit 4 h [] (if ok then flitCrc h [] else ~~~ flitCrc h []) []) d
    let idle (h : TlkHeader) (bs : List Byte) := after (.tlkIdleFlit 4 h bs (flitCrc h bs)) d
    d.llOpen 4 = true ∧ d.ll 4 = llActive ∧ d.ackOk 4 6 = true ∧ d.ackOk 4 7 = false ∧
    (let y := data (hdr 1 1023 5 true) true
     y.fget TLK_STATUS.RX_EXPECT 4 = 0 ∧ (y.tlkPort 4).replay.map (·.seq) = [6] ∧ y.fget TLK_STATUS.XOFF_RX 4 = 0x81) ∧
    (let y := data (hdr 1 1 0 false) true
     y.fget TLK_STATUS.RX_EXPECT 4 = 1023 ∧ (y.tlkPort 4).held.map (·.seq) = [1] ∧ (y.tlkPort 4).naks = [1023, 0]) ∧
    (let y := data (hdr 1 511 0 false) true; (y.tlkPort 4).held = [] ∧ (y.tlkPort 4).naks = []) ∧
    (data (hdr 1 1023 5 true) false).fget TLK_ERR_CNT.CRC_FAILS 4 = 1 ∧
    (let y := data (hdr 1 1023 7 true) true; y.ll 4 = llRecovery ∧ y.fget TLK_STATUS.BROKEN_CAUSE 4 = 4) ∧
    ((idle (hdr 0 0 0 false) []).tlkPort 4).naks = [1023] ∧
    (idle (hdr 2 0 0 false) [7]).ll 4 = llRecovery ∧
    ((after (.nak 4 6) d).tlkPort 4).resend = [6] ∧ ((after (.nak 4 4) d).tlkPort 4).resend = [] ∧
    Tab.get 0 ((after (.credit 4 1 12 5 true) d).tlkPort 4).limit 1 = 12 ∧ ((after (.ping 4 3 9) d).tlkPort 4).pongs = [(3, 9)] := by decide +kernel

/-- ThatchlinkFlits: the three timers; a slot with a record, a retransmission, one that is lost, nothing. -/
theorem witness_ThatchlinkFlits_slots :
    let d := tlk 2 { replay := [kflit 5, kflit 6], limit := [(1, 9)], missing := [(900, 10)], fresh := [(2, 1, 50)] }
    let slot (d : Dev) := (sent (.tlkTxSlot 4 false .whole false) d).getLast?.map fun m => match m with
      | .flit _ h _ rs => (h.kind, h.replay, h.seq, rs.length)
      | _ => (7, false, 0, 0)
    (let y := after (.nakRepeat 4 900) d; (y.tlkPort 4).naks = [900] ∧ y.now = 74) ∧
    (let y := after (.replayTimeout 4) d; (y.tlkPort 4).resend = [5] ∧ y.now = 2000) ∧
    (let y := after (.creditTimer 4 2) d; (y.tlkPort 4).due = [2] ∧ y.now = 306) ∧
    slot (after (.ping 4 3 9) d) = some (2, false, 7, 1) ∧ slot (after (.nak 4 6) d) = some (1, true, 6, 0) ∧
    slot d = some (0, false, 7, 0) ∧ sent (.tlkTxSlot 4 false .whole false) (d.fset LAN_FALLOW_STAT.STATE 2 16) = [] ∧
    (let y := after (.tlkTxSlot 4 true .whole false) (after (.nak 4 6) d)
     y.portState 4 = poDown ∧ y.fget CXP_LINK_STAT.CAUSE 4 = 1) := by decide +kernel

/-- ThatchlinkStates: start, INIT with and without all that ACTIVE needs, the 16th sample, recovery and its end, RESUME, a stall in
both modes, each way to DOWN, and a command in another state. -/
theorem witness_ThatchlinkStates :
    let dn := equal 5 ((tlk 0 {}).fset CXP_LINK_STAT.STATE 1 4)
    let ini (n : Nat) := tlk 1 { creditSeen := [0, 1, 2, 3, 4, 5, 6, 7], samples := List.replicate n 100, pinged := [(15, 9)] }
    let act := (tlk 2 { replay := [kflit 5, kflit 6], resumeSeen := false, creditWait := some (10, 1) }).fset TLK_STATUS.XOFF_RX 2 4
    let act : Dev := { act with core := { act.core with buf := [rsp 1] } }
    let rec' := after (.phyRecovery 4) act
    let strict := act.fset TLK_CFG.CREDIT_MODE 1 4
    dn.portState 4 = poTraining ∧ dn.ll 4 = llDown ∧ (after (startsWith 4 (trained 0xF false 5 4)) dn).ll 4 = llInit ∧
    (after (startsWith 4 (trained 0xF false 5 4)) dn).fget CXP_LINK_STAT.PARTNER 4 = 4 ∧ (after (startsWith 4 { trained 0xF false 5 4 with vendor := 0 }) dn).fget CXP_LINK_STAT.CAUSE 4 = 6 ∧
    dn.trainEnd 4 (trained 0xF false 5 4) = .link 4 5 ∧
    (after (.init 4 1 0 false) (ini 16)).ll 4 = llActive ∧ (after (.init 4 1 0 false) (ini 15)).ll 4 = llInit ∧
    (after (.init 4 0 0 false) (ini 16)).ll 4 = llInit ∧ (after (.init 4 1 0 false) act).ll 4 = llActive ∧
    (let y := after (.initTimeout 4) (ini 0); y.portState 4 = 3 ∧ y.fget CXP_LINK_STAT.CAUSE 4 = 6) ∧
    (after (.pong 4 15 9) ((ini 15).fset TIM_NOW.NOW 300)).fget TLK_RTT.RTT_NS 4 = 291 ∧
    (after (.pong 4 15 9) ((ini 14).fset TIM_NOW.NOW 300)).fget TLK_RTT.RTT_NS 4 = 0 ∧
    rec'.ll 4 = llRecovery ∧ rec'.portState 4 = 2 ∧ (after (.phyRecovery 4) (ini 0)).ll 4 = llInit ∧
    (let y := after (.recoveryEnd 4) rec'
     y.ll 4 = llActive ∧ (y.tlkPort 4).replay.map (·.seq) = [5, 6] ∧ (y.tlkPort 4).measuring = true ∧ (y.tlkPort 4).resumeDue = true) ∧
    (after (.resumeLimit 4) rec').portState 4 = 3 ∧ (after (.recoveryEnd 4) act).ll 4 = llActive ∧
    (let y := after (.resume 4 6) act; (y.tlkPort 4).replay.map (·.seq) = [6] ∧ (y.tlkPort 4).resend = [6]) ∧
    ((after (.resume 4 6) (tlk 2 { replay := [kflit 5] })).tlkPort 4).resend = [] ∧
    (let y := after (.strictTimeout 4) act; y.fget TLK_STATUS.STALLED 4 = 1 ∧ y.ll 4 = llActive ∧ y.now = 10 + max 1 (act.fget TLK_CFG.STRICT_TIMEOUT 4) * 1000) ∧
    (after (.strictTimeout 4) strict).fget TLK_STATUS.BROKEN_CAUSE 4 = 1 := by decide +kernel

/-- A flight of host port 4 sent to port 8 under tag 7. -/
def hostFlight : Flight :=
  { tag := 7, epoch := false, src := .port 4, vsw := some 2, kind := .readU, write := false, addr := 10 * 2 ^ 30, hostTag := 77, admitted := 0, phase := .sent, egress := 8 }

/-- The messages that leave on links. -/
def linked (out : List OutMsg) : List (Nat × QBody) := out.filterMap fun m => match m with | .link p b _ _ => some (p, b) | _ => none

/-- TrafficCommands: a bound read, an unbound one, a denied one; its response; a response to none; the two configuration writes; PID
routing; admission behind a held message and into a part; slots; a rule's parity. -/
theorem witness_TrafficCommands :
    let g := 2 ^ 30
    let rd (a : Nat) := after (.ingressMessage 4 (.request (rdLine a 77)) []) cxl
    let fl : Dev := { cxl with core := { cxl.core with flights := [hostFlight], nextTag := 8 } }
    let done := after (.ingressMessage 8 (.response 7 5 false 0) []) fl
    let isl := sets [(CXP_PBR_ROUTE.VALID, 1, 12, 5), (CXP_PBR_ROUTE.EGRESS, 8, 12, 5)] (aPort 12 3 2 cxl)
    let hold : Dev := { cxl with core := { cxl.core with holds := [(some 8, rsp 1), (some 8, rsp 2)] } }
    let que : Dev := { cxl with core := { cxl.core with buf := [{ rsp 1 with cls := 0 }] } }
    let way : Dev := { cxl with core := { cxl.core with sending := [(4, rsp 1)] } }
    cxl.portUp 4 = true ∧ cxl.inL1 4 = false ∧ cxl.portMode 4 = 1 ∧ cxl.withholds 4 .mem = false ∧
    cxl.hcheck false (.port 4) 2 (256 * g) .read = .allow (some 1) false ∧ cxl.hcheck false (.port 4) 2 (257 * g) .read = .deny false false 0 ∧
    cxl.hostPool false 2 (256 * g + 64) = some (10 * g + 64) ∧ cxl.hostPool false 2 (300 * g) = none ∧ cxl.shared false (10 * g) = false ∧
    cxl.place false (10 * g + 64) = .at 9 (3 * g + 64) ∧ cxl.hcheck false .pool 2 (10 * g + 64) .read = .allow (some 0) false ∧
    (rd (300 * g)).core.buf.map (·.body) = [.response 77 (some (onesOf 64)) true none] ∧ (rd (300 * g)).out = [.log "unbound" (300 * g)] ∧
    (rd (257 * g)).core.buf.map (·.body) = [.response 77 (some (onesOf 64)) true none] ∧ (rd (257 * g)).fget HRW_PORT_DENY_STAT.DENIES 4 = 1 ∧
    done.core.flights = [] ∧ done.core.buf.map (fun m => (m.egress, m.body)) = [(4, .response 77 (some 5) false none)] ∧
    sent (.ingressMessage 8 (.response 9 5 false 0) []) fl = [.log "response discarded" 9] ∧
    (after (.ingressMessage 4 (.biEnable true) []) cxl).fget DIR_HOST_STAT.BI_EN 0 2 = 1 ∧
    ((after (.ingressMessage 4 (.dpcEnable 3 true) []) cxl).pool 2).dpc = [3] ∧ isl.pbrEgress 12 5 = some 8 ∧ isl.pbrEgress 12 6 = none ∧
    (after (.pbrMessage 12 1 5 (.request (rdLine 0 7)) []) isl).core.buf.map (·.egress) = [8] ∧
    (after (.pbrMessage 12 1 6 (.request (rdLine 0 7)) []) isl).core.buf.map (·.egress) = [12] ∧
    sent (.pbrMessage 12 1 6 (.reserved 9) []) isl = [.log "reserved type" 9] ∧
    hold.admitPart (rsp 1) = some .min ∧ (after (.bufferAdmit 1) hold).core.holds.length = 2 ∧
    (after (.bufferAdmit 0) hold).core.buf.map (·.body) = [(rsp 1).body] ∧ (after (.bufferAdmit 2) hold).core.buf = [] ∧
    que.head 4 0 0 = some { rsp 1 with cls := 0 } ∧ linked (sent (.egressSlot 4 false .whole ⟨false, false⟩) que) = [(4, (rsp 1).body)] ∧
    way.underWay 4 = some (rsp 1) ∧ sent (.egressSlot 4 true .whole ⟨false, false⟩) way = [] ∧
    linked (sent (.egressSlot 4 false .whole ⟨false, false⟩) way) = [(4, (rsp 1).body)] ∧ sent (.egressSlot 4 false .whole ⟨false, false⟩) cxl = [] ∧
    ((after (.ruleParityFail 130 0) cxl).rd ⟨.HRW_DEFMAP0, 0, 0⟩).getLsbD 6 = true ∧
    ((after (.ruleParityFail 127 40) cxl).rd ⟨.HRW_PORT_RULE0, 127, 8⟩).getLsbD 6 = true := by decide +kernel

/-- An extent of 1 GiB at DPA 1 GiB on field 11. -/
def ext : Extent := ⟨0, 1, 1, 11, 0⟩

/-- Capacity: a decoder that fits and one that does not; the answers of Request Capacity, with frames to give and without; an offer
accepted, refused, misnamed, timed out; a release with and without requests; the list. -/
theorem witness_Capacity :
    let ask (d : Dev) (r : BitVec 8) (lo hi : BitVec 32) := sent (.requestCapacity 2 r 0 lo hi) d
    let on := sets [(CXP_POOL_CFG.HOST_REQ_EN, 1, 2, 0), (TMP_ALLOC_CFG.GRANT_LIMIT, 100, 0, 0), (TMP_ALLOC_CFG.GRANT_BASE, 50, 0, 0),
      (TMP_QUOTA.QUOTA_GIB, 8, 0, 8), (TMP_TIER_STAT.FREE_GIB, 2, 0, 0), (TMP_TIER_STAT.ZEROED_GIB, 2, 0, 0), (CXP_POOL_REGION.SIZE_GIB, 8, 2, 0)] cxl
    let on : Dev := { on with thatch := { on.thatch with frames := [(frameKey 9 5, .zeroed), (frameKey 9 6, .zeroed)] } }
    let off := cxl.fset CXP_POOL_CFG.HOST_REQ_EN 0 2
    let open' := cxl.setPool 2 { cxl.pool 2 with offer := some ([ext], 3) }
    let acc := cxl.setPool 2 { cxl.pool 2 with accepted := [ext] }
    let rel (ts : List Nat) : Dev := { acc.setPool 2 { acc.pool 2 with release := some ([ext], ts) } with core := { acc.core with flights := [hostFlight] } }
    cxl.hasPool 2 = true ∧ cxl.regionBase 2 4 = 4 ∧ (cxl.freeBinds 2).length = 63 ∧
    (Tab.get ⟨0, 0, 0⟩ ((after (.hdmDecoderCommit 2 0 1 3 1 1) cxl).pool 2).decoders 0) = ⟨2 ^ 30, 3 * 2 ^ 30, 2 ^ 30⟩ ∧
    sent (.hdmDecoderCommit 2 0 1 4 1 1) cxl = [.log "HDM decoder error" 2] ∧ sent (.hdmDecoderCommit 2 0 1 3 1 2) cxl = [.log "HDM decoder error" 2] ∧
    ask off 0 1 1 = [.mailbox 2 .unsupported []] ∧ ask on 4 1 1 = [.mailbox 2 .invalidInput []] ∧ ask on 0 0 1 = [.mailbox 2 .invalidInput []] ∧
    ask on 0 1 9 = [.mailbox 2 .invalidInput []] ∧ ask (on.setPool 2 (open'.pool 2)) 0 1 1 = [.mailbox 2 .busy []] ∧
    ask on 0 4 8 = [.mailbox 2 .exhausted []] ∧ (on.plan 2 0 0 2).map (fun x => (x.dpaGib, x.len, x.field)) = [(4, 2, 50)] ∧
    (ask on 0 2 8).getLast? = some (.mailbox 2 .success (leBytes 4 2 ++ leBytes 2 1 ++ leBytes 2 0)) ∧
    sent (.addDynamicCapacityResponse 2 []) cxl = [.mailbox 2 .invalidInput []] ∧
    sent (.addDynamicCapacityResponse 2 [⟨1, 2⟩]) open' = [.mailbox 2 .invalidInput []] ∧
    ((after (.addDynamicCapacityResponse 2 []) open').pool 2).offer = none ∧ open'.freeBinds 2 ≠ [] ∧
    (let y := after (.addDynamicCapacityResponse 2 [⟨1, 1⟩]) open'; (y.pool 2).accepted = [ext] ∧ y.fget CXP_POOL_USED.USED_GIB 2 0 = 1) ∧
    (let y := after (.offerTimeout 2) open'; (y.pool 2).offer = none ∧ y.now = 3 + max 1 (cxl.fget CXP_POOL_CFG.OFFER_TIMEOUT 2) * 1048576) ∧
    sent (.releaseDynamicCapacity 2 [⟨2, 1⟩]) acc = [.mailbox 2 .invalidInput []] ∧ sent (.releaseDynamicCapacity 2 [⟨1, 1⟩]) (rel []) = [.mailbox 2 .busy []] ∧
    acc.pendingAddrs = [] ∧ ((after (.releaseDynamicCapacity 2 [⟨1, 1⟩]) acc).pool 2).release = some ([ext], []) ∧
    sent (.releaseDrained 2) (rel [7]) = [] ∧ OutMsg.mailbox 2 .success [] ∈ sent (.releaseDrained 2) (rel [6]) ∧
    sent (.getDynamicCapacityExtentList 2) acc = [.mailbox 2 .success (leBytes 8 (2 ^ 30) ++ leBytes 8 (2 ^ 30) ++ leBytes 16 0)] := by decide +kernel

/-! The thatch map (11) -/

/-- A command of TMP_CMD that runs. -/
def tcmd (op f sw v : Nat) (d : Dev) : Dev :=
  sets [(TMP_CMD.OP, op, 0, 0), (TMP_CMD.FIELD, f, 0, 0), (TMP_CMD.SWARD, sw, 0, 0), (TMP_CMD.DEV, v, 0, 0), (TMP_CMD_STAT.STATE, 1, 0, 0)] d

/-- Set 3 is pending and writes a field. -/
def busyField (f : Nat) (d : Dev) : Dev :=
  { d.fset TIM_COMMIT_STAT.STATE 2 0 3 with commits := { d.commits with order := [3], sets := [(3, [⟨Reg.addr ⟨.TMP_FIELD1, f, 0⟩, 8, 5, 0⟩])] } }

/-- ThatchCommands, TMP_CMD: the four commands accepted, one while another runs, what each does and why it does not. -/
theorem witness_ThatchCommands_cmd :
    let act (op f sw v : Nat) (d : Dev) := after .tmpCmdAct (tcmd op f sw v d)
    let res (d : Dev) := (d.fget TMP_CMD_STAT.STATE, d.fget TMP_CMD_STAT.RESULT)
    tmp.gable.boot = .up ∧ tmp.inReset = false ∧ tmp.fget TMP_CMD_STAT.STATE = 0 ∧ (after (.split 10) tmp).fget TMP_CMD.FIELD = 10 ∧
    (after (.gather 20 6) tmp).fget TMP_CMD.DEV = 6 ∧ (after (.replace 20 1) tmp).fget TMP_CMD.OP = 3 ∧
    (after (.split 11) (after (.abort 20 2) tmp)).fget TMP_CMD.FIELD = 20 ∧ after .tmpCmdAct tmp = tmp ∧ tmp.freeSlot = some 0 ∧
    res (act 1 20 0 0 tmp) = (2, 4) ∧ (busyField 10 tmp).fieldPending 10 = true ∧ res (act 1 10 0 0 (busyField 10 tmp)) = (2, 3) ∧
    res (act 2 10 0 6 tmp) = (2, 4) ∧ res (act 2 20 0 9 tmp) = (2, 2) ∧ res (act 2 20 0 6 (busyField 20 tmp)) = (2, 3) ∧
    tmp.zeroedFrame 6 = some 2 ∧ ((act 2 20 0 6 tmp).thatch.gather.map fun g => (g.dev, g.frame, g.todo)) = some (6, 2, [0, 2]) ∧
    (act 2 20 0 6 tmp).frame 6 2 = .carved ∧ res (act 3 20 0 0 tmp) = (2, 4) ∧ tmp.freeSFrame 0 = some (6, 100) ∧
    (let z := act 3 20 1 0 tmp
     res z = (2, 0) ∧ z.fget TMP_SWARD.STATE 2561 = 2 ∧ z.fget TMP_SWARD.DEV 2561 = 6 ∧ z.fget TMP_SWARD.FRAME2M 2561 = 100) ∧
    res (act 4 20 0 0 tmp) = (2, 4) ∧ tmp.migrationOf 2562 = some (3, tierMove) ∧ tmp.migr 3 = some tierMove ∧
    (let z := act 4 20 2 0 tmp; res z = (2, 0) ∧ z.fget TMP_SWARD.STATE 2562 = 2 ∧ z.migr 3 = none) := by decide +kernel

/-- `tmp` with every bank of the slots' swards retired. -/
def noSlots : Dev := (List.range 32).foldl (fun (d : Dev) b => d.fset MEM_BANK_STAT.STATE 2 (d.bankOf (130 + b))) tmp

theorem noSlots_retired : ∀ b < 32, noSlots.placeRetired (130 + b) = true := by decide +kernel

/-- ThatchCommands: no slot is free. -/
theorem witness_ThatchCommands_slots : noSlots.freeSlot = none := by
  unfold Dev.freeSlot
  rw [List.find?_eq_none]
  intro k hk
  have : k / 256 < 32 := by rw [List.mem_range] at hk; omega
  simp [noSlots_retired _ this]

/-- Sward `s` of a field gathered on frame 4 of device 9, as its register holds it. -/
def swardIn (s : Nat) : Word := BitVec.ofNat 64 (2 + 9 * 256 + (4 * 512 + s) * 65536)

/-- Field 30 SPLIT in slot 7, its 512 swards in order on frame 4 of device 9. -/
def gathered : Dev :=
  let d := sets [(TMP_FIELD0.MODE, 3, 30, 0), (TMP_FIELD0.SLOT, 7, 30, 0), (TMP_ALLOC_CFG.AUTO_MERGE, 1, 0, 0)] tmp
  { d with regs := (List.range' 0 512).map (fun s => (⟨.TMP_SWARD, 7 * 512 + s, 0⟩, swardIn s)) ++ d.regs }

theorem regFind_row (v : Nat → Word) (l : List RegCell) (b n a s : Nat) (h : a ≤ s ∧ s < a + n) :
    regFind ((List.range' a n).map (fun s => (⟨.TMP_SWARD, b + s, 0⟩, v s)) ++ l) ⟨.TMP_SWARD, b + s, 0⟩ = some (v s) := by
  induction n generalizing a with
  | zero => omega
  | succ n ih =>
    rw [List.range'_succ, List.map_cons, List.cons_append, regFind]
    by_cases e : s = a
    · subst e; simp
    · have h1 : ¬ ((⟨.TMP_SWARD, b + s, 0⟩ : Reg) = ⟨.TMP_SWARD, b + a, 0⟩) := by
        intro h; injection h; omega
      rw [if_neg h1]
      exact ih (a + 1) (by omega)

theorem gathered_rd (s : Nat) (h : s < 512) : gathered.rd ⟨.TMP_SWARD, 7 * 512 + s, 0⟩ = swardIn s := by
  unfold Dev.rd gathered
  rw [regFind_row _ _ _ _ _ _ ⟨Nat.zero_le s, by omega⟩]
  rfl

theorem swardIn_fields : ∀ s < 512, bitsOf (swardIn s) 0 2 = 2 ∧ bitsOf (swardIn s) 8 8 = 9 ∧
    bitsOf (swardIn s) 16 33 = 4 * 512 + s := by decide +kernel

/-- ThatchCommands: a field whose swards fill a frame in order. -/
theorem witness_ThatchCommands_merge : gathered.mergeable 30 = some (9, 4) ∧ gathered.fieldPending 30 = false ∧
    gathered.fon TMP_FIELD0.MIGRATING 30 = false ∧ gathered.fget TMP_FIELD1.PHASE 30 = 0 ∧
    gathered.fon TMP_ALLOC_CFG.AUTO_MERGE = true := by
  have h1 : gathered.fmode 30 = fSplit := by decide +kernel
  have h0 : gathered.dvInPool 9 = true := by decide +kernel
  have h2 : gathered.fget TMP_FIELD0.SLOT 30 = 7 := by decide +kernel
  have st (s : Nat) (h : s < 512) : gathered.fget TMP_SWARD.STATE (7 * 512 + s) = 2 ∧ gathered.fget TMP_SWARD.DEV (7 * 512 + s) = 9 ∧
      gathered.fget TMP_SWARD.FRAME2M (7 * 512 + s) = 4 * 512 + s := by
    have e := swardIn_fields s h
    rw [← gathered_rd s h] at e
    exact e
  refine ⟨?_, by decide +kernel, by decide +kernel, by decide +kernel, by decide +kernel⟩
  have z := st 0 (by omega)
  unfold Dev.mergeable
  simp only [h1, h2, Nat.add_zero] at z ⊢
  rw [z.2.1, z.2.2, if_pos]
  refine ⟨trivial, h0, ?_⟩
  rw [List.all_eq_true]
  intro s hs
  obtain ⟨a, b, c⟩ := st s (List.mem_range.mp hs)
  simp [a, b, c]

/-- ThatchCommands: a marked field splits, one that is not does nothing; a field whose swards fill a frame merges; halving; a
migration for tiering, and its reasons not to; passes, the stall, the switch both ways. -/
theorem witness_ThatchCommands_fields :
    let mark : Dev := { tmp with thatch := { tmp.thatch with splitting := [10] } }
    let cnt := (cxl.fset TMP_FIELD1.COUNT 9 10).fset TIM_NOW.NOW 1
    let off := sets ((List.range 32).map fun m => (DMV_CTRL.EN, 0, m, 0)) tmp
    let cand : Dev := { tmp with thatch := { tmp.thatch with candidates := [⟨20, 0, true⟩] } }
    let st := after (.migrationStart .tier) cand
    tmp.drainsWhole 10 = false ∧ (after (.fieldSplit 10) tmp).fmode 10 = fWhole ∧ mark.thatch.splitting = [10] ∧ mark.freeSlot = some 0 ∧
    tmp.mergeable 20 = none ∧
    (after .halvingPass cnt).now = 1048576 ∧ cnt.fmode 10 = fWhole ∧
    (after .halvingPass (cnt.fset TMP_TIER_CFG.HALVE_COURSES 2 0 0)).fget TMP_FIELD1.COUNT 10 = 9 ∧
    (after .halvingPass ((cnt.fset TMP_TIER_CFG.HALVE_COURSES 2 0 0).fset TIM_NOW.NOW 1048577)).fget TMP_FIELD1.COUNT 10 = 4 ∧
    tmp.migrSlot = some 0 ∧ tmp.bestMover = some 1 ∧ tmp.inFault = false ∧ (after (.migrationStart .tier) tmp) = tmp.toSwath ∧
    tmp.thatch.gather = none ∧ tmp.dvState 9 ≠ dvDraining ∧ tmp.work 5 = none ∧ off.bestMover = none ∧
    cand.fget TMP_SWARD.STATE (cand.entryOf 20 0) = swPlaced ∧ cand.fon TMP_FIELD1.PIN 20 = false ∧ cand.freeSFrame 0 = some (6, 100) ∧
    st.thatch.candidates = [] ∧ (st.migr 0).map (fun m => (m.dstDev, m.dst, m.entry)) = some (6, 100, 2560) := by decide +kernel

/-- ThatchCommands: passes, the stall, the switch both ways; a drain's retry, the lost walk, zero-fill. -/
theorem witness_ThatchCommands_copy :
    let mg (m : Migration) (d : Dev) : Dev := { d with thatch := { d.thatch with migrations := [(3, m)] } }
    let passed (n : Nat) (d : Dev) := mg { tierMove with left := n, scan := 32768 } d
    let due := mg { tierMove with stallAt := some 2048 } tmp
    let off := sets ((List.range 32).map fun m => (DMV_CTRL.EN, 0, m, 0)) tmp
    let sw := due.fset TMP_MIGR_SLOT.STATE 2 0 3
    let last := tmp.fset TMP_MIGR_SLOT.PASS 4 0 3
    let dr := (tmp.fset TMP_DEV_STAT.STATE dvDraining 0 9).fset TMP_DEV_STAT.NOSPACE 1 0 9
    let lost := (tmp.fset TMP_DEV_STAT.STATE dvLost 0 9).fset TMP_DEV_STAT.WALK 1 0 9
    let closed' (d : Dev) := after (.copyPassEnd 3 none) d
    let fill (k : Nat) : Dev := { tmp with thatch := { tmp.thatch with fills := [(relKey false 6 1, (k, []))] } }
    tmp.migr 4 = none ∧ tmp.copyFlights 3 = [] ∧ closed' tmp = tmp ∧
    (closed' (passed 64 tmp)).migr 3 = some { tierMove with left := 64, stallAt := some 2048 } ∧
    (closed' (passed 65 tmp)).fget TMP_MIGR_SLOT.PASS 0 3 = 2 ∧ (closed' (passed 65 last)).migr 3 = none ∧
    (after (.copyPassEnd 3 (some (0, 5))) (mg { tierMove with left := 32700, bits := 2 ^ 68 - 1, scan := 32768 } tmp)).fget
      TMP_MIGR_SLOT.DIRTY 0 3 = 32768 ∧
    (after (.migrationStall 3) due).fget TMP_MIGR_SLOT.STATE 0 3 = 2 ∧ (after (.migrationStall 3) due).now = 2048 ∧
    after (.migrationSwitch 3 none) tmp = tmp ∧ sw.fget TMP_MIGR_SLOT.STATE 0 3 = 2 ∧
    (let y := after (.migrationSwitch 3 none) (mg { tierMove with left := 0, stallAt := some 2048 } sw)
     y.fget TMP_SWARD.DEV 2562 = 6 ∧ y.fget TMP_SWARD.FRAME2M 2562 = 7 ∧ y.now = 3072) ∧
    (let y := after (.migrationSwitch 3 none) sw; y.fget TMP_SWARD.DEV 2562 = 9 ∧ y.fget TMP_MIGR_STAT1.ABORTED = 1) ∧
    dr.dvState 9 = dvDraining ∧ (after (.drainRetry 9) dr).fget TMP_DEV_STAT.NOSPACE 0 9 = 0 ∧ (after (.drainRetry 9) dr).now = 1048576 ∧
    after (.drainRetry 9) tmp = tmp ∧ lost.fon TMP_DEV_STAT.WALK 0 9 = true ∧ (after (.lostWalkEnd 9) lost).fmode 10 = fLost ∧
    (after (.lostWalkEnd 9) lost).fget TMP_SWARD.STATE 2560 = swLost ∧ tmp.frameDirty 6 1 = true ∧
    tmp.zeroFilling[tmp.fillsBefore 6 512]? = some 0 ∧ (relKey false 6 1 ∉ tmp.fillBlocked) ∧
    (fill (fillChunks false)).fillMover 6 false 1 = some 0 ∧ (after (.frameZeroed 6 false 1) (fill (fillChunks false))).frame 6 1 = .zeroed ∧
    (after (.frameZeroed 6 false 1) (fill 5)).frame 6 1 = .dirty ∧ off.zeroFilling = [] := by decide +kernel

/-! Lending and the directory (11, 12) -/

/-- `cxl` with Thatchlink port 4's place taken by port 40: device 20 is lent to borrower 21 on port 40, device 30 is borrowed through
it as entry 31 of the lender; a message of a released flit waits on VC 1. -/
def lend : Dev :=
  let d := sets [(TMP_DEV_STAT.STATE, 4, 0, 20), (TMP_DEV_CFG.PORT, 8, 0, 20), (TMP_DEV_RANGE.BASE_GIB, 7, 0, 20),
    (TMP_DEV_CFG.SIZE_GIB, 5, 0, 20), (TMP_DEV_RANGE.PEER, 3, 0, 20), (TMP_DEV_STAT.STATE, 1, 0, 30), (TMP_DEV_CFG.REMOTE, 1, 0, 30),
    (TMP_DEV_RANGE.PEER_DEV, 31, 0, 30), (TMP_DEV_CFG.PORT, 40, 0, 30), (TMP_DEV_CFG.SIZE_GIB, 6, 0, 30)] (aPort 40 4 2 cxl)
  ({ d with thatch := { d.thatch with lentTo := [(20, (21, 40))], devLost := [(20, 2)], leaseOpen := [30] } } : Dev).setTlk 40
    { released := [{ kflit 5 with left := 2 }] }

/-- A request of host port 4 in flight to device 30 as device tag 7. -/
def lendFlight (write : Bool) : Flight := { hostFlight with egress := 40, ld := 30, dpa := 0x1000, kind := if write then .writeU else .readU }

/-- A borrower's read in service here, sent to the device behind port 8. -/
def service (write : Bool) : Flight :=
  { hostFlight with src := .lender 40 500 20 21, vsw := none, write := write, kind := if write then .writeU else .readU }

def fly (fs : List Flight) (d : Dev) : Dev := { d with core := { d.core with flights := fs, nextTag := 8 } }

/-- LendingAndDirectory, the coordination messages: each from a port no flit of which waits, and with the two outcomes. -/
theorem witness_LendingAndDirectory_lending :
    let w (d : Dev) := d.core.buf.map (fun m => (m.egress, m.body))
    let st (b : Nat) := w (after (.leaseCheck 40 1 20 21 (BitVec.ofNat 32 b) 5 3) lend)
    (lend.portUp 40 && lend.portMode 40 == 4 && (lend.tlkTake 40 1).isSome) = true ∧ (lend.tlkTake 40 2).isNone = true ∧
    after (.leaseCheck 40 2 20 21 7 5 3) lend = lend ∧ lend.core.flights = [] ∧
    st 7 = [(40, .coord 0x21 (leaseBody 20 21 0) false)] ∧ st 8 = [(40, .coord 0x21 (leaseBody 20 21 1) false)] ∧
    (after (.leaseCheck 40 1 20 99 7 5 3) lend).thatch.lentTo.find? (fun e => e.1 == 20) = some (20, 99, 40) ∧
    (let y := after (.leaseAck 40 1 31 30 0) lend; y.thatch.leaseOpen = [] ∧ y.fget TMP_TIER_STAT.FREE_GIB 0 0 = 6) ∧
    (after (.leaseAck 40 1 31 30 1) lend).dvState 30 = dvLost ∧ (after (.leaseAck 40 1 32 30 0) lend).thatch = lend.thatch ∧
    lend.dvInPool 30 = true ∧ (after (.devLost 40 1 31 30 2) lend).dvState 30 = dvLost ∧ (after (.devLost 40 1 32 30 2) lend).thatch = lend.thatch ∧
    w (after (.devLost 40 1 32 30 2) lend) = [(40, .coord 0x23 (leaseBody 32 30 2) false)] ∧
    (20, 21, 40) ∈ lend.thatch.lentTo ∧ (after (.devLostAck 40 1 20 21 2) lend).thatch.devLost = [] ∧
    (after (.devLostAck 40 1 20 22 2) lend).thatch = lend.thatch := by decide +kernel

/-- LendingAndDirectory: DREAD, DWRITE, DDATA, DDONE; the repeats; a device that is done. -/
theorem witness_LendingAndDirectory_data :
    let w (d : Dev) := d.core.buf.map (fun m => (m.egress, m.body))
    let ddata (tag : BitVec 16) := after (.ddata 40 1 tag 31 30 0x1000 0 5 false) (fly [lendFlight false] lend)
    lend.lenderStatus 40 20 21 0x1C0001000 (lend.now % 2 ^ 32) = 0 ∧ lend.vcFull 40 1 = false ∧
    lend.lenderStatus 40 20 22 0x1000 0 ≠ 0 ∧ w (after (.dread 40 1 500 20 22 0x1000 0) lend) =
      [(40, .coord 0x12 (ddBody 500 20 22 0x1000 3 ++ leBytes 64 onesLine) true)] ∧
    w (after (.dwrite 40 1 500 20 22 0x1000 0 9 false) lend) = [(40, .coord 0x13 (ddBody 500 20 22 0x1000 3) false)] ∧
    (after (.dread 40 1 500 20 21 0x1C0001000 0) lend).core.flights.map (fun f => (f.src, f.addr, f.write)) =
      [(.lender 40 500 20 21, 0x1C0001000, false)] ∧
    (fly [lendFlight false] lend).borrowed 40 7 30 0x1000 false = some (lendFlight false) ∧
    (fly [lendFlight true] lend).borrowed 40 7 30 0x1000 true = some (lendFlight true) ∧ (ddata 7).core.flights = [] ∧
    w (ddata 7) = [(4, .response 77 (some 5) false none)] ∧ (ddata 9).core.flights.length = 1 ∧
    OutMsg.log "response discarded" 9 ∈ (ddata 9).out ∧ (after (.ddone 40 1 7 31 30 0x1000 0) (fly [lendFlight true] lend)).core.flights = [] ∧
    w (after (.leaseCheckRepeat 30) lend) ≠ [] ∧ after (.leaseCheckRepeat 31) lend = lend ∧ after (.devLostRepeat 21) lend = lend ∧
    w (after (.devLostRepeat 20) lend) = [(40, .coord 0x22 (leaseBody 20 21 2) false)] ∧
    w (after (.lenderDeviceDone 7 5 false) (fly [service false] lend)) = [(40, .coord 0x12 (ddBody 500 20 21 (10 * 2 ^ 30) 0 ++ leBytes 64 5) false)] ∧
    w (after (.lenderDeviceDone 7 5 false) (fly [service true] lend)) = [(40, .coord 0x13 (ddBody 500 20 21 (10 * 2 ^ 30) 0) false)] ∧
    after (.lenderDeviceDone 9 5 false) (fly [service true] lend) = fly [service true] lend := by decide +kernel

/-- `cxl` with the line of pool address 10 GiB + 64 in way 0 of its set, held by hosts `hs`, with snoops outstanding. -/
def dir (e : DirEntry) (sn : List Snoop) : Dev :=
  let d := cxl.setEntry (dirSet (10 * 2 ^ 30 + 64) * 16) { e with tag := dirTag (10 * 2 ^ 30 + 64) }
  { d with dir := { d.dir with snoops := sn } }

/-- A snoop of host 2's copy, kind Inv. -/
def aSnoop (kind : Nat) (why : SnoopWhy) : Snoop := ⟨10 * 2 ^ 30 + 64, 2, kind, why, some 100, 256 * 2 ^ 30 + 64⟩

/-- LendingAndDirectory, the directory: the answered snoop alone and with others, for a walk and for a request; a conflict with and without
a snoop; an expired snoop; the ends of a walk and a sweep; the completion limit. -/
theorem witness_LendingAndDirectory_directory :
    let a := 10 * 2 ^ 30 + 64
    let l : BitVec 41 := BitVec.ofNat 41 (a / 64)
    let i := dirSet a * 16
    let one := dir ⟨dS, true, true, 0, 0, 4, 1⟩ [aSnoop 0 (.walk false)]
    let two := dir ⟨dS, true, true, 0, 0, 12, 2⟩ [aSnoop 0 (.walk false)]
    let wlk : Dev := { (one.fset DIR_STAT.WALK 1).fset DIR_HOST_STAT.WALK 1 0 2 with dir := { one.dir with walkHosts := [2] } }
    let stay : Dev := { one.fset DIR_STAT.WALK 1 with dir := { one.dir with walkEnds := [(2, 10, none)] } }
    let swp : Dev := { one.fset DIR_STAT.SWEEP 1 with dir := { one.dir with sweeps := [(5, []), (6, [64])] } }
    one.findLine a = some i ∧ (one.entry i).snoops = 1 ∧ one.core.flights = [] ∧ (after (.snoopResponse 2 l .i) one).entry i = .free ∧
    (let y := after (.snoopResponse 2 l .i) two; (y.entry i).snoops = 1 ∧ (y.entry i).sharers = 8 ∧ y.dir.snoops = []) ∧
    sent (.snoopResponse 3 l .i) one = [.log "snoop response discarded" a] ∧ one.snooped 2 a = true ∧ one.snooped 3 a = false ∧
    sent (.biConflict 3 l) one = [.log "conflict without snoop" a] ∧ one.snoopAddr false 2 a = some (256 * 2 ^ 30 + 64) ∧
    (after (.biConflict 2 l) one).core.buf.map (fun m => (m.egress, m.body)) = [(4, .snoop 2 (256 * 2 ^ 30 + 64) 3)] ∧
    after (.snoopTimeout 3 l) one = one ∧ one.usp 2 = 4 ∧ one.portUp 4 = true ∧
    (let y := after (.snoopTimeout 2 l) one
     y.fget DIR_HOST_STAT.DEAD 0 2 = 1 ∧ y.portState 4 = poContained ∧ y.fget CXP_CONTAIN.CAUSE 4 = 2) ∧
    after .dirWalkEnd one = one ∧ (let y := after .dirWalkEnd wlk; y.fget DIR_STAT.WALK = 0 ∧ y.fget DIR_HOST_STAT.WALK 0 2 = 0 ∧ y.dir.walkHosts = []) ∧
    wlk.walkStays = false ∧ stay.walkStays = true ∧ (after .dirWalkEnd stay).fget DIR_STAT.WALK = 1 ∧
    after (.dirSweepEnd 6) swp = swp ∧ after (.dirSweepEnd 7) swp = swp ∧
    (let y := after (.dirSweepEnd 5) swp; y.dir.sweeps = [(6, [64])] ∧ y.fget DIR_STAT.SWEEP = 1 ∧ y.fget DIR_CNT1.SWEEPS = 1) := by
  decide +kernel

/-- A shared read of host 2 waiting on its snoop. -/
def sharedFlight : Flight := { hostFlight with kind := .readS, addr := 10 * 2 ^ 30 + 64, phase := .snoopWait, egress := 128 }

/-- LendingAndDirectory: the last answer to a request's snoop; the completion limit of a request. -/
theorem witness_LendingAndDirectory_requests :
    let a := 10 * 2 ^ 30 + 64
    let d := fly [sharedFlight] ((dir ⟨dS, true, true, 0, 0, 12, 1⟩ [aSnoop 0 (.request 7)]).fset TMP_FIELD1.SHARED 1 10)
    let y := after (.completionLimit 7) d
    d.findLine a = some (dirSet a * 16) ∧ (d.entry (dirSet a * 16)).snoops = 1 ∧ d.place false a ≠ .lost ∧ d.dir.retired = [] ∧ d.shared false a = true ∧ d.flight 7 = some sharedFlight ∧
    y.core.flights = [] ∧ y.now = 31000 ∧ y.fget DIR_CNT2.LIMIT_COMPLETIONS = 1 ∧
    y.core.buf.map (fun m => (m.egress, m.body)) = [(4, .response 77 (some onesLine) true none)] ∧
    after (.completionLimit 9) d = d ∧
    (let own := fly [{ sharedFlight with src := .directory }] d; after (.completionLimit 7) own = own) ∧
    (let z := after (.snoopResponse 2 (BitVec.ofNat 41 (a / 64)) .i) d
     (z.entry (dirSet a * 16)).st = dS ∧ (z.entry (dirSet a * 16)).busy = false ∧ (z.entry (dirSet a * 16)).sharers.getLsbD 2 = true) := by
  decide +kernel

/-! Folds and data movers (13, 14) -/

/-- `cxl` with fold 5 ENABLED on virtual switch 2: CQ 1 enabled, SQ 0 DISABLED, SQ 1 ENABLED to CQ 1 with nothing to fetch. -/
def fold5 : Dev :=
  let d := sets [(FLD_CFG.VSW, 2, 5, 0), (FLD_CFG.ASSIGNED, 1, 5, 0), (FLD_STAT.STATE, 1, 5, 0), (FLD_STAT.GEN, 3, 5, 0),
    (FLD_CQ_CFG.EN, 1, 5, 1), (FLD_SQ_STAT.STATE, 1, 5, 1), (FLD_SQ_CFG.EN, 1, 5, 1), (FLD_SQ_CFG.CQ, 1, 5, 1),
    (FLD_SQ_BASE.BASE, 0x100, 5, 1), (FLD_CQ_BASE.BASE, 0x200, 5, 1), (FLD_SHARE.COUNTED, 1, 5, 0), (FLD_SHARE.CAP, 4, 5, 0),
    (FLD_MSIX0.ADDR, 0xFEE0, 5, 0), (FLD_MSIX1.MASK, 0, 5, 0)] cxl
  { d with folds := { d.folds with folds := [(5, { busMaster := true })], services := [(2, ⟨true, 4⟩)] } }

/-- Fold 5's own record changed. -/
def onFold (f : Fold → Fold) (d : Dev) : Dev := d.setFold 5 (f (d.fold 5))

/-- The descriptor of ring entry `i`: opcode, flags, LEN, SRC, DST. -/
def rdesc (op flags len src dst i : Nat) : List Byte :=
  leBytes 1 op ++ leBytes 1 flags ++ leBytes 2 0x77 ++ leBytes 4 len ++ leBytes 8 src ++ leBytes 8 dst ++ List.replicate 36 0 ++
    leBytes 2 i ++ leBytes 2 0

/-- An entry of SQ 1 of fold 5, number 1 of the work, ring index 4. -/
def entry (raw : List Byte) (st : WorkState) : Work := { id := 1, owner := .ring 5 1 4, gen := 3, raw := raw, state := st }

/-- Fold 5 with entries of work. -/
def works (ws : List Work) (d : Dev) : Dev := { d with folds := { d.folds with work := ws, nextId := 9 } }

/-- A held completion of CQ 1. -/
def heldCpl : HeldCpl := ⟨1, cplBytes 0x77 1 0 0 5 3 false, false⟩

/-- What waits in the buffer: egress and body. -/
def queued (d : Dev) : List (Nat × QBody) := d.core.buf.map fun m => (m.egress, m.body)

/-- FoldQueues: an SQ's enable and its two refusals, a disable with and without work, the doorbell's range, a push slot, a completion written
and held. -/
theorem witness_FoldQueues_sq :
    let q0 := after (.sqEnable 5 0 6 1) fold5
    let off := fold5.fset FLD_STAT.STATE 0 5
    let done := works [entry (rdesc 3 0 64 0 0 4) (.finished 0 0)] fold5
    let w := after (.completionWrite 5 1) done
    let full := done.fset FLD_CQ_STAT.HEAD 1 5 1
    let h := after (.completionWrite 5 1) full
    fold5.foldState 5 = fdEnabled ∧ fold5.usp (fold5.foldVsw 5) = 4 ∧ fold5.portUp 4 = true ∧ after (.sqEnable 5 0 6 1) off = off ∧
    q0.fget FLD_SQ_STAT.STATE 5 0 = sqEnabled ∧ q0.fget FLD_SQ_CFG.CQ 5 0 = 1 ∧ q0.fget FLD_SQ_CFG.SIZE_LOG2 5 0 = 6 ∧
    (after (.sqEnable 5 0 5 1) fold5).fget FLD_SQ_STAT.CFG_ERR 5 0 = 1 ∧ (after (.sqEnable 5 0 6 2) fold5).fget FLD_SQ_STAT.CFG_ERR 5 0 = 1 ∧
    (after (.sqEnable 5 0 17 1) fold5).fget FLD_SQ_STAT.CFG_ERR 5 0 = 1 ∧ (after (.sqEnable 5 0 16 1) fold5).fget FLD_SQ_STAT.CFG_ERR 5 0 = 0 ∧
    (after (.sqDisable 5 1) fold5).fget FLD_SQ_STAT.STATE 5 1 = sqDisabled ∧ (after (.sqDisable 5 1) done).fget FLD_SQ_STAT.STATE 5 1 = sqStopping ∧
    after (.sqDoorbell 5 1 63) fold5 = fold5.fset FLD_SQ_STAT.TAIL 63 5 1 ∧ (after (.sqDoorbell 5 1 64) fold5).foldState 5 = fdHalted ∧
    (after (.sqDoorbell 5 1 64) fold5).fget FLD_STAT.HALT_CAUSE 5 = 6 ∧
    (let y := after (.pushSlotWrite 5 1 2 60 4 0x44332211) fold5; (y.pushBytes 5 1 2).drop 59 = [0, 0x11, 0x22, 0x33, 0x44] ∧ (y.fold 5).pushFull = [6]) ∧
    ((after (.pushSlotWrite 5 1 2 61 64 7) fold5).fold 5).pushFull = [] ∧ done.cplAsleep 5 = false ∧ done.cqFull 5 1 = false ∧
    queued w = [(4, .hostWrite 5 0x2000 ((cplBytes 0x77 1 0 0 5 3 false).take 15 ++ [1]) false)] ∧ w.folds.work = [] ∧
    w.fget FLD_SQ_STAT.HEAD 5 1 = 5 ∧ w.fget FLD_CQ_STAT.TAIL 5 1 = 1 ∧ full.cqFull 5 1 = true ∧ (h.fold 5).held = [heldCpl] ∧
    h.fget FLD_CNT.CQ_FULL 5 = 1 ∧ queued h = [] ∧ (fold5.sqWorks 5 1).head? = none := by decide +kernel

/-- FoldQueues: a CQ's enable, its disable with and without an SQ that names it, the head doorbell with a held completion, the timer, the
two unmasks. -/
theorem witness_FoldQueues_cq :
    let held := onFold (fun x => { x with held := [heldCpl] }) (fold5.fset FLD_CQ_STAT.HEAD 1 5 1)
    let y := after (.cqDoorbell 5 1 0) held
    let tim := onFold (fun x => { x with timers := [(1, .running 500)] }) fold5
    let t := after (.moderationTimer 5 1) tim
    let pend := fold5.fputBit FLD_PBA.PENDING 0 true 5
    (after (.cqEnable 5 2 1) fold5).fget FLD_CQ_CFG.EN 5 2 = 1 ∧ (after (.cqEnable 5 2 1) fold5).fget FLD_CQ_STAT.PHASE 5 2 = 1 ∧
    (after (.cqEnable 5 1 0) fold5).fget FLD_CQ_CFG.EN 5 1 = 1 ∧ (after (.cqEnable 5 2 0) fold5).fget FLD_CQ_CFG.EN 5 2 = 0 ∧
    (held.fset FLD_CQ_STAT.HEAD 0 5 1).cqFull 5 1 = false ∧ (y.fold 5).held = [] ∧
    queued y = [(4, .hostWrite 5 0x2000 (heldCpl.bytes.take 15 ++ [1]) false)] ∧ after (.cqDoorbell 5 1 3) fold5 = fold5.fset FLD_CQ_STAT.HEAD 3 5 1 ∧
    fold5.modTimer 5 1 = .stopped ∧ tim.modTimer 5 1 = .running 500 ∧ t.modTimer 5 1 = .stopped ∧ t.now = 1500 ∧ tim.msixFree 5 = true ∧
    queued t = [(4, .hostWrite 5 0xFEE0 [0, 0, 0, 0] false)] ∧ (fold5.fset FLD_MSIX1.MASK 1 5 0).fget FLD_MSIX1.MASK 5 0 = 1 ∧
    pend.fbit FLD_PBA.PENDING 0 5 = true ∧ (after (.msixUnmask 5 (some 0)) pend).fbit FLD_PBA.PENDING 0 5 = false ∧
    queued (after (.msixUnmask 5 none) pend) = [(4, .hostWrite 5 0xFEE0 [0, 0, 0, 0] false)] ∧ fold5.fbit FLD_PBA.PENDING 0 5 = false := by
  decide +kernel

/-- FoldQueues: the next entry from the ring and from a push slot, a bad context, a response good, malformed and bad; a start and its
reasons not to. -/
theorem witness_FoldQueues_fetch :
    let some1 := fold5.fset FLD_SQ_STAT.TAIL 1 5 1
    let y := after (.entryFetch 5 false) some1
    let push := after (.pushSlotWrite 5 1 0 0 64 (BitVec.ofNat 512 (leNat (rdesc 3 0 64 0 0x1000 0)))) some1
    let p := after (.entryFetch 5 false) push
    let fet := works [entry [] .fetching] fold5
    let raw (n : Nat) := BitVec.ofNat 512 (leNat (rdesc n 0 64 0 0x1000 4))
    let got := after (.fetchResponse 1 (raw 3) false) fet
    let blocked := works [{ entry [] .fetching with id := 0 }, entry (rdesc 3 0 64 0 0x1000 4) .fetched] fold5
    fold5.fetchSq 5 = none ∧ some1.fetchSq 5 = some 1 ∧ some1.mayTakeSlot 5 = true ∧ (some1.fset FLD_SHARE.CAP 0 5).mayTakeSlot 5 = false ∧
    (after (.entryFetch 5 true) some1).foldState 5 = fdResetting ∧ queued y = [(4, .hostRead 5 0x4000 64)] ∧
    y.folds.work.map (fun w => (w.owner, w.state, w.gen)) = [(.ring 5 1 0, .fetching, 3)] ∧ y.fget FLD_STAT.IN_FLIGHT 5 = 1 ∧
    (push.fold 5).pushFull = [4] ∧ queued p = [] ∧ p.folds.work.map (·.state) = [.fetched] ∧ malformed (rdesc 3 0 64 0 0x1000 4) (.ring 4) = none ∧
    malformed (rdesc 9 0 64 0 0x1000 4) (.ring 4) = some 1 ∧ got.folds.work.map (·.state) = [.fetched] ∧
    (after (.fetchResponse 1 (raw 9) false) fet).fget FLD_STAT.HALT_CAUSE 5 = 1 ∧ (after (.fetchResponse 1 (raw 3) true) fet).fget FLD_STAT.HALT_CAUSE 5 = 7 ∧
    after (.fetchResponse 2 (raw 3) false) fet = fet ∧ got.reassign = got ∧ got.bestMover = some 4 ∧
    (after (.entryStart 1) got).folds.work.map (·.state) = [.started (some 4)] ∧ after (.entryStart 2) got = got ∧
    blocked.startBlocked (entry (rdesc 3 0 64 0 0x1000 4) .fetched) = true ∧ after (.entryStart 1) blocked = blocked := by decide +kernel

/-- An entry started on mover 0. -/
def run (raw : List Byte) : Dev := works [entry raw (.started (some 0))] fold5

/-- A chunk's access in flight, with its answer. -/
def access (side : Nat) (write : Bool) (answer : Option (Nat × Bool)) : Flight :=
  { tag := 7 + side, epoch := false, src := .chunk 0 1, kind := if write then .ioPosted else .ioRead, write := write, addr := 0, hostTag := side,
    admitted := 100, phase := .sent, answer := answer }

/-- An entry whose only chunk is out. -/
def out1 (raw : List Byte) (fs : List Flight) : Dev :=
  let d := works [{ entry raw (.started (some 0)) with next := 64 }] fold5
  { d with core := { d.core with flights := fs, nextTag := 20 } }

/-- FoldWork: a chunk denied, unbound and issued; completed as a write, an equal and a different COMPARE; timed out; the mover out. -/
theorem witness_FoldWork_chunks :
    let zero (flags dst : Nat) := rdesc 3 flags 64 0 dst 4
    let ended (d : Dev) := d.folds.work.map (·.state)
    let y := after (.chunkAdmit (.entry 1)) (run (rdesc 2 2 64 0 0x1000 4))
    let cmp (a b : Nat) := out1 (rdesc 4 3 64 0x1000 0x2000 4) [access 0 false (some (a, false)), access 1 false (some (b, false))]
    let late := out1 (zero 2 0x1000) [access 0 true none]
    let late_ := after (.chunkTimeout (.entry 1) 0) late
    fold5.moverOn 0 = true ∧ (run (zero 2 0)).mayAdmit (entry (zero 2 0) (.started (some 0))) = true ∧
    (run (zero 2 0)).managerFirst 0 (entry (zero 2 0) (.started (some 0))) = false ∧ (run (zero 0 0)).hostPool false 2 0 = none ∧
    ended (after (.chunkAdmit (.entry 1)) (run (zero 0 0))) = [.finished 4 0] ∧
    y.core.flights.map (fun f => (f.src, f.write, f.addr, f.len)) = [(.chunk 0 1, true, 0x1000, 64)] ∧
    queued y = [(4, .request 1)] ∧ ended (after (.chunkComplete (.entry 1) 0) (out1 (zero 2 0x1000) [access 0 true (some (0, false))])) = [.finished 0 0] ∧
    (after (.chunkComplete (.entry 1) 0) (out1 (zero 2 0x1000) [access 0 true (some (0, false))])).fget DMV_BYTES.BYTES 0 = 64 ∧
    ended (after (.chunkComplete (.entry 1) 0) (cmp 5 5)) = [.finished 0 0] ∧ ended (after (.chunkComplete (.entry 1) 0) (cmp 5 0x105)) = [.finished 1 1] ∧
    after (.chunkComplete (.entry 1) 0) late = late ∧ late_.now = 32100 ∧ ended late_ = [.finished 7 0] ∧ late_.fget DMV_ERR.TIMEOUTS 0 = 1 ∧
    after (.chunkTimeout (.entry 1) 64) late = late ∧ after (.chunkAdmit (.entry 2)) late = late ∧
    ended (after (.moverDisable 0) (run (zero 2 0))) = [.started (some 5)] ∧ (after (.moverDisable 0) fold5).fget DMV_CTRL.EN 0 = 0 := by
  decide +kernel

/-- FoldWork: the fold whose turn it is not; a line of a migration's copy read, written, done, late; a chunk of a zero-fill. -/
theorem witness_FoldWork_turns :
    let d := run (rdesc 3 0 64 0 0x1000 4)
    let w := entry (rdesc 3 0 64 0 0x1000 4) (.started (some 0))
    let line (write : Bool) (ans : Option (Nat × Bool)) : Flight := { poolFlight write ans with src := .copy 0 3 0, phase := .sent }
    let x (write : Bool) (ans : Option (Nat × Bool)) : Dev := { tmp with core := { tmp.core with flights := [line write ans], nextTag := 8 } }
    let key := relKey false 6 1
    let z : Dev := { tmp with core := { tmp.core with flights := [{ poolFlight true (some (0, false)) with src := .fill 0 key 0 }], nextTag := 8 } }
    let a := after (.chunkAdmit (.copy 3)) tmp
    (d.takeTurn w).isSome = true ∧ tmp.moverOn 0 = true ∧ nextLine 0 32768 0 = some 0 ∧ tmp.writeOpen (tierMove.lineAddr 0) = false ∧
    a.core.flights.map (fun f => (f.src, f.write, f.addr)) = [(.copy 0 3 0, false, tierMove.lineAddr 0)] ∧
    a.migr 3 = some { tierMove with left := 32767, bits := 1, scan := 1 } ∧ (x false (some (5, false))).copyFlights 3 = [line false (some (5, false))] ∧
    (after (.chunkComplete (.copy 3) 0) (x false (some (5, false)))).core.flights.map (fun f => (f.src, f.write, f.data, f.addr)) =
      [(.copy 0 3 0, true, 5, tierMove.lineAddr 0)] ∧
    (after (.chunkComplete (.copy 3) 0) (x true (some (0, false)))).fget DMV_BYTES.BYTES 0 = 64 ∧
    (let y := after (.chunkTimeout (.copy 3) 0) (x true none); y.now = 32000 ∧ y.fget DMV_ERR.TIMEOUTS 0 = 1 ∧ y.copyFlights 3 = []) ∧
    tmp.fillMover 6 false 1 = some 0 ∧ tmp.fillOf key = (0, []) ∧ tmp.fillFlights key = [] ∧ tmp.fillMover 6 false 3 = none ∧
    tmp.portUp (tmp.fget TMP_DEV_CFG.PORT 0 6) = true ∧
    (let y := after (.chunkComplete (.fill 6 false 1) 0) z; y.fget DMV_CHUNKS.CHUNKS 0 = 1 ∧ y.fget DMV_BYTES.BYTES 0 = 4096 ∧ y.fillFlights key = []) := by
  decide +kernel

/-- FoldWork: a chunk that the engine Hedgerow denies. -/
theorem witness_FoldWork_denied :
    let d := { run (rdesc 3 0 64 0 0x1000 4) with pools := [(2, { decoders := [(0, ⟨0, 4 * 2 ^ 30, 0⟩)] })] }
    let w := entry (rdesc 3 0 64 0 0x1000 4) (.started (some 0))
    (d.chunkSides false w 0).2 = (Side.absent, Side.denied) ∧ (after (.chunkAdmit (.entry 1)) d).folds.work.map (·.state) = [.finished 2 0] ∧
    (after (.chunkAdmit (.entry 1)) d).fget DMV_ERR.DENIED 0 = 1 := by decide +kernel

/-- FoldWork: the VF's power state and enable; a Function Level Reset, a manager's, and its end. -/
theorem witness_FoldWork_states :
    let flr := after (.flr 5) fold5
    let dn := after (.foldResetDone 5) (flr.fset FLD_SQ_BASE.BASE 9 5 3)
    let off := fold5.fset FLD_STAT.STATE 0 5
    (after (.vfPowerState 5 true true false false) fold5).foldState 5 = fdSuspended ∧
    (after (.vfPowerState 5 false true false true) fold5).foldState 5 = fdEnabled ∧
    ((after (.vfPowerState 5 false true false true) fold5).fold 5).fnMask = true ∧ (after (.vfEnable 2 false 4) fold5).foldState 5 = fdDisabled ∧
    (after (.vfEnable 2 true 1) fold5).foldState 5 = fdEnabled ∧ (after (.vfEnable 2 true 0) fold5).foldState 5 = fdDisabled ∧
    flr.foldState 5 = fdResetting ∧ flr.fget FLD_STAT.GEN 5 = 4 ∧ flr.fget FLD_RESET.RESETS 5 = 1 ∧ after (.flr 5) off = off ∧
    (after (.foldReset 5) fold5).fget FLD_RESET.RESET 5 = 1 ∧ fold5.gable.boot = .up ∧ flr.oldWorkLeft 5 = false ∧
    dn.foldState 5 = fdEnabled ∧ dn.fget FLD_RESET.DONE 5 = 1 ∧ dn.fget FLD_SQ_BASE.BASE 5 3 = 0 ∧ dn.fget FLD_CFG.VSW 5 = 2 ∧
    after (.foldResetDone 5) fold5 = fold5 := by decide +kernel

/-- Fold 5 with its migration in a state, time LOCKED at NOW = 10^6, a freeze or thaw set for 2^21. -/
def moving (st mig : Nat) : Dev :=
  let d := sets [(FLD_STAT.STATE, st, 5, 0), (FLD_MIG_STAT.STATE, mig, 5, 0), (TIM_STATUS.STATE, 2, 0, 0), (TIM_NOW.NOW, 1000000, 0, 0)] fold5
  onFold (fun x => { x with freezeAt := 2097152, before := fdEnabled }) d

/-- FoldMigration: the checks of an instant, the two commands, an instant in a state that cannot freeze. -/
theorem witness_FoldMigration_freeze :
    let d := moving fdEnabled mgIdle
    let res (d : Dev) := (d.fget FLD_MIG_STAT.RESULT 5, d.migState 5)
    let fz (t : Nat) (d : Dev) := after (.freeze 5 (BitVec.ofNat 64 t)) d
    let th (t : Nat) (d : Dev) := after (.thaw 5 (BitVec.ofNat 64 t)) d
    d.gable.boot = .up ∧ d.timeGood = true ∧ res (fz 1002047 d) = (1, 0) ∧ res (fz 1002496 d) = (0, 1) ∧ res (fz (2 ^ 31) d) = (2, 0) ∧
    res (fz 1002496 (d.fset TIM_STATUS.STATE 1)) = (3, 0) ∧ res (fz 1002496 (d.fset FLD_STAT.STATE 4 5)) = (4, 0) ∧
    res (fz 1002496 (d.fset FLD_PROG_STAT.STATE 1 5)) = (5, 0) ∧ ((fz 1002496 d).fold 5).freezeAt = 1002496 ∧ res (th 1002496 d) = (4, 0) ∧
    res (th 1002496 (moving fdFrozen mgFrozen)) = (0, mgThawPending) ∧ after (.freezeInstant 5) d = d ∧ after (.freezeDone 5) d = d ∧
    after (.thawInstant 5) d = d ∧ res (after (.freezeInstant 5) (moving fdResetting mgFreezePending)) = (4, 0) := by decide +kernel

/-- FoldMigration: a freeze's instant, its end without a chunk out and with one. -/
theorem witness_FoldMigration_frozen :
    let tim := onFold (fun x => { x with timers := [(1, .running 1000000)] }) (moving fdEnabled mgFreezePending)
    let y := after (.freezeInstant 5) (tim.fset FLD_CQ_CFG.TIMER 1023 5 1)
    let busy : Dev := works [entry (rdesc 3 2 64 0 0x1000 4) (.started (some 0))] (moving fdFrozen mgFreezing)
    let busy' : Dev := { busy with core := { busy.core with flights := [access 0 true none] } }
    y.now = 2097152 ∧ y.foldState 5 = fdFrozen ∧ y.migState 5 = mgFreezing ∧ tim.modTimer 5 1 = .running 1000000 ∧ y.modTimer 5 1 = .frozen 0 ∧
    (let z := after (.freezeDone 5) busy; z.migState 5 = mgFrozen ∧ z.folds.work = [] ∧ (z.fold 5).records.map (fun r => (r.1, r.2.1, r.2.2.1)) = [(1, 4, 0)]) ∧
    (let z := after (.freezeDone 5) busy'; z.now = 2117152 ∧ (z.fold 5).records.map (fun r => (r.1, r.2.1, r.2.2.1)) = [(1, 4, 2)]) := by decide +kernel

/-- FoldMigration: saving to both destinations, the ends of a save, the timeouts; restoring; a stream; the thaw. -/
theorem witness_FoldMigration_move :
    let fr := moving fdFrozen mgFrozen
    let sav (dest : Nat) := onFold (fun x => { x with bale := [1, 2], baleSent := 1, baleAck := some 1000000 }) ((moving fdFrozen mgSaving).fset FLD_MIG_CTRL.DEST dest 5)
    let res (d : Dev) := (d.fget FLD_MIG_STAT.RESULT 5, d.migState 5)
    let idle := ((moving fdEnabled mgIdle).fset FLD_CQ_CFG.EN 0 5 1).fset FLD_SQ_STAT.STATE 0 5 1
    let rs := moving fdEnabled mgRestoring
    let arm := onFold (fun x => { x with armed := true, baleRx := [7] }) (rs.fset CHN_STATUS.VALID 1)
    let part := after (.baleData true true 5 1 9 [8]) arm
    let th := onFold (fun x => { x with records := [(1, 4, 0, 0, 64, 0)] }) (moving fdFrozen mgThawPending)
    let y := after (.thawInstant 5) th
    res (after (.save 5 false 0 0 0x1000) idle) = (4, 0) ∧ fr.migState 5 = mgFrozen ∧ fr.usp (fr.foldVsw 5) = 4 ∧ fr.portUp 4 = true ∧
    res (after (.saveDone 5 true) (sav 0)) = (0, mgSaved) ∧ (after (.saveDone 5 true) (sav 0)).fget FLD_MIG_STAT.LEN 5 = 2 ∧
    res (after (.saveDone 5 false) (sav 0)) = (6, mgFrozen) ∧ after (.saveDone 5 true) (sav 1) = sav 1 ∧ (sav 1).streams = true ∧
    res (after (.baleAck 5 0) (sav 1)) = (0, mgSaved) ∧ res (after (.baleAck 5 1) (sav 1)) = (7, mgFrozen) ∧ after (.baleAck 5 0) (sav 0) = sav 0 ∧
    (let z := after (.baleAckTimeout 5) (sav 1); z.now = 1040000 ∧ (z.fold 5).baleSent = 2 ∧ z.out = [.baleData 0 0 0 2 [1, 2]]) ∧
    res (after (.baleAckTimeout 5) (onFold (fun x => { x with baleSent := 2 }) (sav 1))) = (7, mgFrozen) ∧ after (.baleAckTimeout 5) fr = fr ∧
    res (after (.restore 5 false 0x1000) fold5) = (4, 0) ∧ res (after (.restore 5 false 0x1000) idle) = (0, mgRestoring) ∧
    queued (after (.restore 5 false 0x1000) idle) = [(4, .hostRead 5 0x1000 64)] ∧ ((after (.restore 5 true 0) idle).fold 5).armed = true ∧
    res (after (.baleReadDone 5 [] true) rs) = (6, 0) ∧ res (after (.baleReadDone 5 [1, 2, 3] false) rs) = (8, 0) ∧
    after (.baleReadDone 5 [] true) arm = arm ∧ (part.fold 5).baleRx = [7, 8] ∧ sent (.baleData false true 5 1 9 [8]) arm = [.baleAck 5 1 0] ∧
    sent (.baleData true true 5 1 2 [8]) arm = [.baleAck 5 2 8] ∧ arm.streams = true ∧ (arm.fset CSP_STATUS.PHASE 3).streams = false ∧
    res y = (0, 0) ∧ y.foldState 5 = fdEnabled ∧ y.now = 2097152 ∧ (y.fold 5).records = [] ∧
    y.folds.work.map (fun w => (w.owner, w.state)) = [(.ring 5 1 4, .refetch 0 0 64)] := by decide +kernel

/-- The first 832 bytes of a bale without records: STATE 1 at the freeze, the rest zero. -/
def baleHead : List Byte :=
  leBytes 4 0x454C4142 ++ leBytes 2 1 ++ leBytes 2 0 ++ leBytes 4 856 ++ List.replicate 20 0 ++ [1] ++ List.replicate 799 0

/-- That bale, its MAC apart. -/
def baleBody : List Byte := baleHead ++ leBytes 8 (crc64 baleHead).toNat

theorem field_of_prefix (a m : List Byte) (off n : Nat) (h : off + n ≤ a.length) : descField (a ++ m) off n = descField a off n := by
  unfold descField
  rw [List.drop_append_of_le_length (by omega), List.take_append_of_le_length (by simp; omega)]

theorem baleHead_length : baleHead.length = 832 := by decide +kernel

theorem baleBody_length : baleBody.length = 840 := by simp [baleBody, baleHead_length]

/-- The MAC of fold 5's migration key over that bale. -/
def baleMac (d : Dev) : List Byte := cmac (d.migKey 5) baleBody

/-- The key schedule adds words of four bytes. -/
theorem aesWords_shape (n i : Nat) (w : List (List Byte)) (hl : 8 ≤ w.length) (hw : ∀ x ∈ w, x.length = 4) :
    (aesWords n i w).length = n + w.length ∧ ∀ x ∈ aesWords n i w, x.length = 4 := by
  induction n generalizing i w with
  | zero => exact ⟨by simp [aesWords], hw⟩
  | succ n ih =>
    have h0 : (w.headD []).length = 4 := by cases w with | nil => simp at hl | cons a l => exact hw a (by simp)
    have h7 : (w.getD 7 []).length = 4 := by
      rw [List.getD_eq_getElem?_getD, List.getElem?_eq_getElem (by omega)]
      exact hw _ (List.getElem_mem _)
    have step (a : List Byte) (b : a.length = 4) : (aesWords n (i + 1) (xorBytes (w.getD 7 []) a :: w)).length = n + 1 + w.length ∧
        ∀ x ∈ aesWords n (i + 1) (xorBytes (w.getD 7 []) a :: w), x.length = 4 := by
      obtain ⟨e, h⟩ := ih (i + 1) (xorBytes (w.getD 7 []) a :: w) (by simp; omega) (by
        intro x hx
        rcases List.mem_cons.mp hx with rfl | hx
        · simp only [xorBytes, List.length_zipWith]
          omega
        · exact hw x hx)
      exact ⟨by rw [e, List.length_cons]; omega, h⟩
    rw [List.headD_eq_head?_getD] at h0
    unfold aesWords
    apply step
    split
    · simp [xorBytes, h0]
    · split <;> simp [h0]

theorem flatten_four (l : List (List Byte)) (h : ∀ x ∈ l, x.length = 4) : l.flatten.length = 4 * l.length := by
  induction l with
  | nil => rfl
  | cons a l ih =>
    rw [List.flatten_cons, List.length_append, ih fun x hx => h x (by simp [hx]), h a (by simp), List.length_cons]
    omega

theorem aesKeys_last (key : List Byte) (h : key.length = 32) : ((aesKeys key).getD 14 []).length = 16 := by
  obtain ⟨e, hw⟩ := aesWords_shape 52 8 ((List.range 8).map fun k => (key.drop (4 * k)).take 4).reverse (by simp) (by
    intro x hx
    simp only [List.mem_reverse, List.mem_map, List.mem_range] at hx
    obtain ⟨k, hk, rfl⟩ := hx
    simp [h]
    omega)
  unfold aesKeys
  simp only [List.getD_eq_getElem?_getD, List.getElem?_map, List.getElem?_range (show 14 < 15 by decide), Option.map_some, Option.getD_some]
  rw [flatten_four _ fun x hx => hw x (List.mem_reverse.mp (List.mem_of_mem_drop (List.mem_of_mem_take hx)))]
  simp [e]

theorem baleMac_length (d : Dev) : (baleMac d).length = 16 := by
  have l (keys : List (List Byte)) (h : (keys.getD 14 []).length = 16) (b : List Byte) : (aesBlock keys b).length = 16 := by
    unfold aesBlock xorBytes
    rw [List.length_zipWith, h]
    simp [aesShift]
  exact l _ (aesKeys_last _ (by simp [Dev.migKey, List.range_succ])) _

theorem bale_field (d : Dev) (off n v : Nat) (h : off + n ≤ 832) (e : descField baleHead off n = v) :
    descField (baleBody ++ baleMac d) off n = v := by
  rw [field_of_prefix _ _ _ _ (by rw [baleBody_length]; omega), baleBody, field_of_prefix _ _ _ _ (by rw [baleHead_length]; exact h), e]

theorem bale_zero (d : Dev) : baleZero (baleBody ++ baleMac d) 0 = true := by
  have hc : ∀ c < 8, descField baleHead (0xC0 + 32 * c + 23) 9 = 0 := by decide +kernel
  simp only [baleZero, List.range_zero, List.all_nil, Bool.and_true, Bool.and_eq_true, beq_iff_eq, List.all_eq_true, List.mem_range]
  exact ⟨⟨bale_field d _ _ _ (by omega) (by decide +kernel), bale_field d _ _ _ (by omega) (by decide +kernel)⟩,
    fun c hc' => bale_field d _ _ _ (by omega) (hc c hc')⟩

/-- FoldMigration: a bale that passes every check of RESTORE: it carries the MAC of its fold's key. -/
theorem witness_FoldMigration_bale :
    let d := moving fdEnabled mgRestoring
    d.baleCheck 5 (baleBody ++ baleMac d) = 0 := by
  intro d
  have hn : (baleBody ++ baleMac d).length = 856 := by rw [List.length_append, baleBody_length, baleMac_length]
  have f0 := bale_field d 0 4 0x454C4142 (by omega) (by decide +kernel)
  have f4 := bale_field d 4 2 1 (by omega) (by decide +kernel)
  have f6 := bale_field d 6 2 0 (by omega) (by decide +kernel)
  have f8 := bale_field d 8 4 856 (by omega) (by decide +kernel)
  have fid := bale_field d 0x28 8 0 (by omega) (by decide +kernel)
  have t1 : (baleBody ++ baleMac d).take 840 = baleBody := by rw [← baleBody_length]; exact List.take_left
  have t2 : (baleBody ++ baleMac d).drop 840 = baleMac d := by rw [← baleBody_length]; exact List.drop_left
  have t3 : (baleBody ++ baleMac d).take 832 = baleHead := by
    rw [List.take_append_of_le_length (by rw [baleBody_length]; omega), baleBody, ← baleHead_length]; exact List.take_left
  have fc : descField (baleBody ++ baleMac d) 832 8 = (crc64 baleHead).toNat := by
    rw [field_of_prefix _ _ _ _ (by rw [baleBody_length])]
    have e : baleBody.drop 832 = leBytes 8 (crc64 baleHead).toNat := by rw [baleBody, ← baleHead_length]; exact List.drop_left
    have l : (crc64 baleHead).toNat < 2 ^ 64 := BitVec.isLt _
    rw [descField, e, List.take_of_length_le (by simp), leNat_leBytes]
    omega
  have hi : d.fget FLD_MIG_ID.BALE_ID 5 = 0 := by decide +kernel
  have hs : d.slotsInFlight = 0 := by decide +kernel
  unfold Dev.baleCheck
  simp only [f0, f4, f6, f8, hn, fid, hi, hs, bale_zero]
  simp [baleLen, t1, t2, t3, fc]
  rfl

/-! Slot power (18) -/

/-- Slot 3 in a state, present, its profile 2 usable, with what its hidden part holds; 12 V on both feeds; port 8 in use with it. -/
def slt (st : Nat) (h : SlotHid) (l : List (Fld × Nat × Nat × Nat)) : Dev :=
  let d := sets ([(SLT_STAT.STATE, st, 3, 0), (SLT_STAT.PRESENT, 1, 3, 0), (SLT_PROFILE.VALID, 1, 3, 2), (SLT_PROFILE.ISET, 100, 3, 2), (SLT_STAT.PROFILE, 2, 3, 0),
    (CXP_PORT_CFG.MODE, 2, 8, 0), (CXP_PORT_CFG.SLOT_EN, 1, 8, 0), (CXP_PORT_CFG.SLOT, 3, 8, 0), (CXP_LINK_STAT.STATE, 2, 8, 0),
    (CXP_VB.KIND, 1, 2, 4), (CXP_VB.PORT, 8, 2, 4), (CXP_VSW_CFG.VB_COUNT, 8, 2, 0), (SLT_CFG.FORCE_PROFILE, 2, 3, 0)] ++ l) bare
  d.setSlotHid 3 h

/-- A sample at V_BUS `v` mV, V_OUT and the feeds the same. -/
def smp (v : Nat) : SlotSample :=
  ⟨1500, BitVec.ofNat 16 v, BitVec.ofNat 16 v, BitVec.ofNat 16 v, BitVec.ofNat 16 v, 18000, false⟩

/-- The identity record of profile `k` and a serial number. -/
def record (k serial : Nat) : BitVec 512 :=
  let b := leBytes 4 0x4449454D ++ leBytes 1 1 ++ leBytes 1 k ++ leBytes 2 0 ++ leBytes 8 serial ++ List.replicate 47 0
  BitVec.ofNat 512 (leNat (b ++ [crc8 b]))

/-- SlotPower, presence and identity: each state, records good and bad, what was kept, the forced profile. -/
theorem witness_SlotPower_identity :
    let go (i : Instr) (d : Dev) := (after i d).slotState 3
    let idn := slt slIdent {} []
    let kept (l : Bool) := slt slIdent { kept := some ⟨some 77, l, 5000⟩ } [(SLT_STAT.FAULTS, 2, 3, 0)]
    let y := after (.identReadDone 3 (record 2 77)) idn
    let fw := slt slFaultWait { retryEnd := 900 } [(SLT_STAT.FAULTS, 2, 3, 0), (SLT_STAT.IDENT_VALID, 1, 3, 0)]
    go (.presenceAssert 3) (slt slEmpty {} []) = slDebounce ∧ go (.presenceAssert 3) idn = slIdent ∧
    go (.debounceEnd 3) (slt slDebounce {} []) = slIdent ∧ (after (.debounceEnd 3) (slt slDebounce {} [])).now = 100000000 ∧
    idn.identErr 3 (leBytes 64 (record 2 77).toNat) = 0 ∧ y.slotState 3 = slReady ∧ y.fget SLT_STAT.PROFILE 3 = 2 ∧
    y.rd ⟨.SLT_IDENT, 3, 1⟩ = 77 ∧ y.fget SLT_STAT.IDENT_VALID 3 = 1 ∧ idn.identErr 3 (leBytes 64 (record 5 77).toNat) = 4 ∧
    go (.identReadDone 3 (record 5 77)) idn = slNoIdent ∧ go (.identReadDone 3 0) idn = slNoIdent ∧ idn.forcedOk 3 = false ∧
    go (.identReadDone 3 0) (idn.fset SLT_CFG.FORCE_EN 1 3) = slReady ∧ go (.identReadDone 3 (record 2 77)) (kept false) = slFaultWait ∧
    ((after (.identReadDone 3 (record 2 77)) (kept false)).slot 3).retryEnd = 5000 ∧ go (.identReadDone 3 (record 2 77)) (kept true) = slLatched ∧
    go (.identReadDone 3 (record 2 78)) (kept true) = slReady ∧ ((after (.identTimeout 3) idn).slot 3).tries = 1 ∧
    go (.identTimeout 3) (idn.setSlotHid 3 { tries := 2 }) = slNoIdent ∧ go (.forceEnable 3) (slt slNoIdent {} []) = slReady ∧
    go (.forceEnable 3) (slt slNoIdent {} [(SLT_PROFILE.VALID, 0, 3, 2)]) = slNoIdent ∧ go (.presenceLoss 3) fw = slEmpty ∧
    ((after (.presenceLoss 3) fw).slot 3).kept = some ⟨some 0, false, 900⟩ ∧ (after (.presenceLoss 3) fw).fget SLT_STAT.FAULTS 3 = 2 ∧
    ((after (.presenceLoss 3) (slt slOn {} [])).slot 3).kept = none ∧ after (.presenceLoss 3) (slt slEmpty {} []) = slt slEmpty {} [] := by
  decide +kernel

/-- SlotPower, the commands: refused for a module in use, by the state and by the instant, and taken; a host's power control. -/
theorem witness_SlotPower_commands :
    let res (i : Instr) (d : Dev) := ((after i d).fget SLT_STAT.CMD_RESULT 3, (after i d).slotState 3)
    let rdy := slt slReady {} []
    let use := slt slReady {} [(TMP_DEV_CFG.PORT, 8, 0, 9), (TMP_DEV_STAT.STATE, 1, 0, 9)]
    let at' (t : Nat) (d : Dev) := d.fset SLT_ON_INSTANT.INSTANT t 3
    let arm := slt slReady { onAt := 4096 } [(SLT_STAT.ARMED, 1, 3, 0)]
    rdy.slotInUse 3 = false ∧ use.slotInUse 3 = true ∧ res (.on 3) use = (1, slReady) ∧ res (.on 3) (slt slLatched {} []) = (4, slLatched) ∧
    (after (.on 3) rdy).fget SLT_STAT.REQ 3 = 1 ∧ res (.off 3) use = (1, slReady) ∧ res (.off 3) (slt slOn {} []) = (0, slReady) ∧
    res (.onAt 3) use = (1, slReady) ∧ res (.onAt 3) (slt slHeld {} []) = (4, slHeld) ∧ res (.onAt 3) (at' 1024 rdy) = (2, slReady) ∧
    res (.onAt 3) (at' (2 ^ 31) rdy) = (3, slReady) ∧ ((after (.onAt 3) (at' 4097 rdy)).slot 3).onAt = 4096 ∧
    (after (.onAtInstant 3) arm).now = 4096 ∧ (after (.onAtInstant 3) arm).fget SLT_STAT.REQ 3 = 1 ∧
    res (.onAtInstant 3) (arm.fset SLT_STAT.STATE slLatched 3) = (4, slLatched) ∧ after (.onAtInstant 3) rdy = rdy ∧
    res (.clear 3) (slt slLatched {} []) = (0, slReady) ∧ res (.clear 3) rdy = (4, slReady) ∧ res (.reident 3) rdy = (0, slIdent) ∧
    res (.reident 3) (slt slOn {} []) = (4, slOn) ∧ (after (.hostPowerControl 2 4 true) rdy).fget SLT_STAT.REQ 3 = 1 ∧
    after (.hostPowerControl 2 5 true) rdy = rdy ∧ (after (.hostPowerControl 2 4 false) (slt slOn {} [])).slotState 3 = slReady := by decide +kernel

/-- SlotPower, power and faults: the ramp, qualification, both trips, the retry, the reset of the count; the feeds. -/
theorem witness_SlotPower_power :
    let go (i : Instr) (d : Dev) := (after i d).slotState 3
    let rdy := slt slReady {} [(SLT_STAT.REQ, 1, 3, 0)]
    let rmp := slt slRamp {} []
    let on := slt slOn { since := 500 } [(SLT_STAT.PG, 1, 3, 0), (SLT_STAT.FAULTS, 1, 3, 0), (SLT_STAT.FEED_A, 1, 3, 0)]
    let hot := slt slOn { hot := [1] } []
    let low : SlotSample := { smp 12000 with va := 9000 }
    let idle : SlotSample := { smp 12000 with ma := 999 }
    let cut : Dev := { on with slotDieFailed := true }
    let m12 := slt slReady {} [(SLT_STAT.PROFILE, 3, 3, 0), (SLT_PROFILE.ISET, 650, 3, 3), (SLT_PROFILE.SLOPE, 60, 3, 3),
      (SLT_IDENT.BYTES, 700 * 2 ^ 48, 3, 0), (SLT_IDENT.BYTES, 150, 3, 2)]
    (m12.iSet 3, m12.rampSlope 3, m12.tripMa 3) = (650, 21, 19500) ∧ rmp.out = [] ∧
    ((after (.rampStart 3 (smp 12000)) rdy).out.any fun o => o == .slotRamp 3 100 60 3000) = true ∧
    go (.qualified 3 (smp 12000)) (slt slQual {} []) = slQual ∧ go (.limitTimeout 3 idle) on = slOn ∧
    rdy.goodMv 3 = 11000 ∧ rdy.slotDieFailed = false ∧ go (.rampStart 3 (smp 12000)) rdy = slRamp ∧ go (.rampStart 3 (smp 10999)) rdy = slReady ∧
    ((after (.rampTop 3 (smp 12000)) rmp).slot 3).top = true ∧ go (.gateEnhanced 3) (rmp.setSlotHid 3 { top := true }) = slQual ∧
    after (.gateEnhanced 3) rmp = rmp ∧ after (.limitTimeout 3 (smp 11000)) cut = cut ∧ go (.fastTrip 3) cut = slFaultWait ∧ (after (.qualified 3 idle) (slt slQual {} [])).fget SLT_STAT.PG 3 = 1 ∧
    go (.qualified 3 idle) (slt slQual {} []) = slOn ∧ on.powered 3 = true ∧ rdy.powered 3 = false ∧ go (.fastTrip 3) on = slFaultWait ∧
    (after (.fastTrip 3) on).fget SLT_STAT.CAUSE 3 = 1 ∧ go (.fastTrip 3) (on.fset SLT_STAT.FAULTS 2 3) = slLatched ∧
    (after (.limitTimeout 3 (smp 11000)) on).fget SLT_STAT.CAUSE 3 = 2 ∧ go (.retryTimer 3) (slt slFaultWait { retryEnd := 900 } [(SLT_STAT.REQ, 1, 3, 0)]) = slRamp ∧
    go (.retryTimer 3) (slt slFaultWait {} []) = slReady ∧ (after (.faultCountReset 3) on).fget SLT_STAT.FAULTS 3 = 0 ∧
    (after (.faultCountReset 3) on).now = 60000000500 ∧ ((after (.reverse 3 .a) on).slot 3).rev = [1] ∧ after (.reverse 3 .b) on = on ∧
    ((after (.fetHot 3 .a (smp 12000)) on).slot 3).hot = [1] ∧ go (.fetHot 3 .a (smp 12000)) on = slOn ∧
    go (.fetHot 3 .a { smp 12000 with vb := 9000 }) on = slFaultWait ∧ ((after (.feedAllowed 3 .a (smp 12000)) hot).slot 3).hot = [] ∧
    ((after (.feedRestore 3 .a { smp 12000 with va := 12050 }) (on.setSlotHid 3 { rev := [1] })).slot 3).rev = [] ∧
    ((after (.feedRestore 3 .a (smp 12000)) (on.setSlotHid 3 { rev := [1] })).slot 3).rev = [1] ∧ on.warnMv 3 = 10800 ∧
    ((after (.feedLost 3 .a low) on).src 261).queue.map (·.1.code) = [0xA5] ∧ ((after (.feedLost 3 .a (smp 12000)) on).src 261).queue = [] := by
  decide +kernel

/-- SlotPower, brownouts, the flush and energy; a sideband transfer. -/
theorem witness_SlotPower_supply :
    let go (i : Instr) (d : Dev) := (after i d).slotState 3
    let on := slt slOn {} [(SLT_CFG.GPF_ON_WARN, 1, 3, 0), (CXP_VB.KIND, 0, 2, 4)]
    let warn := slt slOn { low := 9900, gpf := some 1000 } [(SLT_STAT.EWARN, 1, 3, 0)]
    let y := after (.earlyWarning 3 (smp 10799)) on
    let e := after (.energyWindow 3 555) (on.fset TIM_NOW.NOW 5)
    let xf := after (.sidebandTransfer 40 0x50 false 0 false 63) (on.fset SB_CFG.MODE 1 40)
    on.gpfPort 3 = some 8 ∧ y.fget SLT_STAT.EWARN 3 = 1 ∧ (y.slot 3).gpf = some 0 ∧ (y.slot 3).low = 10799 ∧
    y.out = [.log "global persistent flush" 8] ∧ (after (.earlyWarning 3 (smp 10800)) on).fget SLT_STAT.EWARN 3 = 0 ∧
    ((after (.earlyWarning 3 (smp 10000)) warn).slot 3).low = 9900 ∧ go (.undervolt 3 (smp 9599)) on = slUvWait ∧ go (.undervolt 3 (smp 9600)) on = slOn ∧
    go (.uvRecovered 3 (smp 11000)) (slt slUvWait {} [(SLT_STAT.REQ, 1, 3, 0)]) = slRamp ∧ go (.uvRecovered 3 (smp 10999)) (slt slUvWait {} []) = slUvWait ∧
    go (.uvRecovered 3 (smp 11000)) (slt slUvWait {} []) = slReady ∧ (after (.brownoutRecovered 3 (smp 11000)) warn).fget SLT_STAT.EWARN 3 = 0 ∧
    (after (.brownoutRecovered 3 (smp 10999)) warn).fget SLT_STAT.EWARN 3 = 1 ∧ ((after (.gpfComplete 3) warn).slot 3).gpf = none ∧
    (after (.gpfTimeout 3) warn).now = 50001000 ∧ after (.gpfTimeout 3) on = on ∧ e.now = 1048576 ∧ e.fget SLT_ENERGY.ENERGY 3 = 555 ∧
    e.fget SLT_ENERGY_WIN.UNSYNC 3 = 1 ∧ e.fget SLT_ENERGY_END.COURSE 3 = 1 ∧ xf.fget SB_XFER.STATUS 40 = 1 ∧
    (after (.sidebandTransfer 40 0x50 false 0 false 63) on).fget SB_XFER.STATUS 40 = 5 ∧
    (after (.sidebandTransfer 3 0x50 false 0 false 63) (slt slIdent {} [])).fget SB_XFER.STATUS 3 = 5 ∧
    (after (.sidebandDone 40 none true) xf).fget SB_XFER.STATUS 40 = 3 ∧ (after (.sidebandDone 40 none false) xf).fget SB_XFER.STATUS 40 = 4 ∧
    (after (.sidebandDone 40 (some 9) false) xf).rd ⟨.SB_DATA, 40, 0⟩ = 9 ∧ after (.sidebandDone 40 none false) on = on ∧
    (after (.sidebandDone 40 (some 9) false) (xf.fset SB_XFER.WRITE 1 40)).fget SB_XFER.STATUS 40 = 2 := by decide +kernel

/-! The chain, telemetry and register writes (05, 19) -/

/-- `net` at chain address 5, time LOCKED at NOW = 10^6. -/
def chained : Dev := sets [(CHN_STATUS.ADDR, 5, 0, 0), (CHN_STATUS.VALID, 1, 0, 0), (TIM_STATUS.STATE, 2, 0, 0), (TIM_NOW.NOW, 1000000, 0, 0)] net

/-- A reset armed for NOW = 2 × 10^6. -/
def armed (renumber : Bool) : Dev := chained.setGable { chained.gable with chainArm := some (2000000, renumber) }

/-- ChainTelemetryWrites, the chain: a reset armed, an earlier and a later one, one without a condition; its instant with and without
RENUMBER; address frames; the head; the timeout; the next frame. -/
theorem witness_ChainTelemetryWrites_chain :
    let rst (m t : Nat) (fl : BitVec 8) (d : Dev) := (after (.chainReset via 0 (BitVec.ofNat 64 m) (BitVec.ofNat 64 t) fl) d).gable.chainArm
    let fresh := chained.fset CHN_STATUS.VALID 0
    let said (n : Nat) (d : Dev) := d.setGable { d.gable with chainLast := some n }
    chained.reached via = true ∧ chained.mgrAllowed 0 0 = true ∧ chained.timeGood = true ∧ rst 32 1002048 1 chained = some (1002048, true) ∧
    rst 32 1002047 1 chained = none ∧ rst 16 1002048 1 chained = none ∧ rst 32 1500000 0 (armed true) = some (1500000, false) ∧
    rst 32 2500000 0 (armed true) = some (2000000, true) ∧ after .chainResetInstant chained = chained ∧
    (after .chainResetInstant (armed false)).fget CSP_STATUS.LAST_RESET = 2 ∧ (after .chainResetInstant (armed false)).fget CHN_STATUS.ADDR = 5 ∧
    (after .chainResetInstant (armed true)).fget CHN_STATUS.VALID = 0 ∧ (after .chainResetInstant (armed true)).gable.boot = .zeroing ∧
    chainAddr (chainBits 7 12) = none ∧ chainBits 7 8 = chainFrame 7 ∧ after (.addrInFrame 7 12) chained = chained ∧ chained.gableFailed = false ∧ (after (.addrInFrame 7 8) chained).gable.chainLast = some 7 ∧
    (after (.addrInFrame 7 8) chained).fget CHN_STATUS.MISMATCH = 0 ∧ (after (.addrInFrame 7 8) (said 7 chained)).fget CHN_STATUS.MISMATCH = 1 ∧
    (after (.addrInFrame 5 12) (said 5 chained)).fget CHN_STATUS.MISMATCH = 0 ∧
    (let y := after (.addrInFrame 63 12) (said 63 fresh)
     y.fget CHN_STATUS.ADDR = 63 ∧ y.fget CHN_STATUS.END = 1 ∧ y.fget CSP_STATUS.CHAIN_ADDR = 63 ∧ y.fget CHN_STATUS.HEAD = 0) ∧
    after .chainHead chained = chained ∧ (after .chainHead fresh).fget CHN_STATUS.HEAD = 1 ∧ (after .chainHead fresh).fget CHN_STATUS.ADDR = 0 ∧
    after .chainTimeout chained = chained ∧ (sent .chainTimeout fresh) = [.log "no chain address" 0] ∧
    sent .addrOutFrame chained = [.addrOut (chainFrame 6)] ∧ chainFrame 6 = 0b1000110100 ∧ sent .addrOutFrame (chained.fset CHN_STATUS.ADDR 63) = [] := by decide +kernel

/-- ChainTelemetryWrites, telemetry: nothing due; one entry due, mapped and unmapped. -/
theorem witness_ChainTelemetryWrites_telemetry :
    let due (b : Nat) := sets [(ETH_TELEM0.BASE, b, 0, 2), (ETH_TELEM1.COUNT, 1, 0, 2), (ETH_TELEM1.PERIOD, 1, 0, 2)] chained
    let at' := Reg.addr ⟨.CSP_SCRATCH, 0, 1⟩
    let y := after .telemetrySample ((due at').wr ⟨.CSP_SCRATCH, 0, 1⟩ 99)
    let z := after .telemetrySample (due (2 ^ 46 + 2 ^ 45))
    chained.toCourse.telemDue 2 = false ∧ (due at').toCourse.telemDue 2 = true ∧ regAt at' = some ⟨.CSP_SCRATCH, 0, 1⟩ ∧
    y.out = [.telemetry 0 (leBytes 8 1 ++ (leBytes 1 2 ++ leBytes 1 1 ++ leBytes 6 0 ++ leBytes 8 99))] ∧
    regAt (2 ^ 46 + 2 ^ 45) = none ∧ z.fget ETH_TELEM1.ERR 0 2 = 1 ∧
    z.out = [.telemetry 0 (leBytes 8 1 ++ (leBytes 1 2 ++ leBytes 1 1 ++ leBytes 6 0 ++ leBytes 8 (2 ^ 64 - 1)))] := by decide +kernel

/-- ChainTelemetryWrites, register writes: a manager's of one byte of a scratch register, misaligned, unmapped and during a soft reset; a
host's of a vector's address, of a manager's register and of two bytes. -/
theorem witness_ChainTelemetryWrites_writes :
    let at' := Reg.addr ⟨.CSP_SCRATCH, 0, 1⟩
    let wr (a : Nat) (log : Fin 4) (v : Word) (d : Dev) := after (.registerWrite (.manager 0) log (BitVec.ofNat 48 a) v) d
    let d := fold5.wr ⟨.CSP_SCRATCH, 0, 1⟩ 0x1122334455667788
    let soft := d.fset CSP_STATUS.PHASE phSoft
    let off := (Reg.addr ⟨.FLD_MSIX0, 5, 0⟩) % 0x10000
    let hst (a : Nat) (log : Fin 4) := after (.registerWrite (.host 5) log (BitVec.ofNat 48 a) 0xABC) d
    d.gable.boot = .up ∧ d.regWaits at' = false ∧ RK.CSP_SCRATCH.storesOnly = true ∧ (wr (at' + 2) 0 0xAB d).rd ⟨.CSP_SCRATCH, 0, 1⟩ = 0x1122334455AB7788 ∧
    (wr (at' + 1) 1 0 d).fget CSP_ERR.CAUSE = 5 ∧ (wr (2 ^ 46 + 2 ^ 45) 3 0 d).fget CSP_ERR.CAUSE = 1 ∧
    soft.regWaits (Reg.addr ⟨.FLD_MSIX0, 5, 0⟩) = true ∧ (wr (Reg.addr ⟨.FLD_MSIX0, 5, 0⟩) 3 5 soft).held.length = 1 ∧ d.hostWrites 5 = true ∧
    Reg.addr ⟨.FLD_MSIX0, 5, 0⟩ = 0x200000000000 + 5 * 0x10000 + off ∧ (hst off 3).rd ⟨.FLD_MSIX0, 5, 0⟩ = 0xABC ∧ hst off 1 = d ∧
    RK.FLD_RESET.managerOnly = true ∧ hst (Reg.addr ⟨.FLD_RESET, 5, 0⟩ % 0x10000) 3 = d ∧ (fold5.fset FLD_STAT.STATE 0 5).hostWrites 5 = false := by
  decide +kernel

/-! The whole block (01, 05, 20) -/

/-- A device whose warm reset is held, with nothing in it. -/
def held : Dev := { fuses := ⟨0, 0, false, 0⟩, wygel := { keys := [], slotEntry := [0, 1, 2, 3] }, gable := { boot := .heldWarm } }

/-- HeldResetStaysClean: a device that is held and clean, and a step of it: a command, and none waiting. -/
theorem witness_HeldResetStaysClean :
    held.inReset = true ∧ held.heldClean ∧ step ⟨held, [.presenceAssert 3, .chainHead]⟩ = .next ⟨held, [.chainHead]⟩ ∧
    step ⟨held, []⟩ = .next ⟨held, []⟩ := by
  refine ⟨rfl, fun _ => ⟨rfl, rfl, rfl, rfl, rfl, rfl, rfl, rfl, rfl, rfl, rfl, rfl, rfl, rfl, rfl, rfl, rfl, rfl, rfl, rfl, rfl, ?_⟩, ?_, ?_⟩
  · intro r _ f _ _; rfl
  · rfl
  · rfl

/-- StepRunsFront: with no command waiting, with the device not held, and with a write that a soft reset made wait. -/
theorem witness_StepRunsFront :
    bare.inReset = false ∧ step ⟨bare, []⟩ = .next ⟨bare.fset TIM_NOW.NOW 1, []⟩ ∧
    step ⟨bare, [.chainHead]⟩ = exec .chainHead ⟨bare, []⟩ ∧
    (let w : Dev := { bare with held := [.debugLock] }; w.phase ≠ phSoft ∧ step ⟨w, []⟩ = exec .debugLock ⟨bare, []⟩) := by
  exact ⟨rfl, rfl, rfl, by decide, rfl⟩

/-- RegisterAddresses: a register of a block with instances, an address inside it, one beyond the instances, one in no block. -/
theorem witness_RegisterAddresses :
    let r : Reg := ⟨.FLD_MSIX0, 5, 7⟩
    blockInfo r.k.place.block = some (256, 16) ∧ regAt r.addr = some r ∧ regAt (r.addr + 7) = some r ∧ (r.addr + 7) / 8 * 8 = r.addr ∧
    regAt (0x20 * 2 ^ 40 + 256 * 2 ^ 16) = none ∧ blockInfo 0x7F = none ∧ regAt (0x7F * 2 ^ 40) = none := by decide +kernel

/-! Ill-formed commands: one for each check, beside a well-formed one -/

/-- A line read and a CXL.io read, well-formed. -/
def line : HostReq := ⟨.memRdData, 0x40, 64, 1, 0, false, 0, 0⟩
def ioLine : HostReq := ⟨.ioPosted, 0x41, 4096, 1, 5, false, 31, 0⟩

theorem test_wellformed_requests :
    line.wellFormed = true ∧ ioLine.wellFormed = true ∧ { line with len := 32 }.wellFormed = false ∧ { line with addr := 0x41 }.wellFormed = false ∧
    { ioLine with len := 0 }.wellFormed = false ∧ { ioLine with len := 4097 }.wellFormed = false ∧
    { line with data := 2 ^ 512 }.wellFormed = false ∧ { line with addr := 2 ^ 64 }.wellFormed = false ∧
    { ioLine with vb := 32 }.wellFormed = false ∧ { ioLine with extra := 4081 }.wellFormed = false := by decide +kernel

theorem test_wellformed_messages :
    (PortMsg.response 1 (2 ^ 32767) false 0).wellFormed = true ∧ (PortMsg.response 1 (2 ^ 32768) false 0).wellFormed = false ∧
    (PortMsg.response 1 0 false 4081).wellFormed = false ∧ (PortMsg.vfRead 256 0 true).wellFormed = false ∧
    (PortMsg.viral 16).wellFormed = false ∧ (PortMsg.slotCapability 32).wellFormed = false ∧ (PortMsg.cdatRead).wellFormed = true ∧
    (PortMsg.dpcEnable 31 true).wellFormed = true ∧ (PortMsg.dpcEnable 32 true).wellFormed = false ∧
    (PortMsg.reserved 255).wellFormed = true ∧ (PortMsg.reserved 256).wellFormed = false ∧
    (Instr.ingressMessage 3 (.request { line with len := 1 }) []).wellFormed = false ∧
    (Instr.pbrMessage 3 0 1 (.reserved 256) []).wellFormed = false ∧
    (Instr.ingressMessage 3 (.request line) [.table .field (.corrected 146)]).wellFormed = false ∧
    (Instr.pbrMessage 3 0 1 (.request line) [.table .field (.corrected 145), .retry 2]).wellFormed = true := by decide +kernel

theorem test_wellformed_bytes :
    let none' : List Byte := []
    let some' : List Byte := [1]
    (Instr.imageData via 1 2 0 1 none').wellFormed = false ∧ (Instr.imageData via 1 2 0 1 some').wellFormed = true ∧
    (Instr.mbox via 1 2 3 4 none').wellFormed = false ∧ (Instr.flashWrite via 1 2 0 none').wellFormed = false ∧
    (Instr.flashWrite via 1 2 0 some').wellFormed = true ∧ (Instr.baleData true true 5 0 1 some').wellFormed = true ∧
    (Instr.challenge via 1 0 (List.replicate 32 0)).wellFormed = true ∧ (Instr.challenge via 1 0 (List.replicate 31 0)).wellFormed = false ∧
    (Instr.getMeasurements via 1 0 true (List.replicate 33 0)).wellFormed = false := by decide +kernel

theorem payload_bound (bs : List Byte) (h : 4096 < bs.length) :
    (Instr.mbox via 1 2 3 4 bs).wellFormed = false ∧ (Instr.flashWrite via 1 2 0 bs).wellFormed = false := by
  simp [Instr.wellFormed, payloadOk]; omega

theorem test_wellformed_payloads :
    (Instr.mbox via 1 2 3 4 (List.replicate 4097 7)).wellFormed = false ∧ (Instr.flashWrite via 1 2 0 (List.replicate 4097 7)).wellFormed = false :=
  payload_bound _ (by rw [List.length_replicate]; decide)

theorem length_bound (bs : List Byte) (h : 2 ^ 16 ≤ bs.length) :
    (Instr.imageData via 1 2 0 1 bs).wellFormed = false ∧ (Instr.baleData true true 5 0 1 bs).wellFormed = false := by
  simp [Instr.wellFormed]; omega

theorem test_wellformed_long :
    (Instr.imageData via 1 2 0 1 (List.replicate 65536 7)).wellFormed = false ∧
    (Instr.baleData true true 5 0 1 (List.replicate 65536 7)).wellFormed = false :=
  length_bound _ (by rw [List.length_replicate]; decide)

theorem test_wellformed_rest :
    (Instr.egressSlot 3 false (.words 64) ⟨false, false⟩).wellFormed = true ∧ (Instr.egressSlot 3 false (.words 0) ⟨false, false⟩).wellFormed = false ∧
    (Instr.tlkTxSlot 3 false (.words 65) false).wellFormed = false ∧ (Instr.tlkDataFlit 3 (hdr 1 0 0 false) [1] 0 []).wellFormed = false ∧
    (Instr.tlkIdleFlit 3 (hdr 0 0 0 false) (List.replicate 236 0) 0).wellFormed = true ∧ (Instr.l0pRequest 3 (.l0p 8)).wellFormed = true ∧
    (Instr.l0pRequest 3 (.l0p 3)).wellFormed = false ∧ (Instr.scrubVisit 3 (.corrected 146)).wellFormed = false ∧
    (Instr.scrubVisit 3 (.corrected 255)).wellFormed = true := by decide +kernel

/-- The table gives no row bits: no word spells a command, and a state keeps its queue. -/
theorem test_no_word_decodes (nbits w : Nat) (s : State) : decodeTableWord nbits w = none ∧ s.withFetchWord nbits w = s := ⟨rfl, rfl⟩

end Sys2Proof.Tests
end

section
namespace Sys2Proof.Machine

/-- After a power-on reset nothing is listed in the register file, so a register shows its reset value. -/
theorem rd_reset (r : Reg) : Dev.reset.rd r = r.resetVal Dev.reset.fuses := rfl

/-- The release of a power-on reset is no held reset. -/
theorem heldClean_of_not_inReset {d : Dev} (h : d.inReset = false) : d.heldClean :=
  fun held => absurd held (by simp [h])

/-- Settles O58: the device of `Dev.reset` lists nothing, and until the boot it answers no register access. -/
theorem resetState : Obligations.ResetState := by
  unfold Obligations.ResetState
  refine ⟨rfl, rfl, rfl, rfl, rfl, rfl, rfl, rfl, rfl, rfl, rd_reset, ?_, ?_, ?_, rfl, rfl, ?_, ?_⟩
  · rw [show State.reset.dev = Dev.reset from rfl, rd_reset]; decide
  · decide
  · decide
  · exact heldClean_of_not_inReset rfl
  · intro a v
    change execRegisterWrite (.manager 0) 3 a v State.reset = .next State.reset
    unfold execRegisterWrite
    exact onReg_held _ _ rfl

end Sys2Proof.Machine
end

section
namespace Sys2Proof.Machine

/-! The field maps: their rows lie apart, so that a fold of `putBits` over them sets each row by itself. -/

/-- A row of a field map lies within 64 bits, and what a warm reset restores a power-on reset restores (R655). -/
def FD.sound (f : FD) : Bool := decide (f.lo + f.w ≤ 64) && (f.res.contains .power || !f.res.contains .warm)

/-- Two rows of a field map share no bit. -/
def FD.apart (f g : FD) : Bool := decide (f.lo + f.w ≤ g.lo ∨ g.lo + g.w ≤ f.lo)

/-- The rows of a field map are sound, and each lies apart from those after it. -/
def rowsSound : List FD → Bool
  | [] => true
  | f :: fs => f.sound && fs.all f.apart && rowsSound fs

theorem RK.rowsSound_fields (k : RK) : rowsSound k.fields = true := by
  cases k <;> rfl

theorem FD.apart_symm {f g : FD} (h : f.apart g = true) : g.apart f = true := by
  simp only [FD.apart, decide_eq_true_eq] at *
  omega

theorem rowsSound_cons {f : FD} {fs : List FD} (h : rowsSound (f :: fs) = true) :
    f.sound = true ∧ (∀ g ∈ fs, f.apart g = true) ∧ rowsSound fs = true := by
  simpa [rowsSound, and_assoc] using h

theorem FD.sound_of_mem {f : FD} {fs : List FD} (hs : rowsSound fs = true) (hf : f ∈ fs) : f.sound = true := by
  induction fs with
  | nil => simp at hf
  | cons g fs ih =>
    obtain ⟨hg, -, hfs⟩ := rowsSound_cons hs
    rcases List.mem_cons.mp hf with rfl | hf
    · exact hg
    · exact ih hfs hf

theorem FD.sound_iff (f : FD) : f.sound = true ↔ f.lo + f.w ≤ 64 ∧ (.warm ∈ f.res → .power ∈ f.res) := by
  simp [FD.sound, or_iff_not_imp_right]

theorem FD.within {k : RK} {f : FD} (hf : f ∈ k.fields) : f.lo + f.w ≤ 64 :=
  (f.sound_iff.mp (FD.sound_of_mem k.rowsSound_fields hf)).1

theorem FD.power_of_warm {k : RK} {f : FD} (hf : f ∈ k.fields) (hw : .warm ∈ f.res) : .power ∈ f.res :=
  (f.sound_iff.mp (FD.sound_of_mem k.rowsSound_fields hf)).2 hw

/-- The rows that `sel` chooses given values, in turn. -/
def putRows (sel : FD → Bool) (val : FD → Nat) (fs : List FD) (v : Word) : Word :=
  fs.foldl (fun v f => if sel f then putBits v f.lo f.w (val f) else v) v

theorem putRows_cons (sel : FD → Bool) (val : FD → Nat) (f : FD) (fs : List FD) (v : Word) :
    putRows sel val (f :: fs) v = putRows sel val fs (if sel f then putBits v f.lo f.w (val f) else v) := rfl

theorem bitsOf_putRows_apart (sel : FD → Bool) (val : FD → Nat) (f : FD) (fs : List FD) (v : Word)
    (h : ∀ g ∈ fs, f.apart g = true) : bitsOf (putRows sel val fs v) f.lo f.w = bitsOf v f.lo f.w := by
  induction fs generalizing v with
  | nil => rfl
  | cons g fs ih =>
    have hg : f.lo + f.w ≤ g.lo ∨ g.lo + g.w ≤ f.lo := by simpa [FD.apart] using h g List.mem_cons_self
    rw [putRows_cons, ih _ fun g' hg' => h g' (List.mem_cons_of_mem _ hg')]
    split
    · exact bitsOf_putBits_other v g.lo g.w _ f.lo f.w (by omega)
    · rfl

/-- Each row of a sound map holds its own value after the fold, or what it held. -/
theorem bitsOf_putRows (sel : FD → Bool) (val : FD → Nat) {f : FD} {fs : List FD} (v : Word) (hs : rowsSound fs = true)
    (hf : f ∈ fs) :
    bitsOf (putRows sel val fs v) f.lo f.w = if sel f then val f % 2 ^ f.w else bitsOf v f.lo f.w := by
  induction fs generalizing v with
  | nil => simp at hf
  | cons g fs ih =>
    obtain ⟨hg, hgs, hfs⟩ := rowsSound_cons hs
    rw [putRows_cons]
    by_cases hm : f ∈ fs
    · have hfg : g.lo + g.w ≤ f.lo ∨ f.lo + f.w ≤ g.lo := by simpa [FD.apart] using hgs f hm
      have hv : bitsOf (if sel g then putBits v g.lo g.w (val g) else v) f.lo f.w = bitsOf v f.lo f.w := by
        split
        · exact bitsOf_putBits_other v g.lo g.w _ f.lo f.w hfg
        · rfl
      rw [ih _ hfs hm, hv]
    · obtain rfl : f = g := by simpa [hm] using hf
      rw [bitsOf_putRows_apart sel val f fs _ hgs]
      split
      · exact bitsOf_putBits_same v f.lo f.w _ (f.sound_iff.mp hg).1
      · rfl

theorem bitsOf_lt (v : Word) (lo w : Nat) : bitsOf v lo w < 2 ^ w := Nat.mod_lt _ (by positivity)

/-! What a reset restores -/

/-- A row of a register restored: at its reset value if its map lists the reset, else as it was. -/
theorem bitsOf_restored (fu : Fuses) (k : RstKind) (r : Reg) (v : Word) {f : FD} (hf : f ∈ r.k.fields) :
    bitsOf (r.restored fu k v) f.lo f.w =
      if f.res.contains k then bitsOf (r.resetVal fu) f.lo f.w else bitsOf v f.lo f.w := by
  have h := bitsOf_putRows (fun f => f.res.contains k) (fun f => bitsOf (r.resetVal fu) f.lo f.w) v r.k.rowsSound_fields hf
  rw [Nat.mod_eq_of_lt (bitsOf_lt _ _ _)] at h
  exact h

theorem restore_fuses (d : Dev) (k : RstKind) (rs : List Reg) : (rs.foldl (Dev.restoreReg k) d).fuses = d.fuses := by
  induction rs generalizing d with
  | nil => rfl
  | cons r rs ih => exact ih _

theorem rd_restoreReg (k : RstKind) (d : Dev) (r r' : Reg) :
    (d.restoreReg k r).rd r' = if r' = r then r.restored d.fuses k (d.rd r) else d.rd r' := rd_wr _ _ _ _

/-- A row that a reset does not list keeps its bits through the restoring of any registers. -/
theorem bitsOf_restore_kept (d : Dev) (k : RstKind) (rs : List Reg) (r : Reg) {f : FD} (hf : f ∈ r.k.fields)
    (hk : k ∉ f.res) :
    bitsOf ((rs.foldl (Dev.restoreReg k) d).rd r) f.lo f.w = bitsOf (d.rd r) f.lo f.w := by
  induction rs generalizing d with
  | nil => rfl
  | cons r' rs ih =>
    rw [List.foldl_cons, ih, rd_restoreReg]
    split
    · next h => subst h; rw [bitsOf_restored _ _ _ _ hf]; simp [hk]
    · rfl

/-- A row that a reset lists is at its reset value once its register is restored, or was so before. -/
theorem bitsOf_restore_reset (d : Dev) (k : RstKind) (rs : List Reg) (r : Reg) {f : FD} (hf : f ∈ r.k.fields)
    (hk : k ∈ f.res)
    (h : r ∈ rs ∨ bitsOf (d.rd r) f.lo f.w = bitsOf (r.resetVal d.fuses) f.lo f.w) :
    bitsOf ((rs.foldl (Dev.restoreReg k) d).rd r) f.lo f.w = bitsOf (r.resetVal d.fuses) f.lo f.w := by
  induction rs generalizing d with
  | nil => simpa using h
  | cons r' rs ih =>
    refine ih (d.restoreReg k r') ?_
    rw [rd_restoreReg]
    by_cases hr : r = r'
    · subst hr
      right
      rw [if_pos rfl, bitsOf_restored _ _ _ _ hf]
      simp [hk, Dev.restoreReg]
    · simpa [hr, Dev.restoreReg] using h

/-- A register that is not listed reads its reset value. -/
theorem rd_of_not_listed (d : Dev) (r : Reg) (h : r ∉ d.regs.map (·.1)) : d.rd r = r.resetVal d.fuses := by
  have hf : regFind d.regs r = none := by
    generalize d.regs = l at h
    induction l with
    | nil => rfl
    | cons c l ih =>
      simp only [List.map_cons, List.mem_cons, not_or] at h
      simp [regFind, h.1, ih h.2]
  simp [Dev.rd, hf]

theorem rd_restart (d : Dev) (k : RstKind) (g : Gable) (r : Reg) :
    (d.restart k g).rd r = (d.restore k fun _ => true).rd r := by
  have h : (d.restore k fun _ => true).fuses = d.fuses := restore_fuses _ _ _
  simp [Dev.rd, Dev.restart, h]

/-- A power-on or warm reset restores every row that lists it. -/
theorem bitsOf_restart_reset (d : Dev) (k : RstKind) (g : Gable) (r : Reg) {f : FD} (hf : f ∈ r.k.fields)
    (hk : k ∈ f.res) :
    bitsOf ((d.restart k g).rd r) f.lo f.w = bitsOf (r.resetVal d.fuses) f.lo f.w := by
  rw [rd_restart]
  apply bitsOf_restore_reset d k _ r hf hk
  by_cases h : r ∈ d.regs.map (·.1)
  · left; simpa using h
  · right; rw [rd_of_not_listed d r h]

/-- And it keeps every row that does not list it. -/
theorem bitsOf_restart_kept (d : Dev) (k : RstKind) (g : Gable) (r : Reg) {f : FD} (hf : f ∈ r.k.fields)
    (hk : k ∉ f.res) :
    bitsOf ((d.restart k g).rd r) f.lo f.w = bitsOf (d.rd r) f.lo f.w := by
  rw [rd_restart]
  exact bitsOf_restore_kept d k _ r hf hk

end Sys2Proof.Machine
end

section
namespace Sys2Proof.Machine

/-! What the losses of a port, a rail, a source or a slot, and the loading of an image, leave of the gable die's record: all of
it. So none of them moves `boot`, and a device that is up stays up through them. Where a definition nests many updates,
`-implicitDefEqProofs` keeps `simp`'s steps explicit: the kernel would otherwise compare whole devices. -/

@[simp] theorem ite_gable (c : Prop) [Decidable c] (a b : Dev) :
    (if c then a else b).gable = if c then a.gable else b.gable := apply_ite Dev.gable c a b

theorem foldl_keeps {α β : Type} (g : Dev → β) (f : Dev → α → Dev) (h : ∀ d x, g (f d x) = g d) (l : List α) (d : Dev) :
    g (l.foldl f d) = g d := by
  induction l generalizing d with
  | nil => rfl
  | cons x l ih => rw [List.foldl_cons, ih, h]

@[simp] theorem foldl_gable {α : Type} (f : Dev → α → Dev) (h : ∀ d x, (f d x).gable = d.gable) (l : List α) (d : Dev) :
    (l.foldl f d).gable = d.gable := foldl_keeps Dev.gable f h l d

theorem foldl_fst_gable {α β : Type} (f : Dev × β → α → Dev × β) (h : ∀ p x, (f p x).1.gable = p.1.gable) (l : List α)
    (p : Dev × β) : (l.foldl f p).1.gable = p.1.gable := by
  induction l generalizing p with
  | nil => rfl
  | cons x l ih => rw [List.foldl_cons, ih, h]

@[simp] theorem setLane_gable (d : Dev) (l : Nat) (x : LaneHid) : (d.setLane l x).gable = d.gable := by simp [Dev.setLane]
@[simp] theorem marginCut_gable (d : Dev) (l cause : Nat) :
    (d.marginCut l cause).gable = d.gable := by simp [Dev.marginCut]
@[simp] theorem marginAbort_gable (d : Dev) (l cause : Nat) : (d.marginAbort l cause).gable = d.gable := by
  simp [Dev.marginAbort]
@[simp] theorem laneDown_gable (d : Dev) (l : Nat) : (d.laneDown l).gable = d.gable := by simp [Dev.laneDown]
@[simp] theorem setLanePort_gable (d : Dev) (p : Nat) (x : PortHid) : (d.setLanePort p x).gable = d.gable := by
  simp [Dev.setLanePort]
@[simp] theorem walkForLost_gable (d : Dev) : d.walkForLost.gable = d.gable := by simp [Dev.walkForLost]
@[simp] theorem dropFlights_gable (d : Dev) (sel : FlightSrc → Bool) : (d.dropFlights sel).gable = d.gable := by
  simp [Dev.dropFlights]
@[simp] theorem migrSlotFree_gable (d : Dev) (k : Nat) : (d.migrSlotFree k).gable = d.gable := by simp [Dev.migrSlotFree]
@[simp] theorem setSFrame_gable (d : Dev) (dev f2m : Nat) (st : SFrameState) :
    (d.setSFrame dev f2m st).gable = d.gable := by simp [Dev.setSFrame]
@[simp] theorem fillDrop_gable (d : Dev) (key : Nat) : (d.fillDrop key).gable = d.gable := by simp [Dev.fillDrop]
@[simp] theorem sframeLeft_gable (d : Dev) (dev f2m : Nat) : (d.sframeLeft dev f2m).gable = d.gable := by
  simp [Dev.sframeLeft]
@[simp] theorem fsetBoth_gable (d : Dev) (f : Fld) (n : Nat) (i : Nat) (j : Nat) :
    (d.fsetBoth f n i j).gable = d.gable := by simp [Dev.fsetBoth]
@[simp] theorem fieldMigrating_gable (d : Dev) (f : Nat) : (d.fieldMigrating f).gable = d.gable := by
  simp [Dev.fieldMigrating]
@[simp] theorem stallEnd_gable (d : Dev) (m : Migration) : (d.stallEnd m).gable = d.gable := by simp [Dev.stallEnd]
@[simp] theorem setFrame_gable (d : Dev) (dev frame : Nat) (st : FrameState) :
    (d.setFrame dev frame st).gable = d.gable := by simp [Dev.setFrame]
@[simp] theorem dropSFrames_gable (d : Dev) (dev frame : Nat) : (d.dropSFrames dev frame).gable = d.gable := by
  simp [Dev.dropSFrames]
@[simp] theorem uncarve_gable (d : Dev) (dev frame : Nat) : (d.uncarve dev frame).gable = d.gable := by simp [Dev.uncarve]
@[simp] theorem gatherRest_gable (d : Dev) (f dev fr : Nat) : (d.gatherRest f dev fr).gable = d.gable := by
  simp [Dev.gatherRest]
@[simp] theorem gatherPartial_gable (d : Dev) (g : Gather) : (d.gatherPartial g).gable = d.gable := by
  simp [Dev.gatherPartial]
@[simp] theorem gatherMoved_gable (d : Dev) (m : Migration) (ok : Bool) : (d.gatherMoved m ok).gable = d.gable := by
  unfold Dev.gatherMoved; split <;> simp
@[simp] theorem setWork_gable (d : Dev) (id : Nat) (f : Work → Work) : (d.setWork id f).gable = d.gable := by
  simp [Dev.setWork]
@[simp] theorem dropWork_gable (d : Dev) (id : Nat) : (d.dropWork id).gable = d.gable := by simp [Dev.dropWork]
@[simp] theorem freeSlotOf_gable (d : Dev) (f : Nat) : (d.freeSlotOf f).gable = d.gable := by simp [Dev.freeSlotOf]
@[simp] theorem scratchStore_gable (d : Dev) (a : Nat) (bs : List Byte) : (d.scratchStore a bs).gable = d.gable := by
  simp [Dev.scratchStore]
@[simp] theorem jobDone_gable (d : Dev) (raw : List Byte) (handle thread cpl status result gen : Nat) :
    (d.jobDone raw handle thread cpl status result gen).gable = d.gable := by simp [Dev.jobDone]
@[simp] theorem workEnd_gable (d : Dev) (id status result : Nat) : (d.workEnd id status result).gable = d.gable := by
  unfold Dev.workEnd
  split
  · rfl
  · split
    · simp
    · simp only [jobDone_gable]; split <;> simp
@[simp] theorem migrJobEnd_gable (d : Dev) (m : Migration) (status result : Nat) :
    (d.migrJobEnd m status result).gable = d.gable := by
  unfold Dev.migrJobEnd; split <;> simp
@[simp] theorem abortMigration_gable (d : Dev) (k cause : Nat) : (d.abortMigration k cause).gable = d.gable := by
  unfold Dev.abortMigration; split <;> simp
@[simp] theorem setPlaced_gable (d : Dev) (v n : Nat) : (d.setPlaced v n).gable = d.gable := by simp [Dev.setPlaced]
@[simp] theorem unplaced_gable (d : Dev) (v n : Nat) : (d.unplaced v n).gable = d.gable := by simp [Dev.unplaced]
@[simp] theorem gatherDrop_gable (d : Dev) (sel : Gather → Bool) : (d.gatherDrop sel).gable = d.gable := by
  unfold Dev.gatherDrop; split <;> simp
@[simp] theorem clearSlot_gable (d : Dev) (k : Nat) : (d.clearSlot k).gable = d.gable := by simp [Dev.clearSlot]
@[simp] theorem setMode_gable (d : Dev) (f m : Nat) : (d.setMode f m).gable = d.gable := by simp [Dev.setMode]
@[simp] theorem endRelease_gable (d : Dev) (f : Nat) : (d.endRelease f).gable = d.gable := by
  simp -implicitDefEqProofs [Dev.endRelease]
@[simp] theorem toSwath_gable (d : Dev) : d.toSwath.gable = d.gable := by simp [Dev.toSwath]
@[simp] theorem releaseStep_gable (d : Dev) (gone : Nat → Bool) : (d.releaseStep gone).gable = d.gable := by
  simp [Dev.releaseStep]
@[simp] theorem loseDevice_gable (d : Dev) (v : Nat) : (d.loseDevice v).gable = d.gable := by simp [Dev.loseDevice]
@[simp] theorem setTlk_gable (d : Dev) (p : Nat) (x : TlkPort) : (d.setTlk p x).gable = d.gable := by simp [Dev.setTlk]
@[simp] theorem tlkXoff_gable (d : Dev) (p : Nat) : (d.tlkXoff p).gable = d.gable := by simp [Dev.tlkXoff]
@[simp] theorem tlkFreed_gable (d : Dev) (p : Nat) (f : TlkFlit) : (d.tlkFreed p f).gable = d.gable := by
  simp [Dev.tlkFreed]
@[simp] theorem tlkAdmitted_gable (d : Dev) (p c : Nat) : (d.tlkAdmitted p c).gable = d.gable := by
  unfold Dev.tlkAdmitted; dsimp only; rw [tlkXoff_gable, foldl_gable _ fun d f => tlkFreed_gable d p f, setTlk_gable]
@[simp] theorem slotDone_gable (d : Dev) (ingress vc : Option Nat) : (d.slotDone ingress vc).gable = d.gable := by
  unfold Dev.slotDone; split <;> simp
@[simp] theorem depth_gable (d : Dev) (m : QMsg) (up : Bool) : (d.depth m up).gable = d.gable := by simp [Dev.depth]
@[simp] theorem takeCells_gable (d : Dev) (m : QMsg) : (d.takeCells m).gable = d.gable := by
  unfold Dev.takeCells; split <;> simp
@[simp] theorem tagHead_gable (d : Dev) (m : QMsg) : (d.tagHead m).gable = d.gable := by simp [Dev.tagHead]
@[simp] theorem enqueue_gable (d : Dev) (m : QMsg) (part : BufPart) : (d.enqueue m part).gable = d.gable := by
  simp [Dev.enqueue]
@[simp] theorem offer_gable (d : Dev) (m : QMsg) : (d.offer m).gable = d.gable := by
  unfold Dev.offer
  split
  · rfl
  · split <;> simp
@[simp] theorem sendLease_gable (d : Dev) (p typ : Nat) (body : List Byte) :
    (d.sendLease p typ body).gable = d.gable := by
  simp [Dev.sendLease]
@[simp] theorem sendDevLost_gable (d : Dev) (v cause : Nat) : (d.sendDevLost v cause).gable = d.gable := by
  unfold Dev.sendDevLost; split <;> simp
@[simp] theorem lose_gable (d : Dev) (v cause : Nat) : (d.lose v cause).gable = d.gable := by simp [Dev.lose]
@[simp] theorem loseBehind_gable (d : Dev) (p : Nat) : (d.loseBehind p).gable = d.gable := by simp [Dev.loseBehind]
@[simp] theorem bridgeGone_gable (d : Dev) (x : Nat × Nat) : (d.bridgeGone x).gable = d.gable := by simp [Dev.bridgeGone]
@[simp] theorem bridgeLost_gable (d : Dev) (p : Nat) : (d.bridgeLost p).gable = d.gable := by simp [Dev.bridgeLost]
@[simp] theorem abortField_gable (d : Dev) (f : Nat) : (d.abortField f).gable = d.gable := by simp [Dev.abortField]
@[simp] theorem frameLeft_gable (d : Dev) (dev frame : Nat) : (d.frameLeft dev frame).gable = d.gable := by
  simp [Dev.frameLeft]
@[simp] theorem releaseField_gable (d : Dev) (f : Nat) : (d.releaseField f).gable = d.gable := by simp [Dev.releaseField]
@[simp] theorem releaseUnbound_gable (d : Dev) (f : Nat) : (d.releaseUnbound f).gable = d.gable := by
  simp [Dev.releaseUnbound]
@[simp] theorem withdraw_gable (d : Dev) (xs : List Extent) : (d.withdraw xs).gable = d.gable := by simp [Dev.withdraw]
@[simp] theorem setPool_gable (d : Dev) (v : Nat) (p : PoolDev) : (d.setPool v p).gable = d.gable := by simp [Dev.setPool]
@[simp] theorem closeOffer_gable (d : Dev) (v : Nat) (xs : List Extent) : (d.closeOffer v xs).gable = d.gable := by
  unfold Dev.closeOffer; rw [foldl_gable _ fun d _ => fsub_gable d _ _ _ _, setPool_gable]
@[simp] theorem mailboxReset_gable (d : Dev) (v : Nat) : (d.mailboxReset v).gable = d.gable := by
  unfold Dev.mailboxReset; split <;> simp
@[simp] theorem dropUnstarted_gable (d : Dev) (f : Nat) (q : Option Nat) : (d.dropUnstarted f q).gable = d.gable := by
  unfold Dev.dropUnstarted; dsimp only; rw [foldl_gable]; simp
@[simp] theorem setFold_gable (d : Dev) (f : Nat) (x : Fold) : (d.setFold f x).gable = d.gable := by simp [Dev.setFold]
@[simp] theorem drainCheck_gable (d : Dev) (e : Nat) : (d.drainCheck e).gable = d.gable := by simp [Dev.drainCheck]
@[simp] theorem drainAll_gable (d : Dev) : d.drainAll.gable = d.gable := by simp [Dev.drainAll]
@[simp] theorem freeFoldImage_gable (d : Dev) (f : Nat) :
    (d.freeFoldImage f).gable = d.gable := by simp [Dev.freeFoldImage]
@[simp] theorem dropImage_gable (d : Dev) (id : Nat) (fold : Option Nat) : (d.dropImage id fold).gable = d.gable := by
  simp [Dev.dropImage]
@[simp] theorem reply_gable (d : Dev) (port typ seq : Nat) (r : Reply) : (d.reply port typ seq r).gable = d.gable := by
  simp [Dev.reply]
@[simp] theorem keep_gable (d : Dev) (typ seq : Nat) (r : Reply) :
    (d.keep typ seq r).gable = d.gable := by simp [Dev.keep]
@[simp] theorem finish_gable (d : Dev) (port typ seq : Nat) (r : Reply) : (d.finish port typ seq r).gable = d.gable := by
  simp [Dev.finish]
@[simp] theorem loadDone_gable (d : Dev) (status id : Nat) : (d.loadDone status id).gable = d.gable := by
  simp [Dev.loadDone]
@[simp] theorem trySwitch_gable (d : Dev) : d.trySwitch.gable = d.gable := by
  unfold Dev.trySwitch; split <;> simp
@[simp] theorem release_gable (d : Dev) (t : Nat) : (d.release t).gable = d.gable := by simp [Dev.release]
@[simp] theorem endThread_gable (d : Dev) (t : Nat) : (d.endThread t).gable = d.gable := by simp [Dev.endThread]
@[simp] theorem orphanWrite_gable (d : Dev) (t : Nat) : (d.orphanWrite t).gable = d.gable := by
  unfold Dev.orphanWrite; split <;> simp
@[simp] theorem kill_gable (d : Dev) (t : Nat) : (d.kill t).gable = d.gable := by simp [Dev.kill]
@[simp] theorem foldReset_gable (d : Dev) (f : Nat) : (d.foldReset f).gable = d.gable := by
  unfold Dev.foldReset
  split
  · rfl
  · dsimp only; split <;> simp
@[simp] theorem walkHost_gable (d : Dev) (v : Nat) : (d.walkHost v).gable = d.gable := by simp [Dev.walkHost]
@[simp] theorem setSnoops_gable (d : Dev) (ss : List Snoop) : (d.setSnoops ss).gable = d.gable := by simp [Dev.setSnoops]
@[simp] theorem setSweeps_gable (d : Dev) (ss : List (Nat × List Nat)) : (d.setSweeps ss).gable = d.gable := by
  simp [Dev.setSweeps]
@[simp] theorem launch_gable (d : Dev) (f : Flight) : (d.launch f).1.gable = d.gable := by simp [Dev.launch]
@[simp] theorem workCheck_gable (d : Dev) (id : Nat) : (d.workCheck id).gable = d.gable := by
  unfold Dev.workCheck
  split
  · rfl
  · split
    · split
      · rfl
      · split <;> simp
    · rfl
@[simp] theorem chunkFailed_gable (d : Dev) (fl : Flight) (status : Nat) : (d.chunkFailed fl status).gable = d.gable := by
  unfold Dev.chunkFailed; split <;> simp
@[simp] theorem dropFlight_gable (d : Dev) (tag : Nat) : (d.dropFlight tag).gable = d.gable := by simp [Dev.dropFlight]
@[simp] theorem setFlight_gable (d : Dev) (tag : Nat) (f : Flight → Flight) : (d.setFlight tag f).gable = d.gable := by
  simp [Dev.setFlight]
@[simp] theorem charge_gable (d : Dev) (e : Bool) (n len : Nat) :
    (d.charge e n len).gable = d.gable := by simp [Dev.charge]
@[simp] theorem ridgeResponse_gable (d : Dev) (e : Bool) (pe pr j len : Nat) :
    (d.ridgeResponse e pe pr j len).1.gable = d.gable := by
  unfold Dev.ridgeResponse; dsimp only; split <;> simp
@[simp] theorem respondPort_gable (d : Dev) (fl : Flight) (p : Nat) (a : Answer) :
    (d.respondPort fl p a).gable = d.gable := by
  unfold Dev.respondPort
  split
  split
  · rfl
  · split
    · simp
    · dsimp only; rw [offer_gable]; split <;> simp
@[simp] theorem lenderSend_gable (d : Dev) (e : Bool) (p c flow tag lender borrower dpa status : Nat) (write : Bool)
    (data : Option (Nat × Bool)) :
    (d.lenderSend e p c flow tag lender borrower dpa status write data).gable = d.gable := by simp [Dev.lenderSend]
@[simp] theorem lenderAnswer_gable (d : Dev) (fl : Flight) (status : Nat) (data : Option (Nat × Bool)) :
    (d.lenderAnswer fl status data).gable = d.gable := by
  unfold Dev.lenderAnswer
  split
  · dsimp only; rw [lenderSend_gable]; split <;> simp
  · rfl
@[simp] theorem answer_gable (d : Dev) (fl : Flight) (a : Answer) : (d.answer fl a).gable = d.gable := by
  unfold Dev.answer
  dsimp only
  split
  · simp
  · split <;> simp
  · split <;> simp
  · split <;> simp
  · split <;> simp
  · split <;> simp
  · simp
  · split <;> simp
  · simp
@[simp] theorem lostWrite_gable (d : Dev) (p : Nat) : (d.lostWrite p).gable = d.gable := by simp [Dev.lostWrite]
@[simp] theorem lostAnswer_gable (d : Dev) (fl : Flight) : (d.lostAnswer fl).gable = d.gable := by simp [Dev.lostAnswer]
@[simp] theorem postFailed_gable (d : Dev) (t : Nat) : (d.postFailed t).gable = d.gable := by simp [Dev.postFailed]
@[simp] theorem synthRead_gable (d : Dev) (status : Nat) : (d.synthRead status).gable = d.gable := by simp [Dev.synthRead]
@[simp] theorem setMigr_gable (d : Dev) (k : Nat) (m : Migration) :
    (d.setMigr k m).gable = d.gable := by simp [Dev.setMigr]
@[simp] theorem recopy_gable (d : Dev) (k i : Nat) : (d.recopy k i).gable = d.gable := by
  unfold Dev.recopy; split <;> simp
@[simp] theorem setFill_gable (d : Dev) (key : Nat) (x : Nat × List Nat) : (d.setFill key x).gable = d.gable := by
  simp [Dev.setFill]
@[simp] theorem refill_gable (d : Dev) (key chunk : Nat) : (d.refill key chunk).gable = d.gable := by simp [Dev.refill]
@[simp] theorem endRequest_gable (d : Dev) (fl : Flight) (status : Nat) : (d.endRequest fl status).gable = d.gable := by
  unfold Dev.endRequest
  split
  · split <;> simp
  all_goals simp
@[simp] theorem unplacedAnswer_gable (d : Dev) (fl : Flight) : (d.unplacedAnswer fl).gable = d.gable := by
  unfold Dev.unplacedAnswer; split <;> simp
@[simp] theorem ridgeRequest_gable (d : Dev) (e : Bool) (p : Nat) (ingress : Option Nat) (len : Nat) :
    (d.ridgeRequest e p ingress len).1.gable = d.gable := by
  unfold Dev.ridgeRequest
  split
  · simp
  · extract_lets rs
    split
    · simp
    · split <;> simp
@[simp] theorem classify_gable (d : Dev) (fl : Flight) (egress len : Nat) :
    (d.classify fl egress len).1.gable = d.gable := by
  unfold Dev.classify
  dsimp only
  split
  · split
    · simp
    · rfl
  · split
    · split <;> simp
    · split <;> simp
@[simp] theorem queueFlight_gable (d : Dev) (fl : Flight) (egress ld dpa len : Nat) (body : QBody) :
    (d.queueFlight fl egress ld dpa len body).gable = d.gable := by simp [Dev.queueFlight]
@[simp] theorem toDevice_gable (d : Dev) (fl : Flight) (v dpa : Nat) : (d.toDevice fl v dpa).gable = d.gable := by
  simp [Dev.toDevice]
@[simp] theorem writeCopied_gable (d : Dev) (pool : Nat) : (d.writeCopied pool).gable = d.gable := by
  unfold Dev.writeCopied; split <;> simp
@[simp] theorem routeMem_gable (d : Dev) (tag : Nat) : (d.routeMem tag).gable = d.gable := by
  unfold Dev.routeMem
  split
  · rfl
  · split <;> simp
@[simp] theorem poisonLine_gable (d : Dev) (line : Nat) : (d.poisonLine line).gable = d.gable := by simp [Dev.poisonLine]
@[simp] theorem queueSnoop_gable (d : Dev) (ep : Bool) (v hpa kind : Nat) :
    (d.queueSnoop ep v hpa kind).gable = d.gable := by simp [Dev.queueSnoop]
@[simp] theorem snoopAll_gable (d : Dev) (ep : Bool) (line kind : Nat) (why : SnoopWhy) (vs : List Nat) :
    (d.snoopAll ep line kind why vs).1.gable = d.gable := by
  unfold Dev.snoopAll
  rw [foldl_fst_gable]
  intro p v
  dsimp only
  split <;> simp
@[simp] theorem setEntry_gable (d : Dev) (i : Nat) (e : DirEntry) : (d.setEntry i e).gable = d.gable := by
  unfold Dev.setEntry
  simp -implicitDefEqProofs
@[simp] theorem evict_gable (d : Dev) (i : Nat) (why : SnoopWhy) : (d.evict i why).1.gable = d.gable := by
  generalize hp : d.evict i why = p
  generalize hF : Dev.evict = F at hp
  delta Dev.evict at hF
  subst hF
  beta_reduce at hp
  extract_lets e line d1 d2 at hp
  have h2 : d2.gable = d.gable := by simp [d2, d1]
  split at hp
  next d3 vs h =>
    have h3 : d3.gable = d2.gable := by simpa using (congrArg (·.1.gable) h).symm
    split at hp <;> simp [← hp, h3, h2]
@[simp] theorem leaveBank_gable (d : Dev) (i : Nat) : (d.leaveBank i).gable = d.gable := by simp [Dev.leaveBank]
@[simp] theorem toMemory_gable (d : Dev) (tag : Nat) : (d.toMemory tag).gable = d.gable := by
  unfold Dev.toMemory; split <;> simp
@[simp] theorem record_gable (d : Dev) (i : Nat) (old new : DirEntry) (fl : Flight) :
    (d.record i old new fl).gable = d.gable := by
  unfold Dev.record; split <;> simp
@[simp] theorem waitIn_gable (d : Dev) (tag : Nat) (p : FPhase) : (d.waitIn tag p).gable = d.gable := by simp [Dev.waitIn]
@[simp] theorem lastAnswer_gable (d : Dev) (i : Nat) (e : DirEntry) (why : SnoopWhy) (poisoned : Bool) :
    (d.lastAnswer i e why poisoned).gable = d.gable := by
  unfold Dev.lastAnswer
  dsimp only
  split
  · split
    · simp
    · simp
  · simp
  · simp
@[simp] theorem snoopDone_gable (d : Dev) (s : Snoop) (r : BIRsp) (died : Bool) :
    (d.snoopDone s r died).gable = d.gable := by
  unfold Dev.snoopDone
  dsimp only
  split
  · simp
  · split <;> simp
@[simp] theorem lenderGo_gable (d : Dev) (tag : Nat) : (d.lenderGo tag).gable = d.gable := by
  unfold Dev.lenderGo
  split
  · rfl
  · split <;> simp
@[simp] theorem settle_gable (d : Dev) : d.settle.gable = d.gable := by
  unfold Dev.settle
  rw [foldl_gable, foldl_gable]
  · simp
  · intro d t
    split <;> simp
@[simp] theorem fillSlots_gable (d : Dev) : d.fillSlots.gable = d.gable := by simp [Dev.fillSlots]
@[simp] theorem setWait_gable (d : Dev) (fl : Flight) : (d.setWait fl).gable = d.gable := by
  unfold Dev.setWait
  split
  · simp
  · split
    · split <;> simp
    · simp
@[simp] theorem needWay_gable (d : Dev) (fl : Flight) (s : Nat) : (d.needWay fl s).1.gable = d.gable := by
  fun_cases Dev.needWay d fl s with
  | case1 => rfl
  | case2 => simp
  | case3 _ i is _ cold d1 pick d2 h =>
    have h1 : d1.gable = d.gable := by simp [d1]
    simpa [h1] using (congrArg (·.1.gable) h).symm
  | case4 _ i is _ cold d1 pick d2 h =>
    have h1 : d1.gable = d.gable := by simp [d1]
    simpa [h1] using (congrArg (·.1.gable) h).symm
@[simp] theorem serveMiss_gable (d : Dev) (fl : Flight) (k : AccKind) : (d.serveMiss fl k).gable = d.gable := by
  unfold Dev.serveMiss
  split
  · simp
  · split
    · split
      · split
        next h => simpa using (congrArg (·.1.gable) h).symm
        next h => simpa using (congrArg (·.1.gable) h).symm
      · simp
    · simp
@[simp] theorem serveHit_gable (d : Dev) (fl : Flight) (i : Nat) (e : DirEntry) (k : AccKind) :
    (d.serveHit fl i e k).gable = d.gable := by
  have hs := snoopAll_gable
  generalize hF : Dev.serveHit = F
  delta Dev.serveHit at hF
  generalize Dev.snoopAll = S at hF hs
  subst hF
  dsimp only
  split <;> simp [hs]
@[simp] theorem dirServe_gable (d : Dev) (tag : Nat) : (d.dirServe tag).gable = d.gable := by
  unfold Dev.dirServe
  split
  · rfl
  · split
    · simp
    · extract_lets i? e? owner k returned v
      clear_value v returned k owner e? i?
      split
      · rw [toMemory_gable]; split <;> simp
      · split
        · simp
        · split
          · split
            · simp
            · split <;> simp
          · simp
@[simp] theorem dirStep_gable (n : Nat) (d : Dev) : (Dev.dirStep n d).gable = d.gable := by
  induction n generalizing d with
  | zero => rfl
  | succ n ih => simp only [Dev.dirStep]; split <;> simp [ih]
@[simp] theorem dirSettle_gable (d : Dev) : d.dirSettle.gable = d.gable := by
  unfold Dev.dirSettle
  simp -implicitDefEqProofs
@[simp] theorem hostDead_gable (d : Dev) (v cause : Nat) : (d.hostDead v cause).gable = d.gable := by
  unfold Dev.hostDead
  simp -implicitDefEqProofs
@[simp] theorem hostLost_gable (d : Dev) (v : Nat) (how : Leave) : (d.hostLost v how).gable = d.gable := by
  simp [Dev.hostLost]
@[simp] theorem orphan_gable (d : Dev) (fl : Flight) : (d.orphan fl).gable = d.gable := by simp [Dev.orphan]
@[simp] theorem snoopLeft_gable (d : Dev) (m : QMsg) : (d.snoopLeft m).gable = d.gable := by
  unfold Dev.snoopLeft; split <;> simp
@[simp] theorem freeCells_gable (d : Dev) (m : QMsg) : (d.freeCells m).gable = d.gable := by
  unfold Dev.freeCells; split <;> simp
@[simp] theorem retag_gable (d : Dev) (old : List QMsg) : (d.retag old).gable = d.gable := by simp [Dev.retag]
@[simp] theorem haltFold_gable (d : Dev) (f cause q index : Nat) : (d.haltFold f cause q index).gable = d.gable := by
  unfold Dev.haltFold
  simp -implicitDefEqProofs
@[simp] theorem fetchBad_gable (d : Dev) (id f q i : Nat) : (d.fetchBad id f q i).gable = d.gable := by
  unfold Dev.fetchBad
  simp -implicitDefEqProofs
@[simp] theorem progBad_gable (d : Dev) (f : Nat) : (d.progBad f).gable = d.gable := by simp [Dev.progBad]
@[simp] theorem migResult_gable (d : Dev) (f r : Nat) : (d.migResult f r).gable = d.gable := by simp [Dev.migResult]
@[simp] theorem hostReadLost_gable (d : Dev) (f a : Nat) : (d.hostReadLost f a).gable = d.gable := by
  unfold Dev.hostReadLost; split <;> simp
@[simp] theorem saveEnd_gable (d : Dev) (f r : Nat) : (d.saveEnd f r).gable = d.gable := by
  simp -implicitDefEqProofs [Dev.saveEnd]
@[simp] theorem hostWriteLost_gable (d : Dev) (f a : Nat) : (d.hostWriteLost f a).gable = d.gable := by
  simp [Dev.hostWriteLost]
@[simp] theorem hostMsgEnded_gable (d : Dev) (m : QMsg) : (d.hostMsgEnded m).gable = d.gable := by
  unfold Dev.hostMsgEnded; split <;> simp
@[simp] theorem flushQueues_gable (d : Dev) (p : Nat) : (d.flushQueues p).gable = d.gable := by simp [Dev.flushQueues]
@[simp] theorem reAnswer_gable (d : Dev) (m : QMsg) : (d.reAnswer m).gable = d.gable := by
  unfold Dev.reAnswer; split <;> simp
@[simp] theorem flush_gable (d : Dev) (p : Nat) : (d.flush p).gable = d.gable := by simp [Dev.flush]
@[simp] theorem tlkClear_gable (d : Dev) (p : Nat) : (d.tlkClear p).gable = d.gable := by simp [Dev.tlkClear]
@[simp] theorem restoreReg_gable (k : RstKind) (d : Dev) (r : Reg) : (d.restoreReg k r).gable = d.gable := by
  simp [Dev.restoreReg]
@[simp] theorem restore_gable (d : Dev) (k : RstKind) (sel : Reg → Bool) : (d.restore k sel).gable = d.gable := by
  simp [Dev.restore]
@[simp] theorem portReset_gable (d : Dev) (p : Nat) : (d.portReset p).gable = d.gable := by simp [Dev.portReset]
@[simp] theorem fcpEvent_gable (d : Dev) (kind : Nat) (ws : List Word) : (d.fcpEvent kind ws).gable = d.gable := by
  simp [Dev.fcpEvent]
@[simp] theorem portEvent_gable (d : Dev) (p : Nat) : (d.portEvent p).gable = d.gable := by simp [Dev.portEvent]
@[simp] theorem leaveUp_gable (d : Dev) (p cause next : Nat) (how : Leave) :
    (d.leaveUp p cause next how).gable = d.gable := by
  unfold Dev.leaveUp
  simp -implicitDefEqProofs
@[simp] theorem burnKey_gable (d : Dev) (bs : List Byte) : (d.burnKey bs).gable = d.gable := by
  unfold Dev.burnKey; split <;> simp
@[simp] theorem beginUpdate_gable (d : Dev) (im : Image) (port seq : Nat) :
    (d.beginUpdate im port seq).gable = d.gable := by simp [Dev.beginUpdate]
@[simp] theorem copyCode_gable (d : Dev) (bs : List Byte) (page : Nat) : (d.copyCode bs page).gable = d.gable := by
  simp [Dev.copyCode]
@[simp] theorem copyData_gable (d : Dev) (bs : List Byte) (page : Nat) : (d.copyData bs page).gable = d.gable := by
  simp [Dev.copyData]
@[simp] theorem startThread_gable (d : Dev) (im : Image) (entry : Word) (g1 : Word) :
    (d.startThread im entry g1).1.gable = d.gable := by
  unfold Dev.startThread; split <;> simp
@[simp] theorem startThreads_gable (im : Image) (entry n : Nat) (d : Dev) :
    (d.startThreads im entry n).gable = d.gable := by simp [Dev.startThreads]
@[simp] theorem acceptImage_gable (d : Dev) (bs : List Byte) (path : ImgPath) (port seq : Nat) :
    (d.acceptImage bs path port seq).1.gable = d.gable := by
  unfold Dev.acceptImage
  split
  · simp
  · dsimp only
    split <;> simp
@[simp] theorem loadImage_gable (d : Dev) (bs : List Byte) (path : ImgPath) (port seq : Nat) :
    (d.loadImage bs path port seq).1.gable = d.gable := by
  unfold Dev.loadImage
  extract_lets st
  split
  · split
    next h =>
      have h1 := congrArg (·.1.gable) h
      split <;> simpa using h1.symm
  · simp
@[simp] theorem ethDown_gable (d : Dev) (p : Nat) : (d.ethDown p).gable = d.gable := by simp [Dev.ethDown]
@[simp] theorem endSession_gable (d : Dev) : d.endSession.gable = d.gable := by simp [Dev.endSession]
@[simp] theorem cancelMoves_gable (d : Dev) : d.cancelMoves.gable = d.gable := by simp [Dev.cancelMoves]
@[simp] theorem setEstErr_gable (d : Dev) : d.setEstErr.gable = d.gable := by simp [Dev.setEstErr]
@[simp] theorem timeState_gable (d : Dev) (st : Nat) : (d.timeState st).gable = d.gable := by simp [Dev.timeState]
@[simp] theorem newTest_gable (d : Dev) : d.newTest.gable = d.gable := by simp [Dev.newTest]
@[simp] theorem sourceLost_gable (d : Dev) : d.sourceLost.gable = d.gable := by simp [Dev.sourceLost]
@[simp] theorem setSlotHid_gable (d : Dev) (s : Nat) (x : SlotHid) : (d.setSlotHid s x).gable = d.gable := by
  simp [Dev.setSlotHid]
@[simp] theorem slotRaise_gable (d : Dev) (s sev code detail : Nat) :
    (d.slotRaise s sev code detail).gable = d.gable := by
  simp [Dev.slotRaise]
@[simp] theorem gpfFailed_gable (d : Dev) (s : Nat) : (d.gpfFailed s).gable = d.gable := by
  unfold Dev.gpfFailed; split <;> simp
@[simp] theorem gateOff_gable (d : Dev) (s : Nat) : (d.gateOff s).gable = d.gable := by simp [Dev.gateOff]
@[simp] theorem slotReset_gable (d : Dev) (s : Nat) : (d.slotReset s).gable = d.gable := by simp [Dev.slotReset]
@[simp] theorem slotsOut_gable (d : Dev) : d.slotsOut.gable = d.gable := by
  unfold Dev.slotsOut
  simp -implicitDefEqProofs
@[simp] theorem laneRailLow_gable (d : Dev) (die : Nat) : (d.laneRailLow die).gable = d.gable := by
  unfold Dev.laneRailLow
  simp -implicitDefEqProofs

@[simp] theorem bootTry_boot (d : Dev) (n : Nat) (slot : Option (List Byte)) :
    (d.bootTry n slot).1.gable.boot = d.gable.boot := by
  unfold Dev.bootTry
  extract_lets st d1
  have h1 : d1.gable = d.gable := by simp [d1]
  split
  · split
    · split
      next e _ h =>
        have h2 : e.gable = d1.gable := by simpa using (congrArg (·.1.gable) h).symm
        simp [Dev.setGable, h1, h2]
    · simp [h1]
  · simp [h1]

theorem boot_of_bootTry {d e : Dev} {n : Nat} {slot : Option (List Byte)} {ok : Bool} (h : d.bootTry n slot = (e, ok)) :
    e.gable.boot = d.gable.boot := by rw [← bootTry_boot d n slot, h]

@[simp] theorem bootSlots_boot (d : Dev) (a b : Option (List Byte)) : (d.bootSlots a b).gable.boot = d.gable.boot := by
  fun_cases Dev.bootSlots d a b with
  | case1 first d1 d2 h => rw [boot_of_bootTry h, fset_gable]
  | case2 first d1 d2 _ h _ d3 h' => rw [boot_of_bootTry h', boot_of_bootTry h, fset_gable]
  | case3 first d1 d2 _ h _ d3 _ h' =>
    rw [fset_gable, fset_gable, fset_gable, boot_of_bootTry h', boot_of_bootTry h, fset_gable]

end Sys2Proof.Machine
end

section
namespace Sys2Proof.Machine

/-! A device with nothing in it, and the changes that leave it so -/

/-- Nothing is in the device: the part of `heldClean` that is not of the register file. -/
def Dev.hollow (d : Dev) : Prop :=
  d.threads = [] ∧ d.wygel.images = [] ∧ d.wygel.pstore = [] ∧ d.wygel.scratch = [] ∧ d.wygel.update = none ∧ d.core = {} ∧
  d.commits = {} ∧ d.faults = {} ∧ d.time = {} ∧ d.lanes = [] ∧ d.ports = [] ∧ d.fcp = {} ∧ d.pools = [] ∧ d.thatch = {} ∧
  d.dir = {} ∧ d.folds = {} ∧ d.tlk = {} ∧ d.slots = [] ∧ d.adapters = [] ∧ d.held = [] ∧ d.calibration = []

theorem Dev.hollow_core {d : Dev} (h : d.hollow) : d.core = {} := by
  obtain ⟨-, -, -, -, -, hcore, -⟩ := h
  exact hcore

theorem Dev.hollow_held {d : Dev} (h : d.hollow) : d.held = [] := by
  obtain ⟨-, -, -, -, -, -, -, -, -, -, -, -, -, -, -, -, -, -, -, hheld, -⟩ := h
  exact hheld

/-- Every register row that lists W is at its reset value, the registers apart that live in reset. -/
def Dev.warmRows (d : Dev) : Prop :=
  ∀ r : Reg, r.k.livesInReset = false → ∀ f ∈ r.k.fields, .warm ∈ f.res →
    bitsOf (d.rd r) f.lo f.w = bitsOf (r.resetVal d.fuses) f.lo f.w

theorem heldClean_iff (d : Dev) : d.heldClean ↔ (d.inReset = true → d.hollow ∧ d.warmRows) := by
  simp only [Dev.heldClean, Dev.hollow, Dev.warmRows, and_assoc]

/-- `e` differs from `d` in nothing but what changes while the device is held in reset: the registers that live in reset, the
gable die's record, what was sent, the free values used and the poison of the memory. -/
def Dev.idlesTo (d e : Dev) : Prop :=
  { e with regs := d.regs, gable := d.gable, out := d.out, freeCtr := d.freeCtr, integ := d.integ } = d ∧
  ∀ r : Reg, r.k.livesInReset = false → e.rd r = d.rd r

theorem idlesTo_refl (d : Dev) : d.idlesTo d := ⟨rfl, fun _ _ => rfl⟩

theorem idlesTo_trans {a b c : Dev} (h : a.idlesTo b) (h' : b.idlesTo c) : a.idlesTo c := by
  obtain ⟨h1, h2⟩ := h
  obtain ⟨h3, h4⟩ := h'
  refine ⟨?_, fun r hr => (h4 r hr).trans (h2 r hr)⟩
  rw [← h1, ← h3]

theorem idlesTo_wr (d : Dev) (r : Reg) (v : Word) (h : r.k.livesInReset = true) : d.idlesTo (d.wr r v) :=
  ⟨rfl, fun r' hr' => rd_wr_other d r r' v fun e => by simp [e, h] at hr'⟩

theorem Dev.idlesTo.fset {d e : Dev} {f : Fld} {n i j : Nat} (h : d.idlesTo e) (hk : f.k.livesInReset = true) :
    d.idlesTo (e.fset f n i j) := idlesTo_trans h (idlesTo_wr e _ _ hk)

theorem Dev.idlesTo.setGable {d e : Dev} (h : d.idlesTo e) (g : Gable) : d.idlesTo (e.setGable g) :=
  idlesTo_trans h ⟨rfl, fun _ _ => rfl⟩

theorem idlesTo_foldl {α : Type} (f : Dev → α → Dev) (h : ∀ (d : Dev) x, d.idlesTo (f d x)) (l : List α) (d : Dev) :
    d.idlesTo (l.foldl f d) := by
  induction l generalizing d with
  | nil => exact idlesTo_refl d
  | cons x l ih => exact idlesTo_trans (h d x) (ih _)

theorem idlesTo_ite {d a b : Dev} (c : Prop) [Decidable c] (ha : d.idlesTo a) (hb : d.idlesTo b) :
    d.idlesTo (if c then a else b) := by
  split <;> assumption

theorem idlesTo_fuses {d e : Dev} (h : d.idlesTo e) : e.fuses = d.fuses := by
  rw [← h.1]

theorem hollow_of_idlesTo {d e : Dev} (h : d.idlesTo e) (hd : d.hollow) : e.hollow := by
  rw [← h.1] at hd
  exact hd

theorem warmRows_of_idlesTo {d e : Dev} (h : d.idlesTo e) (hd : d.warmRows) : e.warmRows := by
  intro r hr f hf hw
  rw [h.2 r hr, idlesTo_fuses h]
  exact hd r hr f hf hw

theorem heldClean_of_idlesTo {d e : Dev} (h : d.idlesTo e) (hb : e.inReset = true → d.inReset = true)
    (hd : d.heldClean) : e.heldClean := by
  rw [heldClean_iff] at *
  intro he
  obtain ⟨hh, hw⟩ := hd (hb he)
  exact ⟨hollow_of_idlesTo h hh, warmRows_of_idlesTo h hw⟩

/-! Resets -/

theorem hollow_restart (d : Dev) (k : RstKind) (g : Gable) : (d.restart k g).hollow :=
  ⟨rfl, rfl, rfl, rfl, rfl, rfl, rfl, rfl, rfl, rfl, rfl, rfl, rfl, rfl, rfl, rfl, rfl, rfl, rfl, rfl, rfl⟩

theorem warmRows_restart (d : Dev) (k : RstKind) (g : Gable) (h : k = .power ∨ k = .warm) : (d.restart k g).warmRows := by
  intro r _ f hf hw
  refine bitsOf_restart_reset d k g r hf ?_
  rcases h with rfl | rfl
  · exact FD.power_of_warm hf hw
  · exact hw

/-- What a power-on or warm reset restarts, and the idle changes after it, leave a clean device. -/
theorem heldClean_of_restart {d e : Dev} {k : RstKind} {g : Gable} (hk : k = .power ∨ k = .warm)
    (h : (d.restart k g).idlesTo e) : e.heldClean :=
  (heldClean_iff e).mpr fun _ =>
    ⟨hollow_of_idlesTo h (hollow_restart d k g), warmRows_of_idlesTo h (warmRows_restart d k g hk)⟩

theorem powerReset_idlesTo (d : Dev) (b : Boot) :
    (d.restart .power { boot := b, railsLow := d.gable.railsLow, hot := d.gable.hot }).idlesTo (d.powerReset b) :=
  (idlesTo_refl _).fset rfl

/-- The gable die's record after a warm reset: the test access port is not reset (R660). -/
def Dev.warmGable (d : Dev) (b : Boot) : Gable :=
  let g := d.gable
  { boot := b, railsLow := g.railsLow, hot := g.hot, ir := g.ir, dap := g.dap, dapAddr := g.dapAddr, dapData := g.dapData,
    dapStatus := g.dapStatus, dapCause := g.dapCause }

theorem warmReset_idlesTo (d : Dev) (b : Boot) (last : Nat) :
    (d.restart .warm (d.warmGable b)).idlesTo (d.warmReset b last) := by
  have poison (r : Dev) (x : Integrity) : r.idlesTo { r with integ := x } := ⟨rfl, fun _ _ => rfl⟩
  unfold Dev.warmReset
  extract_lets g r r1 r2 first r3
  exact (idlesTo_trans (poison r _) (idlesTo_foldl _ (fun r _ => (idlesTo_refl r).fset rfl) _ _)).fset rfl

@[simp] theorem powerReset_fuses (d : Dev) (b : Boot) : (d.powerReset b).fuses = d.fuses := rfl

theorem warmReset_fuses (d : Dev) (b : Boot) (last : Nat) : (d.warmReset b last).fuses = d.fuses := by
  rw [idlesTo_fuses (warmReset_idlesTo d b last)]
  rfl

@[simp] theorem warmReset_boot (d : Dev) (b : Boot) (last : Nat) : (d.warmReset b last).gable.boot = b := by
  unfold Dev.warmReset
  rw [fset_gable, foldl_gable _ fun r _ => fset_gable r _ _ _ _]
  rfl

end Sys2Proof.Machine
end

section
namespace Sys2Proof.Machine

/-! The wrappers of a meaning -/

/-- A command's outcome is a next state whose device, if it is held, is clean. -/
def KeepsClean (r : Result) : Prop := ∃ s, r = .next s ∧ s.dev.heldClean

theorem keepsClean_next {s : State} (h : s.dev.heldClean) : KeepsClean (.next s) := ⟨s, rfl, h⟩

/-- What the meaning of a reset or of the boot owes: a device that is not held, or a clean one with the same fuses. -/
def Dev.endsClean (d e : Dev) : Prop := e.inReset = false ∨ e.fuses = d.fuses ∧ e.heldClean

theorem keepsClean_onReset {s : State} {f : Dev → Dev} (h : s.dev.endsClean (f s.dev)) : KeepsClean (onReset s f) := by
  refine ⟨_, rfl, ?_⟩
  rcases h with h | ⟨hf, h⟩
  · exact heldClean_of_not_inReset h
  · change ({ f s.dev with fuses := s.dev.fuses } : Dev).heldClean
    rwa [← hf]

/-- Any other command: it is enough that what it does to a held device is idle. -/
theorem keepsClean_onAny {s : State} {f : Dev → Dev} (hs : s.dev.heldClean)
    (h : s.dev.inReset = true → s.dev.heldClean → s.dev.idlesTo (f s.dev)) : KeepsClean (onAny s f) := by
  apply keepsClean_onReset
  cases hr : s.dev.inReset with
  | false => left; simpa [Dev.inReset] using hr
  | true =>
    have hq := h hr hs
    refine .inr ⟨idlesTo_fuses hq, ?_⟩
    exact heldClean_of_idlesTo (hq.setGable _) (fun _ => hr) hs

/-- While the device is held in reset a command of the device does nothing. -/
theorem keepsClean_onDev {s : State} {f : Dev → Dev} (hs : s.dev.heldClean) : KeepsClean (onDev s f) :=
  keepsClean_onAny hs fun hr _ => by rw [if_pos hr]; exact idlesTo_refl _

theorem answers_of_inReset {d : Dev} (h : d.inReset = true) : d.answers = false := by
  cases hb : d.gable.boot <;> simp [Dev.inReset, Dev.answers, hb] at *

theorem restored_of_inReset {d : Dev} (h : d.inReset = true) : d.restored = false := by
  cases hb : d.gable.boot <;> simp [Dev.inReset, Dev.restored, hb] at *

/-- Nor does a register write: control space does not answer. -/
theorem keepsClean_onReg {s : State} {f : Dev → Dev} (hs : s.dev.heldClean) : KeepsClean (onReg s f) :=
  keepsClean_onAny hs fun hr _ => by simp [answers_of_inReset hr, idlesTo_refl]

theorem keepsClean_onWaitingReg {c : Instr} {s : State} {f : Dev → Dev} (hs : s.dev.heldClean) :
    KeepsClean (onWaitingReg c s f) :=
  keepsClean_onAny hs fun hr _ => by simp [answers_of_inReset hr, idlesTo_refl]

/-- The test access port runs on in a warm reset, where no request is in flight and no register is restored. -/
theorem keepsClean_onTap {s : State} {f : Dev → Dev} (hs : s.dev.heldClean)
    (h : s.dev.restored = false → s.dev.core = {} → s.dev.idlesTo (f s.dev)) : KeepsClean (onTap s f) :=
  keepsClean_onAny hs fun hr hc => by
    obtain ⟨hollow, -⟩ := (heldClean_iff _).mp hc hr
    exact idlesTo_ite _ (idlesTo_refl _) (h (restored_of_inReset hr) (Dev.hollow_core hollow))

/-! The test access port -/

theorem idlesTo_send (d : Dev) (m : OutMsg) : d.idlesTo (d.send m) := ⟨rfl, fun _ _ => rfl⟩

theorem idlesTo_used (d : Dev) : d.idlesTo d.used := ⟨rfl, fun _ _ => rfl⟩

theorem idlesTo_setIr (d : Dev) (ir : Nat) : d.idlesTo (d.setIr ir) := (idlesTo_refl _).setGable _

theorem idlesTo_testOnly (d : Dev) (ir : Nat) : d.idlesTo (d.testOnly ir) :=
  idlesTo_ite _ (idlesTo_setIr d ir) ((idlesTo_setIr d _).fset rfl)

theorem idlesTo_cspErr (d : Dev) (cause source thread addr : Nat) : d.idlesTo (d.cspErr cause source thread addr) := by
  unfold Dev.cspErr
  exact ((((((idlesTo_refl d).fset rfl).fset rfl).fset rfl).fset rfl).fset rfl).fset rfl

theorem idlesTo_dapEnd (d : Dev) (status cause : Nat) (data : Word) : d.idlesTo (d.dapEnd status cause data) := by
  unfold Dev.dapEnd
  exact idlesTo_ite _ (((idlesTo_refl d).setGable _).fset rfl) ((idlesTo_refl d).setGable _)

theorem idlesTo_dapRefuse (d : Dev) (cause a : Nat) : d.idlesTo (d.dapRefuse cause a) :=
  idlesTo_trans (idlesTo_cspErr d cause 2 0 a) (idlesTo_dapEnd _ 3 cause 0)

/-- While no register is restored an access of the debug access port is discarded or refused. -/
theorem idlesTo_dapStart (d : Dev) (write : Bool) (a : Nat) (data : Word) (h : d.restored = false) :
    d.idlesTo (d.dapStart write a data) := by
  have hc : ∀ g : Gable, d.idlesTo (((d.setIr 0x20).finc DBG_STAT.DAP_ACCESSES 1).setGable g) := fun g =>
    ((idlesTo_setIr d _).fset rfl).setGable g
  unfold Dev.dapStart
  extract_lets d1 d2 g d3
  have hr : d3.restored = false := h
  refine idlesTo_ite _ (idlesTo_setIr d _) ?_
  rw [hr]
  exact idlesTo_ite _ (idlesTo_trans (hc _) (idlesTo_dapRefuse _ _ _)) (idlesTo_trans (hc _) (idlesTo_dapRefuse _ _ _))

theorem keepsClean_dapAccessDone {s : State} (hs : s.dev.heldClean) : KeepsClean (execDapAccessDone s) := by
  refine keepsClean_onTap hs fun hr hc => ?_
  have hf (tag : Nat) : s.dev.flight tag = none := by simp [Dev.flight, hc]
  split
  · exact idlesTo_refl _
  next x _ =>
    refine idlesTo_ite _ (idlesTo_dapEnd _ _ _ _) ?_
    split
    next tag _ => rw [hf]; exact idlesTo_dapEnd _ _ _ _
    · rw [hr]; exact idlesTo_dapRefuse _ _ _

/-! Sensors and supplies -/

theorem idlesTo_sensor (d : Dev) (k : Nat) (t : BitVec 16) : d.idlesTo (d.sensor k t) := by
  unfold Dev.sensor
  extract_lets peak d1 d2
  have h1 : d.idlesTo d1 := (idlesTo_refl d).fset rfl
  have h2 : d.idlesTo d2 := idlesTo_ite _ (h1.fset rfl) h1
  exact h2.fset rfl

theorem keepsClean_tempSample {s : State} (temps : Vector (BitVec 16) 11) (hs : s.dev.heldClean) :
    KeepsClean (execTempSample temps s) := by
  refine keepsClean_onAny hs fun _ _ => ?_
  extract_lets d1 ts d2 now
  have h1 : s.dev.idlesTo d1 := idlesTo_foldl _ (fun d k => idlesTo_sensor d k _) _ _
  have h2 : s.dev.idlesTo d2 :=
    idlesTo_ite _ (h1.fset rfl) (idlesTo_ite _ (h1.fset rfl) h1)
  exact h2.setGable _

/-! The commands that start or end a reset, and the boot -/

theorem powerReset_heldClean (d : Dev) (b : Boot) : (d.powerReset b).heldClean :=
  heldClean_of_restart (.inl rfl) (powerReset_idlesTo d b)

theorem warmReset_heldClean (d : Dev) (b : Boot) (last : Nat) : (d.warmReset b last).heldClean :=
  heldClean_of_restart (.inr rfl) (warmReset_idlesTo d b last)

theorem endsClean_ite {d a b : Dev} (c : Prop) [Decidable c] (ha : c → d.endsClean a) (hb : ¬ c → d.endsClean b) :
    d.endsClean (if c then a else b) := by
  split
  · exact ha ‹_›
  · exact hb ‹_›

theorem endsClean_self {d : Dev} (h : d.heldClean) : d.endsClean d := .inr ⟨rfl, h⟩

theorem keepsClean_powerOn (s : State) : KeepsClean (execPowerOn s) := by
  refine keepsClean_onReset (.inr ⟨rfl, ?_⟩)
  exact heldClean_of_restart (.inl rfl)
    ((idlesTo_trans (powerReset_idlesTo s.dev .heldPower) (idlesTo_wr _ _ _ rfl)).setGable _)

theorem keepsClean_resetN {s : State} (hs : s.dev.heldClean) : KeepsClean (execResetN s) := by
  refine keepsClean_onReset (.inr ?_)
  split
  · exact ⟨rfl, hs⟩
  · exact ⟨rfl, hs⟩
  · exact ⟨warmReset_fuses _ _ _, warmReset_heldClean _ _ _⟩

theorem keepsClean_resetRelease {s : State} (testEn : Bool) (hs : s.dev.heldClean) :
    KeepsClean (execResetRelease testEn s) := by
  refine keepsClean_onReset ?_
  split
  · exact endsClean_ite _ (fun _ => .inl rfl) fun _ => endsClean_self hs
  · exact .inl rfl
  · exact endsClean_self hs

theorem inReset_of_boot {d e : Dev} (h : e.gable.boot = d.gable.boot) : e.inReset = d.inReset := by
  simp [Dev.inReset, h]

theorem notHeld_of_boot {d e : Dev} (hd : d.inReset = false) (h : e.gable.boot = d.gable.boot) : e.inReset = false :=
  (inReset_of_boot h).trans hd

/-- The boot leaves the device up, whatever image it loads. -/
theorem keepsClean_bootImageStart {s : State} (a b : Option (List Byte)) (hs : s.dev.heldClean) :
    KeepsClean (execBootImageStart a b s) := by
  refine keepsClean_onReset (endsClean_ite _ (fun _ => endsClean_self hs) fun _ => ?_)
  refine endsClean_ite _ (fun _ => .inl rfl) fun _ => .inl ?_
  have up : (s.dev.setGable { s.dev.gable with boot := .up }).inReset = false := rfl
  exact notHeld_of_boot up (by rw [fset_gable, bootSlots_boot])

theorem keepsClean_thermtrip {s : State} (hs : s.dev.heldClean) : KeepsClean (execThermtrip s) :=
  keepsClean_onReset (endsClean_ite _ (fun _ => .inr ⟨rfl, powerReset_heldClean _ _⟩) fun _ => endsClean_self hs)

theorem fset_inReset (d : Dev) (f : Fld) (n i j : Nat) : (d.fset f n i j).inReset = d.inReset :=
  inReset_of_boot (by rw [fset_gable])

/-- A warm reset on its own instant is released at once. -/
theorem keepsClean_chainResetInstant {s : State} (hs : s.dev.heldClean) : KeepsClean (execChainResetInstant s) := by
  have released (d : Dev) : (d.warmReset .zeroing 2).inReset = false := by simp [Dev.inReset]
  unfold execChainResetInstant
  generalize Dev.warmReset = reset at released ⊢
  refine keepsClean_onReset (endsClean_ite _ (fun _ => endsClean_self hs) fun _ => ?_)
  split
  · exact endsClean_ite _ (fun _ => .inl (by simp only [fset_inReset, released])) fun _ => .inl (released _)
  · exact endsClean_self hs

/-- What a rail beyond the first three feeds goes down: the device stays up. -/
theorem keepsClean_brownout {s : State} (rail : Fin 13) (mv : BitVec 16) (hs : s.dev.heldClean) :
    KeepsClean (execBrownout rail mv s) := by
  have low (g : Gable) (hb : g.boot = s.dev.gable.boot) : s.dev.endsClean (s.dev.setGable g) :=
    .inr ⟨rfl, heldClean_of_idlesTo ((idlesTo_refl _).setGable _) (fun h => (inReset_of_boot hb).symm.trans h) hs⟩
  refine keepsClean_onReset (endsClean_ite _ (fun _ => endsClean_self hs) fun _ => ?_)
  refine endsClean_ite _ (fun _ => ?_) fun _ => ?_
  · exact endsClean_ite _ (fun _ => low _ rfl) fun _ => .inr ⟨rfl, powerReset_heldClean _ _⟩
  · refine endsClean_ite _ (fun _ => low _ rfl) fun hup => ?_
    have up : s.dev.inReset = false := by simpa using hup
    refine endsClean_ite _ (fun _ => endsClean_ite _ (fun _ => .inl ?_) fun _ => .inl ?_)
      fun _ => endsClean_ite _ (fun _ => .inl ?_) fun _ => .inl ?_
    · exact notHeld_of_boot up (by rw [sourceLost_gable, endSession_gable, ethDown_gable, ethDown_gable]; rfl)
    · exact notHeld_of_boot up (by rw [endSession_gable, ethDown_gable, ethDown_gable]; rfl)
    · exact notHeld_of_boot up (by rw [slotsOut_gable]; rfl)
    · exact notHeld_of_boot up (by rw [laneRailLow_gable]; rfl)

/-- A slot's command is a command of the device. -/
theorem keepsClean_onSlot {s : State} {f : Dev → Dev} (hs : s.dev.heldClean) :
    KeepsClean (onSlot s f) := keepsClean_onDev hs

/-- Every command keeps the invariant: the resets, the boot and the sensors each by its own lemma, the test access port by what
it may change, and every other command because it does nothing while the device is held. -/
theorem exec_keepsClean (c : Instr) {s : State} (hs : s.dev.heldClean) : KeepsClean (exec c s) := by
  cases c <;> unfold exec
  case powerOn => exact keepsClean_powerOn s
  case resetN => exact keepsClean_resetN hs
  case resetRelease testEn => exact keepsClean_resetRelease testEn hs
  case bootImageStart a b => exact keepsClean_bootImageStart a b hs
  case brownout rail mv => exact keepsClean_brownout rail mv hs
  case thermtrip => exact keepsClean_thermtrip hs
  case chainResetInstant => exact keepsClean_chainResetInstant hs
  case tempSample temps => exact keepsClean_tempSample temps hs
  case supplyRecovered => exact keepsClean_onAny hs fun _ _ => (idlesTo_refl _).setGable _
  case tapReset | bypass => exact keepsClean_onTap hs fun _ _ => idlesTo_setIr _ _
  case extest | clamp | highz | extestPulse | extestTrain => exact keepsClean_onTap hs fun _ _ => idlesTo_testOnly _ _
  case samplePreload =>
    exact keepsClean_onTap hs fun _ _ =>
      idlesTo_trans (idlesTo_trans (idlesTo_setIr _ _) (idlesTo_send _ _)) (idlesTo_used _)
  case idcode | dapPoll => exact keepsClean_onTap hs fun _ _ => idlesTo_trans (idlesTo_setIr _ _) (idlesTo_send _ _)
  case dapRead addr => exact keepsClean_onTap hs fun hr _ => idlesTo_dapStart _ false _ _ hr
  case dapWrite addr data => exact keepsClean_onTap hs fun hr _ => idlesTo_dapStart _ true _ _ hr
  case dapAccessDone => exact keepsClean_dapAccessDone hs
  case srcWrite | commitCancel | kill | foldProgStart | engineDrain | engineReturn | registerWrite | telemetrySample |
      cakInstall | soft => exact keepsClean_onReg hs
  case marginStart | prbsChkEnable | injectGo | keyRefresh | contain | release | split | gather | replace | abort |
      moverDisable | foldReset | freeze | save | restore | thaw | regionLock | retireMacro | retireBank | wireFaultClear |
      enter | exit | on | off | onAt | clear | reident | forceEnable | sidebandTransfer | standby | debugLock =>
    exact keepsClean_onWaitingReg hs
  case presenceAssert | presenceLoss | debounceEnd | identReadDone | identTimeout | rampStart | rampTop | gateEnhanced |
      qualified | limitTimeout | fetHot | undervolt | uvRecovered | retryTimer | faultCountReset | feedRestore | feedLost |
      earlyWarning | gpfComplete | gpfTimeout | brownoutRecovered | energyWindow | feedAllowed => exact keepsClean_onSlot hs
  all_goals exact keepsClean_onDev hs

theorem tick_keepsClean {s : State} (hs : s.dev.heldClean) : (tick s).dev.heldClean := by
  cases hr : s.dev.inReset with
  | true => simpa [tick, hr] using hs
  | false =>
    refine heldClean_of_not_inReset ?_
    cases hb : s.dev.gable.boot <;> simp [Dev.inReset, hb] at hr <;> simp [tick, Dev.inReset, hb]

/-- A held device that is clean holds no register write, so an idle step passes time at most. -/
theorem idle_keepsClean {s : State} (hs : s.dev.heldClean) : KeepsClean (idle s) := by
  unfold idle
  split
  next c rest hheld =>
    split
    · exact keepsClean_next (tick_keepsClean hs)
    · refine exec_keepsClean c (heldClean_of_not_inReset ?_)
      by_contra hr
      obtain ⟨hollow, -⟩ := (heldClean_iff _).mp hs ((Bool.not_eq_false _).mp hr)
      simp [Dev.hollow_held hollow] at hheld
  · exact keepsClean_next (tick_keepsClean hs)

theorem step_keepsClean {s : State} (hs : s.dev.heldClean) : KeepsClean (step s) := by
  unfold step
  split
  · exact idle_keepsClean hs
  · exact exec_keepsClean _ hs

/-- Settles O59: `heldClean` is kept by every step, and the steps that begin a hold restore what it asks. -/
theorem heldResetStaysClean : Obligations.HeldResetStaysClean := by
  unfold Obligations.HeldResetStaysClean
  intro s s' hs hstep
  obtain ⟨t, ht, hclean⟩ := step_keepsClean hs
  rw [hstep] at ht
  obtain rfl : s' = t := by simpa using ht
  exact hclean

end Sys2Proof.Machine
end

section
namespace Sys2Proof.Machine

/-- A command that ends at a device ends at no other. -/
theorem ends_unique {c : Instr} {s : State} {d d' : Dev} (h : Ends c s d) (h' : Ends c s d') : d = d' := by
  have e := h.symm.trans h'
  simpa using e

/-- A loaded image of one instruction, for the witness below. -/
def witnessImage : Image := ⟨1, 0, 0, 4, 0, 0, 0, 0, 0, 0, 1, 0, 0, none, []⟩

/-- A booted device whose thread 0 is in RUN while its record still names a fence: the model gives a running thread's `wait` no
meaning, and `issues` asks nothing of it. -/
def staleWait : Dev where
  fuses := ⟨0, 0, false, 0⟩
  wygel := { keys := [], slotEntry := [], images := [witnessImage] }
  threads := [(0, { state := .run, image := some 1, wait := .fence })]
  gable := { boot := .up }

theorem staleWait_issues : staleWait.issues 0 :=
  ⟨rfl, by decide, rfl, rfl, rfl, witnessImage, rfl, by decide, by decide⟩

/-- The first register's CLD readies the thread: its record's `wait` is dropped. -/
theorem staleWait_load : ∃ d, Ends (.cldB 0 0 0 0) ⟨staleWait, []⟩ d ∧ (d.thr 0).wait = .ready :=
  ⟨_, rfl, by decide⟩

/-- So does a CST of CSP_SCRATCH. -/
theorem staleWait_store : ∃ d, Ends (.cstB 0 0 0 0x40) ⟨staleWait, []⟩ d ∧ (d.thr 0).wait = .ready :=
  ⟨_, rfl, by decide⟩

/-- Refutes O14: a CLD also clears a `wait` that the record of the running thread still holds, and the statement leaves it. -/
theorem not_registerLoads : ¬ Obligations.RegisterLoads := by
  unfold Obligations.RegisterLoads
  intro h
  obtain ⟨loads, -⟩ := h ⟨staleWait, []⟩ 0 0 0 0 ⟨.CSP_ID, 0, 0⟩ staleWait_issues
  obtain ⟨v, regs, ends, -⟩ := loads rfl (by decide) (by decide) (by decide) (by decide)
  obtain ⟨d, ends', ready⟩ := staleWait_load
  rw [ends_unique ends' ends] at ready
  revert ready
  simp [Dev.thr, Dev.setThr, Thread.wrote, Thread.setG, staleWait, Tab.get]

/-- Refutes O15: a CST also clears a `wait` that the record of the running thread still holds, and the statement leaves it. -/
theorem not_registerStores : ¬ Obligations.RegisterStores := by
  unfold Obligations.RegisterStores
  intro h
  obtain ⟨stores, -⟩ := h ⟨staleWait, []⟩ 0 0 0 0x40 ⟨.CSP_SCRATCH, 0, 0⟩ staleWait_issues rfl
  obtain ⟨x, ends, -⟩ := stores rfl (by decide) (by decide) (by decide) rfl (by decide)
  obtain ⟨d, ends', ready⟩ := staleWait_store
  rw [ends_unique ends' ends] at ready
  revert ready
  simp [Dev.thr, Dev.setThr, staleWait, Tab.get]

end Sys2Proof.Machine
end

section
namespace Sys2Proof.Machine

/-! What a plain register write stores -/

theorem foldl_or_mask_getElem (sel : Acc → Bool) (fs : List FD) (m : Word) (b : Nat) (hb : b < 64) :
    (fs.foldl (fun m f => if sel f.acc then m ||| mask f.lo f.w else m) m)[b] =
      (m[b] || fs.any fun f => sel f.acc && decide (f.lo ≤ b ∧ b < f.lo + f.w)) := by
  induction fs generalizing m with
  | nil => simp
  | cons f fs ih =>
    rw [List.foldl_cons, ih, List.any_cons]
    by_cases hs : sel f.acc <;> simp [hs, mask_getElem, Bool.or_assoc]

/-- The bits of a register that an access code chooses. -/
theorem bits_getElem (k : RK) (sel : Acc → Bool) (b : Nat) (hb : b < 64) : (k.bits sel)[b] = k.hasBit b sel := by
  rw [RK.bits, foldl_or_mask_getElem]
  simp [RK.hasBit]

theorem hasBit_iff (k : RK) (b : Nat) (sel : Acc → Bool) :
    k.hasBit b sel = true ↔ ∃ f ∈ k.fields, sel f.acc = true ∧ f.lo ≤ b ∧ b < f.lo + f.w := by
  simp [RK.hasBit, and_assoc]

/-- Two rows of a register's map that hold the same bit are one row. -/
theorem FD.eq_of_common_bit {fs : List FD} (hs : rowsSound fs = true) {f g : FD} (hf : f ∈ fs) (hg : g ∈ fs) {b : Nat}
    (hfb : f.lo ≤ b ∧ b < f.lo + f.w) (hgb : g.lo ≤ b ∧ b < g.lo + g.w) : f = g := by
  induction fs with
  | nil => simp at hf
  | cons x fs ih =>
    obtain ⟨-, hx, hfs⟩ := rowsSound_cons hs
    have clash : ∀ y ∈ fs, x.lo ≤ b ∧ b < x.lo + x.w → y.lo ≤ b ∧ b < y.lo + y.w → False := by
      intro y hy hxb hyb
      have := hx y hy
      simp only [FD.apart, decide_eq_true_eq] at this
      omega
    rcases List.mem_cons.mp hf with rfl | hf' <;> rcases List.mem_cons.mp hg with rfl | hg'
    · rfl
    · exact (clash g hg' hfb hgb).elim
    · exact (clash f hf' hgb hfb).elim
    · exact ih hfs hf' hg'

/-- A bit has one access code: one that two choices name is in a row that both choose. -/
theorem hasBit_exclusive {k : RK} {b : Nat} {p q : Acc → Bool} (hpq : ∀ a, p a = true → q a = false)
    (h : k.hasBit b p = true) : k.hasBit b q = false := by
  by_contra hq
  obtain ⟨f, hf, hpf, hfb⟩ := (hasBit_iff k b p).mp h
  obtain ⟨g, hg, hqg, hgb⟩ := (hasBit_iff k b q).mp (by simpa using hq)
  obtain rfl := FD.eq_of_common_bit k.rowsSound_fields hf hg hfb hgb
  simp [hpq _ hpf] at hqg

theorem spanOf_getElem (a w b : Nat) (hb : b < 64) :
    (spanOf a w)[b] = decide (8 * (a % 8) ≤ b ∧ b < 8 * (a % 8 + w)) := by
  rw [spanOf, mask_getElem]
  congr 1
  apply propext
  omega

/-- No row that `sel` chooses has a bit in the access. -/
theorem hasBit_apart {k : RK} {sel : Acc → Bool} {lo hi b : Nat}
    (h : ∀ f ∈ k.fields, sel f.acc = true → f.lo + f.w ≤ lo ∨ hi ≤ f.lo)
    (hb : lo ≤ b ∧ b < hi) : k.hasBit b sel = false := by
  by_contra hs
  obtain ⟨f, hf, hsel, hfb⟩ := (hasBit_iff k b sel).mp (by simpa using hs)
  have := h f hf hsel
  omega

theorem bits_and_spanOf_eq_zero {k : RK} {sel : Acc → Bool} {a w : Nat}
    (h : ∀ f ∈ k.fields, sel f.acc = true → f.lo + f.w ≤ 8 * (a % 8) ∨ 8 * (a % 8 + w) ≤ f.lo) : k.bits sel &&& spanOf a w = 0 := by
  apply BitVec.eq_of_getElem_eq
  intro b hb
  rw [BitVec.getElem_and, bits_getElem, spanOf_getElem]
  by_cases hc : 8 * (a % 8) ≤ b ∧ b < 8 * (a % 8 + w)
  · simp [hasBit_apart h hc]
  · simp [hc]

/-- What a write stores where it covers no staged and no lock field: bits of RW and WO fields as written, bits of W1C fields
cleared where written 1, every other bit as it was. -/
theorem written_getLsbD (k : RK) (locked : Bool) (old v : Word) (a w b : Nat) (hb : b < 64)
    (hlk : ∀ f ∈ k.fields, f.acc = .lk → f.lo + f.w ≤ 8 * (a % 8) ∨ 8 * (a % 8 + w) ≤ f.lo) :
    (k.written locked old (spanOf a w) (v <<< (a % 8 * 8))).getLsbD b =
      if 8 * (a % 8) ≤ b ∧ b < 8 * (a % 8 + w) then
        if k.hasBit b (fun c => c == .rw || c == .wo) then v.getLsbD (b - 8 * (a % 8))
        else if k.hasBit b (fun c => c == .w1c) then old.getLsbD b && !(v.getLsbD (b - 8 * (a % 8)))
        else old.getLsbD b
      else old.getLsbD b := by
  have hv : (v <<< (a % 8 * 8))[b] = (decide (8 * (a % 8) ≤ b) && v.getLsbD (b - 8 * (a % 8))) := by
    rw [← BitVec.getLsbD_eq_getElem, BitVec.getLsbD_shiftLeft, Nat.mul_comm (a % 8) 8]
    by_cases hlo : b < 8 * (a % 8)
    · simp [hlo, Nat.not_le.mpr hlo]
    · simp [hb, hlo, Nat.not_lt.mp hlo]
  rw [BitVec.getLsbD_eq_getElem hb, BitVec.getLsbD_eq_getElem hb]
  simp only [RK.written, BitVec.getElem_and, BitVec.getElem_or, BitVec.getElem_not, bits_getElem, spanOf_getElem, hv]
  by_cases hc : 8 * (a % 8) ≤ b ∧ b < 8 * (a % 8 + w)
  · have hstore : k.hasBit b (fun c => c == .rw || c == .wo || (c == .lk && !locked)) =
        k.hasBit b (fun c => c == .rw || c == .wo) := by
      have := hasBit_apart (sel := fun c => c == .lk) (fun f hf hl => hlk f hf (by simpa using hl)) hc
      rw [Bool.eq_iff_iff, hasBit_iff, hasBit_iff]
      refine ⟨fun ⟨f, hf, hs, hfb⟩ => ⟨f, hf, ?_, hfb⟩, fun ⟨f, hf, hs, hfb⟩ => ⟨f, hf, by simp_all, hfb⟩⟩
      have hl : f.acc ≠ .lk := fun e => by
        rw [(hasBit_iff _ _ _).mpr ⟨f, hf, by simp [e], hfb⟩] at this
        simp at this
      simpa [hl] using hs
    rw [hstore]
    by_cases hs : k.hasBit b (fun c => c == .rw || c == .wo) = true
    · have hcl : k.hasBit b (fun c => c == .w1c) = false := hasBit_exclusive (fun a ha => by cases a <;> simp_all) hs
      simp [hs, hcl, hc]
    · by_cases hw : k.hasBit b (fun c => c == .w1c) = true <;> simp [hs, hw, hc]
  · simp [hc]

/-! A write of a register that only stores -/

theorem storeReg_of_storesOnly (d : Dev) (src : CsSource) (r : Reg) (a width : Nat) (old new span v : Word)
    (h : r.k.storesOnly = true) : d.storeReg src r a width old new span v = d.wr r new := by
  unfold Dev.storeReg
  split
  case h_14 => rfl
  all_goals next hk => simp [hk, RK.storesOnly] at h

theorem wrote_of_storesOnly (d : Dev) (src : CsSource) (r : Reg) (old go : Word) (h : r.k.storesOnly = true) :
    d.wrote src r old go = d := by
  unfold Dev.wrote
  extract_lets i j on mgr
  split
  case h_25 => rfl
  all_goals next hk => simp [hk, RK.storesOnly] at h

theorem foldl_or_staged (fs : List FD) (m : Word) :
    fs.foldl (fun m f => if f.acc = .st ∨ f.acc = .stlk then m ||| mask f.lo f.w else m) m =
      fs.foldl (fun m f => if (f.acc == .st || f.acc == .stlk) then m ||| mask f.lo f.w else m) m := by
  simp

theorem stagedMask_eq (k : RK) : k.stagedMask = k.bits fun a => a == .st || a == .stlk := foldl_or_staged _ _

/-- Does an access of `w` bytes at `a` leave alone every staged and every lock field of a register's map? -/
def plainAccess (k : RK) (a w : Nat) : Prop :=
  ∀ f ∈ k.fields, f.acc = .st ∨ f.acc = .stlk ∨ f.acc = .lk → f.lo + f.w ≤ 8 * (a % 8) ∨ 8 * (a % 8 + w) ≤ f.lo

/-- What a plain store of `w` bytes of `v` at `a` leaves in its register. -/
def Dev.stored (d : Dev) (r : Reg) (a w : Nat) (v : Word) : Word :=
  r.k.written d.lkLocked (d.rd r) (spanOf a w) (v <<< (a % 8 * 8))

theorem regWrite_of_storesOnly (d : Dev) (src : CsSource) (r : Reg) (a w : Nat) (v : Word)
    (hu : (src.user && r.k.managerOnly) = false) (hso : r.k.storesOnly = true) (hp : plainAccess r.k a w) :
    (d.regWrite src r a w v).1 = d.wr r (d.stored r a w v) := by
  have hst : r.k.stagedMask &&& spanOf a w = 0 := by
    rw [stagedMask_eq]
    exact bits_and_spanOf_eq_zero fun f hf hs => hp f hf (by simp at hs; tauto)
  have hlk : (r.k.bits fun x => x == .lk) &&& spanOf a w = 0 :=
    bits_and_spanOf_eq_zero fun f hf hs => hp f hf (by simp at hs; tauto)
  unfold Dev.regWrite
  simp [hu, hst, hlk, storeReg_of_storesOnly _ _ _ _ _ _ _ _ _ hso, wrote_of_storesOnly _ _ _ _ _ hso, Dev.stored]

theorem registerWrite_of_storesOnly (d : Dev) (src : CsSource) (r : Reg) (a w : Nat) (v : Word) (ha : a % w = 0)
    (hr : regAt a = some r) (hu : (src.user && r.k.managerOnly) = false) (hso : r.k.storesOnly = true)
    (hp : plainAccess r.k a w) : d.registerWrite src w a v = d.wr r (d.stored r a w v) := by
  simp [Dev.registerWrite, ha, hr, regWrite_of_storesOnly d src r a w v hu hso hp]

theorem registerWrite_misaligned (d : Dev) (src : CsSource) (a w : Nat) (v : Word) (ha : a % w ≠ 0) :
    d.registerWrite src w a v = d.refuse src 5 a := by
  simp [Dev.registerWrite, ha]

/-- Outside the test mode an unmapped address and a calibration register are refused (R144, R149). -/
theorem registerWrite_unmapped (d : Dev) (src : CsSource) (a w : Nat) (v : Word) (ha : a % w = 0) (hr : regAt a = none)
    (hp : d.phase ≠ phTest) : d.registerWrite src w a v = d.refuse src (if calibrationAt a then 6 else 1) a := by
  unfold Dev.registerWrite
  simp only [ha, hr, ne_eq, not_true_eq_false, if_false]
  split
  · simp [Dev.calibrationWrite, hp]
  · rfl

/-- A user's write of a manager-only register does nothing (R441). -/
theorem registerWrite_managerOnly (d : Dev) (src : CsSource) (r : Reg) (a w : Nat) (v : Word) (ha : a % w = 0)
    (hr : regAt a = some r) (hu : (src.user && r.k.managerOnly) = true) : d.registerWrite src w a v = d := by
  simp [Dev.registerWrite, ha, hr, Dev.regWrite, hu]

theorem stored_getLsbD (d : Dev) (r : Reg) (a w b : Nat) (v : Word) (hb : b < 64) (hp : plainAccess r.k a w) :
    (d.stored r a w v).getLsbD b =
      if 8 * (a % 8) ≤ b ∧ b < 8 * (a % 8 + w) then
        if r.k.hasBit b (fun c => c == .rw || c == .wo) then v.getLsbD (b - 8 * (a % 8))
        else if r.k.hasBit b (fun c => c == .w1c) then (d.rd r).getLsbD b && !(v.getLsbD (b - 8 * (a % 8)))
        else (d.rd r).getLsbD b
      else (d.rd r).getLsbD b :=
  written_getLsbD r.k d.lkLocked (d.rd r) v a w b hb fun f hf hl => hp f hf (.inr (.inr hl))

/-! What a refusal records -/

theorem cspErr_fget (d : Dev) (cause source thread addr : Nat) (hc : cause < 16) (hs : source < 4) (ht : thread < 64)
    (ha : addr < 2 ^ 48) :
    let x := d.cspErr cause source thread addr
    x.fget CSP_ERR.CAUSE = cause ∧ x.fget CSP_ERR.ADDR = addr ∧ x.fget CSP_ERR.SOURCE = source ∧
      x.fget CSP_ERR.THREAD = thread := by
  unfold Dev.cspErr Dev.fadd
  refine ⟨?_, ?_, ?_, ?_⟩ <;> simp [fget_fset_other, fget_fset_same] <;> omega

theorem cspErr_onlyRegs (d : Dev) (cause source thread addr : Nat) :
    OnlyRegs [⟨.CSP_ERR, 0, 0⟩, ⟨.CSP_ERR_COUNT, 0, 0⟩] d (d.cspErr cause source thread addr) := by
  refine ⟨rfl, fun r hr => ?_⟩
  simp only [List.mem_cons, List.not_mem_nil, or_false, not_or] at hr
  unfold Dev.cspErr Dev.fadd
  simp [rd_fset_other, hr.1, hr.2]

end Sys2Proof.Machine
end

section
namespace Sys2Proof.Machine

/-! The outcome of a command at a device that answers -/

theorem inReset_of_answers {d : Dev} (h : d.answers = true) : d.inReset = false := by
  by_contra hr
  rw [answers_of_inReset (by simpa using hr)] at h
  exact Bool.false_ne_true h

theorem phase_of_answers {d : Dev} (h : d.answers = true) : d.phase ≠ phTest := by
  simp only [Dev.answers, Bool.and_eq_true, bne_iff_ne] at h
  exact h.2

/-- A command of the device ends at what its effect gives, where that moves neither `boot` nor a fuse. -/
theorem onDev_ends {s : State} {f : Dev → Dev} {d : Dev} (h : s.dev.answers = true) (hf : f s.dev = d)
    (hb : d.gable.boot = s.dev.gable.boot) (hfu : d.fuses = s.dev.fuses) : onDev s f = .next { s with dev := d } := by
  subst hf
  exact onDev_next s f (inReset_of_answers h) hb hfu

theorem onReg_ends {s : State} {f : Dev → Dev} {d : Dev} (h : s.dev.answers = true) (hf : f s.dev = d)
    (hb : d.gable.boot = s.dev.gable.boot) (hfu : d.fuses = s.dev.fuses) : onReg s f = .next { s with dev := d } := by
  subst hf
  exact onReg_next s f h hb hfu

/-! REGISTER_WRITE -/

section
variable {s : State} (ha : s.dev.answers = true) (log : Fin 4) (addr : BitVec 48) (v : Word)
include ha

theorem managerWrite_waits (t : Fin 64) (hw : s.dev.regWaits addr.toNat = true) :
    Ends (.registerWrite (.manager t) log addr v) s
      { s.dev with held := s.dev.held ++ [.registerWrite (.manager t) log addr v] } := by
  unfold Ends exec execRegisterWrite
  exact onReg_ends ha (by simp [hw]) rfl rfl

/-- A manager's write that need not wait is one access. -/
theorem managerWrite_ends (t : Fin 64) (hw : s.dev.regWaits addr.toNat = false) {d : Dev}
    (hd : s.dev.registerWrite (.manager t) (2 ^ log.val) addr.toNat v = d) (hb : d.gable.boot = s.dev.gable.boot)
    (hfu : d.fuses = s.dev.fuses) : Ends (.registerWrite (.manager t) log addr v) s d := by
  unfold Ends exec execRegisterWrite
  exact onReg_ends ha (by simp [hw, hd]) hb hfu

theorem managerWrite_refused (t : Fin 64) (cause : Nat) (hc : cause < 16) (hw : s.dev.regWaits addr.toNat = false)
    (hd : s.dev.registerWrite (.manager t) (2 ^ log.val) addr.toNat v = s.dev.refuse (.manager t) cause addr.toNat) :
    Runs (.registerWrite (.manager t) log addr v) s fun x => x.fget CSP_ERR.CAUSE = cause ∧ x.fget CSP_ERR.ADDR = addr.toNat ∧
      x.fget CSP_ERR.SOURCE = 0 ∧ x.fget CSP_ERR.THREAD = t.val ∧ OnlyRegs [⟨.CSP_ERR, 0, 0⟩, ⟨.CSP_ERR_COUNT, 0, 0⟩] s.dev x := by
  refine ⟨s.dev.cspErr cause 0 t addr.toNat, managerWrite_ends ha log addr v t hw hd rfl rfl, ?_⟩
  obtain ⟨hcause, haddr, hsource, hthread⟩ :=
    cspErr_fget s.dev cause 0 t addr.toNat hc (by decide) t.isLt addr.isLt
  exact ⟨hcause, haddr, hsource, hthread, cspErr_onlyRegs _ _ _ _ _⟩

/-- A host's write at its own fold's window is one access where its fold takes writes, else nothing. -/
theorem hostWrite_ends (f : Fin 256) {d : Dev}
    (hd : (if s.dev.hostWrites f && decide (2 ≤ (log : Nat)) &&
        !(s.dev.regWaits (0x200000000000 + (f : Nat) * 0x10000 + addr.toNat % 0x10000)) then
      s.dev.registerWrite .host (2 ^ log.val) (0x200000000000 + (f : Nat) * 0x10000 + addr.toNat % 0x10000) v else s.dev) = d)
    (hb : d.gable.boot = s.dev.gable.boot) (hfu : d.fuses = s.dev.fuses) : Ends (.registerWrite (.host f) log addr v) s d :=
  onReg_ends ha hd hb hfu

/-- A host's write that is not taken, misaligned or at an address that no register has leaves the device as it was. -/
theorem hostWrite_ignored (f : Fin 256)
    (h : let a := 0x200000000000 + f.val * 0x10000 + addr.toNat % 0x10000
      s.dev.hostWrites f = false ∨ log.val < 2 ∨ s.dev.regWaits a = true ∨ a % 2 ^ log.val ≠ 0 ∨ regAt a = none) :
    Ends (.registerWrite (.host f) log addr v) s s.dev := by
  refine hostWrite_ends ha log addr v f ?_ rfl rfl
  generalize 0x200000000000 + f.val * 0x10000 + addr.toNat % 0x10000 = a at h ⊢
  split
  next hc =>
    simp only [Bool.and_eq_true, decide_eq_true_eq, Bool.not_eq_true'] at hc
    obtain ⟨⟨hh, hl⟩, hw⟩ := hc
    by_cases hal : a % 2 ^ log.val = 0
    · have hr : regAt a = none := by simpa [hh, hw, hal, Nat.not_lt.mpr hl] using h
      exact registerWrite_unmapped _ _ _ _ _ hal hr (phase_of_answers ha)
    · exact registerWrite_misaligned _ _ _ _ _ hal
  · rfl

theorem hostWrite_managerOnly (f : Fin 256) (r : Reg)
    (hr : regAt (0x200000000000 + f.val * 0x10000 + addr.toNat % 0x10000) = some r) (hm : r.k.managerOnly = true) :
    Ends (.registerWrite (.host f) log addr v) s s.dev := by
  refine hostWrite_ends ha log addr v f ?_ rfl rfl
  generalize 0x200000000000 + f.val * 0x10000 + addr.toNat % 0x10000 = a at hr ⊢
  split
  · by_cases hal : a % 2 ^ log.val = 0
    · exact registerWrite_managerOnly _ _ r _ _ _ hal hr (by simp [CsSource.user, hm])
    · exact registerWrite_misaligned _ _ _ _ _ hal
  · rfl

end

end Sys2Proof.Machine
end

section
namespace Sys2Proof.Machine

/-! The gable die's interface crossed: a retried frame is recorded (R608), and no other register changes -/

theorem rd_raise (d : Dev) (u : Nat) (x : FaultRec) (r : Reg) (h : r.k ≠ .FLT_UNIT_STAT) :
    (d.raise u x).rd r = d.rd r := by
  unfold Dev.raise
  dsimp only
  split
  · rfl
  · exact rd_fset_other _ _ _ _ _ _ fun e => h (by rw [e])

theorem gableCross_rd (d : Dev) (via : FcpFrom) (r : Reg) (h : r.k ≠ .FLT_UNIT_STAT) :
    (d.gableCross via).rd r = d.rd r := by
  unfold Dev.gableCross
  split
  · exact rd_raise d _ _ r h
  · rfl

theorem gableCross_fget (d : Dev) (via : FcpFrom) (f : Fld) (i j : Nat) (h : f.k ≠ .FLT_UNIT_STAT) :
    (d.gableCross via).fget f i j = d.fget f i j := by
  rw [Dev.fget, gableCross_rd d via _ h, Dev.fget]

@[simp] theorem gableCross_gable (d : Dev) (via : FcpFrom) : (d.gableCross via).gable = d.gable := by
  unfold Dev.gableCross; split <;> simp

@[simp] theorem gableCross_fuses (d : Dev) (via : FcpFrom) : (d.gableCross via).fuses = d.fuses := by
  unfold Dev.gableCross; split <;> simp

@[simp] theorem gableCross_gableFailed (d : Dev) (via : FcpFrom) : (d.gableCross via).gableFailed = d.gableFailed := by
  unfold Dev.gableCross; split <;> simp

theorem gableCross_reached (d : Dev) (via : FcpFrom) : (d.gableCross via).reached via = d.reached via := by
  simp [Dev.reached, Dev.fon, Dev.frameFor, Dev.ownAddr, Dev.macOf, Dev.linkLocal, Dev.eui64, Dev.ethAddr,
    Dev.serial40, gableCross_fget, gableCross_rd]

theorem gableCross_mgrAllowed (d : Dev) (via : FcpFrom) (p : Nat) (src : BitVec 128) :
    (d.gableCross via).mgrAllowed p src = d.mgrAllowed p src := by
  simp [Dev.mgrAllowed, gableCross_rd]

/-! CHAIN_RESET and its instant (R628) -/

/-- Every condition of R628 holds for a CHAIN_RESET. -/
def Dev.chainResetOk (d : Dev) (via : FcpFrom) (source : BitVec 128) (m : Word) (t : Nat) : Prop :=
  d.reached via = true ∧ via.secured = true ∧ d.fon CHN_BOOT.RECOVERY = false ∧ d.mgrAllowed via.port source = true ∧
  d.fon CHN_STATUS.VALID = true ∧ m.getLsbD (d.fget CHN_STATUS.ADDR) = true ∧ d.timeGood = true ∧ d.now + 2048 ≤ t ∧
  t ≤ d.now + 2 ^ 30

/-- The device once the message has crossed the gable die's interface, if it reaches it. -/
def Dev.crossed (d : Dev) (via : FcpFrom) : Dev := if d.reached via then d.gableCross via else d

/-- The device with a chain reset armed. -/
def Dev.armed (d : Dev) (t : Nat) (renumber : Bool) : Dev := d.setGable { d.gable with chainArm := some (t, renumber) }

@[simp] theorem crossed_gable (d : Dev) (via : FcpFrom) : (d.crossed via).gable = d.gable := by
  unfold Dev.crossed; split <;> simp

@[simp] theorem crossed_fuses (d : Dev) (via : FcpFrom) : (d.crossed via).fuses = d.fuses := by
  unfold Dev.crossed; split <;> simp

/-- What the crossing records bears on no condition of R628. -/
theorem crossed_guard (d : Dev) (via : FcpFrom) (source : BitVec 128) (m : Word) (t : Nat) :
    (let e := d.crossed via
     e.reached via && via.secured && !e.fon CHN_BOOT.RECOVERY && e.mgrAllowed via.port source && e.fon CHN_STATUS.VALID &&
        m.getLsbD (e.fget CHN_STATUS.ADDR) && e.timeGood && decide (e.now + 2048 ≤ t ∧ t ≤ e.now + 2 ^ 30)) = true ↔
      d.chainResetOk via source m t := by
  unfold Dev.crossed
  split
  · simp [Dev.chainResetOk, gableCross_reached, gableCross_mgrAllowed, gableCross_fget, Dev.fon, Dev.timeGood, Dev.now, and_assoc]
  · simp [Dev.chainResetOk, *]

theorem chainReset_refused {s : State} (ha : s.dev.answers = true) {via : FcpFrom} {source : BitVec 128} {m instant : Word}
    {flags : BitVec 8} (hno : ¬ s.dev.chainResetOk via source m instant.toNat) :
    Ends (.chainReset via source m instant flags) s (s.dev.crossed via) := by
  unfold Ends exec execChainReset
  refine onDev_ends ha ?_ (by simp) (by simp)
  exact if_neg (mt (crossed_guard s.dev via source m instant.toNat).mp hno)

/-- Of several armed resets the earliest counts. -/
def Dev.armedFirst (d : Dev) (arm : Option (Nat × Bool)) (t : Nat) (renumber : Bool) : Dev :=
  match arm with
  | some (u, _) => if t < u then d.armed t renumber else d
  | none => d.armed t renumber

theorem armedFirst_boot (d : Dev) (arm : Option (Nat × Bool)) (t : Nat) (renumber : Bool) :
    (d.armedFirst arm t renumber).gable.boot = d.gable.boot ∧ (d.armedFirst arm t renumber).fuses = d.fuses := by
  unfold Dev.armedFirst
  split
  · split <;> exact ⟨rfl, rfl⟩
  · exact ⟨rfl, rfl⟩

theorem chainReset_accepted {s : State} (ha : s.dev.answers = true) {via : FcpFrom} {source : BitVec 128}
    {m instant : Word} {flags : BitVec 8} (hok : s.dev.chainResetOk via source m instant.toNat) :
    Ends (.chainReset via source m instant flags) s
      ((s.dev.crossed via).armedFirst s.dev.gable.chainArm instant.toNat (flags.getLsbD 0)) := by
  obtain ⟨hboot, hfuses⟩ := armedFirst_boot (s.dev.crossed via) s.dev.gable.chainArm instant.toNat (flags.getLsbD 0)
  unfold Ends exec execChainReset
  refine onDev_ends ha ?_ (by rw [hboot, crossed_gable]) (by rw [hfuses, crossed_fuses])
  refine (if_pos ((crossed_guard s.dev via source m instant.toNat).mpr hok)).trans ?_
  rw [← crossed_gable s.dev via]
  rfl

/-- No reset is armed: its instant passes. -/
theorem chainResetInstant_unarmed {s : State} (h : s.dev.gable.chainArm = none) :
    exec .chainResetInstant s = .next s := by
  unfold exec execChainResetInstant onReset
  simp [h]

theorem upTo_rd (d : Dev) (t : Nat) (r : Reg) (h : r ≠ ⟨.TIM_NOW, 0, 0⟩) : (d.upTo t).rd r = d.rd r := by
  unfold Dev.upTo
  split
  · exact rd_fset_other _ _ _ _ _ _ h
  · rfl

/-- A warm reset keeps a field whose row does not list it (R655), the registers apart that it writes itself. -/
theorem warmReset_kept (d : Dev) (b : Boot) (last : Nat) (f : Fld) (i j : Nat) {row : FD} (hrow : row ∈ f.k.fields)
    (hlo : row.lo = f.lo) (hw : row.w = f.w) (hk : .warm ∉ row.res) (hl : f.k.livesInReset = false) :
    (d.warmReset b last).fget f i j = d.fget f i j := by
  unfold Dev.fget
  rw [(warmReset_idlesTo d b last).2 ⟨f.k, i, j⟩ hl, ← hlo, ← hw]
  exact bitsOf_restart_kept d .warm _ ⟨f.k, i, j⟩ hrow hk

theorem warmReset_lastReset (d : Dev) (b : Boot) (last : Nat) :
    (d.warmReset b last).fget CSP_STATUS.LAST_RESET = last % 8 := by
  unfold Dev.warmReset
  exact fget_fset_same _ CSP_STATUS.LAST_RESET last 0 0 (by decide)

@[simp] theorem warmReset_out (d : Dev) (b : Boot) (last : Nat) : (d.warmReset b last).out = d.out := by
  unfold Dev.warmReset
  rw [fset_out, foldl_keeps Dev.out _ fun r _ => fset_out r _ _ _ _]
  rfl

theorem warmReset_hollow (d : Dev) (b : Boot) (last : Nat) : (d.warmReset b last).hollow :=
  hollow_of_idlesTo (warmReset_idlesTo d b last) (hollow_restart d _ _)

/-- The chain address cleared (R628). -/
def Dev.renumbered (d : Dev) : Dev :=
  let d := (((d.fset CHN_STATUS.ADDR 0).fset CHN_STATUS.VALID 0).fset CHN_STATUS.HEAD 0).fset CHN_STATUS.END 0
  (d.fset CSP_STATUS.CHAIN_ADDR 0).fset CSP_STATUS.CHAIN_VALID 0

@[simp] theorem renumbered_fuses (d : Dev) : d.renumbered.fuses = d.fuses := by
  unfold Dev.renumbered
  simp only [fset_fuses]

theorem onReset_ends {s : State} {f : Dev → Dev} {d : Dev} (hf : f s.dev = d) (hfu : d.fuses = s.dev.fuses) :
    onReset s f = .next { s with dev := d } := by
  subst hf
  unfold onReset
  rw [← hfu]

/-- What a warm reset at an armed instant leaves, however the chain address fares. -/
theorem chainResetInstant_ends {s : State} {t : Nat} {renumber : Bool} (ha : s.dev.answers = true)
    (h : s.dev.gable.chainArm = some (t, renumber)) :
    Ends .chainResetInstant s
      (if renumber then ((s.dev.upTo t).warmReset .zeroing 2).renumbered else (s.dev.upTo t).warmReset .zeroing 2) := by
  have hfu (d : Dev) : (d.warmReset .zeroing 2).fuses = d.fuses := warmReset_fuses d .zeroing 2
  unfold Ends exec execChainResetInstant
  generalize Dev.warmReset = reset at hfu ⊢
  refine onReset_ends ?_ ?_
  · rw [if_neg (by simp [inReset_of_answers ha]), h]
    rfl
  · split <;> simp only [renumbered_fuses, hfu, upTo_fuses]

/-- What a chain reset leaves of a device `d` (R628): restarted, with nothing in it, and its chain address kept or, with
RENUMBER, cleared. -/
def Dev.chainRestarted (d : Dev) (renumber : Bool) (x : Dev) : Prop :=
  x.gable.boot = .zeroing ∧ x.fget CSP_STATUS.LAST_RESET = 2 ∧ x.threads = [] ∧ x.core = {} ∧ x.commits = {} ∧ x.out = d.out ∧
  (renumber = true → x.fget CHN_STATUS.ADDR = 0 ∧ x.fget CHN_STATUS.VALID = 0 ∧ x.fget CSP_STATUS.CHAIN_VALID = 0) ∧
  (renumber = false → x.fget CHN_STATUS.ADDR = d.fget CHN_STATUS.ADDR ∧
    (x.fon CHN_STATUS.VALID = true ↔ d.fon CHN_STATUS.VALID = true))

theorem upTo_chain (d : Dev) (t : Nat) (f : Fld) (hk : f.k = .CHN_STATUS) : (d.upTo t).fget f = d.fget f := by
  rw [Dev.fget, upTo_rd _ _ _ (by simp [hk]), Dev.fget]

theorem warmReset_chainAddr (d : Dev) : (d.warmReset .zeroing 2).fget CHN_STATUS.ADDR = d.fget CHN_STATUS.ADDR :=
  warmReset_kept d .zeroing 2 CHN_STATUS.ADDR 0 0 (row := ⟨0, 6, .ro, 0, pp⟩) (by decide) rfl rfl (by decide) rfl

theorem warmReset_chainValid (d : Dev) : (d.warmReset .zeroing 2).fget CHN_STATUS.VALID = d.fget CHN_STATUS.VALID :=
  warmReset_kept d .zeroing 2 CHN_STATUS.VALID 0 0 (row := ⟨6, 1, .ro, 0, pp⟩) (by decide) rfl rfl (by decide) rfl

theorem warmReset_chainRestarted (d : Dev) : d.chainRestarted false (d.warmReset .zeroing 2) := by
  obtain ⟨hthreads, -, -, -, -, hcore, hcommits, -⟩ := warmReset_hollow d .zeroing 2
  refine ⟨warmReset_boot _ _ _, warmReset_lastReset d _ 2, hthreads, hcore, hcommits, warmReset_out _ _ _, nofun, fun _ => ?_⟩
  exact ⟨warmReset_chainAddr d, by rw [Dev.fon, warmReset_chainValid, Dev.fon]⟩

/-- RENUMBER clears the chain address and no more. -/
theorem renumbered_chainRestarted {d w : Dev} (h : d.chainRestarted false w) : d.chainRestarted true w.renumbered := by
  obtain ⟨hboot, hlast, hthreads, hcore, hcommits, hout, -, -⟩ := h
  refine ⟨hboot, ?_, hthreads, hcore, hcommits, hout, fun _ => ⟨?_, ?_, ?_⟩, nofun⟩
  · simpa [Dev.renumbered, fget_fset_other] using hlast
  · simp [Dev.renumbered, fget_fset_other, fget_fset_same]
  · simp [Dev.renumbered, fget_fset_other, fget_fset_same]
  · simp [Dev.renumbered, fget_fset_same]

theorem chainRestarted_upTo {d x : Dev} {t : Nat} {renumber : Bool} (h : (d.upTo t).chainRestarted renumber x) :
    d.chainRestarted renumber x := by
  have haddr := upTo_chain d t CHN_STATUS.ADDR rfl
  have hvalid := upTo_chain d t CHN_STATUS.VALID rfl
  simpa only [Dev.chainRestarted, Dev.fon, haddr, hvalid, upTo_out] using h

/-- At its instant an armed chain reset restarts the device and says so; RENUMBER alone clears the chain address. -/
theorem chainResetInstant_runs {s : State} {t : Nat} {renumber : Bool} (ha : s.dev.answers = true)
    (h : s.dev.gable.chainArm = some (t, renumber)) : Runs .chainResetInstant s (s.dev.chainRestarted renumber) := by
  refine ⟨_, chainResetInstant_ends ha h, chainRestarted_upTo (t := t) ?_⟩
  have kept := warmReset_chainRestarted (s.dev.upTo t)
  generalize (s.dev.upTo t).warmReset .zeroing 2 = w at kept ⊢
  cases renumber
  · exact kept
  · exact renumbered_chainRestarted kept

/-! The chain address (R625 to R627) -/

/-- A frame that carries an address is read as that address. -/
theorem chainAddr_chainFrame (n : BitVec 6) : chainAddr (chainFrame n.toNat) = some n.toNat := by
  have h : (chainFrame n.toNat).toNat / 8 % 64 = n.toNat := by revert n; decide
  simp [chainAddr, h]

/-- What the frame's arrival itself leaves. -/
def Dev.frameSeen (d : Dev) (n : Nat) : Dev :=
  (d.fset CHN_STATUS.IN_SEEN n).setGable { d.gable with chainLast := some n }

theorem frameSeen_fget (d : Dev) (n : Nat) (f : Fld) (h : f.k ≠ .CHN_STATUS ∨ f.lo + f.w ≤ 10) :
    (d.frameSeen n).fget f = d.fget f := by
  change (d.fset CHN_STATUS.IN_SEEN n).fget f = d.fget f
  refine fget_fset_other _ _ _ _ _ _ _ _ ?_
  rcases h with h | h
  · exact .inl fun e => h e.symm
  · exact .inr (.inr (.inr (.inr h)))

theorem addrInFrame_ignored {s : State} (ha : s.dev.answers = true) {addr : BitVec 6} {rest : BitVec 4}
    (h : chainAddr (chainBits addr rest) = none ∨ s.dev.gableFailed = true) : exec (.addrInFrame addr rest) s = .next s := by
  unfold exec execAddrInFrame
  refine onDev_ends ha ?_ rfl rfl
  rcases h with h | h <;> simp [h]

/-- A good frame: seen, and with the one before it agreeing, compared with the address kept or taken for it. -/
theorem addrInFrame_ends {s : State} (ha : s.dev.answers = true) {n : BitVec 6} {rest : BitVec 4}
    (hb : chainBits n rest = chainFrame n.toNat) (hg : s.dev.gableFailed = false) :
    Ends (.addrInFrame n rest) s
      (if s.dev.gable.chainLast = some n.toNat then
        if s.dev.fon CHN_STATUS.VALID = true then
          if s.dev.fget CHN_STATUS.ADDR = n.toNat then s.dev.frameSeen n.toNat
          else (s.dev.frameSeen n.toNat).fset CHN_STATUS.MISMATCH 1
        else (s.dev.frameSeen n.toNat).takeAddress n.toNat false
      else s.dev.frameSeen n.toNat) := by
  have hvalid : (s.dev.frameSeen n.toNat).fget CHN_STATUS.VALID = s.dev.fget CHN_STATUS.VALID :=
    frameSeen_fget _ _ _ (.inr (by decide))
  have haddr : (s.dev.frameSeen n.toNat).fget CHN_STATUS.ADDR = s.dev.fget CHN_STATUS.ADDR :=
    frameSeen_fget _ _ _ (.inr (by decide))
  unfold Ends exec execAddrInFrame
  refine onDev_ends ha ?_ ?_ ?_
  · rw [hg, hb, chainAddr_chainFrame]
    change (if (!(s.dev.gable.chainLast == some n.toNat)) = true then s.dev.frameSeen n.toNat
      else if (s.dev.frameSeen n.toNat).fon CHN_STATUS.VALID = true then
        if (s.dev.frameSeen n.toNat).fget CHN_STATUS.ADDR = n.toNat then s.dev.frameSeen n.toNat
        else (s.dev.frameSeen n.toNat).fset CHN_STATUS.MISMATCH 1
      else (s.dev.frameSeen n.toNat).takeAddress n.toNat false) = _
    rw [haddr, Dev.fon, hvalid, ← Dev.fon]
    by_cases hl : s.dev.gable.chainLast = some n.toNat <;> simp [hl]
  · split_ifs <;> rfl
  · split_ifs <;> rfl

/-- The address taken, told in both registers. -/
theorem takeAddress_fget (d : Dev) (a : Nat) (head : Bool) (ha : a < 64) :
    let x := d.takeAddress a head
    x.fget CHN_STATUS.ADDR = a ∧ x.fon CHN_STATUS.VALID = true ∧ x.fget CHN_STATUS.HEAD = head.toNat ∧
      (x.fget CHN_STATUS.END = 1 ↔ a = 63) ∧ x.fget CSP_STATUS.CHAIN_ADDR = a ∧ x.fget CSP_STATUS.CHAIN_VALID = 1 := by
  have hend : (a == 63).toNat % 2 = 1 ↔ a = 63 := by
    by_cases h : a = 63 <;> simp [h, beq_eq_false_iff_ne.mpr]
  refine ⟨?_, ?_, ?_, ?_, ?_, ?_⟩
  · simp [Dev.takeAddress, fget_fset_other, fget_fset_same, Nat.mod_eq_of_lt ha]
  · simp [Dev.takeAddress, Dev.fon, fget_fset_other, fget_fset_same]
  · cases head <;> simp [Dev.takeAddress, fget_fset_other, fget_fset_same]
  · simpa [Dev.takeAddress, fget_fset_other, fget_fset_same] using hend
  · simp [Dev.takeAddress, fget_fset_other, fget_fset_same, Nat.mod_eq_of_lt ha]
  · simp [Dev.takeAddress, fget_fset_same]

/-- And in no other: of a device whose other registers are those of `d`. -/
theorem takeAddress_onlyRegs (d : Dev) (a : Nat) (head : Bool) :
    OnlyRegs [⟨.CHN_STATUS, 0, 0⟩, ⟨.CSP_STATUS, 0, 0⟩] d (d.takeAddress a head) := by
  refine ⟨rfl, fun r hr => ?_⟩
  simp only [List.mem_cons, List.not_mem_nil, or_false, not_or] at hr
  simp [Dev.takeAddress, rd_fset_other, hr.1, hr.2]

theorem frameSeen_takeAddress_onlyRegs (d : Dev) (n a : Nat) (head : Bool) :
    let x := (d.frameSeen n).takeAddress a head
    OnlyRegs [⟨.CHN_STATUS, 0, 0⟩, ⟨.CSP_STATUS, 0, 0⟩] { d with gable := x.gable } x := by
  refine ⟨rfl, fun r hr => ?_⟩
  have h := (takeAddress_onlyRegs (d.frameSeen n) a head).2 r hr
  simp only [List.mem_cons, List.not_mem_nil, or_false, not_or] at hr
  exact h.trans (rd_fset_other d CHN_STATUS.IN_SEEN n 0 0 r hr.1)

theorem chainHead_ignored {s : State} (ha : s.dev.answers = true)
    (h : s.dev.fon CHN_STATUS.VALID = true ∨ s.dev.gableFailed = true) : exec .chainHead s = .next s := by
  unfold exec execChainHead
  exact onDev_ends ha (by simp [h]) rfl rfl

theorem chainHead_ends {s : State} (ha : s.dev.answers = true) (hv : ¬ s.dev.fon CHN_STATUS.VALID = true)
    (hg : s.dev.gableFailed = false) : Ends .chainHead s (s.dev.takeAddress 0 true) := by
  unfold Ends exec execChainHead
  exact onDev_ends ha (by simp [hv, hg]) rfl rfl

theorem chainTimeout_ends {s : State} (ha : s.dev.answers = true) :
    Ends .chainTimeout s (if s.dev.fon CHN_STATUS.VALID = true then s.dev else s.dev.send (.log "no chain address" 0)) := by
  unfold Ends exec execChainTimeout
  refine onDev_ends ha rfl ?_ ?_ <;> split <;> rfl

theorem addrOutFrame_ends {s : State} (ha : s.dev.answers = true) :
    Ends .addrOutFrame s
      (if s.dev.fon CHN_STATUS.VALID = true ∧ s.dev.fget CHN_STATUS.ADDR < 63 ∧ s.dev.gableFailed = false then
        s.dev.send (.addrOut (chainFrame (s.dev.fget CHN_STATUS.ADDR + 1))) else s.dev) := by
  unfold Ends exec execAddrOutFrame
  refine onDev_ends ha (by simp) ?_ ?_ <;> split <;> rfl

end Sys2Proof.Machine
end

section
namespace Sys2Proof.Machine

/-! Telemetry (R615) -/

theorem toCourse_rd (d : Dev) (r : Reg) (h : r ≠ ⟨.TIM_NOW, 0, 0⟩) : d.toCourse.rd r = d.rd r := by
  unfold Dev.toCourse
  split
  · rfl
  · exact upTo_rd _ _ _ h

theorem toCourse_fget (d : Dev) (f : Fld) (i j : Nat) (h : f.k ≠ .TIM_NOW) : d.toCourse.fget f i j = d.fget f i j := by
  rw [Dev.fget, toCourse_rd _ _ (by simp [h]), Dev.fget]

@[simp] theorem toCourse_gable (d : Dev) : d.toCourse.gable = d.gable := by unfold Dev.toCourse; split <;> simp
@[simp] theorem toCourse_fuses (d : Dev) : d.toCourse.fuses = d.fuses := by unfold Dev.toCourse; split <;> simp
@[simp] theorem toCourse_fcp (d : Dev) : d.toCourse.fcp = d.fcp := by unfold Dev.toCourse; split <;> simp

/-- One number of a range that alone passes a test. -/
theorem filter_range_eq_singleton {n k : Nat} {p : Nat → Bool} (hk : k < n) (hp : p k = true)
    (ho : ∀ j < n, j ≠ k → p j = false) : (List.range n).filter p = [k] := by
  have h : (List.range n).filter p = (List.range n).filter (· == k) := by
    apply List.filter_congr
    intro j hj
    by_cases hjk : j = k
    · simp [hjk, hp]
    · simp [hjk, ho j (List.mem_range.mp hj) hjk]
  rw [h, List.filter_beq, List.count_eq_one_of_mem List.nodup_range (List.mem_range.mpr hk)]
  rfl

/-- A read of a register without RC fields changes nothing and shows the whole register to an aligned 8-byte access. -/
theorem regRead_word (d : Dev) (r : Reg) (a : Nat) (ha : a % 8 = 0) (hrc : ∀ f ∈ r.k.fields, f.acc ≠ .rc) :
    d.regRead r a 8 = (d, d.shown r) := by
  have keep (fs : List FD) (h : ∀ f ∈ fs, f.acc ≠ .rc) (span v : Word) :
      fs.foldl (fun v f => if f.acc = .rc ∧ mask f.lo f.w &&& ~~~ span = 0 then
        putBits v f.lo f.w (bitsOf (r.resetVal d.fuses) f.lo f.w) else v) v = v := by
    induction fs with
    | nil => rfl
    | cons f fs ih =>
      rw [List.foldl_cons, if_neg fun hf => h f List.mem_cons_self hf.1]
      exact ih fun g hg => h g (List.mem_cons_of_mem f hg)
  have hspan : spanOf a 8 = BitVec.allOnes 64 := by simp only [spanOf, ha]; decide
  unfold Dev.regRead
  simp only [keep _ hrc, if_true, hspan, BitVec.and_allOnes, ha]
  simp

/-- Where an entry's word lies in the file of registers. -/
def Dev.telemBase (d : Dev) (k : Nat) : Nat := d.fget ETH_TELEM0.BASE 0 k / 8 * 8

/-- The payload of a sample of one entry of one word. -/
def Dev.sampleOf (d : Dev) (k v : Nat) : List Byte :=
  leBytes 8 d.course ++ (leBytes 1 k ++ leBytes 1 1 ++ leBytes 6 0 ++ leBytes 8 v)

theorem telemBase_lt (d : Dev) (k : Nat) : d.telemBase k < 2 ^ 48 := by
  have h := bitsOf_lt (d.rd ⟨.ETH_TELEM0, 0, k⟩) 0 48
  simp only [Dev.telemBase, Dev.fget]
  omega

theorem telemBase_mod (d : Dev) (k : Nat) : d.telemBase k % 8 = 0 := by
  simp [Dev.telemBase]

/-- An entry of one word is that word, after its number, its COUNT and six zero bytes. -/
theorem telemEntry_one (d : Dev) (bs : List Byte) (k : Nat) (hc : d.fget ETH_TELEM1.COUNT 0 k = 1) :
    Dev.telemEntry (d, bs) k =
      Dev.telemWord k (d, bs ++ leBytes 1 k ++ leBytes 1 1 ++ leBytes 6 0) (d.telemBase k) := by
  have hb : (d.telemBase k + 0 * 2 ^ min 15 (max 3 (d.fget ETH_TELEM1.STRIDE_LOG2 0 k))) % 2 ^ 48 = d.telemBase k := by
    rw [Nat.zero_mul, Nat.add_zero, Nat.mod_eq_of_lt (telemBase_lt d k)]
  have hn : d.telemCount k = 1 := by simp [Dev.telemCount, hc]
  unfold Dev.telemEntry
  simp only [hn, List.range_one, List.map_cons, List.map_nil, List.foldl_cons, List.foldl_nil]
  exact congrArg _ hb

/-- The word's outcome: the device after it, and its value. -/
def Dev.wordReads (d : Dev) (k : Nat) (x : Dev) (v : Nat) : Prop :=
  ∀ bs, Dev.telemWord k (d, bs) (d.telemBase k) = (x, bs ++ leBytes 8 v)

theorem wordReads_register (d : Dev) (k : Nat) (r : Reg) (hb : d.telemBase k < 2 ^ 47)
    (hr : regAt (d.telemBase k) = some r)
    (hrc : ∀ f ∈ r.k.fields, f.acc ≠ .rc) : d.wordReads k d (d.shown r).toNat := by
  intro bs
  have hap : inAperture (d.telemBase k) = false := decide_eq_false (Nat.not_le.mpr hb)
  simp [Dev.telemWord, hap, hr, regRead_word d r _ (telemBase_mod d k) hrc]

theorem wordReads_calibration (d : Dev) (k : Nat) (hb : d.telemBase k < 2 ^ 47) (hr : regAt (d.telemBase k) = none)
    (hcal : calibrationAt (d.telemBase k) = true) : d.wordReads k d (d.calibrationWord (d.telemBase k)).toNat := by
  intro bs
  have hap : inAperture (d.telemBase k) = false := decide_eq_false (Nat.not_le.mpr hb)
  simp [Dev.telemWord, hap, hr, hcal]

/-- In the pool aperture, or where nothing is mapped, the word is all ones, with ERR. -/
theorem wordReads_failed (d : Dev) (k : Nat)
    (h : 2 ^ 47 ≤ d.telemBase k ∨ regAt (d.telemBase k) = none ∧ calibrationAt (d.telemBase k) = false) :
    d.wordReads k (d.fset ETH_TELEM1.ERR 1 0 k) (2 ^ 64 - 1) := by
  intro bs
  rcases h with h | ⟨hr, hcal⟩
  · have hap : inAperture (d.telemBase k) = true := decide_eq_true h
    simp [Dev.telemWord, hap]
  · simp [Dev.telemWord, hr, hcal]

theorem telemetrySample_none {s : State} (ha : s.dev.answers = true)
    (h : ∀ k < 16, s.dev.toCourse.telemDue k = false) : Ends .telemetrySample s s.dev.toCourse := by
  have hdue : (List.range 16).filter s.dev.toCourse.telemDue = [] := by simpa using h
  unfold Ends exec execTelemetrySample
  exact onReg_ends ha (by simp [hdue]) (by simp) (by simp)

theorem fits_of_length (d : Dev) (p n : Nat) (h : n ≤ 4336) : d.fits p n = true := by
  have hm : 4400 ≤ d.mtu p := by unfold Dev.mtu; omega
  exact decide_eq_true (by omega)

/-- One due entry of one word is sent while a session is open, and read whether or not. -/
theorem telemetrySample_one {s : State} (ha : s.dev.answers = true) {k : Fin 16} {x : Dev} {v : Nat}
    (hk : s.dev.toCourse.telemDue k = true) (ho : ∀ j < 16, j ≠ k.val → s.dev.toCourse.telemDue j = false)
    (hc : s.dev.fget ETH_TELEM1.COUNT 0 k = 1) (hw : s.dev.toCourse.wordReads k x v)
    (hx : x = s.dev.toCourse ∨ x = s.dev.toCourse.fset ETH_TELEM1.ERR 1 0 k) :
    Ends .telemetrySample s
      (if s.dev.session then
        { x.send (.telemetry s.dev.fcp.txSeq (s.dev.toCourse.sampleOf k v)) with
          fcp := { s.dev.fcp with txSeq := s.dev.fcp.txSeq + 1 } }
       else x) := by
  have hdue := filter_range_eq_singleton k.isLt hk ho
  have hentry : Dev.telemEntry (s.dev.toCourse, leBytes 8 s.dev.toCourse.course) k =
      (x, s.dev.toCourse.sampleOf k v) := by
    rw [telemEntry_one _ _ _ (by rw [toCourse_fget _ _ _ _ (by decide), hc]), hw]
    simp [Dev.sampleOf]
  have hsession : x.session = s.dev.session := by
    rcases hx with rfl | rfl <;> simp [Dev.session, Dev.fon, fget_fset_other, toCourse_fget]
  have hfcp : x.fcp = s.dev.fcp := by rcases hx with rfl | rfl <;> simp
  have hgable : x.gable = s.dev.gable := by rcases hx with rfl | rfl <;> simp
  have hfuses : x.fuses = s.dev.fuses := by rcases hx with rfl | rfl <;> simp
  have hlen : (s.dev.toCourse.sampleOf k v).length ≤ 4336 := by simp [Dev.sampleOf]
  unfold Ends exec execTelemetrySample
  refine onReg_ends ha ?_ ?_ ?_
  · simp only [hdue, List.foldl_cons, List.foldl_nil, hentry, hsession, hfcp, fits_of_length _ _ _ hlen]
    cases s.dev.session <;> simp
  · split <;> simp [hgable]
  · split <;> simp [hfuses]

end Sys2Proof.Machine
end

section
namespace Sys2Proof.Machine

/-- A good frame's outcome by what was heard and kept before it. -/
theorem addrInFrame_clause {s : State} (ha : s.dev.answers = true) {n : BitVec 6} {rest : BitVec 4}
    (hb : chainBits n rest = chainFrame n.toNat) (hg : s.dev.gableFailed = false) :
    let c : Instr := .addrInFrame n rest
    let valid : Prop := s.dev.fon CHN_STATUS.VALID = true
    let agree : Prop := s.dev.gable.chainLast = some n.toNat
    (¬ agree ∨ (valid ∧ s.dev.fget CHN_STATUS.ADDR = n.toNat) → Ends c s (s.dev.frameSeen n.toNat)) ∧
    (agree → valid → s.dev.fget CHN_STATUS.ADDR ≠ n.toNat → Ends c s ((s.dev.frameSeen n.toNat).fset CHN_STATUS.MISMATCH 1)) ∧
    (agree → ¬ valid → Ends c s ((s.dev.frameSeen n.toNat).takeAddress n.toNat false)) := by
  have h := addrInFrame_ends ha hb hg
  refine ⟨fun hc => ?_, fun hagree hvalid hdiff => ?_, fun hagree hvalid => ?_⟩
  · rcases hc with hagree | ⟨hvalid, hsame⟩
    · simpa only [if_neg hagree] using h
    · simpa only [if_pos hvalid, if_pos hsame, ite_self] using h
  · simpa only [if_pos hagree, if_pos hvalid, if_neg hdiff] using h
  · simpa only [if_pos hagree, if_neg hvalid] using h

/-- A register write that stores, of whatever source, ends at the register's new word. -/
theorem stores_of_ends {s : State} {c : Instr} {a w : Nat} {v : Word} {r : Reg} (hp : plainAccess r.k a w)
    (h : Ends c s (s.dev.wr r (s.dev.stored r a w v))) :
    ∃ x : Word, Ends c s (s.dev.wr r x) ∧ ∀ b < 64, x.getLsbD b =
      if 8 * (a % 8) ≤ b ∧ b < 8 * (a % 8 + w) then
        let written := v.getLsbD (b - 8 * (a % 8))
        if r.k.hasBit b (fun c => c == .rw || c == .wo) then written
        else if r.k.hasBit b (fun c => c == .w1c) then (s.dev.rd r).getLsbD b && !written
        else (s.dev.rd r).getLsbD b
      else (s.dev.rd r).getLsbD b :=
  ⟨_, h, fun b hb => stored_getLsbD s.dev r a w b v hb hp⟩

/-- Settles O56: each clause by the outcome of its command. -/
theorem chainTelemetryWrites : Obligations.ChainTelemetryWrites := by
  unfold Obligations.ChainTelemetryWrites
  intro s ha
  refine ⟨?_, fun h => chainResetInstant_unarmed h, fun t renumber h => chainResetInstant_runs ha h,
    fun addr rest h => addrInFrame_ignored ha h, ?_, fun h => chainHead_ignored ha h, ?_, ?_, ?_, ?_, ?_, ?_⟩
  -- CHAIN_RESET (R628)
  · intro via source m instant flags
    have armed : (s.dev.crossed via).armed instant.toNat (flags.getLsbD 0) =
        (s.dev.crossed via).setGable { s.dev.gable with chainArm := some (instant.toNat, flags.getLsbD 0) } := by
      rw [Dev.armed, crossed_gable]
    refine ⟨fun hno => chainReset_refused ha hno, fun hok hn => ?_, fun u r hok hu => ?_⟩
    · have h := chainReset_accepted (flags := flags) ha hok
      rwa [hn, Dev.armedFirst, armed] at h
    · have h := chainReset_accepted (flags := flags) ha hok
      rw [hu, Dev.armedFirst, armed] at h
      exact ⟨fun hlt => by rwa [if_pos hlt] at h, fun hle => by rwa [if_neg (Nat.not_lt.mpr hle)] at h⟩
  -- good chain frames (R626)
  · intro n rest hb hg
    obtain ⟨hseen, hdiff, htaken⟩ := addrInFrame_clause ha hb hg
    refine ⟨hseen, hdiff, fun hagree hvalid => ⟨_, htaken hagree hvalid, ?_⟩⟩
    obtain ⟨haddr, hval, hhead, hend, hca, hcv⟩ := takeAddress_fget (s.dev.frameSeen n.toNat) n.toNat false n.isLt
    exact ⟨haddr, hval, hhead, hend, hca, hcv, frameSeen_takeAddress_onlyRegs _ _ _ _⟩
  -- CHAIN_HEAD (R627)
  · intro hvalid hg
    obtain ⟨haddr, hval, hhead, -, -, -⟩ := takeAddress_fget s.dev 0 true (by decide)
    exact ⟨_, chainHead_ends ha hvalid hg, haddr, hval, hhead, takeAddress_onlyRegs _ _ _⟩
  -- CHAIN_TIMEOUT
  · intro hvalid
    have h := chainTimeout_ends ha
    rwa [if_pos hvalid] at h
  · intro hvalid
    have h := chainTimeout_ends ha
    rwa [if_neg hvalid] at h
  -- ADDR_OUT_FRAME (R625)
  · have h := addrOutFrame_ends ha
    exact ⟨fun hsends => by rwa [if_pos hsends] at h, fun hno => by rwa [if_neg hno] at h⟩
  -- TELEMETRY_SAMPLE (R615)
  · refine ⟨fun hnone => telemetrySample_none ha hnone, fun k hk ho hc => ?_⟩
    have hbase : s.dev.toCourse.telemBase k = s.dev.fget ETH_TELEM0.BASE 0 k / 8 * 8 := by
      rw [Dev.telemBase, toCourse_fget _ _ _ _ (by decide)]
    have failed (h : 2 ^ 47 ≤ s.dev.toCourse.telemBase k ∨
        regAt (s.dev.toCourse.telemBase k) = none ∧ calibrationAt (s.dev.toCourse.telemBase k) = false) :=
      telemetrySample_one ha hk ho hc (wordReads_failed _ _ h) (.inr rfl)
    have read {v : Nat} (h : s.dev.toCourse.wordReads k s.dev.toCourse v) :=
      telemetrySample_one ha hk ho hc h (.inl rfl)
    rw [← hbase]
    refine ⟨fun r hlt hr hrc => read (wordReads_register _ _ r hlt hr hrc), fun hlt hr => ?_, fun hle => failed (.inl hle)⟩
    cases hcal : calibrationAt (s.dev.toCourse.telemBase k) with
    | true => exact read (wordReads_calibration _ _ hlt hr hcal)
    | false => exact failed (.inr ⟨hr, hcal⟩)
  -- REGISTER_WRITE (R6, R441)
  · intro log addr v
    refine ⟨fun t => ⟨fun hw => managerWrite_waits ha log addr v t hw, fun hw => ⟨fun r hal hr hso hp => ?_, ?_, ?_⟩⟩,
      fun f => ⟨?_, ?_, ?_⟩⟩
    · exact stores_of_ends hp (managerWrite_ends ha log addr v t hw
        (registerWrite_of_storesOnly _ _ r _ _ _ hal hr rfl hso hp) rfl rfl)
    · intro hal
      exact managerWrite_refused ha log addr v t 5 (by decide) hw (registerWrite_misaligned _ _ _ _ _ hal)
    · intro hal hr
      exact managerWrite_refused ha log addr v t _ (by split <;> decide) hw
        (registerWrite_unmapped _ _ _ _ _ hal hr (phase_of_answers ha))
    · exact fun h => hostWrite_ignored ha log addr v f h
    · exact fun r hr hm => hostWrite_managerOnly ha log addr v f r hr hm
    · intro hh hl hw hm r hal hr hso hp
      refine stores_of_ends hp (hostWrite_ends ha log addr v f ?_ rfl rfl)
      rw [if_pos (by simp [hh, hl, hw])]
      exact registerWrite_of_storesOnly _ _ r _ _ _ hal hr (by simp [hm r hr]) hso hp

end Sys2Proof.Machine
end

section
namespace Sys2Proof.Machine

/-- Every command answers a next state with the queue and the fuses as they were: its meaning is an `onReset`, which leaves the
queue alone and gives the fuses back (R655). -/
theorem exec_keeps_queue_and_fuses (c : Instr) (s : State) : ∃ d, exec c s = .next ⟨d, s.pending⟩ ∧ d.fuses = s.dev.fuses := by
  cases c <;> exact ⟨_, rfl, rfl⟩

theorem tick_of_inReset {s : State} (h : s.dev.inReset = true) : tick s = s := by
  simp [tick, h]

/-- With no write to carry out, or in a soft reset, an idle step passes time. -/
theorem idle_ticks {s : State} (h : s.dev.held = [] ∨ s.dev.phase = phSoft) : idle s = .next (tick s) := by
  unfold idle
  split
  next hc => rw [if_pos (h.resolve_left (by simp [hc]))]
  · rfl

/-- Settles O57: a step runs the command at the front; an idle one is `tick`, or the first write that a soft reset held. -/
theorem stepRunsFront : Obligations.StepRunsFront := by
  unfold Obligations.StepRunsFront
  refine ⟨fun c s => rfl, exec_keeps_queue_and_fuses, fun s hs => ?_⟩
  have idles : step s = idle s := by unfold step; rw [hs]
  refine ⟨fun hr hheld => ?_, fun hr hheld => ?_, fun c rest hheld hp => ?_⟩
  · rw [idles, idle_ticks (.inl hheld), tick_of_inReset hr]
  · rw [idles, idle_ticks hheld]
    simp [tick, hr]
  · simp [idles, idle, hheld, hp]

end Sys2Proof.Machine
end

section
namespace Sys2Proof.Machine

/-! What a change of the time unit leaves: all registers but those of a few names, every thread but for the events it latches. -/

/-- Thread `th` with events latched: `th'` has its registers and its program counter, and every event it had. -/
def Thread.latchedIn (th th' : Thread) : Prop :=
  th'.gpr = th.gpr ∧ th'.pc = th.pc ∧ th'.live = th.live ∧ th'.manager = th.manager ∧ th'.evmask = th.evmask ∧
    ∀ b, th.evpend.getLsbD b = true → th'.evpend.getLsbD b = true

theorem Thread.latchedIn_refl (th : Thread) : th.latchedIn th := ⟨rfl, rfl, rfl, rfl, rfl, fun _ h => h⟩

theorem Thread.latchedIn_trans {a b c : Thread} (h : a.latchedIn b) (h' : b.latchedIn c) : a.latchedIn c := by
  obtain ⟨hg, hp, hl, hm, he, hv⟩ := h
  obtain ⟨hg', hp', hl', hm', he', hv'⟩ := h'
  exact ⟨hg'.trans hg, hp'.trans hp, hl'.trans hl, hm'.trans hm, he'.trans he, fun b hb => hv' b (hv b hb)⟩

/-- Device `e` is `d` but for registers with a name in `ks`, events latched, and state that no register and no thread shows; a
count of seconds that was discarded stays so. -/
structure Dev.keptBut (ks : List RK) (d e : Dev) : Prop where
  fuses : e.fuses = d.fuses
  boot : e.gable.boot = d.gable.boot
  gableFailed : e.gableFailed = d.gableFailed
  rd : ∀ r : Reg, r.k ∉ ks → e.rd r = d.rd r
  thr : ∀ t, (d.thr t).latchedIn (e.thr t)
  tod : d.time.tod = none → e.time.tod = none

theorem keptBut_refl (ks : List RK) (d : Dev) : d.keptBut ks d :=
  ⟨rfl, rfl, rfl, fun _ _ => rfl, fun t => (d.thr t).latchedIn_refl, id⟩

section
variable {ks : List RK} {d e : Dev}

theorem Dev.keptBut.fget (h : d.keptBut ks e) (f : Fld) (i j : Nat) (hf : f.k ∉ ks) : e.fget f i j = d.fget f i j :=
  congrArg (fun v => bitsOf v f.lo f.w) (h.rd ⟨f.k, i, j⟩ hf)

theorem Dev.keptBut.trans {x : Dev} (h : d.keptBut ks e) (h' : e.keptBut ks x) : d.keptBut ks x :=
  ⟨h'.fuses.trans h.fuses, h'.boot.trans h.boot, h'.gableFailed.trans h.gableFailed,
    fun r hr => (h'.rd r hr).trans (h.rd r hr), fun t => Thread.latchedIn_trans (h.thr t) (h'.thr t), fun ht => h'.tod (h.tod ht)⟩

theorem Dev.keptBut.mono {ks' : List RK} (h : d.keptBut ks e) (hk : ks ⊆ ks') : d.keptBut ks' e :=
  ⟨h.fuses, h.boot, h.gableFailed, fun r hr => h.rd r fun hm => hr (hk hm), h.thr, h.tod⟩

theorem Dev.keptBut.fset (h : d.keptBut ks e) (f : Fld) (n i j : Nat) (hf : f.k ∈ ks) : d.keptBut ks (e.fset f n i j) :=
  h.trans ⟨rfl, rfl, rfl, fun r hr => rd_fset_other e f n i j r fun he => hr (he ▸ hf), fun t => (e.thr t).latchedIn_refl, id⟩

/-- A register's value lies in the register file and, at reset, in the fuses. -/
theorem rd_congr (hr : e.regs = d.regs) (hf : e.fuses = d.fuses) (r : Reg) : e.rd r = d.rd r := by simp only [Dev.rd, hr, hf]

/-- State apart from the registers, the threads and the count of seconds. -/
theorem Dev.keptBut.hidden {x : Dev} (h : d.keptBut ks e) (hr : x.regs = e.regs) (hf : x.fuses = e.fuses)
    (hb : x.gable.boot = e.gable.boot) (hg : x.gableFailed = e.gableFailed) (ht : x.threads = e.threads)
    (htod : e.time.tod = none → x.time.tod = none) : d.keptBut ks x :=
  h.trans ⟨hf, hb, hg, fun r _ => rd_congr hr hf r, fun t => by
    simpa only [Dev.thr, ht] using (e.thr t).latchedIn_refl, htod⟩

theorem Dev.keptBut.ite {x y : Dev} (c : Prop) [Decidable c] (hx : d.keptBut ks x) (hy : d.keptBut ks y) :
    d.keptBut ks (if c then x else y) := by split <;> assumption

theorem Dev.keptBut.foldl {α : Type} {f : Dev → α → Dev} (hf : ∀ (d : Dev) (x : α), d.keptBut ks (f d x)) (h : d.keptBut ks e) (l : List α) :
    d.keptBut ks (l.foldl f e) := by
  induction l generalizing e with
  | nil => exact h
  | cons x l ih => exact ih (h.trans (hf e x))

theorem tab_get_map {α : Type} (dflt : α) (f : Nat → α → α) (k : Nat) (hd : f k dflt = dflt) (t : Tab α) :
    Tab.get dflt (t.map fun e => (e.1, f e.1 e.2)) k = f k (Tab.get dflt t k) := by
  induction t with
  | nil => exact hd.symm
  | cons e t ih =>
    simp only [List.map_cons, Tab.get]
    split
    · rename_i h; rw [h]
    · exact ih

theorem latch_thr (d : Dev) (e : Nat) (sel : Nat → Thread → Bool) (t : Nat) :
    (d.latch e sel).thr t =
      let th := d.thr t
      if th.live && sel t th && th.evmask.getLsbD e then { th with evpend := th.evpend ||| mask e 1 } else th :=
  tab_get_map ({} : Thread) (fun t th =>
    if th.live && sel t th && th.evmask.getLsbD e then { th with evpend := th.evpend ||| mask e 1 } else th) t rfl d.threads

theorem latch_keptBut (d : Dev) (ev : Nat) (sel : Nat → Thread → Bool) : d.keptBut ks (d.latch ev sel) := by
  refine ⟨rfl, rfl, rfl, fun _ _ => rfl, fun t => ?_, id⟩
  rw [latch_thr]
  dsimp only
  split
  · exact ⟨rfl, rfl, rfl, rfl, rfl, fun b hb => by simp [hb]⟩
  · exact Thread.latchedIn_refl _

/-- Event `ev` of the managers is latched in each that accepts it. -/
theorem eventMgr_evpend (d : Dev) (ev t : Nat) (hev : ev < 64) (hl : (d.thr t).live = true) (hm : (d.thr t).manager = true)
    (he : (d.thr t).evmask.getLsbD ev = true) : ((d.eventMgr ev).thr t).evpend.getLsbD ev = true := by
  rw [Dev.eventMgr, latch_thr]
  simp only [hl, hm, he, Bool.and_self, if_true, BitVec.getLsbD_or]
  rw [BitVec.getLsbD_eq_getElem hev, BitVec.getLsbD_eq_getElem hev, mask_getElem]
  simp

theorem Dev.keptBut.send (h : d.keptBut ks e) (m : OutMsg) : d.keptBut ks (e.send m) := h.hidden rfl rfl rfl rfl rfl id

theorem fcpEvent_keptBut (d : Dev) (kind : Nat) (ws : List Word) : d.keptBut ks (d.fcpEvent kind ws) := by
  unfold Dev.fcpEvent
  exact Dev.keptBut.ite _ ((keptBut_refl ks d).hidden rfl rfl rfl rfl rfl id) (keptBut_refl ks d)

theorem upTo_keptBut (d : Dev) (n : Nat) (h : RK.TIM_NOW ∈ ks) : d.keptBut ks (d.upTo n) := by
  unfold Dev.upTo
  exact Dev.keptBut.ite _ ((keptBut_refl ks d).fset _ _ _ _ h) (keptBut_refl ks d)

theorem Dev.keptBut.fsetBoth (h : d.keptBut ks e) (f : Fld) (n i j : Nat) (hf : f.k ∈ ks) :
    d.keptBut ks (e.fsetBoth f n i j) := (h.fset f n i j hf).hidden rfl rfl rfl rfl rfl id

end

/-! A commit cancelled -/

theorem commitFinal_keptBut {ks : List RK} (d : Dev) (n status : Nat) : d.keptBut ks (d.commitFinal n status) := by
  unfold Dev.commitFinal
  exact Dev.keptBut.ite _ ((keptBut_refl ks d).hidden rfl rfl rfl rfl rfl id) (keptBut_refl ks d)

theorem endHolds_keptBut {ks : List RK} (d : Dev) (gone : Nat → Bool) (h : RK.LAN_FALLOW_STAT ∈ ks) :
    d.keptBut ks (d.endHolds gone) := by
  unfold Dev.endHolds
  extract_lets held strip x
  have hx : d.keptBut ks x := (keptBut_refl ks d).hidden rfl rfl rfl rfl rfl id
  refine hx.foldl (fun e p => ?_) held
  exact Dev.keptBut.ite _ ((keptBut_refl ks e).fset _ _ _ _ h) (keptBut_refl ks e)

theorem regFind_filter_kept (p : RegCell → Bool) (r : Reg) (h : ∀ v, p (r, v) = true) (l : List RegCell) :
    regFind (l.filter p) r = regFind l r := by
  induction l with
  | nil => rfl
  | cons c l ih =>
    obtain ⟨r', v⟩ := c
    by_cases hr : r = r'
    · rw [List.filter_cons, if_pos (hr ▸ h v)]
      simp only [regFind, hr, if_true]
    · rw [List.filter_cons]
      split <;> simp [regFind, hr, ih]

theorem clearSlot_keptBut {ks : List RK} (d : Dev) (k : Nat) (h : RK.TMP_SWARD ∈ ks) : d.keptBut ks (d.clearSlot k) := by
  refine ⟨rfl, rfl, rfl, fun r hr => ?_, fun t => Thread.latchedIn_refl _, id⟩
  have hk : r.k ≠ .TMP_SWARD := fun he => hr (he ▸ h)
  unfold Dev.clearSlot Dev.rd
  rw [regFind_filter_kept _ r fun v => by simp [hk]]

theorem setMode_keptBut {ks : List RK} (d : Dev) (f m : Nat) (h0 : RK.TMP_FIELD0 ∈ ks) (ha : RK.TMP_ALLOC_STAT ∈ ks) :
    d.keptBut ks (d.setMode f m) := by
  have h := (keptBut_refl ks d).fsetBoth TMP_FIELD0.MODE m f 0 h0
  unfold Dev.setMode
  exact Dev.keptBut.ite _ (h.fset _ _ _ _ ha) (Dev.keptBut.ite _ (h.fset _ _ _ _ ha) h)

/-- The registers that a field's release writes. -/
def releaseRegs : List RK := [.TMP_SWARD, .TMP_ALLOC_STAT, .TMP_FIELD0, .TMP_FIELD1]

theorem endRelease_keptBut (d : Dev) (f : Nat) : d.keptBut releaseRegs (d.endRelease f) := by
  have h : d.keptBut releaseRegs { d with thatch := { d.thatch with releasing := Tab.erase d.thatch.releasing f } } :=
    (keptBut_refl _ d).hidden rfl rfl rfl rfl rfl id
  have h0 : RK.TMP_FIELD0 ∈ releaseRegs := by decide
  have h1 : RK.TMP_FIELD1 ∈ releaseRegs := by decide
  have ha : RK.TMP_ALLOC_STAT ∈ releaseRegs := by decide
  unfold Dev.endRelease
  refine Dev.keptBut.fset (Dev.keptBut.fset (Dev.keptBut.fsetBoth (Dev.keptBut.fsetBoth (Dev.keptBut.fsetBoth
    (Dev.keptBut.fsetBoth (Dev.keptBut.fsetBoth (Dev.keptBut.trans (Dev.keptBut.ite _ ?_ h) (setMode_keptBut _ _ _ h0 ha))
      _ _ _ _ h0) _ _ _ _ h0) _ _ _ _ h0) _ _ _ _ h0) _ _ _ _ h0) _ _ _ _ h1) _ _ _ _ h1
  exact Dev.keptBut.fset (h.trans (clearSlot_keptBut _ _ (by decide))) _ _ _ _ ha

/-- The registers that the cancellation of the pending commits writes. -/
def cancelRegs : List RK := .TIM_COMMIT_STAT :: .LAN_FALLOW_STAT :: .TIM_NOW :: releaseRegs

theorem toSwath_keptBut (d : Dev) : d.keptBut cancelRegs d.toSwath := by
  unfold Dev.toSwath
  exact Dev.keptBut.ite _ (keptBut_refl _ d) (upTo_keptBut d _ (by decide))

theorem releaseStep_keptBut (d : Dev) (gone : Nat → Bool) : d.keptBut cancelRegs (d.releaseStep gone) := by
  have hr : releaseRegs ⊆ cancelRegs := by decide
  have hend (e : Dev) (x : Nat × List Nat) : e.keptBut cancelRegs (e.endRelease x.1) := (endRelease_keptBut e x.1).mono hr
  unfold Dev.releaseStep
  extract_lets rel th x ends
  have hx : d.keptBut cancelRegs x := (keptBut_refl _ d).hidden rfl rfl rfl rfl rfl id
  clear_value x ends
  refine Dev.keptBut.foldl hend ?_ ends
  exact hx.ite _ (hx.trans (toSwath_keptBut x))

theorem commitCancelled_keptBut (d : Dev) (n status : Nat) :
    d.keptBut cancelRegs ((((d.fset TIM_COMMIT_STAT.STATE 1 0 n).fset TIM_COMMIT_STAT.LAST_STATUS status 0 n).eventAll
      0).commitFinal n status) := by
  have hc : RK.TIM_COMMIT_STAT ∈ cancelRegs := by decide
  exact ((((keptBut_refl _ d).fset _ _ _ _ hc).fset _ _ _ _ hc).trans (latch_keptBut _ _ _)).trans (commitFinal_keptBut _ _ _)

theorem endReserved_keptBut {ks : List RK} (d : Dev) (sel : Nat → Bool) : d.keptBut ks (d.endReserved sel) :=
  (keptBut_refl ks d).hidden rfl rfl rfl rfl rfl id

theorem cancelPending_keptBut (d : Dev) (status : Nat) : d.keptBut cancelRegs (d.cancelPending status) := by
  have hfold := Dev.keptBut.foldl (fun d n => commitCancelled_keptBut d n status) (keptBut_refl _ d) d.commits.order
  have hnone (e : Dev) (h : d.keptBut cancelRegs e) (c : Commits) : d.keptBut cancelRegs { e with commits := c } :=
    h.hidden rfl rfl rfl rfl rfl id
  exact (((hnone _ hfold _).trans (endHolds_keptBut _ _ (by decide))).trans (endReserved_keptBut _ _)).trans
    (releaseStep_keptBut _ _)

end Sys2Proof.Machine
end

section
namespace Sys2Proof.Machine

/-! The time unit's entry to a state (R31) -/

/-- The registers that a change of the time unit's state writes. -/
def timeRegs : List RK := [.TIM_STATUS, .TIM_OFFSET, .FLD_MIG_STAT]

theorem setEstErr_keptBut (d : Dev) : d.keptBut timeRegs d.setEstErr := (keptBut_refl _ d).fset _ _ _ _ (by decide)

theorem setEstErr_fget (d : Dev) (f : Fld) (i j : Nat) (h : f.k ≠ .TIM_OFFSET ∨ f.lo + f.w ≤ 32) :
    d.setEstErr.fget f i j = d.fget f i j :=
  fget_fset_other _ _ _ _ _ _ _ _ (h.elim (fun h => .inl (Ne.symm h)) fun h => .inr (.inr (.inr (.inr h))))

theorem cancelMoves_keptBut (d : Dev) : d.keptBut timeRegs d.cancelMoves := by
  have hk : RK.FLD_MIG_STAT ∈ timeRegs := by decide
  unfold Dev.cancelMoves
  refine (keptBut_refl _ d).foldl (fun e x => Dev.keptBut.ite _ ?_ (keptBut_refl _ e)) _
  exact (((keptBut_refl _ e).fset _ _ _ _ hk).fset _ _ _ _ hk).trans (latch_keptBut _ _ _)

/-- What an entry does before it writes the new state. -/
theorem timeState_eq {d : Dev} {st : Nat} (h : d.fget TIM_STATUS.STATE ≠ st) :
    ∃ e, d.keptBut timeRegs e ∧ ∃ ws, d.timeState st = ((e.fset TIM_STATUS.STATE st).setEstErr.eventMgr 4).fcpEvent 3 ws := by
  have hs : RK.TIM_STATUS ∈ timeRegs := by decide
  have hid {e : Dev} (he : d.keptBut timeRegs e) (tu : TimeUnit) (ht : e.time.tod = none → tu.tod = none) :
      d.keptBut timeRegs { e with time := tu } := he.hidden rfl rfl rfl rfl rfl ht
  unfold Dev.timeState
  rw [if_neg h]
  extract_lets _ d1 _ d2 d3 d4 _ d5
  have h1 : d.keptBut timeRegs d1 := (hid (keptBut_refl _ d) _ (by exact id)).ite _ (keptBut_refl _ d)
  have h2 : d.keptBut timeRegs d2 := (hid h1 _ (by exact fun _ => rfl)).ite _ h1
  have h3 : d.keptBut timeRegs d3 := (h2.fset _ _ _ _ hs).ite _ ((h2.fset _ _ _ _ hs).ite _ h2)
  have h4 : d.keptBut timeRegs d4 := h3.ite _ (h3.trans (cancelMoves_keptBut _))
  have h5 : d.keptBut timeRegs d5 := (hid h4 _ (by exact id)).ite _ h4
  exact ⟨d5, h5, _, rfl⟩

theorem timeState_keptBut (d : Dev) (st : Nat) : d.keptBut timeRegs (d.timeState st) := by
  by_cases h : d.fget TIM_STATUS.STATE = st
  · unfold Dev.timeState
    rw [if_pos h]
    exact keptBut_refl _ d
  · obtain ⟨e, he, ws, heq⟩ := timeState_eq h
    rw [heq]
    exact (((he.fset _ _ _ _ (by decide)).trans (setEstErr_keptBut _)).trans (latch_keptBut _ _ _)).trans
      (fcpEvent_keptBut _ _ _)

/-- The time unit of `d` goes to state `n` in `x`: every live manager thread that accepts event TIME has it, and no thread's
registers or program counter move. -/
def Dev.timeGoes (d : Dev) (n : Nat) (x : Dev) : Prop :=
  x.fget TIM_STATUS.STATE = n ∧
    (∀ t, (d.thr t).live = true → (d.thr t).manager = true → (d.thr t).evmask.getLsbD 4 = true →
      (x.thr t).evpend.getLsbD 4 = true) ∧ ∀ t, (x.thr t).gpr = (d.thr t).gpr ∧ (x.thr t).pc = (d.thr t).pc

theorem Dev.timeGoes.after {ks : List RK} {d e x : Dev} {n : Nat} (h : e.timeGoes n x) (hk : d.keptBut ks e) : d.timeGoes n x := by
  obtain ⟨hs, hev, hth⟩ := h
  refine ⟨hs, fun t hl hm he => ?_, fun t => ?_⟩
  all_goals obtain ⟨hg, hp, hl', hm', he', -⟩ := hk.thr t
  · exact hev t (hl'.trans hl) (hm'.trans hm) (he' ▸ he)
  · exact ⟨(hth t).1.trans hg, (hth t).2.trans hp⟩

theorem Dev.timeGoes.before {ks : List RK} {d x y : Dev} {n : Nat} (h : d.timeGoes n x) (hk : x.keptBut ks y)
    (hks : RK.TIM_STATUS ∉ ks) : d.timeGoes n y := by
  obtain ⟨hs, hev, hth⟩ := h
  refine ⟨(hk.fget TIM_STATUS.STATE 0 0 hks).trans hs, fun t hl hm he => ?_, fun t => ?_⟩
  all_goals obtain ⟨hg, hp, -, -, -, hv⟩ := hk.thr t
  · exact hv 4 (hev t hl hm he)
  · exact ⟨hg.trans (hth t).1, hp.trans (hth t).2⟩

/-- Event TIME for the managers, once the state reads as it should. -/
theorem eventMgr_timeGoes {d : Dev} {n : Nat} (h : d.fget TIM_STATUS.STATE = n) : d.timeGoes n (d.eventMgr 4) := by
  have hk : d.keptBut [] (d.eventMgr 4) := latch_keptBut _ _ _
  refine ⟨(hk.fget _ _ _ (by decide)).trans h, fun t => eventMgr_evpend d 4 t (by decide), fun t => ?_⟩
  obtain ⟨hg, hp, -⟩ := hk.thr t
  exact ⟨hg, hp⟩

/-- An entry to another state. -/
theorem timeState_goes {d : Dev} {st : Nat} (h : d.fget TIM_STATUS.STATE ≠ st) (hst : st < 8) : d.timeGoes st (d.timeState st) := by
  obtain ⟨e, he, ws, heq⟩ := timeState_eq h
  have hk : d.keptBut timeRegs (e.fset TIM_STATUS.STATE st).setEstErr :=
    (he.fset _ _ _ _ (by decide)).trans (setEstErr_keptBut _)
  have hstate : ((e.fset TIM_STATUS.STATE st).setEstErr).fget TIM_STATUS.STATE = st := by
    rw [setEstErr_fget _ _ _ _ (.inl (by decide)), fget_fset_same _ _ _ _ _ (by decide)]
    exact Nat.mod_eq_of_lt hst
  rw [heq]
  exact ((eventMgr_timeGoes hstate).after hk).before (fcpEvent_keptBut (ks := []) _ _ _) (by decide)

end Sys2Proof.Machine
end

section
namespace Sys2Proof.Machine

/-! What the time unit's commands come to -/

/-- A command of a device that answers, whose effect keeps all but some registers. -/
theorem onDev_runs {s : State} {c : Instr} {f : Dev → Dev} {ks : List RK} {P : Dev → Prop} (ha : s.dev.answers = true)
    (hc : exec c s = onDev s f) (hk : s.dev.keptBut ks (f s.dev)) (hp : P (f s.dev)) : Runs c s P :=
  ⟨_, hc.trans (onDev_next s f (inReset_of_answers ha) hk.boot hk.fuses), hp⟩

theorem onDev_same {s : State} {f : Dev → Dev} (ha : s.dev.answers = true) (h : f s.dev = s.dev) : onDev s f = .next s :=
  onDev_ends ha h rfl rfl

theorem newTest_keptBut {ks : List RK} (d : Dev) : d.keptBut ks d.newTest := (keptBut_refl ks d).hidden rfl rfl rfl rfl rfl id

/-- The registers that the loss of the time, its source or its choice writes. -/
def sourceRegs : List RK := .TIM_CTRL :: timeRegs ++ cancelRegs

theorem timeState_keptSource (d : Dev) (st : Nat) : d.keptBut sourceRegs (d.timeState st) :=
  (timeState_keptBut d st).mono (by decide)

/-- The pending commits are cancelled, then the time unit enters a state. -/
theorem cancelPending_timeGoes {d : Dev} {st : Nat} (h : d.fget TIM_STATUS.STATE ≠ st) (hst : st < 8) :
    d.timeGoes st ((d.cancelPending 4).timeState st) := by
  have hk := cancelPending_keptBut d 4
  exact (timeState_goes (by rwa [hk.fget TIM_STATUS.STATE 0 0 (by decide)]) hst).after hk

theorem cancelPending_timeState_keptBut (d : Dev) (st : Nat) : d.keptBut sourceRegs ((d.cancelPending 4).timeState st) :=
  ((cancelPending_keptBut d 4).mono (by decide)).trans (timeState_keptSource _ _)

/-! SRC_WRITE -/

/-- The device once another source is chosen: no count of seconds, no offsets. -/
def Dev.sourceCleared (d : Dev) : Dev := ({ d with time := { d.time with tod := none, edge := none } } : Dev).newTest

theorem sourceCleared_keptBut {ks : List RK} (d : Dev) : d.keptBut ks d.sourceCleared :=
  (keptBut_refl ks d).hidden rfl rfl rfl rfl rfl fun _ => rfl

/-- The state that the choice of source `v` leaves. -/
def Dev.sourceEntered (d : Dev) (v : Nat) : Dev :=
  let st := d.fget TIM_STATUS.STATE
  if v = 0 then if st = tsUnset then d else (d.cancelPending 4).timeState tsUnset
  else if st = tsLocked then d.timeState tsHoldover
  else if st = tsHoldover then d
  else d.timeState tsAcquiring

theorem srcWrite_eq {d : Dev} {v : Nat} (h : v ≠ d.fget TIM_CTRL.SRC) :
    d.srcWrite v = (d.sourceCleared.sourceEntered v).fset TIM_CTRL.SRC v := by
  unfold Dev.srcWrite
  rw [if_neg h]
  rfl

theorem sourceEntered_keptBut (d : Dev) (v : Nat) : d.keptBut sourceRegs (d.sourceEntered v) := by
  unfold Dev.sourceEntered
  exact ((keptBut_refl _ d).ite _ (cancelPending_timeState_keptBut d _)).ite _
    ((timeState_keptSource d _).ite _ ((keptBut_refl _ d).ite _ (timeState_keptSource d _)))

section
variable {s : State} (ha : s.dev.answers = true) {v : BitVec 2} (hv : v.toNat ≠ s.dev.fget TIM_CTRL.SRC)
include ha hv

/-- What the write leaves, from what it leaves before SRC itself is written. -/
theorem srcWrite_runs {P : Dev → Prop} (h : P ((s.dev.sourceCleared.sourceEntered v.toNat).fset TIM_CTRL.SRC v.toNat)) :
    Runs (.srcWrite v) s P := by
  have hk : s.dev.keptBut sourceRegs (s.dev.srcWrite v.toNat) := by
    rw [srcWrite_eq hv]
    exact ((sourceCleared_keptBut s.dev).trans (sourceEntered_keptBut _ _)).fset _ _ _ _ (by decide)
  rw [← srcWrite_eq hv] at h
  exact ⟨_, onReg_next s _ ha hk.boot hk.fuses, h⟩

theorem srcWrite_goes {n : Nat} (h : s.dev.sourceCleared.timeGoes n (s.dev.sourceCleared.sourceEntered v.toNat)) :
    Runs (.srcWrite v) s (s.dev.timeGoes n) :=
  srcWrite_runs ha hv ((h.after (sourceCleared_keptBut (ks := []) s.dev)).before
    ((keptBut_refl [.TIM_CTRL] _).fset _ _ _ _ (by decide)) (by decide))

/-- Another source takes UNSET and LOST to ACQUIRING. -/
theorem srcWrite_acquires (h0 : v.toNat ≠ 0)
    (hst : s.dev.fget TIM_STATUS.STATE = tsUnset ∨ s.dev.fget TIM_STATUS.STATE = tsLost) :
    Runs (.srcWrite v) s (s.dev.timeGoes tsAcquiring) := by
  have hcl : s.dev.sourceCleared.fget TIM_STATUS.STATE = s.dev.fget TIM_STATUS.STATE := rfl
  have hne : s.dev.fget TIM_STATUS.STATE ≠ tsLocked ∧ s.dev.fget TIM_STATUS.STATE ≠ tsHoldover ∧
      s.dev.fget TIM_STATUS.STATE ≠ tsAcquiring := by
    rcases hst with h | h <;> rw [h] <;> decide
  refine srcWrite_goes ha hv ?_
  unfold Dev.sourceEntered
  simp only [hcl, if_neg h0, if_neg hne.1, if_neg hne.2.1]
  exact timeState_goes hne.2.2 (by decide)

end

end Sys2Proof.Machine
end

section
namespace Sys2Proof.Machine

/-! LOCK_TEST_PASS -/

/-- A step of NOW by `-off` recorded (R33); none where NOW stands with the source. -/
def Dev.stepMarked (d : Dev) (off : Int) : Dev :=
  if off = 0 then d
  else { d.fset TIM_STATUS.STEPPED 1 with time := { d.time with
    steppedAt := some d.now, lastStep := -off, stepSum := d.time.stepSum - off, steps := d.time.steps + 1 } }

/-- NOW stepped by its offset from the source. -/
def Dev.nowStepped (d : Dev) : Dev :=
  (d.fset TIM_NOW.NOW ((d.now : Int) - d.sourceOffset).toNat).stepMarked d.sourceOffset

theorem stepMarked_keptBut (d : Dev) (off : Int) : d.keptBut timeRegs (d.stepMarked off) := by
  unfold Dev.stepMarked
  exact (keptBut_refl _ d).ite _
    (((keptBut_refl _ d).fset TIM_STATUS.STEPPED 1 0 0 (by decide)).hidden rfl rfl rfl rfl rfl id)

theorem stepMarked_fget (d : Dev) (off : Int) (f : Fld) (h : f.k ≠ .TIM_STATUS ∨ f.lo + f.w ≤ 3) :
    (d.stepMarked off).fget f = d.fget f := by
  unfold Dev.stepMarked
  split
  · rfl
  · exact fget_fset_other d TIM_STATUS.STEPPED f 1 0 0 0 0 (h.elim (fun h => .inl (Ne.symm h)) fun h => .inr (.inr (.inr (.inr h))))

theorem nowStepped_keptBut (d : Dev) : d.keptBut sourceRegs d.nowStepped :=
  ((keptBut_refl _ d).fset TIM_NOW.NOW _ 0 0 (by decide)).trans ((stepMarked_keptBut _ _).mono (by decide))

theorem nowStepped_state (d : Dev) : d.nowStepped.fget TIM_STATUS.STATE = d.fget TIM_STATUS.STATE :=
  (stepMarked_fget _ _ _ (.inr (by decide))).trans (fget_fset_other d TIM_NOW.NOW _ _ 0 0 0 0 (.inl (by decide)))

theorem nowStepped_now (d : Dev) (h0 : 0 ≤ (d.now : Int) - d.sourceOffset) (h1 : (d.now : Int) - d.sourceOffset < 2 ^ 64) :
    (d.nowStepped.now : Int) = d.now - d.sourceOffset := by
  have hnow : d.nowStepped.now = ((d.now : Int) - d.sourceOffset).toNat % 2 ^ 64 :=
    (stepMarked_fget _ _ _ (.inl (by decide))).trans (fget_fset_same d TIM_NOW.NOW _ 0 0 (by decide))
  rw [hnow]
  omega

/-- What the lock test's passing does. -/
theorem lockTestPass_eq {d : Dev} (hg : d.gableFailed = false) (ht : d.lockTest = true) :
    d.lockTestPass =
      let st := d.fget TIM_STATUS.STATE
      if st = tsAcquiring then d.nowStepped.timeState tsLocked
      else if st = tsHoldover then
        if d.lastOffset.natAbs ≤ d.fget TIM_LOCK_CFG.LOCK_THRESH then d.timeState tsLocked
        else (d.cancelPending 4).timeState tsLost
      else d := by
  unfold Dev.lockTestPass
  rw [ht, hg]
  rfl

theorem lockTestPass_none {d : Dev} (h : d.lockTest = false ∨ d.gableFailed = true) : d.lockTestPass = d := by
  unfold Dev.lockTestPass
  rcases h with h | h <;> simp [h]

section
variable {s : State} (ha : s.dev.answers = true) (hg : s.dev.gableFailed = false) (ht : s.dev.lockTest = true)
include ha hg ht

/-- From ACQUIRING the unit steps NOW and locks. -/
theorem lockTestPass_locks {P : Dev → Prop} (hst : s.dev.fget TIM_STATUS.STATE = tsAcquiring)
    (h : P (s.dev.nowStepped.timeState tsLocked)) : Runs .lockTestPass s P := by
  have heq : s.dev.lockTestPass = s.dev.nowStepped.timeState tsLocked := by rw [lockTestPass_eq hg ht, if_pos hst]
  refine onDev_runs (f := Dev.lockTestPass) (ks := sourceRegs) ha rfl ?_ ?_
  · rw [heq]
    exact (nowStepped_keptBut _).trans (timeState_keptSource _ _)
  · rwa [heq]

theorem lockTestPass_acquired (hst : s.dev.fget TIM_STATUS.STATE = tsAcquiring) :
    Runs .lockTestPass s (s.dev.timeGoes tsLocked) := by
  refine lockTestPass_locks ha hg ht hst (Dev.timeGoes.after (timeState_goes ?_ (by decide)) (nowStepped_keptBut s.dev))
  rw [nowStepped_state, hst]
  decide

theorem lockTestPass_steps (hst : s.dev.fget TIM_STATUS.STATE = tsAcquiring)
    (h0 : 0 ≤ (s.dev.now : Int) - s.dev.sourceOffset) (h1 : (s.dev.now : Int) - s.dev.sourceOffset < 2 ^ 64) :
    Runs .lockTestPass s (fun x => (x.now : Int) = s.dev.now - s.dev.sourceOffset) := by
  refine lockTestPass_locks ha hg ht hst ?_
  have hk : (s.dev.nowStepped.timeState tsLocked).now = s.dev.nowStepped.now :=
    (timeState_keptBut _ _).fget TIM_NOW.NOW 0 0 (by decide)
  rw [hk, nowStepped_now _ h0 h1]

/-- From HOLDOVER the last offset decides. -/
theorem lockTestPass_held (hst : s.dev.fget TIM_STATUS.STATE = tsHoldover) :
    (s.dev.lastOffset.natAbs ≤ s.dev.fget TIM_LOCK_CFG.LOCK_THRESH → Runs .lockTestPass s (s.dev.timeGoes tsLocked)) ∧
    (s.dev.fget TIM_LOCK_CFG.LOCK_THRESH < s.dev.lastOffset.natAbs → Runs .lockTestPass s (s.dev.timeGoes tsLost)) := by
  have heq := lockTestPass_eq hg ht
  simp only [hst] at heq
  refine ⟨fun hle => ?_, fun hlt => ?_⟩
  · have heq' : s.dev.lockTestPass = s.dev.timeState tsLocked := heq.trans (if_pos hle)
    refine onDev_runs (f := Dev.lockTestPass) (ks := sourceRegs) ha rfl ?_ ?_
    · rw [heq']; exact timeState_keptSource _ _
    · rw [heq']; exact timeState_goes (by rw [hst]; decide) (by decide)
  · have heq' : s.dev.lockTestPass = (s.dev.cancelPending 4).timeState tsLost := heq.trans (if_neg (Nat.not_le.mpr hlt))
    refine onDev_runs (f := Dev.lockTestPass) (ks := sourceRegs) ha rfl ?_ ?_
    · rw [heq']; exact cancelPending_timeState_keptBut _ _
    · rw [heq']; exact cancelPending_timeGoes (by rw [hst]; decide) (by decide)

end

/-! The loss of the source, its presence, the limit of the holdover -/

theorem sourceLost_keptBut (d : Dev) : d.keptBut timeRegs d.sourceLost := by
  unfold Dev.sourceLost
  exact ((newTest_keptBut d).trans (timeState_keptBut _ _)).ite _ (newTest_keptBut d)

theorem timeSourceLost_runs {s : State} (ha : s.dev.answers = true) (hst : s.dev.fget TIM_STATUS.STATE = tsLocked) :
    Runs .timeSourceLost s (s.dev.timeGoes tsHoldover) := by
  have hn : s.dev.newTest.fget TIM_STATUS.STATE = tsLocked := hst
  refine onDev_runs (f := Dev.sourceLost) ha rfl (sourceLost_keptBut _) ?_
  unfold Dev.sourceLost
  rw [if_pos hst]
  exact Dev.timeGoes.after (timeState_goes (by rw [hn]; decide) (by decide)) (newTest_keptBut (ks := []) s.dev)

/-- SOURCE_PRESENT in LOST. -/
theorem sourcePresent_runs {s : State} (ha : s.dev.answers = true) (hg : s.dev.gableFailed = false)
    (hst : s.dev.fget TIM_STATUS.STATE = tsLost) (hs : s.dev.fget TIM_CTRL.SRC ≠ 0) :
    Runs .sourcePresent s (s.dev.timeGoes tsAcquiring) := by
  have hn : s.dev.newTest.fget TIM_STATUS.STATE = tsLost := hst
  have hk : s.dev.keptBut timeRegs (s.dev.newTest.timeState tsAcquiring) := (newTest_keptBut _).trans (timeState_keptBut _ _)
  have hgo := timeState_goes (d := s.dev.newTest) (st := tsAcquiring) (by rw [hn]; decide) (by decide)
  refine ⟨s.dev.newTest.timeState tsAcquiring, ?_, hgo.after (newTest_keptBut (ks := []) _)⟩
  unfold Ends exec execSourcePresent
  refine onDev_ends ha ?_ hk.boot hk.fuses
  simp only [hst, hs, hg, ne_eq, not_false_eq_true, Bool.not_false, and_self, if_true]

/-- HOLDOVER_LIMIT in HOLDOVER. -/
theorem holdoverLimit_runs {s : State} (ha : s.dev.answers = true) (hst : s.dev.fget TIM_STATUS.STATE = tsHoldover) :
    Runs .holdoverLimit s (s.dev.timeGoes tsLost) := by
  have hup (ks : List RK) (h : RK.TIM_NOW ∈ ks) := upTo_keptBut s.dev (s.dev.time.leftAt + s.dev.holdoverLimit * 1048576) h
  have hst' := (hup [.TIM_NOW] (by decide)).fget TIM_STATUS.STATE 0 0 (by decide)
  have hk := (hup sourceRegs (by decide)).trans (cancelPending_timeState_keptBut _ tsLost)
  refine ⟨_, ?_, (cancelPending_timeGoes (by rw [hst', hst]; decide) (by decide)).after (hup sourceRegs (by decide))⟩
  unfold Ends exec execHoldoverLimit
  refine onDev_ends ha ?_ hk.boot hk.fuses
  simp only [hst, if_true]

/-! SOURCE_UPDATE -/

theorem boundaryClock_rd (d : Dev) (r : Reg) : d.boundaryClock.rd r = d.rd r := by
  unfold Dev.boundaryClock
  dsimp only
  split <;> rfl

theorem boundaryClock_keeps (d : Dev) : d.boundaryClock.gable = d.gable ∧ d.boundaryClock.fuses = d.fuses ∧
    d.boundaryClock.time = d.time ∧ d.boundaryClock.threads = d.threads := by
  unfold Dev.boundaryClock
  dsimp only
  split <;> exact ⟨rfl, rfl, rfl, rfl⟩

/-- A measured offset shown in TIM_OFFSET. -/
def Dev.offsetSet (d : Dev) (o : Int) : Dev := (d.fset TIM_OFFSET.OFFSET (offsetShown o)).setEstErr

/-- The device with a measured offset recorded. -/
def Dev.offsetTaken (d : Dev) (o : Int) : Dev :=
  { d.offsetSet o with time := { d.time with offsets := (o :: d.time.offsets).take 16 } }

theorem offsetSet_fget (d : Dev) (o : Int) : (d.offsetSet o).fget TIM_OFFSET.OFFSET = offsetShown o := by
  rw [Dev.offsetSet, setEstErr_fget _ _ _ _ (.inr (by decide)), fget_fset_same _ _ _ _ _ (by decide)]
  exact Nat.mod_eq_of_lt (BitVec.isLt _)

theorem rd_time (d : Dev) (tu : TimeUnit) (r : Reg) : ({ d with time := tu } : Dev).rd r = d.rd r := rfl

theorem offsetTaken_rd (d : Dev) (o : Int) (r : Reg) : (d.offsetTaken o).rd r = (d.offsetSet o).rd r := by
  rw [Dev.offsetTaken, rd_time]

theorem offsetSet_rd (d : Dev) (o : Int) (r : Reg) (h : r ≠ ⟨.TIM_OFFSET, 0, 0⟩) : (d.offsetSet o).rd r = d.rd r :=
  (rd_fset_other _ TIM_OFFSET.EST_ERR _ 0 0 r h).trans (rd_fset_other d TIM_OFFSET.OFFSET _ 0 0 r h)

theorem sourceUpdate_ends {s : State} (ha : s.dev.answers = true) (hg : s.dev.gableFailed = false)
    (hs : s.dev.fget TIM_CTRL.SRC ≠ 0) (o : BitVec 64) : Ends (.sourceUpdate o) s (s.dev.offsetTaken o.toInt).boundaryClock := by
  obtain ⟨hgable, hfuses, -⟩ := boundaryClock_keeps (s.dev.offsetTaken o.toInt)
  unfold Ends exec execSourceUpdate
  refine onDev_ends ha ?_ (congrArg Gable.boot hgable) hfuses
  exact if_neg (by simp [hg, hs])

theorem sourceUpdate_runs {s : State} (ha : s.dev.answers = true) (hg : s.dev.gableFailed = false)
    (hs : s.dev.fget TIM_CTRL.SRC ≠ 0) (o : BitVec 64) : Runs (.sourceUpdate o) s fun x =>
      x.fget TIM_OFFSET.OFFSET = offsetShown o.toInt ∧
      x.time = { s.dev.time with offsets := (o.toInt :: s.dev.time.offsets).take 16 } ∧
      RegsBut [⟨.TIM_OFFSET, 0, 0⟩] s.dev x ∧ x.threads = s.dev.threads := by
  obtain ⟨-, -, htime, hthreads⟩ := boundaryClock_keeps (s.dev.offsetTaken o.toInt)
  refine ⟨_, sourceUpdate_ends ha hg hs o, ?_, htime, fun r hr => ?_, hthreads⟩
  · rw [Dev.fget, boundaryClock_rd, offsetTaken_rd]
    exact offsetSet_fget _ _
  · rw [boundaryClock_rd, offsetTaken_rd]
    exact offsetSet_rd _ _ _ (by simpa using hr)

end Sys2Proof.Machine
end

section
namespace Sys2Proof.Machine

/-! A request of the session that the device executes (R610, R612) -/

@[simp] theorem gableCross_fcp (d : Dev) (via : FcpFrom) : (d.gableCross via).fcp = d.fcp := by
  unfold Dev.gableCross; split <;> simp

@[simp] theorem gableCross_time (d : Dev) (via : FcpFrom) : (d.gableCross via).time = d.time := by
  unfold Dev.gableCross; split <;> simp

theorem arrive_executes {d : Dev} {via : FcpFrom} {typ session seq : Nat} (h : d.executes via typ session seq)
    (act : Dev → Dev) : d.arrive via typ seq act = act (d.gableCross via) := by
  obtain ⟨hr, hs, ht, -⟩ := h
  have hreq (p : Nat) : (d.gableCross via).fon ETH_MACSEC.REQUIRE p = d.fon ETH_MACSEC.REQUIRE p := by
    simp [Dev.fon, gableCross_fget]
  have hrec : (d.gableCross via).fon CHN_BOOT.RECOVERY = d.fon CHN_BOOT.RECOVERY := by simp [Dev.fon, gableCross_fget]
  have h1 : (!via.secured && d.fon ETH_MACSEC.REQUIRE via.port) = false := by rcases hs with h | h <;> simp [h]
  have h2 : (d.fon CHN_BOOT.RECOVERY && !([0x01, 0x02, 0x03, 0x10, 0x70, 0x31].contains typ)) = false := by
    rcases ht with h | h
    · rw [h, Bool.false_and]
    · rw [List.contains_iff_mem.mpr h, Bool.not_true, Bool.and_false]
  unfold Dev.arrive
  simp only [hr, hreq, hrec, h1, h2, Bool.not_true, Bool.false_eq_true, if_false]

/-- What a request comes to, from what its effect and its answer are. -/
theorem fcpRequest_executes {d : Dev} {via : FcpFrom} {typ session seq : Nat} (h : d.executes via typ session seq)
    {act : Dev → Dev × Option Reply} {x : Dev} {r : Reply} (hact : act (d.executing via seq) = (x, some r)) :
    d.fcpRequest via typ session seq act = x.finish via.port typ seq r := by
  obtain ⟨-, -, -, hopen, hsess, hrep, hexe, hstale⟩ := id h
  have hs : (d.gableCross via).session = true := by
    rw [← hopen]; simp [Dev.session, Dev.fon, gableCross_fget]
  have hn : (d.gableCross via).fget ETH_SESSION.SESSION = session := by rw [gableCross_fget _ _ _ _ _ (by decide), hsess]
  have hnow : (d.gableCross via).now = d.now := gableCross_fget d via _ _ _ (by decide)
  have hf : d.fcp.replies.find? (fun r => r.1 == seq) = none := List.find?_eq_none.mpr fun r hr => by simpa using hrep r hr
  have hst (fcp : Fcp) (hfcp : fcp.replies = d.fcp.replies) :
      ({ d.gableCross via with fcp := fcp } : Dev).staleSeq seq = false := by
    rw [← hstale]; simp only [Dev.staleSeq, hfcp]
  unfold Dev.fcpRequest
  rw [arrive_executes h]
  dsimp only
  rw [hs, hn]
  simp only [gableCross_fcp, hf, List.contains_iff_mem, hexe, hst, hnow, Bool.true_and, beq_self_eq_true, Bool.not_true,
    Bool.false_eq_true, if_false]
  have he : ({ d.gableCross via with fcp := { d.fcp with lastHeard := d.now, executing := d.fcp.executing ++ [seq] } } : Dev) =
      d.executing via seq := by simp only [Dev.executing, gableCross_fcp]
  rw [he, hact]

@[simp] theorem finish_fuses (d : Dev) (port typ seq : Nat) (r : Reply) : (d.finish port typ seq r).fuses = d.fuses := by
  unfold Dev.finish Dev.reply
  split <;> rfl

section
variable {s : State} (ha : s.dev.answers = true) {via : FcpFrom} {session seq : BitVec 32} {second lead : Word}
  (hx : s.dev.executes via 0x50 session.toNat seq.toNat)
include ha hx

/-- A time of day is answered as its effect says. -/
theorem timeOfDay_ends {x : Dev} {status : Nat}
    (h : Dev.timeOfDay second.toNat lead.toNat (s.dev.executing via seq.toNat) = (x, some ⟨status, []⟩))
    (hg : x.gable.boot = s.dev.gable.boot) (hf : x.fuses = s.dev.fuses) :
    Ends (.timeOfDay via session seq second lead) s (x.finish via.port 0x50 seq.toNat ⟨status, []⟩) := by
  unfold Ends exec execTimeOfDay
  exact onDev_ends ha (fcpRequest_executes hx h) ((congrArg Gable.boot (finish_gable _ _ _ _ _)).trans hg)
    ((finish_fuses _ _ _ _ _).trans hf)

end

theorem executing_fget (d : Dev) (via : FcpFrom) (seq : Nat) (f : Fld) (i j : Nat) (h : f.k ≠ .FLT_UNIT_STAT) :
    (d.executing via seq).fget f i j = d.fget f i j := gableCross_fget d via f i j h

theorem executing_gable (d : Dev) (via : FcpFrom) (seq : Nat) : (d.executing via seq).gable = d.gable := gableCross_gable d via

theorem executing_fuses (d : Dev) (via : FcpFrom) (seq : Nat) : (d.executing via seq).fuses = d.fuses := gableCross_fuses d via

theorem executing_time (d : Dev) (via : FcpFrom) (seq : Nat) : (d.executing via seq).time = d.time := gableCross_time d via

/-- A time of day that is refused where the pins are the source: TOD_ERR. -/
theorem timeOfDay_refused {e : Dev} {sec lead : Nat} (hs : e.fget TIM_CTRL.SRC = 3)
    (h : ¬ (100000000 ≤ lead ∧ lead ≤ 900000000) ∨ ∃ n, e.time.tod = some n ∧ n ≠ sec) :
    e.timeOfDay sec lead = (e.fset TIM_STATUS.TOD_ERR 1, some (.code 6)) := by
  unfold Dev.timeOfDay
  rw [if_neg (not_not.mpr hs)]
  split
  · rfl
  next ht =>
    obtain ⟨n, hn, hne⟩ := h.resolve_left (by omega)
    simp only [hn, if_neg hne]

/-- A timely time of day where the pins are the source. -/
theorem timeOfDay_timely {e : Dev} {sec lead : Nat} (hs : e.fget TIM_CTRL.SRC = 3)
    (h : 100000000 ≤ lead ∧ lead ≤ 900000000) :
    (e.time.tod = none → e.timeOfDay sec lead = ({ e with time := { e.time with tod := some sec } }, some (.code 0))) ∧
    (e.time.tod = some sec → e.timeOfDay sec lead = (e, some (.code 0))) := by
  unfold Dev.timeOfDay
  rw [if_neg (not_not.mpr hs), if_neg (by omega)]
  refine ⟨fun hn => by rw [hn], fun hn => by rw [hn]; exact if_pos rfl⟩

/-! The obligation -/

theorem srcWrite_clauses {s : State} (ha : s.dev.answers = true) {v : BitVec 2} (hv : v.toNat ≠ s.dev.fget TIM_CTRL.SRC) :
    let st := s.dev.fget TIM_STATUS.STATE
    (v = 0 → st ≠ tsUnset → Runs (.srcWrite v) s (s.dev.timeGoes tsUnset)) ∧
    (v ≠ 0 → st = tsLocked → Runs (.srcWrite v) s (s.dev.timeGoes tsHoldover)) ∧
    (v ≠ 0 → st = tsUnset ∨ st = tsLost → Runs (.srcWrite v) s (s.dev.timeGoes tsAcquiring)) ∧
    (v ≠ 0 → st = tsAcquiring ∨ st = tsHoldover → Runs (.srcWrite v) s fun x => x.fget TIM_STATUS.STATE = st) ∧
    Runs (.srcWrite v) s (fun x => x.fget TIM_CTRL.SRC = v.toNat ∧ x.time.tod = none) := by
  have hcl : s.dev.sourceCleared.fget TIM_STATUS.STATE = s.dev.fget TIM_STATUS.STATE := rfl
  have hn : v ≠ 0 → v.toNat ≠ 0 := fun h hz => h (BitVec.eq_of_toNat_eq hz)
  refine ⟨fun h0 hst => srcWrite_goes ha hv ?_, fun h0 hst => srcWrite_goes ha hv ?_, fun h0 hst => srcWrite_acquires ha hv (hn h0) hst,
    fun h0 hst => srcWrite_runs ha hv ?_, srcWrite_runs ha hv ⟨?_, ?_⟩⟩
  · unfold Dev.sourceEntered
    rw [if_pos (by rw [h0]; rfl), hcl, if_neg hst]
    exact cancelPending_timeGoes hst (by decide)
  · unfold Dev.sourceEntered
    rw [if_neg (hn h0), hcl, if_pos hst]
    exact timeState_goes (by rw [hcl, hst]; decide) (by decide)
  · rw [fget_fset_other _ _ _ _ _ _ _ _ (.inl (by decide))]
    unfold Dev.sourceEntered
    rw [if_neg (hn h0), hcl]
    rcases hst with hst | hst
    · rw [if_neg (by rw [hst]; decide), if_neg (by rw [hst]; decide)]
      unfold Dev.timeState
      rw [hcl, hst]
      exact hcl.trans hst
    · rw [if_neg (by rw [hst]; decide), if_pos hst]
      exact hcl
  · rw [fget_fset_same _ _ _ _ _ (by decide)]
    exact Nat.mod_eq_of_lt v.isLt
  · exact (sourceEntered_keptBut s.dev.sourceCleared v.toNat).tod rfl

section
variable {s : State} (ha : s.dev.answers = true)
include ha

theorem lockTestPass_idle (h : s.dev.lockTest = false ∨ s.dev.gableFailed = true) : exec .lockTestPass s = .next s := by
  unfold exec execLockTestPass
  exact onDev_same ha (lockTestPass_none h)

/-- Without the gable die's interface no source speaks. -/
theorem gableFailed_idles (hg : s.dev.gableFailed = true) : exec .lockTestPass s = .next s ∧ exec .sourcePresent s = .next s ∧
    exec .rtPpsEdge s = .next s ∧ ∀ o : BitVec 64, exec (.sourceUpdate o) s = .next s := by
  refine ⟨lockTestPass_idle ha (.inr hg), ?_, ?_, fun o => ?_⟩
  · unfold exec execSourcePresent
    exact onDev_same ha (if_neg (by simp [hg]))
  · unfold exec execRtPpsEdge
    exact onDev_same ha (if_neg (by simp [hg]))
  · unfold exec execSourceUpdate
    exact onDev_same ha (if_pos (by simp [hg]))

theorem rtPpsEdge_ends (hg : s.dev.gableFailed = false) (hs : s.dev.fget TIM_CTRL.SRC = 3) :
    Ends .rtPpsEdge s { s.dev with time := { s.dev.time with
      tod := s.dev.time.tod.map (· + 1), edge := s.dev.time.tod.map fun n => (s.dev.now : Int) - (n * 10 ^ 9 : Nat) } } := by
  unfold Ends exec execRtPpsEdge
  exact onDev_ends ha (if_pos (by simp [hs, hg])) rfl rfl

/-- Outside LOCKED the loss of the source breaks the run of updates alone. -/
theorem timeSourceLost_ends (h : s.dev.fget TIM_STATUS.STATE ≠ tsLocked) :
    Ends .timeSourceLost s { s.dev with time := { s.dev.time with offsets := [] } } := by
  unfold Ends exec execTimeSourceLost
  exact onDev_ends ha (if_neg h) rfl rfl

theorem timeOfDay_clauses {via : FcpFrom} {session seq : BitVec 32} (second lead : Word)
    (hx : s.dev.executes via 0x50 session.toNat seq.toNat) :
    let d := s.dev
    let e := d.executing via seq.toNat
    let answers (x : Dev) (status : Nat) : Prop :=
      Ends (.timeOfDay via session seq second lead) s (x.finish via.port 0x50 seq.toNat ⟨status, []⟩)
    let timely := 100000000 ≤ lead.toNat ∧ lead.toNat ≤ 900000000
    let src := d.fget TIM_CTRL.SRC
    (src = 3 → timely → d.time.tod = none → answers { e with time := { d.time with tod := some second.toNat } } 0) ∧
    (src = 3 → timely → d.time.tod = some second.toNat → answers e 0) ∧
    (src = 3 → ¬ timely ∨ (∃ n, d.time.tod = some n ∧ n ≠ second.toNat) → answers (e.fset TIM_STATUS.TOD_ERR 1) 6) ∧
    (src ≠ 3 → answers e 6) := by
  have hsrc : (s.dev.executing via seq.toNat).fget TIM_CTRL.SRC = s.dev.fget TIM_CTRL.SRC :=
    executing_fget _ _ _ _ _ _ (by decide)
  have htime := executing_time s.dev via seq.toNat
  have hboot := congrArg Gable.boot (executing_gable s.dev via seq.toNat)
  have hfuses := executing_fuses s.dev via seq.toNat
  refine ⟨fun hs ht hn => ?_, fun hs ht hn => ?_, fun hs hno => ?_, fun hs => ?_⟩
  · rw [← htime] at hn ⊢
    exact timeOfDay_ends ha hx ((timeOfDay_timely (hsrc.trans hs) ht).1 hn) hboot hfuses
  · rw [← htime] at hn
    exact timeOfDay_ends ha hx ((timeOfDay_timely (hsrc.trans hs) ht).2 hn) hboot hfuses
  · rw [← htime] at hno
    exact timeOfDay_ends ha hx (timeOfDay_refused (hsrc.trans hs) hno) hboot hfuses
  · exact timeOfDay_ends ha hx (if_pos (by rwa [hsrc])) hboot hfuses

end

/-- Settles O33, a clause per command: each change of state goes through `timeState_goes`. -/
theorem timeUnit : Obligations.TimeUnit := by
  unfold Obligations.TimeUnit
  intro s ha
  refine ⟨fun v hv => srcWrite_clauses ha hv, fun hg => ⟨fun ht => ⟨fun hst h0 h1 => ?_, ?_, ?_⟩, fun ht => ?_,
    fun hst hs => sourcePresent_runs ha hg hst hs, fun o hs => sourceUpdate_runs ha hg hs o, rtPpsEdge_ends ha hg⟩,
    gableFailed_idles ha, timeSourceLost_runs ha, timeSourceLost_ends ha, holdoverLimit_runs ha,
    fun via session seq second lead hx => timeOfDay_clauses ha second lead hx⟩
  · exact ⟨lockTestPass_acquired ha hg ht hst, lockTestPass_steps ha hg ht hst h0 h1⟩
  · exact fun hst => (lockTestPass_held ha hg ht hst).1
  · exact fun hst => (lockTestPass_held ha hg ht hst).2
  · exact lockTestPass_idle ha (.inl ht)

end Sys2Proof.Machine
end

section
namespace Sys2Proof.Machine

/-! The test access port, the debug access port (R660 to R666) -/

/-- The device is supplied: the test access port acts (R660). -/
theorem onTap_ends {s : State} {f : Dev → Dev} {d : Dev} (hp : s.dev.gable.boot ≠ .heldPower) (ht : s.dev.gable.boot ≠ .tripped)
    (hf : f s.dev = d) (hb : d.gable.boot = s.dev.gable.boot) (hfu : d.fuses = s.dev.fuses) :
    onTap s f = .next { s with dev := d } := by
  have hc : (s.dev.gable.boot == Boot.heldPower || s.dev.gable.boot == Boot.tripped) = false := by simp [hp, ht]
  subst hf
  unfold onTap
  rw [onAny_next]
  all_goals simp only [hc, Bool.false_eq_true, if_false]
  · exact hb
  · exact hfu

theorem testOnly_on {d : Dev} (ir : Nat) (h : d.fon DBG_STAT.TEST = true) : d.testOnly ir = d.setIr ir := if_pos h

theorem testOnly_off {d : Dev} (ir : Nat) (h : d.fon DBG_STAT.TEST = false) :
    d.testOnly ir = (d.setIr 0xFF).fset DBG_STAT.JTAG_BLOCKED 1 := if_neg (by simp [h])

theorem tmx_off {d : Dev} (h : d.fon DBG_TMX_SEL.EN = false) : d.tmx = 0 ∧ d.tmxClk = 0 := by
  unfold Dev.tmx Dev.tmxClk
  simp [h]

theorem tmx_locked {d : Dev} (hg : 0xD0 ≤ d.fget DBG_TMX_SEL.GROUP) (hl : d.fon CSP_STATUS.DEBUG_LOCK = true) : d.tmx = 0 := by
  unfold Dev.tmx
  simp [hg, hl]

/-- The fields of IDCODE (R662), for each of the 16 revisions that it can show. -/
theorem idcode_fields (fu : Fuses) : fu.idcode.extractLsb' 0 1 = 1 ∧ fu.idcode.extractLsb' 1 11 = 0x5A3 ∧
    fu.idcode.extractLsb' 12 16 = 0x0512 ∧ (fu.idcode.extractLsb' 28 4).toNat = fu.revLetter % 16 := by
  have hall : ∀ r : Fin 16, let v : BitVec 32 := BitVec.ofNat 32 (r * 2 ^ 28 + 0x0512 * 2 ^ 12 + 0x5A3 * 2 + 1)
      v.extractLsb' 0 1 = 1 ∧ v.extractLsb' 1 11 = 0x5A3 ∧ v.extractLsb' 12 16 = 0x0512 ∧
        (v.extractLsb' 28 4).toNat = r := by decide
  exact hall ⟨fu.revLetter % 16, Nat.mod_lt _ (by decide)⟩

/-! An access of the debug access port -/

/-- The port at the start of an access: counted, its address kept. -/
def Dev.dapBegun (d : Dev) (a : Nat) : Dev :=
  let e := (d.setIr 0x20).finc DBG_STAT.DAP_ACCESSES 1
  e.setGable { e.gable with dapAddr := a, dapData := 0, dapStatus := 1, dapCause := 0 }

theorem dapStart_busy {d : Dev} (write : Bool) (a : Nat) (data : Word) (h : d.gable.dap.isSome = true) :
    d.dapStart write a data = d.setIr 0x20 := if_pos h

theorem dapBegun_fon (d : Dev) (a : Nat) (f : Fld) (h : f.k ≠ .DBG_STAT) : (d.dapBegun a).fon f = d.fon f :=
  congrArg (· != 0) (fget_fset_other (d.setIr 0x20) DBG_STAT.DAP_ACCESSES f _ 0 0 0 0 (.inl (Ne.symm h)))

theorem dapBegun_restored (d : Dev) (a : Nat) : (d.dapBegun a).restored = d.restored := rfl

/-- An access that finds the port free, of an address in control space proper. -/
theorem dapStart_free {d : Dev} (write : Bool) {a : Nat} (data : Word) (h : d.gable.dap = none) :
    d.dapStart write a data =
      let e := d.dapBegun a
      if a % 8 ≠ 0 then e.dapRefuse 5 a
      else if !d.restored then e.dapRefuse 2 a
      else if d.fon CSP_STATUS.DEBUG_LOCK && (write || inAperture a) then e.dapRefuse 4 a
      else if inAperture a then e.dapAperture write a data
      else e.setGable { e.gable with dap := some ⟨write, a, data, none, false⟩ } := by
  rw [← dapBegun_restored d a, ← dapBegun_fon d a CSP_STATUS.DEBUG_LOCK (by decide)]
  exact if_neg (by simp [Dev.setIr, h])

theorem dapEnd_gable (d : Dev) (status cause : Nat) (data : Word) : (d.dapEnd status cause data).gable =
    { d.gable with dap := none, dapStatus := status, dapCause := cause, dapData := data } := by
  unfold Dev.dapEnd
  dsimp only
  split <;> rfl

theorem dapEnd_fuses (d : Dev) (status cause : Nat) (data : Word) : (d.dapEnd status cause data).fuses = d.fuses := by
  unfold Dev.dapEnd
  dsimp only
  split <;> rfl

theorem dapEnd_fget (d : Dev) (status cause : Nat) (data : Word) (f : Fld) (h : f.k ≠ .DBG_STAT) :
    (d.dapEnd status cause data).fget f = d.fget f := by
  unfold Dev.dapEnd
  extract_lets _ e
  split
  · exact fget_fset_other e DBG_STAT.DAP_REFUSED f _ 0 0 0 0 (.inl (Ne.symm h))
  · rfl

/-- An access that is done counts nothing. -/
theorem dapEnd_rd (d : Dev) (data : Word) (r : Reg) : (d.dapEnd 2 0 data).rd r = d.rd r := rfl

theorem cspErr_keeps (d : Dev) (cause source thread addr : Nat) :
    (d.cspErr cause source thread addr).gable = d.gable ∧ (d.cspErr cause source thread addr).fuses = d.fuses := ⟨rfl, rfl⟩

/-- What a refusal leaves of the port. -/
theorem dapRefuse_gable (d : Dev) (cause a : Nat) : (d.dapRefuse cause a).gable =
    { d.gable with dap := none, dapStatus := 3, dapCause := cause, dapData := 0 } := by
  rw [Dev.dapRefuse, dapEnd_gable, Dev.refuse, (cspErr_keeps _ _ _ _ _).1]

theorem dapRefuse_fuses (d : Dev) (cause a : Nat) : (d.dapRefuse cause a).fuses = d.fuses := by
  rw [Dev.dapRefuse, dapEnd_fuses, Dev.refuse, (cspErr_keeps _ _ _ _ _).2]

/-- What it records in CSP_ERR. -/
theorem dapRefuse_fget (d : Dev) (cause a : Nat) (f : Fld) (h : f.k ≠ .DBG_STAT) :
    (d.dapRefuse cause a).fget f = (d.cspErr cause 2 0 a).fget f := by
  rw [Dev.dapRefuse, dapEnd_fget _ _ _ _ _ h, Dev.refuse]

/-- The word that a read of a register gives, and the registers it leaves. -/
theorem regRead_snd (d : Dev) (r : Reg) {a : Nat} (ha : a % 8 = 0) : (d.regRead r a 8).2 = d.shown r := by
  have hspan : spanOf a 8 = BitVec.allOnes 64 := by simp only [spanOf, ha]; decide
  unfold Dev.regRead
  simp only [hspan, BitVec.and_allOnes, ha]
  simp

theorem regRead_fst (d : Dev) (r : Reg) (a w : Nat) : (d.regRead r a w).1 = d ∨ ∃ v, (d.regRead r a w).1 = d.wr r v := by
  unfold Dev.regRead
  dsimp only
  split
  · exact .inl rfl
  · exact .inr ⟨_, rfl⟩

/-- A register read of the port that is done. -/
theorem dapRegister_read (d : Dev) (a : Nat) (r : Reg) (hw : r.k.writeOnly = 0) :
    d.dapRegister ⟨false, a, 0, none, false⟩ r = (d.regRead r a 8).1.dapEnd 2 0 (d.regRead r a 8).2 := by
  unfold Dev.dapRegister
  simp [hw]

end Sys2Proof.Machine
end

section
namespace Sys2Proof.Machine

/-! What the port's commands come to -/

theorem dapRefuse_boot (d : Dev) (cause a : Nat) : (d.dapRefuse cause a).gable.boot = d.gable.boot := by rw [dapRefuse_gable]

section
variable {s : State} (hp : s.dev.gable.boot ≠ .heldPower) (ht : s.dev.gable.boot ≠ .tripped)
include hp ht

/-- What an access of a free port comes to, where it leaves `boot` and the fuses. -/
theorem dapRead_runs (addr : BitVec 48) {x : Dev} {P : Dev → Prop} (hx : s.dev.dapStart false addr.toNat 0 = x)
    (hb : x.gable.boot = s.dev.gable.boot) (hf : x.fuses = s.dev.fuses) (h : P x) : Runs (.dapRead addr) s P := by
  refine ⟨x, ?_, h⟩
  unfold Ends exec execDapRead
  exact onTap_ends hp ht hx hb hf

theorem dapWrite_runs (addr : BitVec 48) (data : Word) {x : Dev} {P : Dev → Prop}
    (hx : s.dev.dapStart true addr.toNat data = x) (hb : x.gable.boot = s.dev.gable.boot) (hf : x.fuses = s.dev.fuses)
    (h : P x) : Runs (.dapWrite addr data) s P := by
  refine ⟨x, ?_, h⟩
  unfold Ends exec execDapWrite
  exact onTap_ends hp ht hx hb hf

theorem dapRead_refused (addr : BitVec 48) {cause : Nat}
    (h : s.dev.dapStart false addr.toNat 0 = (s.dev.dapBegun addr.toNat).dapRefuse cause addr.toNat) :
    Runs (.dapRead addr) s fun x => x.gable.dap = none ∧ x.gable.dapStatus = 3 ∧ x.gable.dapCause = cause := by
  refine dapRead_runs hp ht addr h ?_ ?_ ?_
  · exact dapRefuse_boot _ _ _
  · exact dapRefuse_fuses _ _ _
  · rw [dapRefuse_gable]
    exact ⟨rfl, rfl, rfl⟩

/-- An access that finds the port free: a read of a register, a write where the debug lock is off or on, a misaligned one, one
while no register is restored. -/
theorem dapStart_clauses (addr : BitVec 48) (data : Word) (hn : s.dev.gable.dap = none) :
    let d := s.dev
    (addr.toNat % 8 = 0 → addr.toNat < 2 ^ 47 → d.restored = true →
      (Runs (.dapRead addr) s fun x => x.gable.dap = some ⟨false, addr.toNat, 0, none, false⟩ ∧ x.gable.dapStatus = 1 ∧
        x.gable.dapAddr = addr.toNat ∧ OnlyRegs [⟨.DBG_STAT, 0, 0⟩] d { x with gable := d.gable }) ∧
      (d.fon CSP_STATUS.DEBUG_LOCK = false → Runs (.dapWrite addr data) s fun x =>
        x.gable.dap = some ⟨true, addr.toNat, data, none, false⟩ ∧ x.gable.dapStatus = 1) ∧
      (d.fon CSP_STATUS.DEBUG_LOCK = true → Runs (.dapWrite addr data) s fun x => x.gable.dap = none ∧ x.gable.dapStatus = 3 ∧
        x.gable.dapCause = 4 ∧ x.fget CSP_ERR.CAUSE = 4 ∧ x.fget CSP_ERR.SOURCE = 2 ∧ x.fget CSP_ERR.ADDR = addr.toNat)) ∧
    (addr.toNat % 8 ≠ 0 → Runs (.dapRead addr) s fun x => x.gable.dap = none ∧ x.gable.dapStatus = 3 ∧ x.gable.dapCause = 5) ∧
    (addr.toNat % 8 = 0 → d.restored = false → Runs (.dapRead addr) s fun x => x.gable.dap = none ∧ x.gable.dapStatus = 3 ∧
      x.gable.dapCause = 2) := by
  have heq (write : Bool) (data : Word) := dapStart_free (d := s.dev) (a := addr.toNat) write data hn
  refine ⟨fun ha hlt hr => ?_, fun ha => ?_, fun ha hr => ?_⟩
  · have hap : inAperture addr.toNat = false := by simpa [inAperture] using hlt
    refine ⟨?_, fun hl => ?_, fun hl => ?_⟩
    · refine dapRead_runs hp ht addr (x := (s.dev.dapBegun addr.toNat).setGable { (s.dev.dapBegun addr.toNat).gable with
        dap := some ⟨false, addr.toNat, 0, none, false⟩ }) ?_ rfl rfl ⟨rfl, rfl, rfl, rfl, fun r hr => ?_⟩
      · rw [heq]
        simp [ha, hr, hap]
      · exact rd_fset_other s.dev DBG_STAT.DAP_ACCESSES _ 0 0 r (by simpa using hr)
    · refine dapWrite_runs hp ht addr data (x := (s.dev.dapBegun addr.toNat).setGable { (s.dev.dapBegun addr.toNat).gable with
        dap := some ⟨true, addr.toNat, data, none, false⟩ }) ?_ rfl rfl ⟨rfl, rfl⟩
      rw [heq]
      simp [ha, hr, hap, hl]
    · refine dapWrite_runs hp ht addr data (x := (s.dev.dapBegun addr.toNat).dapRefuse 4 addr.toNat) ?_ (dapRefuse_boot _ _ _)
        (dapRefuse_fuses _ _ _) ?_
      · rw [heq]
        simp [ha, hr, hl]
      · obtain ⟨hc, hadr, hsrc, -⟩ := cspErr_fget (s.dev.dapBegun addr.toNat) 4 2 0 addr.toNat (by decide) (by decide) (by decide)
          addr.isLt
        rw [dapRefuse_gable, dapRefuse_fget _ _ _ _ (by decide), dapRefuse_fget _ _ _ _ (by decide),
          dapRefuse_fget _ _ _ _ (by decide)]
        exact ⟨rfl, rfl, rfl, hc, hsrc, hadr⟩
  · exact dapRead_refused hp ht addr ((heq _ _).trans (if_pos ha))
  · refine dapRead_refused hp ht addr ?_
    rw [heq]
    simp [ha, hr]

/-- A register read that is done answers what the register shows. -/
theorem dapAccessDone_reads {r : Reg} {a : Nat} (hd : s.dev.gable.dap = some ⟨false, a, 0, none, false⟩)
    (hr : s.dev.restored = true) (hreg : regAt a = some r) (hwait : s.dev.regWaits a = false) (hwo : r.k.writeOnly = 0)
    (ha : a % 8 = 0) : Runs .dapAccessDone s fun x => x.gable.dap = none ∧ x.gable.dapStatus = 2 ∧
      x.gable.dapData = s.dev.shown r ∧ RegsBut [r] s.dev x := by
  have hkeep : (s.dev.regRead r a 8).1.gable = s.dev.gable ∧ (s.dev.regRead r a 8).1.fuses = s.dev.fuses ∧
      RegsBut [r] s.dev (s.dev.regRead r a 8).1 := by
    rcases regRead_fst s.dev r a 8 with h | ⟨v, h⟩
    · rw [h]; exact ⟨rfl, rfl, fun _ _ => rfl⟩
    · rw [h]; exact ⟨rfl, rfl, fun r' hr' => rd_wr_other _ _ _ _ (by simpa using hr')⟩
  obtain ⟨hgable, hfuses, hregs⟩ := hkeep
  refine ⟨(s.dev.regRead r a 8).1.dapEnd 2 0 (s.dev.regRead r a 8).2, ?_, ?_⟩
  · unfold Ends exec execDapAccessDone
    refine onTap_ends hp ht ?_ (by rw [dapEnd_gable, hgable]) (by rw [dapEnd_fuses, hfuses])
    simp only [hd, hr, mapped, hreg, hwait, dapRegister_read s.dev a r hwo, Option.isSome_some, Bool.true_or, Bool.not_true,
      Bool.false_eq_true, if_false]
  · dsimp only
    rw [dapEnd_gable, regRead_snd s.dev r ha]
    exact ⟨rfl, rfl, rfl, hregs⟩

/-- A read of an address where nothing lies. -/
theorem dapAccessDone_unmapped {a : Nat} (hd : s.dev.gable.dap = some ⟨false, a, 0, none, false⟩)
    (hr : s.dev.restored = true) (hm : mapped a = false) :
    Runs .dapAccessDone s fun x => x.gable.dap = none ∧ x.gable.dapStatus = 3 ∧ x.gable.dapCause = 1 := by
  refine ⟨s.dev.dapRefuse 1 a, ?_, ?_⟩
  · unfold Ends exec execDapAccessDone
    refine onTap_ends hp ht ?_ (dapRefuse_boot _ _ _) (dapRefuse_fuses _ _ _)
    simp only [hd, hr, hm, Bool.not_true, Bool.not_false, Bool.false_eq_true, if_false, if_true]
  · dsimp only
    rw [dapRefuse_gable]
    exact ⟨rfl, rfl, rfl⟩

end

end Sys2Proof.Machine
end

section
namespace Sys2Proof.Machine

/-! The debug lock (R669, R670) -/

/-- The device with both bits of the debug lock set. -/
def Dev.debugLocked (d : Dev) : Dev := (d.fset DBG_CTRL.LOCK 1).fset CSP_STATUS.DEBUG_LOCK 1

theorem debugLock_keptBut {d : Dev} (h : d.fon CSP_STATUS.DEBUG_LOCK = false) :
    d.debugLocked.keptBut [.LAN_PRBS_STAT] d.debugLock := by
  unfold Dev.debugLock
  rw [if_neg (by simp [h])]
  refine (keptBut_refl _ _).foldl (fun e l => ?_) _
  exact ((keptBut_refl _ e).fset _ _ _ _ (by decide)).ite _ (keptBut_refl _ e)

section
variable {s : State}

theorem debugLock_waits (ha : s.dev.answers = true) (hp : s.dev.phase = phSoft) :
    Ends .debugLock s { s.dev with held := s.dev.held ++ [.debugLock] } :=
  onWaitingReg_waits _ s _ ha hp

theorem debugLock_runs (ha : s.dev.answers = true) (hp : s.dev.phase ≠ phSoft) (hl : s.dev.fon CSP_STATUS.DEBUG_LOCK = false) :
    Runs .debugLock s fun x => x.fget CSP_STATUS.DEBUG_LOCK = 1 ∧ x.fget DBG_CTRL.LOCK = 1 ∧
      ∀ l, x.fget LAN_PRBS_INJ.LIVE l = s.dev.fget LAN_PRBS_INJ.LIVE l := by
  have hk := debugLock_keptBut hl
  refine ⟨_, onWaitingReg_next _ s _ ha hp hk.boot hk.fuses, ?_, ?_, fun l => ?_⟩
  · rw [hk.fget _ _ _ (by decide), Dev.debugLocked, fget_fset_same _ _ _ _ _ (by decide)]
    rfl
  · rw [hk.fget _ _ _ (by decide), Dev.debugLocked, fget_fset_other _ _ _ _ _ _ _ _ (.inl (by decide)),
      fget_fset_same _ _ _ _ _ (by decide)]
    rfl
  · rw [hk.fget _ _ _ (by decide), Dev.debugLocked, fget_fset_other _ _ _ _ _ _ _ _ (.inl (by decide)),
      fget_fset_other _ _ _ _ _ _ _ _ (.inl (by decide))]

theorem debugLock_again (ha : s.dev.answers = true) (hp : s.dev.phase ≠ phSoft) (hl : s.dev.fon CSP_STATUS.DEBUG_LOCK = true) :
    exec .debugLock s = .next s := by
  have heq : s.dev.debugLock = s.dev := if_pos hl
  unfold exec execDebugLock
  rw [onWaitingReg_next _ s _ ha hp (by rw [heq]) (by rw [heq]), heq]

/-- In manufacturing test mode control space does not answer. -/
theorem debugLock_test (hp : s.dev.phase = phTest) : exec .debugLock s = .next s := by
  have ha : s.dev.answers = false := by
    by_contra h
    exact phase_of_answers (by simpa using h) hp
  unfold exec execDebugLock onWaitingReg
  rw [onAny_next]
  all_goals simp [ha]

end

/-! Die-to-die interfaces that fail (R14 to R16) -/

theorem raise_fget (d : Dev) (u : Nat) (x : FaultRec) (f : Fld) (i j : Nat) (h : f.k ≠ .FLT_UNIT_STAT ∨ f.lo + f.w ≤ 16) :
    (d.raise u x).fget f i j = d.fget f i j := by
  unfold Dev.raise
  dsimp only
  split
  · rfl
  · exact fget_fset_other (d.setSrc u _) FLT_UNIT_STAT.DROPPED f _ u 0 i j
      (h.elim (fun h => .inl (Ne.symm h)) fun h => .inr (.inr (.inr (.inr h))))

theorem d2dFail_slot (d : Dev) : d.d2dFail 9 = ((List.range 32).filter ({ d with slotDieFailed := true } : Dev).powered).foldl
    (fun d s => d.raise 169 (recSlot 0x31 s 9)) { d with slotDieFailed := true } := rfl

theorem d2dFail_gable (d : Dev) : d.d2dFail 8 = d.gableFail.raise 168 ⟨3, 0x31, 0, 0, 8⟩ := rfl

/-- The slot power die's interface fails: its failure is kept, and a record is raised for each powered slot. -/
theorem slotDieFail_runs {s : State} (h : s.dev.inReset = false) :
    Runs (.d2dFail 9) s fun x => x.slotDieFailed = true ∧ x.threads = s.dev.threads ∧ x.wygel = s.dev.wygel := by
  have hkeep {β : Type} (g : Dev → β) (hg : ∀ (d : Dev) (n : Nat) (r : FaultRec), g (d.raise n r) = g d) :
      g (s.dev.d2dFail 9) = g { s.dev with slotDieFailed := true } := by
    rw [d2dFail_slot, foldl_keeps g _ fun d n => hg d _ _]
  refine ⟨_, onDev_next s (fun d => d.d2dFail 9) h ?_ ?_, ?_, ?_, ?_⟩
  · exact congrArg Gable.boot (hkeep Dev.gable raise_gable)
  · exact hkeep Dev.fuses raise_fuses
  · exact hkeep Dev.slotDieFailed raise_slotDieFailed
  · exact hkeep Dev.threads raise_threads
  · exact hkeep Dev.wygel raise_wygel

/-- The device without its gable die: the links down, the session over. -/
def Dev.gableLost (d : Dev) : Dev := { ((d.ethDown 0).ethDown 1).endSession with gableFailed := true }

theorem gableFail_eq (d : Dev) : d.gableFail = d.gableLost.sourceLost.condition 168 true := rfl

theorem ethDown_fget (d : Dev) (p : Nat) : (d.ethDown p).fget ETH_STAT.LINK p = 0 ∧ (d.ethDown p).fget ETH_STAT.SECURED p = 0 := by
  unfold Dev.ethDown
  refine ⟨?_, ?_⟩
  · rw [fget_fset_other _ _ _ _ _ _ _ _ (.inr (.inr (.inr (.inr (by decide))))), fget_fset_same _ _ _ _ _ (by decide)]
    rfl
  · rw [fget_fset_same _ _ _ _ _ (by decide)]
    rfl

theorem ethDown_rd_other (d : Dev) (p : Nat) (r : Reg) (h : r ≠ ⟨.ETH_STAT, p, 0⟩) : (d.ethDown p).rd r = d.rd r :=
  (rd_fset_other _ ETH_STAT.SECURED 0 p 0 r h).trans (rd_fset_other d ETH_STAT.LINK 0 p 0 r h)

theorem rd_gableFailed (d : Dev) (b : Bool) (r : Reg) : ({ d with gableFailed := b } : Dev).rd r = d.rd r := rfl

theorem session_gableFailed (d : Dev) (b : Bool) : ({ d with gableFailed := b } : Dev).session = d.session := rfl

theorem endSession_session (d : Dev) : d.endSession.session = false := by
  have h : (((d.fset ETH_SESSION.OPEN 0).fset ETH_SESSION.SESSION 0).fset ETH_SESSION.KEEPALIVE_MS 0).fget ETH_SESSION.OPEN = 0 := by
    simp [fget_fset_other, fget_fset_same]
  exact congrArg (· != 0) h

theorem endSession_rd (d : Dev) (r : Reg) (h : r ≠ ⟨.ETH_SESSION, 0, 0⟩) : d.endSession.rd r = d.rd r := by
  have hk : (((d.fset ETH_SESSION.OPEN 0).fset ETH_SESSION.SESSION 0).fset ETH_SESSION.KEEPALIVE_MS 0).rd r = d.rd r :=
    ((rd_fset_other _ ETH_SESSION.KEEPALIVE_MS 0 0 0 r h).trans (rd_fset_other _ ETH_SESSION.SESSION 0 0 0 r h)).trans
      (rd_fset_other _ ETH_SESSION.OPEN 0 0 0 r h)
  exact hk

theorem gableLost_ethStat (d : Dev) (p : Fin 2) :
    d.gableLost.fget ETH_STAT.LINK p = 0 ∧ d.gableLost.fget ETH_STAT.SECURED p = 0 := by
  have hrd (q : Nat) : d.gableLost.rd ⟨.ETH_STAT, q, 0⟩ = ((d.ethDown 0).ethDown 1).rd ⟨.ETH_STAT, q, 0⟩ := by
    rw [Dev.gableLost, rd_gableFailed, endSession_rd _ _ (by simp)]
  have hget (f : Fld) (hf : f.k = .ETH_STAT) (q : Nat) : d.gableLost.fget f q = ((d.ethDown 0).ethDown 1).fget f q := by
    rw [Dev.fget, hf, hrd, Dev.fget, hf]
  have h0 (f : Fld) (hf : f.k = .ETH_STAT) : ((d.ethDown 0).ethDown 1).fget f 0 = (d.ethDown 0).fget f 0 := by
    rw [Dev.fget, hf, ethDown_rd_other _ _ _ (by simp), Dev.fget, hf]
  match p with
  | 0 => exact ⟨((hget _ rfl 0).trans (h0 _ rfl)).trans (ethDown_fget d 0).1, ((hget _ rfl 0).trans (h0 _ rfl)).trans (ethDown_fget d 0).2⟩
  | 1 => exact ⟨(hget _ rfl 1).trans (ethDown_fget _ 1).1, (hget _ rfl 1).trans (ethDown_fget _ 1).2⟩

/-- The gable die's interface fails: the session is over, the links are down, the condition stands. -/
theorem gableFail_runs {s : State} (h : s.dev.inReset = false) :
    Runs (.d2dFail 8) s fun x => x.gableFailed = true ∧ x.session = false ∧ x.fget FLT_UNIT_STAT.CONDITION 168 = 1 ∧
      ∀ p : Fin 2, x.fget ETH_STAT.LINK p = 0 ∧ x.fget ETH_STAT.SECURED p = 0 := by
  have hk : s.dev.gableLost.keptBut [.TIM_STATUS, .TIM_OFFSET, .FLD_MIG_STAT, .FLT_UNIT_STAT] s.dev.gableFail := by
    rw [gableFail_eq]
    exact ((sourceLost_keptBut _).mono (by decide)).fset _ _ _ _ (by decide)
  have hget (f : Fld) (i : Nat) (hf : f.k ∉ [RK.TIM_STATUS, .TIM_OFFSET, .FLD_MIG_STAT, .FLT_UNIT_STAT]) :
      (s.dev.d2dFail 8).fget f i = s.dev.gableLost.fget f i := by
    rw [d2dFail_gable, raise_fget _ _ _ _ _ _ (.inl fun he => hf (by simp [he])), hk.fget f i 0 hf]
  have hopen : (s.dev.d2dFail 8).session = s.dev.gableLost.session := congrArg (· != 0) (hget ETH_SESSION.OPEN 0 (by decide))
  refine ⟨_, onDev_next s (fun d => d.d2dFail 8) h ?_ ?_, ?_, ?_, ?_, fun p => ?_⟩
  · rw [d2dFail_gable, raise_gable, hk.boot]
    rfl
  · rw [d2dFail_gable, raise_fuses, hk.fuses]
    rfl
  · rw [d2dFail_gable, raise_gableFailed, hk.gableFailed, Dev.gableLost]
  · rw [hopen, Dev.gableLost, session_gableFailed, endSession_session]
  · rw [d2dFail_gable, raise_fget _ _ _ _ _ _ (.inr (by decide)), gableFail_eq, Dev.condition,
      fget_fset_same _ _ _ _ _ (by decide)]
    rfl
  · rw [hget _ _ (by decide), hget _ _ (by decide)]
    exact gableLost_ethStat _ p

end Sys2Proof.Machine
end

section
namespace Sys2Proof.Machine

section
variable {s : State} (hp : s.dev.gable.boot ≠ .heldPower) (ht : s.dev.gable.boot ≠ .tripped)
include hp ht

theorem tap_ends {i : Instr} (f : Dev → Dev) {d : Dev} (hi : exec i s = onTap s f) (hf : f s.dev = d)
    (hb : d.gable.boot = s.dev.gable.boot) (hfu : d.fuses = s.dev.fuses) : Ends i s d :=
  hi.trans (onTap_ends hp ht hf hb hfu)

/-- The instructions that select a register of the test access port, and those for manufacturing test mode alone. -/
theorem tap_selects : let d := s.dev
    let selects (i : Instr) (ir : Nat) : Prop := Ends i s (d.setGable { d.gable with ir := ir })
    let testOnly (i : Instr) (ir : Nat) : Prop :=
      (d.fon DBG_STAT.TEST = true → selects i ir) ∧
      (d.fon DBG_STAT.TEST = false → Ends i s ((d.setGable { d.gable with ir := 0xFF }).fset DBG_STAT.JTAG_BLOCKED 1))
    (selects .tapReset 2 ∧ selects .bypass 0xFF) ∧
    testOnly .extest 0 ∧ testOnly .clamp 3 ∧ testOnly .highz 4 ∧ testOnly .extestPulse 8 ∧ testOnly .extestTrain 9 := by
  intro d selects testOnly
  have hsel {i : Instr} (ir : Nat) (hi : exec i s = onTap s fun d => d.setIr ir) : selects i ir :=
    tap_ends hp ht _ hi rfl rfl rfl
  have htest {i : Instr} (ir : Nat) (hi : exec i s = onTap s fun d => d.testOnly ir) : testOnly i ir :=
    ⟨fun h => tap_ends hp ht _ hi (testOnly_on ir h) rfl rfl,
      fun h => tap_ends hp ht _ hi (testOnly_off ir h) rfl rfl⟩
  exact ⟨⟨hsel 2 rfl, hsel 0xFF rfl⟩, htest 0 rfl, htest 3 rfl, htest 4 rfl, htest 8 rfl, htest 9 rfl⟩

/-- The captures: the pins, IDCODE, the debug access port's latest access. -/
theorem tap_captures : let d := s.dev
    Ends .samplePreload s ((d.setGable { d.gable with ir := 1 }).send (.pins d.tmx d.tmxClk
      (slotBits fun k => d.fon SLT_STAT.PG k) (slotBits fun k => d.fon SLT_STAT.EWARN k))).used ∧
    Ends .idcode s ((d.setGable { d.gable with ir := 2 }).send (.idcode d.fuses.idcode)) ∧
    Ends .dapPoll s ((d.setGable { d.gable with ir := 0x20 }).send
      (.dapCapture d.gable.dapAddr d.gable.dapData d.gable.dapStatus d.gable.dapCause)) := by
  refine ⟨?_, ?_, ?_⟩
  · unfold Ends exec execSamplePreload
    exact onTap_ends hp ht rfl rfl rfl
  · unfold Ends exec execIdcode
    exact onTap_ends hp ht rfl rfl rfl
  · unfold Ends exec execDapPoll
    exact onTap_ends hp ht rfl rfl rfl

/-- An access that comes while one is busy is discarded. -/
theorem dap_discards (addr : BitVec 48) (data : Word) (h : s.dev.gable.dap.isSome = true) :
    Ends (.dapRead addr) s (s.dev.setGable { s.dev.gable with ir := 0x20 }) ∧
    Ends (.dapWrite addr data) s (s.dev.setGable { s.dev.gable with ir := 0x20 }) :=
  ⟨tap_ends hp ht (fun d => d.dapStart false addr.toNat 0) rfl (dapStart_busy false _ _ h) rfl rfl,
    tap_ends hp ht (fun d => d.dapStart true addr.toNat data) rfl (dapStart_busy true _ _ h) rfl rfl⟩

end

/-- Settles O41, a clause per command. -/
theorem debugAndTest : Obligations.DebugAndTest := by
  unfold Obligations.DebugAndTest
  intro s addr data hp ht
  obtain ⟨⟨hreset, hbypass⟩, hextest, hclamp, hhighz, hpulse, htrain⟩ := tap_selects hp ht
  obtain ⟨hpins, hid, hpoll⟩ := tap_captures hp ht
  have hstart := dapStart_clauses hp ht addr data
  exact ⟨hreset, hbypass, hpins, tmx_off, tmx_locked, hextest, hclamp, hhighz, hpulse, htrain,
    ⟨_, hid, idcode_fields s.dev.fuses⟩, hpoll, dap_discards hp ht addr data,
    fun hn ha hlt hr => (hstart hn).1 ha hlt hr, fun hn ha => (hstart hn).2.1 ha,
    fun r a hd hr hreg hw hwo ha => dapAccessDone_reads hp ht hd hr hreg hw hwo ha,
    fun hn ha hr => (hstart hn).2.2 ha hr, fun a hd hr hm => dapAccessDone_unmapped hp ht hd hr hm,
    debugLock_waits, debugLock_runs, debugLock_again, debugLock_test, slotDieFail_runs, gableFail_runs⟩

end Sys2Proof.Machine
end

section
namespace Sys2Proof.Machine

/-! Messages that wait, and what leaves them waiting -/

/-- The messages that wait: in the buffer, and held at ingress. -/
def Dev.waiting (d : Dev) : List QMsg := d.core.buf ++ d.core.holds.map (·.2)

/-- Does a message with a body wait for an egress port? -/
def Dev.waits (d : Dev) (q : Nat) (b : QBody) : Prop := ∃ m ∈ d.waiting, m.egress = q ∧ m.body = b

theorem mem_waiting {d : Dev} {m : QMsg} : m ∈ d.waiting ↔ m ∈ d.core.buf ∨ ∃ h ∈ d.core.holds, h.2 = m := by
  simp [Dev.waiting]

/-- From `d` to `e` messages are queued and nothing else happens to the traffic: every message that waited waits, the requests
in flight and what was sent are the same. -/
structure Dev.queuesTo (d e : Dev) : Prop where
  flights : e.core.flights = d.core.flights
  nextTag : e.core.nextTag = d.core.nextTag
  out : e.out = d.out
  waiting : ∀ m ∈ d.waiting, m ∈ e.waiting

/-- From `d` to `e` no message that waited is lost, and no request is in flight under a tag that was out of use. -/
structure Dev.trafficTo (d e : Dev) : Prop where
  nextTag : d.core.nextTag ≤ e.core.nextTag
  tags : ∀ f ∈ e.core.flights, (∃ g ∈ d.core.flights, g.tag = f.tag) ∨ d.core.nextTag ≤ f.tag
  waits : ∀ q b, d.waits q b → e.waits q b

theorem queuesTo_refl (d : Dev) : d.queuesTo d := ⟨rfl, rfl, rfl, fun _ h => h⟩

theorem trafficTo_refl (d : Dev) : d.trafficTo d := ⟨le_rfl, fun f hf => .inl ⟨f, hf, rfl⟩, fun _ _ h => h⟩

section
variable {d e x : Dev}

theorem Dev.queuesTo.trans (h : d.queuesTo e) (h' : e.queuesTo x) : d.queuesTo x :=
  ⟨h'.flights.trans h.flights, h'.nextTag.trans h.nextTag, h'.out.trans h.out, fun m hm => h'.waiting m (h.waiting m hm)⟩

theorem Dev.queuesTo.waits (h : d.queuesTo e) {q : Nat} {b : QBody} (hw : d.waits q b) : e.waits q b := by
  obtain ⟨m, hm, hq, hb⟩ := hw
  exact ⟨m, h.waiting m hm, hq, hb⟩

theorem queuesTo_of_core (hc : e.core = d.core) (ho : e.out = d.out) : d.queuesTo e := by
  refine ⟨by rw [hc], by rw [hc], ho, fun m hm => ?_⟩
  rwa [mem_waiting, hc, ← mem_waiting]

theorem Dev.trafficTo.trans (h : d.trafficTo e) (h' : e.trafficTo x) : d.trafficTo x := by
  refine ⟨h.nextTag.trans h'.nextTag, fun f hf => ?_, fun q b hw => h'.waits q b (h.waits q b hw)⟩
  rcases h'.tags f hf with ⟨g, hg, hgf⟩ | hle
  · rcases h.tags g hg with ⟨g', hg', hgg⟩ | hle
    · exact .inl ⟨g', hg', hgg.trans hgf⟩
    · exact .inr (hgf ▸ hle)
  · exact .inr (h.nextTag.trans hle)

/-- Only the requests in flight have changed, and under no new tag. -/
theorem trafficTo_of_tags (hb : e.core.buf = d.core.buf) (hh : e.core.holds = d.core.holds)
    (hn : e.core.nextTag = d.core.nextTag) (ht : ∀ f ∈ e.core.flights, ∃ g ∈ d.core.flights, g.tag = f.tag) : d.trafficTo e := by
  refine ⟨hn.ge, fun f hf => .inl (ht f hf), fun q b ⟨m, hm, hmq⟩ => ⟨m, ?_, hmq⟩⟩
  rwa [mem_waiting, hb, hh, ← mem_waiting]

theorem trafficTo_of_core (h : e.core = d.core) : d.trafficTo e := by
  refine trafficTo_of_tags (by rw [h]) (by rw [h]) (by rw [h]) fun f hf => ⟨f, ?_, rfl⟩
  rwa [← h]

theorem Dev.queuesTo.trafficTo (h : d.queuesTo e) : d.trafficTo e :=
  ⟨h.nextTag.ge, fun f hf => .inl ⟨f, h.flights ▸ hf, rfl⟩, fun _ _ hw => h.waits hw⟩

theorem Dev.trafficTo.core (h : d.trafficTo e) (hc : x.core = e.core) : d.trafficTo x := h.trans (trafficTo_of_core hc)

theorem Dev.trafficTo.ite {c : Prop} [Decidable c] {y : Dev} (hx : d.trafficTo x) (hy : d.trafficTo y) :
    d.trafficTo (if c then x else y) := by split <;> assumption

theorem Dev.trafficTo.foldl {α : Type} {f : Dev → α → Dev} (h : d.trafficTo e) (hf : ∀ (y : Dev) (a : α), y.trafficTo (f y a))
    (l : List α) : d.trafficTo (l.foldl f e) := by
  induction l generalizing e with
  | nil => exact h
  | cons a l ih => exact ih (h.trans (hf e a))

end

/-! Operations that leave the switch core -/

@[simp] theorem ite_core (c : Prop) [Decidable c] (a b : Dev) : (if c then a else b).core = if c then a.core else b.core :=
  apply_ite Dev.core c a b

@[simp] theorem ite_out (c : Prop) [Decidable c] (a b : Dev) : (if c then a else b).out = if c then a.out else b.out :=
  apply_ite Dev.out c a b

@[simp] theorem setTlk_core (d : Dev) (p : Nat) (x : TlkPort) : (d.setTlk p x).core = d.core := rfl
@[simp] theorem setTlk_out (d : Dev) (p : Nat) (x : TlkPort) : (d.setTlk p x).out = d.out := rfl

theorem tlkXoff_keeps (d : Dev) (p : Nat) : (d.tlkXoff p).core = d.core ∧ (d.tlkXoff p).out = d.out := by
  unfold Dev.tlkXoff
  refine ⟨foldl_keeps Dev.core _ (fun e c => ?_) _ d, foldl_keeps Dev.out _ (fun e c => ?_) _ d⟩ <;> simp

theorem tlkFreed_keeps (d : Dev) (p : Nat) (f : TlkFlit) : (d.tlkFreed p f).core = d.core ∧ (d.tlkFreed p f).out = d.out :=
  ⟨rfl, rfl⟩

theorem tlkAdmitted_keeps (d : Dev) (p c : Nat) : (d.tlkAdmitted p c).core = d.core ∧ (d.tlkAdmitted p c).out = d.out := by
  unfold Dev.tlkAdmitted
  obtain ⟨hc, ho⟩ := tlkXoff_keeps (((takeAdmitted c (d.tlkPort p).released).2).foldl (fun d f => d.tlkFreed p f)
    (d.setTlk p { d.tlkPort p with released := (takeAdmitted c (d.tlkPort p).released).1 })) p
  refine ⟨hc.trans ?_, ho.trans ?_⟩
  · exact foldl_keeps Dev.core _ (fun e f => (tlkFreed_keeps e p f).1) _ _
  · exact foldl_keeps Dev.out _ (fun e f => (tlkFreed_keeps e p f).2) _ _

theorem slotDone_keeps (d : Dev) (ingress vc : Option Nat) :
    (d.slotDone ingress vc).core = d.core ∧ (d.slotDone ingress vc).out = d.out := by
  unfold Dev.slotDone
  split
  · exact tlkAdmitted_keeps _ _ _
  · exact ⟨rfl, rfl⟩

theorem depth_keeps (d : Dev) (m : QMsg) (up : Bool) : (d.depth m up).core = d.core ∧ (d.depth m up).out = d.out := by
  unfold Dev.depth
  simp

theorem takeCells_keeps (d : Dev) (m : QMsg) : (d.takeCells m).core = d.core ∧ (d.takeCells m).out = d.out := by
  unfold Dev.takeCells
  split
  · exact ⟨rfl, rfl⟩
  · exact ⟨rfl, rfl⟩
  · simp

theorem tagHead_keeps (d : Dev) (m : QMsg) : (d.tagHead m).core = d.core ∧ (d.tagHead m).out = d.out := by
  unfold Dev.tagHead
  simp

/-! A message offered to the buffer -/

/-- The message as it is queued. -/
def Dev.stamped (d : Dev) (m : QMsg) (part : BufPart) : QMsg := { m with part := part, stamp := d.stampOf m }

theorem enqueue_keeps (d : Dev) (m : QMsg) (part : BufPart) :
    (d.enqueue m part).core = { d.core with buf := d.core.buf ++ [d.stamped m part] } ∧ (d.enqueue m part).out = d.out := by
  unfold Dev.enqueue
  extract_lets m' first d1 d2 buf d3
  have h1 : d1.core = d.core ∧ d1.out = d.out :=
    ⟨(depth_keeps _ _ _).1.trans (takeCells_keeps _ _).1, (depth_keeps _ _ _).2.trans (takeCells_keeps _ _).2⟩
  have h2 : d2.core = d.core ∧ d2.out = d.out := by
    simp only [d2]
    split
    · exact ⟨(tagHead_keeps _ _).1.trans h1.1, (tagHead_keeps _ _).2.trans h1.2⟩
    · exact h1
  have h3 : d3.core = { d.core with buf := d.core.buf ++ [m'] } ∧ d3.out = d.out := ⟨by simp only [d3, buf, h2.1], h2.2⟩
  split
  · exact h3
  · exact h3

/-- A message offered is admitted or held. -/
theorem offer_cases (d : Dev) (m : QMsg) : (d.offer m).out = d.out ∧
    ((∃ part, (d.offer m).core = { d.core with buf := d.core.buf ++ [d.stamped m part] }) ∨
      (d.offer m).core = { d.core with holds := d.core.holds ++ [(m.ingress, m)] }) := by
  unfold Dev.offer
  split
  · exact ⟨rfl, .inr rfl⟩
  · split
    next part _ =>
      obtain ⟨hc, ho⟩ := slotDone_keeps (d.enqueue m part) m.ingress m.vc
      obtain ⟨hc', ho'⟩ := enqueue_keeps d m part
      exact ⟨ho.trans ho', .inl ⟨part, hc.trans hc'⟩⟩
    · exact ⟨rfl, .inr rfl⟩

theorem offer_queuesTo (d : Dev) (m : QMsg) : d.queuesTo (d.offer m) := by
  obtain ⟨ho, ⟨part, hc⟩ | hc⟩ := offer_cases d m
  · refine ⟨by rw [hc], by rw [hc], ho, fun x hx => ?_⟩
    rw [mem_waiting] at hx ⊢
    rw [hc]
    exact hx.imp_left fun hx => List.mem_append_left _ hx
  · refine ⟨by rw [hc], by rw [hc], ho, fun x hx => ?_⟩
    rw [mem_waiting] at hx ⊢
    rw [hc]
    exact hx.imp_right fun ⟨h, hh, hx⟩ => ⟨h, List.mem_append_left _ hh, hx⟩

theorem offer_waits (d : Dev) (m : QMsg) : (d.offer m).waits m.egress m.body := by
  obtain ⟨-, ⟨part, hc⟩ | hc⟩ := offer_cases d m
  · refine ⟨d.stamped m part, ?_, rfl, rfl⟩
    rw [mem_waiting, hc]
    exact .inl (by simp)
  · refine ⟨m, ?_, rfl, rfl⟩
    rw [mem_waiting, hc]
    exact .inr ⟨(m.ingress, m), by simp, rfl⟩

end Sys2Proof.Machine
end

section
namespace Sys2Proof.Machine

/-! Answers and the messages that carry them -/

theorem charge_queuesTo (d : Dev) (e : Bool) (n len : Nat) : d.queuesTo (d.charge e n len) := by
  unfold Dev.charge
  split
  · exact ⟨rfl, rfl, rfl, fun _ h => h⟩
  · exact queuesTo_refl d

theorem fadd_queuesTo (d : Dev) (f : Fld) (n i j : Nat) : d.queuesTo (d.fadd f n i j) := queuesTo_of_core rfl rfl

theorem ridgeResponse_queuesTo (d : Dev) (e : Bool) (pe pr j len : Nat) : d.queuesTo (d.ridgeResponse e pe pr j len).1 := by
  unfold Dev.ridgeResponse
  dsimp only
  split
  · exact charge_queuesTo _ _ _ _
  · exact fadd_queuesTo _ _ _ _ _

theorem ridgeRequest_queuesTo (d : Dev) (e : Bool) (p : Nat) (ingress : Option Nat) (len : Nat) :
    d.queuesTo (d.ridgeRequest e p ingress len).1 := by
  unfold Dev.ridgeRequest
  split
  · exact fadd_queuesTo _ _ _ _ _
  · extract_lets rs
    split
    · exact fadd_queuesTo _ _ _ _ _
    · split
      · exact fadd_queuesTo _ _ _ _ _
      · exact charge_queuesTo _ _ _ _

/-- The data and the poison that an answer carries. -/
def Answer.parts : Answer → Option Nat × Bool
  | .data v x => (some v, x)
  | _ => (none, false)

/-- A response with data, or without, queued toward a port, in the class its lookup gives. -/
def Dev.respondWith (d : Dev) (fl : Flight) (p : Nat) (dat : Option Nat) (poi : Bool) : Dev :=
  if !(d.portUp p) then if dat.isSome then d.fadd SWC_FLUSH_CNT.DROPPED_WRITES 1 else d
  else
    let len := 16 + fl.respExtra + if dat.isSome then fl.len else 0
    let x := match fl.cls, fl.rsv with
      | 0, some j => d.ridgeResponse fl.epoch fl.egress p j len
      | c, _ => (d, c)
    x.1.offer { body := .response fl.hostTag dat poi fl.rsv, ingress := if fl.egress < 128 then some fl.egress else none,
                egress := p, cls := x.2, flow := if x.2 = fl.cls then fl.flow else x.1.flowOf fl.epoch x.2 fl.vsw (some p),
                chan := fl.kind.chan, len := len, ep := fl.epoch, vc := fl.vc, extra := fl.respExtra }

theorem respondPort_eq (d : Dev) (fl : Flight) (p : Nat) (a : Answer) :
    d.respondPort fl p a = if a = .silent then d else d.respondWith fl p a.parts.1 a.parts.2 := by
  cases a <;> rfl

/-- What follows an answer toward a port: nothing that waits is lost, and the response waits where the port is up. -/
theorem respondWith_queues (d : Dev) (fl : Flight) (p : Nat) (dat : Option Nat) (poi : Bool) :
    d.queuesTo (d.respondWith fl p dat poi) ∧
      (d.portUp p = true → (d.respondWith fl p dat poi).waits p (.response fl.hostTag dat poi fl.rsv)) := by
  unfold Dev.respondWith
  split
  next hup =>
    refine ⟨?_, fun h => absurd h (by simpa using hup)⟩
    split
    · exact fadd_queuesTo _ _ _ _ _
    · exact queuesTo_refl d
  · extract_lets len x
    have hx : d.queuesTo x.1 := by
      simp only [x]
      split
      · exact ridgeResponse_queuesTo _ _ _ _ _ _
      · exact queuesTo_refl d
    exact ⟨hx.trans (offer_queuesTo _ _), fun _ => offer_waits _ _⟩

theorem respondPort_queuesTo (d : Dev) (fl : Flight) (p : Nat) (a : Answer) : d.queuesTo (d.respondPort fl p a) := by
  rw [respondPort_eq]
  split
  · exact queuesTo_refl d
  · exact (respondWith_queues _ _ _ _ _).1

theorem respondPort_waits (d : Dev) (fl : Flight) (p : Nat) {a : Answer} (ha : a ≠ .silent) (hp : d.portUp p = true) :
    (d.respondPort fl p a).waits p (.response fl.hostTag a.parts.1 a.parts.2 fl.rsv) := by
  rw [respondPort_eq, if_neg ha]
  exact (respondWith_queues _ _ _ _ _).2 hp

theorem respondPort_trafficTo (d : Dev) (fl : Flight) (p : Nat) (a : Answer) : d.trafficTo (d.respondPort fl p a) :=
  (respondPort_queuesTo d fl p a).trafficTo

theorem lenderSend_trafficTo (d : Dev) (e : Bool) (p c flow tag lender borrower dpa status : Nat) (write : Bool)
    (data : Option (Nat × Bool)) : d.trafficTo (d.lenderSend e p c flow tag lender borrower dpa status write data) := by
  unfold Dev.lenderSend
  dsimp only
  split
  · exact (trafficTo_refl d).ite (trafficTo_of_core rfl)
  · exact (offer_queuesTo _ _).trafficTo

/-! Requests in flight changed or ended -/

theorem setFlight_trafficTo (d : Dev) (tag : Nat) (f : Flight → Flight) (hf : ∀ x, (f x).tag = x.tag) :
    d.trafficTo (d.setFlight tag f) := by
  refine trafficTo_of_tags rfl rfl rfl fun y hy => ?_
  obtain ⟨x, hx, rfl⟩ := List.mem_map.mp hy
  refine ⟨x, hx, ?_⟩
  split
  · exact (hf x).symm
  · rfl

theorem dropFlight_trafficTo (d : Dev) (tag : Nat) : d.trafficTo (d.dropFlight tag) :=
  trafficTo_of_tags rfl rfl rfl fun y hy => ⟨y, List.mem_of_mem_filter hy, rfl⟩

theorem dropFlights_trafficTo (d : Dev) (sel : FlightSrc → Bool) : d.trafficTo (d.dropFlights sel) :=
  trafficTo_of_tags rfl rfl rfl fun y hy => ⟨y, List.mem_of_mem_filter hy, rfl⟩

theorem launch_trafficTo (d : Dev) (fl : Flight) : d.trafficTo (d.launch fl).1 := by
  refine ⟨Nat.le_succ _, fun f hf => ?_, fun _ _ h => h⟩
  rcases List.mem_append.mp hf with h | h
  · exact .inl ⟨f, h, rfl⟩
  · rw [List.mem_singleton] at h
    exact .inr (by rw [h])

theorem waitIn_trafficTo (d : Dev) (tag : Nat) (p : FPhase) : d.trafficTo (d.waitIn tag p) :=
  setFlight_trafficTo d tag _ fun _ => rfl

theorem lenderAnswer_trafficTo (d : Dev) (fl : Flight) (status : Nat) (data : Option (Nat × Bool)) :
    d.trafficTo (d.lenderAnswer fl status data) := by
  unfold Dev.lenderAnswer
  split
  · dsimp only
    refine Dev.trafficTo.trans ?_ (lenderSend_trafficTo _ _ _ _ _ _ _ _ _ _ _ _)
    split
    · exact (dropFlight_trafficTo d _).trans (ridgeResponse_queuesTo _ _ _ _ _ _).trafficTo
    · exact dropFlight_trafficTo d _
    · exact dropFlight_trafficTo d _
  · exact trafficTo_refl d

/-! Work that ends -/

theorem workEnd_core (d : Dev) (id status result : Nat) : (d.workEnd id status result).core = d.core := by
  unfold Dev.workEnd
  split
  · rfl
  · split
    · rfl
    · simp only [Dev.jobDone]
      split <;> split <;> simp [Dev.freeSlotOf, Dev.scratchStore, Dev.dropWork]

theorem workCheck_core (d : Dev) (id : Nat) : (d.workCheck id).core = d.core := by
  unfold Dev.workCheck
  split
  · rfl
  · split
    · split
      · rfl
      · split
        · exact workEnd_core _ _ _ _
        · split
          · exact workEnd_core _ _ _ _
          · rfl
    · rfl

theorem chunkFailed_core (d : Dev) (fl : Flight) (status : Nat) : (d.chunkFailed fl status).core = d.core := by
  unfold Dev.chunkFailed
  split
  · refine (workCheck_core _ _).trans ?_
    split <;> rfl
  · rfl

theorem recopy_core (d : Dev) (k i : Nat) : (d.recopy k i).core = d.core := by
  unfold Dev.recopy
  split <;> rfl

theorem answer_trafficTo (d : Dev) (fl : Flight) (a : Answer) : d.trafficTo (d.answer fl a) := by
  have hkeep (v : Nat) (x : Bool) : d.trafficTo (d.setFlight fl.tag fun y => { y with phase := .sent, answer := some (v, x) }) :=
    setFlight_trafficTo d _ _ fun _ => rfl
  have hdrop := dropFlight_trafficTo d fl.tag
  unfold Dev.answer
  dsimp only
  split
  · exact hdrop.trans (respondPort_trafficTo _ _ _ _)
  · split
    · exact hkeep _ _
    · exact hdrop.ite (hkeep _ _)
  · split
    · exact hkeep _ _
    · exact hdrop.ite (hkeep _ _)
  · split
    · exact hkeep _ _
    · exact (hkeep _ _).ite (hkeep _ _)
  · split
    · exact hkeep _ _
    · exact (hkeep _ _).ite (hkeep _ _)
  · split
    · exact hkeep _ _
    · exact hdrop.core (chunkFailed_core _ _ _)
    · exact hkeep _ _
  · exact hdrop
  · split
    · exact hdrop.core rfl
    · exact hdrop
  · exact lenderAnswer_trafficTo _ _ _ _

theorem synthRead_core (d : Dev) (status : Nat) : (d.synthRead status).core = d.core := by
  unfold Dev.synthRead
  split <;> rfl

theorem lostWrite_core (d : Dev) (p : Nat) : (d.lostWrite p).core = d.core := by
  unfold Dev.lostWrite
  rw [raise_core]
  rfl

theorem postFailed_core (d : Dev) (t : Nat) : (d.postFailed t).core = d.core := rfl

theorem refill_core (d : Dev) (key chunk : Nat) : (d.refill key chunk).core = d.core := rfl

theorem endRequest_trafficTo (d : Dev) (fl : Flight) (status : Nat) : d.trafficTo (d.endRequest fl status) := by
  have hans {e : Dev} (h : e.core = d.core) (a : Answer) : d.trafficTo (e.answer fl a) :=
    (trafficTo_of_core h).trans (answer_trafficTo e fl a)
  have hcount (f : Fld) (a : Answer) : d.trafficTo ((d.fadd f 1).answer fl a) := hans (fadd_core d f 1 0 0) a
  have hsome (c : Prop) [Decidable c] (f : Fld) (a : Answer) : d.trafficTo ((if c then d else d.fadd f 1).answer fl a) :=
    hans (by split <;> rfl) a
  have hdrop := dropFlight_trafficTo d fl.tag
  unfold Dev.endRequest
  split
  · split
    · exact hcount _ _
    · exact hcount _ _
    · exact hcount _ _
    · exact hcount _ _
    · exact hcount _ _
    · exact answer_trafficTo _ _ _
    · exact answer_trafficTo _ _ _
    · exact hcount _ _
    · exact hcount _ _
    · exact hcount _ _
    · exact hsome _ _ _
    · exact hsome _ _ _
    · exact hcount _ _
  · exact (hdrop.core (postFailed_core _ _)).ite (hans (synthRead_core _ _) _)
  · refine hans ?_ _
    split
    · rfl
    · exact synthRead_core _ _
  · exact (hans (synthRead_core _ _) _).ite (hdrop.core (chunkFailed_core _ _ _))
  · exact hdrop
  · exact hdrop
  · exact hdrop.core (recopy_core _ _ _)
  · exact (dropFlights_trafficTo d _).core (refill_core _ _ _)
  · exact lenderAnswer_trafficTo _ _ _ _

theorem lostAnswer_trafficTo (d : Dev) (fl : Flight) : d.trafficTo (d.lostAnswer fl) := by
  unfold Dev.lostAnswer
  exact (answer_trafficTo _ _ _).ite (((trafficTo_of_core (lostWrite_core d _)).trans (answer_trafficTo _ _ _)).ite
    (answer_trafficTo _ _ _))

theorem unplacedAnswer_trafficTo (d : Dev) (fl : Flight) : d.trafficTo (d.unplacedAnswer fl) := by
  unfold Dev.unplacedAnswer
  split
  · exact (dropFlight_trafficTo d _).core (chunkFailed_core _ _ _)
  · exact lostAnswer_trafficTo _ _
  · exact endRequest_trafficTo _ _ _

end Sys2Proof.Machine
end

section
namespace Sys2Proof.Machine

/-! Requests queued, routed, served by the directory -/

theorem classify_queuesTo (d : Dev) (fl : Flight) (egress len : Nat) : d.queuesTo (d.classify fl egress len).1 := by
  have hpick (c : Nat) : d.queuesTo
      (if c = 0 then d.ridgeRequest fl.epoch egress fl.src.ingress len else (d, c, none)).1 := by
    split
    · exact ridgeRequest_queuesTo _ _ _ _ _
    · exact queuesTo_refl d
  unfold Dev.classify
  dsimp only
  split
  · exact hpick _
  · exact hpick _

/-- A request that is queued keeps its tag. -/
theorem queueFlight_trafficTo (d : Dev) (fl : Flight) (egress ld dpa len : Nat) (body : QBody) :
    d.trafficTo (d.queueFlight fl egress ld dpa len body) := by
  unfold Dev.queueFlight
  dsimp only
  refine Dev.trafficTo.trans ?_ (offer_queuesTo _ _).trafficTo
  refine Dev.trafficTo.trans (classify_queuesTo d fl egress len).trafficTo ?_
  exact setFlight_trafficTo _ _ _ fun _ => rfl

theorem queueFlight_waits (d : Dev) (fl : Flight) (egress ld dpa len : Nat) (body : QBody) :
    (d.queueFlight fl egress ld dpa len body).waits egress body := by
  unfold Dev.queueFlight
  exact offer_waits _ _

theorem toDevice_trafficTo (d : Dev) (fl : Flight) (v dpa : Nat) : d.trafficTo (d.toDevice fl v dpa) := by
  unfold Dev.toDevice
  extract_lets p fill copy w ld
  exact ((endRequest_trafficTo _ _ _).ite (lostAnswer_trafficTo _ _)).ite
    ((queueFlight_trafficTo _ _ _ _ _ _ _).ite (queueFlight_trafficTo _ _ _ _ _ _ _))

theorem writeCopied_core (d : Dev) (pool : Nat) : (d.writeCopied pool).core = d.core := by
  unfold Dev.writeCopied
  split
  · exact recopy_core _ _ _
  · rfl

theorem routeMem_trafficTo (d : Dev) (tag : Nat) : d.trafficTo (d.routeMem tag) := by
  unfold Dev.routeMem
  split
  · exact trafficTo_refl d
  · split
    · exact unplacedAnswer_trafficTo _ _
    · exact lostAnswer_trafficTo _ _
    · split
      · exact answer_trafficTo _ _ _
      · split
        · exact setFlight_trafficTo _ _ _ fun _ => rfl
        · refine Dev.trafficTo.trans ?_ (toDevice_trafficTo _ _ _ _)
          exact (trafficTo_of_core (writeCopied_core _ _)).ite (trafficTo_refl d)

theorem toMemory_trafficTo (d : Dev) (tag : Nat) : d.trafficTo (d.toMemory tag) := by
  unfold Dev.toMemory
  split
  · exact trafficTo_refl d
  · split
    · exact setFlight_trafficTo _ _ _ fun _ => rfl
    · exact routeMem_trafficTo _ _

theorem lenderGo_trafficTo (d : Dev) (tag : Nat) : d.trafficTo (d.lenderGo tag) := by
  unfold Dev.lenderGo
  split
  · exact trafficTo_refl d
  · split
    · exact (queueFlight_trafficTo _ _ _ _ _ _ _).ite
        ((trafficTo_of_core (slotDone_keeps _ _ _).1).trans (lenderAnswer_trafficTo _ _ _ _))
    · exact trafficTo_refl d

theorem settle_trafficTo (d : Dev) : d.trafficTo d.settle := by
  unfold Dev.settle
  refine Dev.trafficTo.foldl ((trafficTo_refl d).foldl routeMem_trafficTo _) (fun e t => ?_) _
  split
  · exact (lenderGo_trafficTo _ _).ite (trafficTo_refl e)
  · exact trafficTo_refl e

theorem setEntry_core (d : Dev) (i : Nat) (e : DirEntry) : (d.setEntry i e).core = d.core := by
  unfold Dev.setEntry
  simp -implicitDefEqProofs only [wr_core, ite_core, fadd_core, fsub_core, ite_self]
  rw [foldl_keeps Dev.core _ (fun d v => fadd_core d _ _ _ _), foldl_keeps Dev.core _ (fun d v => fsub_core d _ _ _ _)]
  simp only [fadd_core, fsub_core]

theorem setEntry_trafficTo (d : Dev) (i : Nat) (e : DirEntry) : d.trafficTo (d.setEntry i e) :=
  trafficTo_of_core (setEntry_core d i e)

theorem queueSnoop_trafficTo (d : Dev) (ep : Bool) (v hpa kind : Nat) : d.trafficTo (d.queueSnoop ep v hpa kind) :=
  (offer_queuesTo _ _).trafficTo

theorem snoopAll_trafficTo (d : Dev) (ep : Bool) (line kind : Nat) (why : SnoopWhy) (vs : List Nat) :
    d.trafficTo (d.snoopAll ep line kind why vs).1 := by
  unfold Dev.snoopAll
  generalize hp : (d, ([] : List Nat)) = p
  have hd : d.trafficTo p.1 := by rw [← hp]; exact trafficTo_refl d
  clear hp
  induction vs generalizing p with
  | nil => exact hd
  | cons v vs ih =>
    refine ih _ (hd.trans ?_)
    dsimp only
    split
    · exact trafficTo_of_core (raise_core _ _ _)
    next hpa _ =>
      have hs : p.1.trafficTo (p.1.setSnoops (p.1.dir.snoops ++ [{ line := line, host := v, kind := kind, why := why, hpa := hpa }])) :=
        trafficTo_of_core rfl
      exact (hs.trans (queueSnoop_trafficTo _ ep v hpa kind)).trans (trafficTo_of_core (fadd_core _ _ _ _ _))

theorem poisonLine_trafficTo (d : Dev) (line : Nat) : d.trafficTo (d.poisonLine line) := by
  unfold Dev.poisonLine
  exact ((trafficTo_of_core (fadd_core d _ _ _ _)).trans (launch_trafficTo _ _)).trans (routeMem_trafficTo _ _)

/-- The definition is opened by `delta` on the function alone: its equation lemma is too deep for the kernel. -/
theorem evict_trafficTo (d : Dev) (i : Nat) (why : SnoopWhy) : d.trafficTo (d.evict i why).1 := by
  generalize hp : d.evict i why = p
  generalize hF : Dev.evict = F at hp
  delta Dev.evict at hF
  subst hF
  beta_reduce at hp
  extract_lets e line d1 d2 at hp
  have h1 : d.trafficTo d1 := trafficTo_of_core (fadd_core d _ _ _ _)
  have h2 : d.trafficTo d2 := by
    simp only [d2]
    split
    · exact h1.trans (poisonLine_trafficTo _ _)
    · exact h1
  have h3 := h2.trans (snoopAll_trafficTo d2 d2.commits.epoch line 0 why (hostsOf (d2.seen e)))
  split at hp
  next d3 vs h =>
    rw [h] at h3
    split at hp
    · rw [← hp]
      exact h3.trans (setEntry_trafficTo _ _ _)
    · rw [← hp]
      exact h3.trans (setEntry_trafficTo _ _ _)

theorem setWait_trafficTo (d : Dev) (fl : Flight) : d.trafficTo (d.setWait fl) := by
  unfold Dev.setWait
  split
  · exact (waitIn_trafficTo _ _ _).core ((fset_core _ _ _ _ _).trans (fadd_core _ _ _ _ _))
  · split
    · exact (waitIn_trafficTo _ _ _).ite (waitIn_trafficTo _ _ _)
    · exact waitIn_trafficTo _ _ _

theorem needWay_trafficTo (d : Dev) (fl : Flight) (s : Nat) : d.trafficTo (d.needWay fl s).1 := by
  have hrecent (e : Dev) (is : List Nat) : e.trafficTo (is.foldl (fun d j => d.setEntry j { d.entry j with recent := false }) e) :=
    (trafficTo_refl e).foldl (fun y j => setEntry_trafficTo y j _) is
  fun_cases Dev.needWay d fl s with
  | case1 => exact trafficTo_refl d
  | case2 => exact setWait_trafficTo d fl
  | case3 _ i is _ cold d1 pick d2 h =>
    have h1 : d.trafficTo d1 := (hrecent d _).ite (trafficTo_refl d)
    have h2 := h1.trans (evict_trafficTo d1 pick (.evict fl.tag))
    rwa [h] at h2
  | case4 _ i is _ cold d1 pick d2 h =>
    have h1 : d.trafficTo d1 := (hrecent d _).ite (trafficTo_refl d)
    have h2 := h1.trans (evict_trafficTo d1 pick (.evict fl.tag))
    rw [h] at h2
    exact h2.trans (waitIn_trafficTo _ _ _)

theorem record_trafficTo (d : Dev) (i : Nat) (old new : DirEntry) (fl : Flight) : d.trafficTo (d.record i old new fl) := by
  unfold Dev.record
  have h := setEntry_trafficTo d i new
  dsimp only
  split
  · split
    · refine h.trans ?_
      exact setFlight_trafficTo _ _ _ fun _ => rfl
    · exact h
  · exact h

theorem serveMiss_trafficTo (d : Dev) (fl : Flight) (k : AccKind) : d.trafficTo (d.serveMiss fl k) := by
  unfold Dev.serveMiss
  split
  · exact setWait_trafficTo _ _
  · split
    · split
      · have h := needWay_trafficTo d fl (dirSet fl.addr)
        split
        next hw =>
          rw [hw] at h
          exact (h.trans (record_trafficTo _ _ _ _ _)).trans (toMemory_trafficTo _ _)
        next hw => rwa [hw] at h
      · exact toMemory_trafficTo _ _
    · exact toMemory_trafficTo _ _

theorem serveHit_trafficTo (d : Dev) (fl : Flight) (i : Nat) (e : DirEntry) (k : AccKind) :
    d.trafficTo (d.serveHit fl i e k) := by
  unfold Dev.serveHit
  dsimp only
  have h := snoopAll_trafficTo d fl.epoch fl.line (e.targets k fl.host (d.seen e)).2 (.request fl.tag)
    (e.targets k fl.host (d.seen e)).1
  split
  · exact (h.trans (setEntry_trafficTo _ _ _)).trans (waitIn_trafficTo _ _ _)
  · exact (h.trans (record_trafficTo _ _ _ _ _)).trans (toMemory_trafficTo _ _)

theorem dirServe_trafficTo (d : Dev) (tag : Nat) : d.trafficTo (d.dirServe tag) := by
  unfold Dev.dirServe
  split
  · exact trafficTo_refl d
  · split
    · exact routeMem_trafficTo _ _
    · extract_lets i? e? owner k returned v
      clear_value v returned k owner e? i?
      split
      · refine Dev.trafficTo.trans ?_ (toMemory_trafficTo _ _)
        split
        · exact setEntry_trafficTo _ _ _
        · exact trafficTo_refl d
      · split
        · exact waitIn_trafficTo _ _ _
        · split
          · split
            · exact waitIn_trafficTo _ _ _
            · split
              · exact ((poisonLine_trafficTo _ _).trans (setEntry_trafficTo _ _ _)).trans (serveMiss_trafficTo _ _ _)
              · exact serveHit_trafficTo _ _ _ _ _
          · exact serveMiss_trafficTo _ _ _

theorem fillSlots_trafficTo (d : Dev) : d.trafficTo d.fillSlots := by
  unfold Dev.fillSlots
  exact Dev.trafficTo.core ((trafficTo_refl d).foldl (fun y (f : Flight) => (waitIn_trafficTo y f.tag _).core (fadd_core _ _ _ _ _)) _)
    (fset_core _ _ _ _ _)

/-- A held request moves to the end of the flights. -/
theorem requeued_trafficTo (d : Dev) (fl : Flight) (h : fl ∈ d.core.flights) : d.trafficTo
    { d with core := { d.core with flights := (d.core.flights.filter fun f => f.tag != fl.tag) ++ [fl] } } := by
  refine trafficTo_of_tags rfl rfl rfl fun f hf => ⟨f, ?_, rfl⟩
  rcases List.mem_append.mp hf with hf | hf
  · exact List.mem_of_mem_filter hf
  · rwa [List.mem_singleton.mp hf]

theorem dirStep_trafficTo (n : Nat) (d : Dev) : d.trafficTo (Dev.dirStep n d) := by
  induction n generalizing d with
  | zero => exact trafficTo_refl d
  | succ n ih =>
    have hfill := fillSlots_trafficTo d
    unfold Dev.dirStep
    extract_lets d1
    split
    · exact hfill
    next fl hfl =>
      have hmem : fl ∈ d1.core.flights := List.mem_of_find?_eq_some hfl
      extract_lets again d2 d3
      have h2 : d.trafficTo d2 := (hfill.trans (requeued_trafficTo d1 fl hmem)).ite hfill
      have h3 : d.trafficTo d3 := (h2.trans (routeMem_trafficTo _ _)).ite
        ((h2.trans (waitIn_trafficTo _ _ _)).trans (dirServe_trafficTo _ _))
      exact h3.trans (ih d3)

theorem dirSettle_trafficTo (d : Dev) : d.trafficTo d.dirSettle := by
  unfold Dev.dirSettle
  exact ((settle_trafficTo d).trans (dirStep_trafficTo _ _)).trans (fillSlots_trafficTo _)

end Sys2Proof.Machine
end

section
namespace Sys2Proof.Machine

/-! A command's effect, and the commands that have none -/

/-- A command's next device is what its effect makes of the device, but for fuses and boot, which no command changes. -/
theorem onDev_after {s : State} {f : Dev → Dev} {P : Dev → Prop} (h : s.dev.inReset = false)
    (hp : ∀ x : Dev, x.core = (f s.dev).core → x.out = (f s.dev).out → P x) :
    ∃ d, onDev s f = .next { s with dev := d } ∧ P d := by
  refine ⟨{ f s.dev with gable := { (f s.dev).gable with boot := s.dev.gable.boot }, fuses := s.dev.fuses }, ?_, hp _ rfl rfl⟩
  unfold onDev onAny onReset
  simp [h]

theorem onDev_idle {s : State} {f : Dev → Dev} (h : s.dev.inReset = false) (hf : f s.dev = s.dev) : onDev s f = .next s := by
  rw [onDev_next s f h (by rw [hf]) (by rw [hf]), hf]

theorem onDev_to {s : State} {f : Dev → Dev} {d : Dev} (h : s.dev.inReset = false) (hf : f s.dev = d)
    (hb : d.gable = s.dev.gable) (hfu : d.fuses = s.dev.fuses) : onDev s f = .next { s with dev := d } := by
  subst hf
  exact onDev_next s f h (congrArg Gable.boot hb) hfu

/-! What waits for a stall's end and for an earlier access: nothing -/

/-- No request in flight waits for a stall to end or for an earlier access. -/
def Dev.unheld (d : Dev) : Prop := ∀ f ∈ d.core.flights, f.phase ≠ .resumed ∧ f.phase ≠ .behind

theorem settle_unheld {d : Dev} (h : d.unheld) : d.settle = d := by
  have hnone (ph : FPhase) (hp : ∀ f ∈ d.core.flights, f.phase ≠ ph) : (d.core.flights.filter fun f => f.phase == ph) = [] :=
    List.filter_eq_nil_iff.mpr fun f hf => by simpa using hp f hf
  unfold Dev.settle
  rw [hnone .resumed fun f hf => (h f hf).1]
  simp only [List.map_nil, List.foldl_nil]
  rw [hnone .behind fun f hf => (h f hf).2]
  simp only [List.map_nil, List.foldl_nil]

/-! Messages that do not arrive, and the host's two configuration writes -/

section
variable {s : State} (h : s.dev.inReset = false)
include h

theorem ingressMessage_down (p : Fin 128) (m : PortMsg) (errs : List PathErr)
    (hd : s.dev.portUp p = false ∨ s.dev.inL1 p = true) : exec (.ingressMessage p m errs) s = .next s := by
  unfold exec execIngressMessage
  refine onDev_idle h (if_pos ?_)
  rcases hd with hd | hd
  · simp [hd]
  · simp [hd]

theorem pbrMessage_down (p : Fin 128) (vc : Fin 8) (dpid : BitVec 12) (m : PortMsg) (errs : List PathErr)
    (hd : s.dev.portUp p = false) : exec (.pbrMessage p vc dpid m errs) s = .next s := by
  unfold exec execPbrMessage
  exact onDev_idle h (if_pos (by simp [hd]))

end

/-- A message arrives on a port that is up and not in L1, and is not kept back. -/
theorem arrives {d : Dev} {p : Nat} {m : PortMsg} (hu : d.portUp p = true) (hl : d.inL1 p = false) (hk : d.keptBack p m = false) :
    ¬ (!(d.portUp p) || d.inL1 p || d.keptBack p m) = true := by simp [hu, hl, hk]

theorem biEnable_ends {s : State} (h : s.dev.inReset = false) (p : Fin 128) (hu : s.dev.portUp p = true) (hl : s.dev.inL1 p = false)
    (hm : s.dev.portMode p = 1) (on : Bool) : Ends (.ingressMessage p (.biEnable on) []) s
      (s.dev.fset DIR_HOST_STAT.BI_EN on.toNat 0 (s.dev.fget CXP_PORT_CFG.VSW p)) := by
  unfold Ends exec execIngressMessage
  refine onDev_to h ?_ (fset_gable _ _ _ _ _) (fset_fuses _ _ _ _ _)
  rw [if_neg (arrives hu hl rfl)]
  exact if_pos hm

/-- The bridges contained after a write of one bridge's containment. -/
theorem mem_contained (bs : List Nat) (vb b : Nat) (on : Bool) :
    (b ∈ if on then bs.filter (· != vb) ++ [vb] else bs.filter (· != vb)) ↔ if b = vb then on = true else b ∈ bs := by
  by_cases hb : b = vb
  · cases on <;> simp [hb]
  · cases on <;> simp [hb]

theorem dpcEnable_runs {s : State} (h : s.dev.inReset = false) (p : Fin 128) (hu : s.dev.portUp p = true) (hl : s.dev.inL1 p = false)
    (hm : s.dev.portMode p = 1) (vb : Nat) (on : Bool) : Runs (.ingressMessage p (.dpcEnable vb on) []) s fun x =>
      (∀ b, b ∈ (x.pool (s.dev.fget CXP_PORT_CFG.VSW p)).dpc ↔
        if b = vb then on = true else b ∈ (s.dev.pool (s.dev.fget CXP_PORT_CFG.VSW p)).dpc) ∧
      x.regs = s.dev.regs ∧ x.core = s.dev.core := by
  refine ⟨s.dev.hostAsks (s.dev.fget CXP_PORT_CFG.VSW p) (.dpcEnable vb on), ?_, fun b => ?_, rfl, rfl⟩
  · unfold Ends exec execIngressMessage
    refine onDev_to h ?_ rfl rfl
    rw [if_neg (arrives hu hl rfl)]
    exact if_pos hm
  · rw [← mem_contained]
    unfold Dev.hostAsks Dev.setPool Dev.pool
    rw [tab_get_set_same]

/-! A held message admitted -/

theorem heldBefore_iff (hs : List (Option Nat × QMsg)) (m : QMsg) : Dev.heldBefore hs m = true ↔
    ∃ h ∈ hs, h.1 = m.ingress ∧ h.2.cls = m.cls ∧ h.2.chan = m.chan ∧ (m.ingress ≠ none ∨ h.2.egress = m.egress) := by
  simp [Dev.heldBefore, Option.isSome_iff_ne_none, and_assoc]

section
variable {s : State} (h : s.dev.inReset = false) {n : Nat}
include h

theorem bufferAdmit_none (hn : s.dev.core.holds[n]? = none) : exec (.bufferAdmit n) s = .next s := by
  unfold exec execBufferAdmit
  refine onDev_idle h ?_
  rw [hn]

variable {i : Option Nat} {m : QMsg} (hn : s.dev.core.holds[n]? = some (i, m))
include hn

theorem bufferAdmit_behind (hb : Dev.heldBefore (s.dev.core.holds.take n) m = true) : exec (.bufferAdmit n) s = .next s := by
  unfold exec execBufferAdmit
  refine onDev_idle h ?_
  rw [hn]
  exact if_pos hb

theorem bufferAdmit_full (ha : s.dev.admitPart m = none) : exec (.bufferAdmit n) s = .next s := by
  unfold exec execBufferAdmit
  refine onDev_idle h ?_
  rw [hn]
  dsimp only
  rw [ha]
  exact ite_self _

theorem bufferAdmit_runs {part : BufPart} (hb : ¬ Dev.heldBefore (s.dev.core.holds.take n) m = true)
    (ha : s.dev.admitPart m = some part) : Runs (.bufferAdmit n) s fun x =>
      x.core.holds = s.dev.core.holds.eraseIdx n ∧ x.core.buf = s.dev.core.buf ++ [s.dev.stamped m part] := by
  unfold Runs Ends exec execBufferAdmit
  refine onDev_after h fun x hc _ => ?_
  rw [hc, hn]
  dsimp only
  rw [if_neg hb, ha]
  dsimp only
  rw [(slotDone_keeps _ _ _).1, (enqueue_keeps _ _ _).1]
  exact ⟨rfl, rfl⟩

end

end Sys2Proof.Machine
end

section
namespace Sys2Proof.Machine

/-! Responses that arrive -/

theorem Answer.not_silent {c : Prop} [Decidable c] {v : Nat} {x : Bool} : (if c then Answer.data v x else .done) ≠ .silent := by
  split
  · exact Answer.noConfusion
  · exact Answer.noConfusion

/-- A response to no request is discarded and logged. -/
theorem portResponse_none {d : Dev} {p tag : Nat} (hw : d.awaited p tag = none) (ho : d.core.orphans = []) (v extra : Nat)
    (x bad : Bool) : d.portResponse p tag (.data v x) extra bad = d.send (.log "response discarded" tag) := by
  have horphan (is : Nat → Bool) : d.orphanAnswer p is true = d := by
    unfold Dev.orphanAnswer
    dsimp only
    rw [ho]
    rfl
  unfold Dev.portResponse
  rw [hw]
  dsimp only
  rw [horphan]

theorem awaited_none {d : Dev} {p tag : Nat}
    (h : ∀ f ∈ d.core.flights, f.tag ≠ tag ∨ f.egress ≠ p ∨ f.phase ≠ .sent ∨ f.answer ≠ none) :
    d.awaited p tag = none := by
  refine List.find?_eq_none.mpr fun f hf => ?_
  have := h f hf
  simp only [Bool.and_eq_true, beq_iff_eq, Option.isNone_iff_eq_none]
  tauto

theorem awaited_some {d : Dev} {p tag : Nat} {fl : Flight} (h : d.awaited p tag = some fl) :
    fl ∈ d.core.flights ∧ fl.tag = tag := by
  refine ⟨List.mem_of_find?_eq_some h, ?_⟩
  have := List.find?_some h
  simp only [Bool.and_eq_true, beq_iff_eq] at this
  exact this.1.1.1

/-- The answer that completes a host's request drops it and waits at the host's port. -/
theorem portAnswer_completes {d : Dev} {fl : Flight} {q : Nat} {a : Answer} (hs : fl.src = .port q) (ht : fl.tag < d.core.nextTag)
    (ha : a ≠ .silent) {x : Dev} (hx : (d.answer fl a).trafficTo x) :
    (∀ f ∈ x.core.flights, f.tag ≠ fl.tag) ∧
      (d.portUp q = true → x.waits q (.response fl.hostTag a.parts.1 a.parts.2 fl.rsv)) := by
  have hans : d.answer fl a = (d.dropFlight fl.tag).respondPort fl q a := by
    unfold Dev.answer
    rw [hs]
  rw [hans] at hx
  have hq := respondPort_queuesTo (d.dropFlight fl.tag) fl q a
  refine ⟨fun f hf he => ?_, fun hu => hx.waits _ _ (respondPort_waits (d.dropFlight fl.tag) fl q ha hu)⟩
  rcases hx.tags f hf with ⟨g, hg, hgf⟩ | hle
  · rw [hq.flights] at hg
    have := List.of_mem_filter hg
    simp [hgf, he] at this
  · rw [hq.nextTag] at hle
    have : d.core.nextTag ≤ f.tag := hle
    omega

/-- A response gives its answer to the request that awaits it. -/
theorem portResponse_port {d : Dev} {p tag q : Nat} {fl : Flight} (hw : d.awaited p tag = some fl) (hs : fl.src = .port q)
    (v extra : Nat) (x bad : Bool) : ∃ a : Answer, a ≠ .silent ∧
      d.portResponse p tag (.data v x) extra bad = (d.answer { fl with respExtra := extra } a).dirSettle := by
  unfold Dev.portResponse
  rw [hw]
  dsimp only
  rw [hs]
  exact ⟨_, Answer.not_silent, rfl⟩

/-- A response completes the request that awaits it. -/
theorem portResponse_completes {d : Dev} {p tag q : Nat} {fl : Flight} (hw : d.awaited p tag = some fl) (hs : fl.src = .port q)
    (ht : fl.tag < d.core.nextTag) (v extra : Nat) (x bad : Bool) {y : Dev}
    (hy : (d.portResponse p tag (.data v x) extra bad).trafficTo y) :
    (∀ f ∈ y.core.flights, f.tag ≠ tag) ∧
      (d.portUp q = true → ∃ dat x', y.waits q (.response fl.hostTag dat x' fl.rsv)) := by
  obtain ⟨-, htag⟩ := awaited_some hw
  obtain ⟨a, ha, heq⟩ := portResponse_port hw hs v extra x bad
  rw [heq] at hy
  have hx := (dirSettle_trafficTo (d.answer { fl with respExtra := extra } a)).trans hy
  obtain ⟨htags, hwaits⟩ := portAnswer_completes (fl := { fl with respExtra := extra }) hs ht ha hx
  exact ⟨htag ▸ htags, fun hu => ⟨_, _, hwaits hu⟩⟩

section
variable {s : State} (h : s.dev.inReset = false) {p : Fin 128} {tag : Nat} (data : Nat) (poison : Bool) (ex : Nat)
  (hu : s.dev.portUp p = true) (hl : s.dev.inL1 p = false)
include h hu hl

theorem response_discarded (hh : s.dev.unheld) (ho : s.dev.core.orphans = [])
    (hf : ∀ f ∈ s.dev.core.flights, f.tag ≠ tag ∨ f.egress ≠ p.val ∨ f.phase ≠ .sent ∨ f.answer ≠ none) :
    Ends (.ingressMessage p (.response tag data poison ex) []) s (s.dev.send (.log "response discarded" tag)) := by
  have hw := awaited_none hf
  have hk : s.dev.keptBack p (.response tag data poison ex) = false := by
    unfold Dev.keptBack Dev.msgChan
    dsimp only
    rw [hw]
    rfl
  unfold Ends exec execIngressMessage
  refine onDev_to h ?_ (send_gable _ _) (send_fuses _ _)
  rw [if_neg (arrives hu hl hk)]
  refine (congrArg Dev.settle (portResponse_none hw ho _ _ _ _)).trans ?_
  exact settle_unheld hh

theorem response_completes {fl : Flight} {q : Nat} (hw : s.dev.awaited p tag = some fl)
    (hk : s.dev.withholds p fl.kind.chan = false) (hs : fl.src = .port q) (ht : fl.tag < s.dev.core.nextTag) :
    Runs (.ingressMessage p (.response tag data poison ex) []) s fun x => (∀ f ∈ x.core.flights, f.tag ≠ tag) ∧
      (s.dev.portUp q = true → ∃ dat x', x.waits q (.response fl.hostTag dat x' fl.rsv)) := by
  have hk : s.dev.keptBack p (.response tag data poison ex) = false := by
    unfold Dev.keptBack Dev.msgChan
    dsimp only
    rw [hw]
    exact hk
  unfold Runs Ends exec execIngressMessage
  refine onDev_after h fun x hc _ => portResponse_completes hw hs ht data ex poison false ?_
  rw [if_neg (arrives hu hl hk)] at hc
  exact (settle_trafficTo _).core hc

end

end Sys2Proof.Machine
end

section
namespace Sys2Proof.Machine

/-! The request last admitted -/

/-- The requests in flight are `fs` and, last, one under a tag of its own. -/
def Dev.lastIs (d : Dev) (fs : List Flight) (fl : Flight) : Prop := d.core.flights = fs ++ [fl] ∧ ∀ f ∈ fs, f.tag ≠ fl.tag

/-- The device with one more request in flight. -/
def Dev.withFlight (d : Dev) (fl : Flight) : Dev :=
  { d with core := { d.core with flights := d.core.flights ++ [fl], nextTag := d.core.nextTag + 1 } }

section
variable {d x : Dev} {fs : List Flight} {fl : Flight}

theorem withFlight_lastIs (h : ∀ f ∈ d.core.flights, f.tag < fl.tag) : (d.withFlight fl).lastIs d.core.flights fl :=
  ⟨rfl, fun f hf => (h f hf).ne⟩

theorem Dev.lastIs.core (h : d.lastIs fs fl) (hc : x.core = d.core) : x.lastIs fs fl := by
  unfold Dev.lastIs
  rwa [hc]

theorem Dev.lastIs.flight (h : d.lastIs fs fl) : d.flight fl.tag = some fl := by
  unfold Dev.flight
  rw [h.1, List.find?_append, List.find?_eq_none.mpr fun f hf => by simpa using h.2 f hf]
  simp

theorem Dev.lastIs.setFlight (h : d.lastIs fs fl) (g : Flight → Flight) (hg : (g fl).tag = fl.tag) :
    (d.setFlight fl.tag g).lastIs fs (g fl) := by
  refine ⟨?_, hg ▸ h.2⟩
  have hmap : (fs.map fun x => if x.tag = fl.tag then g x else x) = fs := by
    conv_rhs => rw [← List.map_id fs]
    exact List.map_congr_left fun f hf => if_neg (h.2 f hf)
  simp only [Dev.setFlight, h.1, List.map_append, hmap, List.map_cons, List.map_nil, if_true]

theorem Dev.lastIs.dropFlight (h : d.lastIs fs fl) : (d.dropFlight fl.tag).core.flights = fs := by
  have hfilter : fs.filter (fun x => x.tag != fl.tag) = fs := List.filter_eq_self.mpr fun f hf => by simpa using h.2 f hf
  simp only [Dev.dropFlight, h.1, List.filter_append, hfilter]
  simp

theorem Dev.lastIs.answerTag (h : d.lastIs fs fl) (a : Answer) : d.answerTag fl.tag a = d.answer fl a := by
  unfold Dev.answerTag
  rw [h.flight]

/-- The request last admitted, answered at once: the others stay in flight, and the answer waits at its port. -/
theorem Dev.lastIs.answered (h : d.lastIs fs fl) {p : Nat} (hs : fl.src = .port p) {a : Answer} (ha : a ≠ .silent)
    (hu : d.portUp p = true) : (d.answer fl a).core.flights = fs ∧
      (d.answer fl a).waits p (.response fl.hostTag a.parts.1 a.parts.2 fl.rsv) ∧ (d.answer fl a).out = d.out := by
  have hans : d.answer fl a = (d.dropFlight fl.tag).respondPort fl p a := by
    unfold Dev.answer
    rw [hs]
  have hq := respondPort_queuesTo (d.dropFlight fl.tag) fl p a
  rw [hans]
  exact ⟨hq.flights.trans h.dropFlight, respondPort_waits (d.dropFlight fl.tag) fl p ha hu, hq.out⟩

end

/-! What the way of an access to memory rests on -/

/-- The fields that place an access: bindings, fields, swards, devices, migration slots, and links. -/
def mapFields : List Fld :=
  [CXP_LINK_STAT.STATE, TMP_BIND0.VALID, TMP_BIND0.DPA_GIB, TMP_BIND0.LEN_GIB, TMP_BIND1.FIELD, TMP_FIELD1.SHARED, TMP_FIELD0.MODE,
    TMP_FIELD0.DEV, TMP_FIELD0.FRAME, TMP_FIELD0.SLOT, TMP_SWARD.STATE, TMP_SWARD.DEV, TMP_SWARD.FRAME2M, TMP_DEV_STAT.STATE,
    TMP_DEV_RANGE.BASE_GIB, TMP_DEV_CFG.PORT, TMP_MIGR_SLOT.STATE]

/-- In `e` an access is placed as in `d`. -/
structure Dev.mapsAs (d e : Dev) : Prop where
  commits : e.commits = d.commits
  integ : e.integ = d.integ
  pools : e.pools = d.pools
  migrations : e.thatch.migrations = d.thatch.migrations
  fget : ∀ f ∈ mapFields, ∀ i j, e.fget f i j = d.fget f i j

section
variable {d e x : Dev}

theorem mapsAs_refl (d : Dev) : d.mapsAs d := ⟨rfl, rfl, rfl, rfl, fun _ _ _ _ => rfl⟩

theorem Dev.mapsAs.trans (h : d.mapsAs e) (h' : e.mapsAs x) : d.mapsAs x :=
  ⟨h'.commits.trans h.commits, h'.integ.trans h.integ, h'.pools.trans h.pools, h'.migrations.trans h.migrations,
    fun f hf i j => (h'.fget f hf i j).trans (h.fget f hf i j)⟩

theorem mapsAs_fadd (d : Dev) (g : Fld) (n i j : Nat)
    (hg : ∀ f ∈ mapFields, g.k ≠ f.k ∨ g.lo + g.w ≤ f.lo ∨ f.lo + f.w ≤ g.lo) : d.mapsAs (d.fadd g n i j) :=
  ⟨rfl, rfl, rfl, rfl, fun f hf i' j' => fget_fset_other d g f _ i j i' j' ((hg f hf).imp_right fun h => .inr (.inr h))⟩

theorem mapsAs_wr (d : Dev) (r : Reg) (v : Word) (hr : ∀ f ∈ mapFields, f.k ≠ r.k) : d.mapsAs (d.wr r v) :=
  ⟨rfl, rfl, rfl, rfl, fun f hf i j => congrArg (fun v => bitsOf v f.lo f.w)
    (rd_wr_other d r ⟨f.k, i, j⟩ v fun h => hr f hf (congrArg Reg.k h))⟩

theorem mapsAs_raise (d : Dev) (u : Nat) (r : FaultRec) : d.mapsAs (d.raise u r) := by
  refine ⟨raise_commits d u r, raise_integ d u r, raise_pools d u r, congrArg Thatch.migrations (raise_thatch d u r),
    fun f hf i j => raise_fget d u r f i j (.inl ?_)⟩
  revert f
  decide

theorem Dev.mapsAs.cfg (h : d.mapsAs e) {f : Fld} (hf : f ∈ mapFields) (i j : Nat) :
    e.cfg d.commits.epoch f i j = d.cfg d.commits.epoch f i j := by
  have hd : d.cfg d.commits.epoch f i j = d.fget f i j := by simp [Dev.cfg, Dev.rdE, Dev.fget]
  have he : e.cfg d.commits.epoch f i j = e.fget f i j := by simp [Dev.cfg, Dev.rdE, Dev.fget, h.commits]
  rw [hd, he, h.fget f hf]

theorem Dev.mapsAs.portUp (h : d.mapsAs e) (p : Nat) : e.portUp p = d.portUp p := by
  unfold Dev.portUp
  rw [h.fget _ (by decide)]

theorem Dev.mapsAs.hostPool (h : d.mapsAs e) (v a : Nat) : e.hostPool d.commits.epoch v a = d.hostPool d.commits.epoch v a := by
  have hp : e.pool v = d.pool v := by unfold Dev.pool; rw [h.pools]
  have hd : e.hdmDecode v a = d.hdmDecode v a := by unfold Dev.hdmDecode; rw [hp]
  have hb (a : Nat) : e.bindLookup d.commits.epoch v a = d.bindLookup d.commits.epoch v a := by
    unfold Dev.bindLookup Dev.cfgOn
    simp only [h.cfg (f := TMP_BIND0.VALID) (by decide), h.cfg (f := TMP_BIND0.DPA_GIB) (by decide),
      h.cfg (f := TMP_BIND0.LEN_GIB) (by decide), h.cfg (f := TMP_BIND1.FIELD) (by decide)]
  unfold Dev.hostPool
  rw [hd]
  exact congrArg _ (funext hb)

theorem Dev.mapsAs.shared (h : d.mapsAs e) (a : Nat) : e.shared d.commits.epoch a = d.shared d.commits.epoch a := by
  unfold Dev.shared Dev.cfgOn
  rw [h.cfg (by decide)]

theorem Dev.mapsAs.onDevice (h : d.mapsAs e) (v a : Nat) : e.onDevice d.commits.epoch v a = d.onDevice d.commits.epoch v a := by
  unfold Dev.onDevice Dev.dvState
  rw [h.cfg (by decide), h.fget _ (by decide)]

theorem Dev.mapsAs.place (h : d.mapsAs e) (a : Nat) : e.place d.commits.epoch a = d.place d.commits.epoch a := by
  unfold Dev.place
  simp only [h.cfg (f := TMP_FIELD0.MODE) (by decide), h.cfg (f := TMP_FIELD0.DEV) (by decide),
    h.cfg (f := TMP_FIELD0.FRAME) (by decide), h.cfg (f := TMP_FIELD0.SLOT) (by decide), h.fget TMP_SWARD.STATE (by decide),
    h.fget TMP_SWARD.DEV (by decide), h.fget TMP_SWARD.FRAME2M (by decide), h.onDevice]

theorem Dev.mapsAs.inStall (h : d.mapsAs e) (a : Nat) : e.inStall a = d.inStall a := by
  unfold Dev.inStall
  simp only [h.migrations, h.fget TMP_MIGR_SLOT.STATE (by decide)]

end

end Sys2Proof.Machine
end

section
namespace Sys2Proof.Machine

/-! Hedgerow's tests of a host's access -/

/-- The registers that hold Hedgerow's rules. -/
def ruleRegs : List RK :=
  [.HRW_PORT_RULE0, .HRW_PORT_RULE1, .HRW_ENG_RULE0, .HRW_ENG_RULE1, .HRW_ENG_RULE2, .HRW_POOL_RULE0, .HRW_POOL_RULE1, .HRW_POOL_RULE2,
    .HRW_DEFMAP0, .HRW_DEFMAP1]

theorem regInsert_filter (r : Reg) (v : Word) {k : RK} (hk : r.k ≠ k) (l : List RegCell) :
    (regInsert l r v).filter (fun c => c.1.k == k) = l.filter fun c => c.1.k == k := by
  have hr : (r.k == k) = false := by simpa using hk
  induction l with
  | nil => simp [regInsert, hr]
  | cons c l ih =>
    obtain ⟨r', v'⟩ := c
    unfold regInsert
    split
    next he =>
      subst he
      simp [hr]
    · split
      · simp [hr]
      · simp only [List.filter_cons, ih]

/-- A write leaves the registers of every other name listed as they were. -/
theorem wr_filter (d : Dev) (r : Reg) (v : Word) {k : RK} (hk : r.k ≠ k) :
    (d.wr r v).regs.filter (fun c => c.1.k == k) = d.regs.filter fun c => c.1.k == k := by
  unfold Dev.wr
  dsimp only
  split
  · rw [List.filter_filter]
    refine List.filter_congr fun c _ => ?_
    by_cases hc : c.1 = r
    · simp [hc, hk]
    · simp [hc]
  · exact regInsert_filter r v hk _

theorem listed_wr (d : Dev) (r : Reg) (v : Word) {k : RK} (hk : r.k ≠ k) : (d.wr r v).listed k = d.listed k := by
  unfold Dev.listed
  rw [List.filter_append, wr_filter d r v hk, List.filter_append]
  rfl

theorem rdE_wr (d : Dev) (e : Bool) (r r' : Reg) (v : Word) (hk : r.k ≠ r'.k) : (d.wr r v).rdE e r' = d.rdE e r' := by
  have h := rd_wr_other d r r' v fun h => hk (congrArg Reg.k h.symm)
  unfold Dev.rdE
  rw [h]
  rfl

/-- A register without rules is nothing to Hedgerow's tests. -/
theorem hcheck_wr (d : Dev) (r : Reg) (v : Word) (hk : r.k ∉ ruleRegs) (e : Bool) (u : HUnit) (req a : Nat) (need : HNeed) :
    (d.wr r v).hcheck e u req a need = d.hcheck e u req a need := by
  have hne {k : RK} (h : k ∈ ruleRegs) : r.k ≠ k := fun he => hk (he ▸ h)
  have hrd (k : RK) (h : k ∈ ruleRegs) (i j : Nat) : (d.wr r v).rdE e ⟨k, i, j⟩ = d.rdE e ⟨k, i, j⟩ := rdE_wr d e r _ v (hne h)
  have hlist (k : RK) (h : k ∈ ruleRegs) : (d.wr r v).listed k = d.listed k := listed_wr d r v (hne h)
  have hrules : (d.wr r v).hrules e u = d.hrules e u := by
    unfold Dev.hrules
    cases u with
    | port p => simp only [HUnit.words, hlist .HRW_PORT_RULE0 (by decide), hrd .HRW_PORT_RULE0 (by decide),
        hrd .HRW_PORT_RULE1 (by decide)]
    | engine => simp only [HUnit.words, hlist .HRW_ENG_RULE0 (by decide), hrd .HRW_ENG_RULE0 (by decide),
        hrd .HRW_ENG_RULE1 (by decide), hrd .HRW_ENG_RULE2 (by decide)]
    | pool => simp only [HUnit.words, hlist .HRW_POOL_RULE0 (by decide), hrd .HRW_POOL_RULE0 (by decide),
        hrd .HRW_POOL_RULE1 (by decide), hrd .HRW_POOL_RULE2 (by decide)]
  unfold Dev.hcheck Dev.defaultMap
  rw [hrules, hrd .HRW_DEFMAP0 (by decide), hrd .HRW_DEFMAP1 (by decide)]

/-- The registers that count and record what is denied place no access. -/
theorem denyRegs_apart (u : HUnit) : ∀ f ∈ mapFields, u.denyRegs.1.k ≠ f.k ∧ f.k ≠ u.denyRegs.2.1 ∧ f.k ≠ u.denyRegs.2.2 := by
  cases u with
  | port p => exact (by decide : ∀ f ∈ mapFields, HRW_PORT_DENY_STAT.DENIES.k ≠ f.k ∧ f.k ≠ RK.HRW_PORT_DENY_ADDR ∧
      f.k ≠ RK.HRW_PORT_DENY_INFO)
  | engine => decide
  | pool => decide

theorem deny_keeps (d : Dev) (u : HUnit) (req a : Nat) (need : HNeed) (nm lk : Bool) (rule : Nat) (port : Option Nat) :
    (d.deny u req a need nm lk rule port).core = d.core ∧ (d.deny u req a need nm lk rule port).out = d.out := by
  unfold Dev.deny
  dsimp only
  cases port with
  | none => simp
  | some p => simp

theorem deny_mapsAs (d : Dev) (u : HUnit) (req a : Nat) (need : HNeed) (nm lk : Bool) (rule : Nat) (port : Option Nat) :
    d.mapsAs (d.deny u req a need nm lk rule port) := by
  have hcnt : d.mapsAs (d.fadd u.denyRegs.1 1 u.inst) := mapsAs_fadd d _ _ _ _ fun f hf => .inl (denyRegs_apart u f hf).1
  have haddr (e : Dev) (v : Word) : e.mapsAs (e.wr ⟨u.denyRegs.2.1, u.inst, 0⟩ v) :=
    mapsAs_wr e _ v fun f hf => (denyRegs_apart u f hf).2.1
  have hinfo (e : Dev) (v : Word) : e.mapsAs (e.wr ⟨u.denyRegs.2.2, u.inst, 0⟩ v) :=
    mapsAs_wr e _ v fun f hf => (denyRegs_apart u f hf).2.2
  have hall (v w : Word) (c : Prop) [Decidable c] : d.mapsAs (if c then d.fadd u.denyRegs.1 1 u.inst else
      ((d.fadd u.denyRegs.1 1 u.inst).wr ⟨u.denyRegs.2.1, u.inst, 0⟩ v).wr ⟨u.denyRegs.2.2, u.inst, 0⟩ w) := by
    split
    · exact hcnt
    · exact (hcnt.trans (haddr _ _)).trans (hinfo _ _)
  unfold Dev.deny
  dsimp only
  cases port with
  | none => exact (hall _ _ _).trans (mapsAs_raise _ _ _)
  | some p => exact (hall _ _ _).trans (mapsAs_raise _ _ _)

/-- What a test of Hedgerow does: it answers its verdict, and counts what it refuses or does not cache. -/
structure Dev.passes (d e : Dev) : Prop where
  core : e.core = d.core
  out : e.out = d.out
  maps : d.mapsAs e

theorem hpass_denied (d : Dev) (e : Bool) (u : HUnit) (req a : Nat) (need : HNeed) (port : Option Nat) {nm lk : Bool} {rule : Nat}
    (h : d.hcheck e u req a need = .deny nm lk rule) :
    ∃ x, d.hpass e u req a need port = (x, .deny nm lk rule) ∧ d.passes x := by
  unfold Dev.hpass
  rw [h]
  exact ⟨_, rfl, (deny_keeps _ _ _ _ _ _ _ _ _).1, (deny_keeps _ _ _ _ _ _ _ _ _).2, deny_mapsAs _ _ _ _ _ _ _ _ _⟩

/-- The counter of uncached accesses at a place. -/
def HUnit.nocache : HUnit → Fld
  | .port _ => HRW_PORT_DENY_STAT.NOCACHE
  | .engine => HRW_ENG_DENY_STAT.NOCACHE
  | .pool => HRW_POOL_DENY_STAT.NOCACHE

theorem nocache_apart (u : HUnit) : u.nocache.k ∉ ruleRegs ∧ ∀ f ∈ mapFields, u.nocache.k ≠ f.k := by
  cases u with
  | port p => exact (by decide : HRW_PORT_DENY_STAT.NOCACHE.k ∉ ruleRegs ∧ ∀ f ∈ mapFields, HRW_PORT_DENY_STAT.NOCACHE.k ≠ f.k)
  | engine => decide
  | pool => decide

theorem hpass_allowed (d : Dev) (e : Bool) (u : HUnit) (req a : Nat) (need : HNeed) (port : Option Nat) {rule : Option Nat} {nc : Bool}
    (h : d.hcheck e u req a need = .allow rule nc) :
    ∃ x, d.hpass e u req a need port = (x, .allow rule nc) ∧ d.passes x ∧
      ∀ e' u' req' a' need', x.hcheck e' u' req' a' need' = d.hcheck e' u' req' a' need' := by
  unfold Dev.hpass
  rw [h]
  cases nc with
  | false => exact ⟨d, rfl, ⟨rfl, rfl, mapsAs_refl d⟩, fun _ _ _ _ _ => rfl⟩
  | true =>
    obtain ⟨hrule, hmap⟩ := nocache_apart u
    refine ⟨d.fadd u.nocache 1 u.inst, by cases u <;> rfl, ⟨rfl, rfl, mapsAs_fadd d _ _ _ _ fun f hf => .inl (hmap f hf)⟩, ?_⟩
    exact fun _ _ _ _ _ => hcheck_wr d _ _ hrule _ _ _ _ _

/-! The count of an access (R399) -/

/-- Counting an access moves no field by which one is placed. -/
theorem countAccess_passes (d : Dev) (p : Nat) : d.passes (d.countAccess p) := by
  have hused : d.passes d.used := ⟨rfl, rfl, rfl, rfl, rfl, rfl, fun _ _ _ _ => rfl⟩
  have hfadd {e : Dev} (h : d.passes e) (g : Fld) (n i j : Nat)
      (hg : ∀ f ∈ mapFields, g.k ≠ f.k ∨ g.lo + g.w ≤ f.lo ∨ f.lo + f.w ≤ g.lo) : d.passes (e.fadd g n i j) :=
    ⟨h.core, h.out, h.maps.trans (mapsAs_fadd e g n i j hg)⟩
  have hsplit {e : Dev} (h : d.passes e) (f : Nat) : d.passes (e.wantSplit f) := by
    unfold Dev.wantSplit
    split
    · exact h
    · exact ⟨h.core, h.out, h.maps.trans ⟨rfl, rfl, rfl, rfl, fun _ _ _ _ => rfl⟩⟩
  have hcand {e : Dev} (h : d.passes e) (c : Candidate) : d.passes (e.candidate c) := by
    unfold Dev.candidate
    split
    · exact h
    · split
      · exact hfadd h _ _ _ _ (by decide)
      · exact ⟨h.core, h.out, h.maps.trans ⟨rfl, rfl, rfl, rfl, fun _ _ _ _ => rfl⟩⟩
  have hself : d.passes d := ⟨rfl, rfl, mapsAs_refl d⟩
  have hfield := hfadd hused TMP_FIELD1.COUNT 1 (p / 2 ^ 30) 0 (by decide)
  have hsward (w : Nat) := hfadd hused TMP_SWARD.COUNT 1 w 0 (by decide)
  unfold Dev.countAccess
  dsimp only
  split
  · split
    · exact hused
    · split
      · exact hsplit hfield _
      · exact hfield
  · split
    · split
      · exact hself
      · split
        · exact hused
        · split
          · exact hcand (hsward _) _
          · exact hsward _
    · exact hself

end Sys2Proof.Machine
end

section
namespace Sys2Proof.Machine

/-! A read on its way to memory -/

theorem returnsData_facts {k : AccKind} (h : k.returnsData = true) : k.writes = false ∧ k ≠ .invE ∧ k ≠ .cleanEvict := by
  cases k with
  | readS | readE | readU | ioRead | cacheRead => exact ⟨rfl, AccKind.noConfusion, AccKind.noConfusion⟩
  | _ => exact absurd h Bool.false_ne_true

/-- A read to a device whose port is up goes to that port. -/
theorem toDevice_waits {d : Dev} {fl : Flight} {dev : Nat} (a : Nat)
    (hsh : d.shared fl.epoch fl.addr = false) (hup : d.portUp (d.cfg fl.epoch TMP_DEV_CFG.PORT 0 dev) = true) :
    (d.toDevice fl dev a).waits (d.cfg fl.epoch TMP_DEV_CFG.PORT 0 dev) (.request fl.tag) := by
  unfold Dev.toDevice
  dsimp only
  rw [if_neg (by simp [hup]), if_neg (by simp [hsh])]
  exact queueFlight_waits _ _ _ _ _ _ _

section
variable {d : Dev} {fs : List Flight} {fl : Flight} {pool dev a : Nat} (h : d.lastIs fs fl)
  (hsh : d.shared fl.epoch pool = false) (hpl : d.place fl.epoch pool = .at dev a) (hk : fl.kind.returnsData = true)
  (hst : d.inStall pool = false) (hup : d.portUp (d.cfg fl.epoch TMP_DEV_CFG.PORT 0 dev) = true)
include h hsh hpl hk hst hup

theorem routeMem_waits (ha : fl.addr = pool) :
    (d.routeMem fl.tag).waits (d.cfg fl.epoch TMP_DEV_CFG.PORT 0 dev) (.request fl.tag) := by
  subst ha
  obtain ⟨hw, hi, hc⟩ := returnsData_facts hk
  unfold Dev.routeMem
  rw [h.flight]
  dsimp only
  rw [hpl]
  dsimp only
  rw [if_neg (by simp [hi, hc]), if_neg (by simp [hst]), if_neg (by simp [hw])]
  exact toDevice_waits a hsh hup

theorem toPool_waits (hh : ∀ f ∈ fs, f.phase ≠ .held) :
    (d.toPool fl.tag pool).waits (d.cfg fl.epoch TMP_DEV_CFG.PORT 0 dev) (.request fl.tag) := by
  have hl : (d.setFlight fl.tag fun f => { f with addr := pool }).lastIs fs { fl with addr := pool } :=
    h.setFlight (fun f => { f with addr := pool }) rfl
  have hroute := routeMem_waits hl hsh hpl hk hst hup rfl
  have hfl := hl.flight
  have hflights := hl.1
  have htags := h.2
  generalize hx : (d.setFlight fl.tag fun f => { f with addr := pool }) = x at hl hroute hfl hflights
  have hshared : x.shared fl.epoch pool = false := by rw [← hx]; exact hsh
  have hcfg : x.cfg fl.epoch TMP_DEV_CFG.PORT 0 dev = d.cfg fl.epoch TMP_DEV_CFG.PORT 0 dev := by rw [← hx]; rfl
  have hbehind : x.behindHeld { fl with addr := pool } = false := by
    unfold Dev.behindHeld
    refine List.any_eq_false.mpr fun f hf => ?_
    have hne := List.mem_takeWhile_imp hf
    have hmem := (List.takeWhile_sublist _).subset hf
    rw [hflights, List.mem_append, List.mem_singleton] at hmem
    rcases hmem with hmem | rfl
    · simp [hh f hmem]
    · simp at hne
  unfold Dev.toPool
  dsimp only
  rw [hx]
  rw [hfl]
  dsimp only
  rw [if_neg (by simp [hbehind]), if_neg (by simp [hshared])]
  dsimp only at hroute
  rwa [hcfg] at hroute

end

end Sys2Proof.Machine
end

section
namespace Sys2Proof.Machine

/-! A host's read of memory (R24, R228) -/

/-- A host's access to memory before it is admitted. -/
def memRequest (r : HostReq) (p v : Nat) (bad : Bool) : Flight :=
  { tag := 0, epoch := false, src := .port p, vsw := some v, kind := kindOf r.op, write := (kindOf r.op).writes, addr := r.addr,
    len := r.len, hostTag := r.tag, data := r.data, poison := r.poison || bad, admitted := 0 }

/-- From `d` to `x` request `fl` has been admitted as `fl'`, the last in flight, and nothing has changed for it to be looked up. -/
structure Dev.admits (d : Dev) (fl : Flight) (x : Dev) (fl' : Flight) : Prop where
  last : x.lastIs d.core.flights fl'
  tag : fl'.tag = d.core.nextTag
  epoch : fl'.epoch = d.commits.epoch
  src : fl'.src = fl.src
  kind : fl'.kind = fl.kind
  hostTag : fl'.hostTag = fl.hostTag
  rsv : fl'.rsv = fl.rsv
  out : x.out = d.out
  maps : d.mapsAs x
  hcheck : ∀ e u req a need, x.hcheck e u req a need = d.hcheck e u req a need
  pbrEgress : ∀ p dpid, x.pbrEgress p dpid = d.pbrEgress p dpid

theorem admitFlight_admits {d : Dev} (ht : ∀ f ∈ d.core.flights, f.tag < d.core.nextTag) (fl : Flight) :
    ∃ x fl', d.admitFlight fl = (x, d.core.nextTag) ∧ d.admits fl x fl' :=
  ⟨_, _, rfl, withFlight_lastIs ht, rfl, rfl, rfl, rfl, rfl, rfl, rfl, ⟨rfl, rfl, rfl, rfl, fun _ _ _ _ => rfl⟩,
    fun _ _ _ _ _ => rfl, fun _ _ => rfl⟩

/-- A read answered at once with ones and poison toward its port; it stays in no flight. -/
def Dev.readRefused (d : Dev) (p : Nat) (r : HostReq) (x : Dev) : Prop :=
  x.core.flights = d.core.flights ∧ x.waits p (.response r.tag (some (onesOf r.len)) true none)

/-- The request last admitted, answered with ones and poison. -/
theorem Dev.lastIs.readRefused {d x y : Dev} {f fl : Flight} {p : Nat} {r : HostReq} {a : Answer} (h : y.lastIs d.core.flights fl)
    (had : d.admits f x fl) (hs : f.src = .port p) (ht : f.hostTag = r.tag) (hv : f.rsv = none) (ha : a = .data (onesOf r.len) true)
    (hu : y.portUp p = true) : d.readRefused p r (y.answer fl a) ∧ (y.answer fl a).out = y.out := by
  subst ha
  obtain ⟨hfl, hw, ho⟩ := h.answered (had.src.trans hs) (a := .data _ _) (by simp) hu
  rw [had.hostTag, ht, had.rsv, hv] at hw
  exact ⟨⟨hfl, hw⟩, ho⟩

theorem denied_read {k : AccKind} (h : k.returnsData = true) (len : Nat) : k.denied len = .data (onesOf len) true := by
  cases k with
  | readS | readE | readU | ioRead | cacheRead => rfl
  | _ => exact absurd h Bool.false_ne_true

theorem unbound_read {k : AccKind} (h : k.returnsData = true) (hc : k.chan = .mem) (len : Nat) :
    k.unbound len = .data (onesOf len) true := by
  cases k with
  | readS | readE | readU => rfl
  | ioRead | cacheRead => exact absurd hc Chan.noConfusion
  | _ => exact absurd h Bool.false_ne_true

/-- With no word of a table poisoned, an access finds its words as they are. -/
theorem readTables_clean {d : Dev} (h : d.integ.poison = []) (pool : Nat) : d.readTables pool [] = d := by
  have hclean (b x : Nat) : d.wordPoisoned b x = false := by
    unfold Dev.wordPoisoned
    rw [h]
    rfl
  unfold Dev.readTables Dev.consumeMap
  simp [hclean]

/-- A request that Hedgerow allows: uncached where a rule says so, in the deciding rule's region. -/
def granted (k : AccKind) (rule : Option Nat) (f : Flight) : Flight := { f with kind := k, region := rule }

theorem setFlight_mapsAs (d : Dev) (tag : Nat) (g : Flight → Flight) : d.mapsAs (d.setFlight tag g) :=
  ⟨rfl, rfl, rfl, rfl, fun _ _ _ _ => rfl⟩

theorem grantedKind_returnsData {k : AccKind} (h : k.returnsData = true) (c : Bool) :
    (if c then AccKind.readU else k).returnsData = true := by
  cases c with
  | false => exact h
  | true => rfl

/-- A read that is granted, of memory on a device whose port is up, goes to that port under the device's own tag. -/
theorem toPool_granted {d y : Dev} {fl : Flight} {pool dev a : Nat} (hl : y.lastIs d.core.flights fl) (he : fl.epoch = d.commits.epoch)
    (hm : d.mapsAs y) (hk : fl.kind.returnsData = true) (hh : ∀ f ∈ d.core.flights, f.phase ≠ .held)
    (hsh : d.shared d.commits.epoch pool = false) (hpl : d.place d.commits.epoch pool = .at dev a) (hst : d.inStall pool = false)
    (hup : d.portUp (d.cfg d.commits.epoch TMP_DEV_CFG.PORT 0 dev) = true) :
    (y.toPool fl.tag pool).waits (d.cfg d.commits.epoch TMP_DEV_CFG.PORT 0 dev) (.request fl.tag) := by
  rw [← hm.cfg (by decide)] at hup ⊢
  rw [← hm.portUp] at hup
  rw [← hm.shared] at hsh
  rw [← hm.place] at hpl
  rw [← hm.inStall] at hst
  rw [← he] at hsh hpl hup ⊢
  exact toPool_waits hl hsh hpl hk hst hup hh

section
variable {d : Dev} {p v : Nat} {r : HostReq} {n : HNeed} {bad : Bool} (ht : ∀ f ∈ d.core.flights, f.tag < d.core.nextTag)
  (hn : (kindOf r.op).need = some n) (hr : (kindOf r.op).returnsData = true)
include ht hn hr

/-- Hedgerow refuses the access at the port. -/
theorem hostMem_denied {errs : List PathErr} {nm lk : Bool} {rule : Nat} (hu : d.portUp p = true)
    (hc : d.hcheck d.commits.epoch (.port p) v r.addr n = .deny nm lk rule) : d.readRefused p r (d.hostMem p v r bad errs) := by
  obtain ⟨d1, fl, hadm, had⟩ := admitFlight_admits ht (memRequest r p v bad)
  obtain ⟨d2, hpass, hpasses⟩ := hpass_denied d1 d.commits.epoch (.port p) v r.addr n (some p) ((had.hcheck _ _ _ _ _).trans hc)
  have hlast := had.last.core hpasses.core
  unfold memRequest at hadm
  unfold Dev.hostMem
  simp only [hadm, hn, had.maps.commits, hpass]
  rw [← had.tag, hlast.answerTag]
  exact (hlast.readRefused had rfl rfl rfl (denied_read hr _) ((hpasses.maps.portUp p).trans ((had.maps.portUp p).trans hu))).1

/-- Nothing binds the address. -/
theorem hostMem_unbound {errs : List PathErr} {rule : Option Nat} {nc : Bool} (hu : d.portUp p = true)
    (hm : (kindOf r.op).chan = .mem)
    (hc : d.hcheck d.commits.epoch (.port p) v r.addr n = .allow rule nc) (hb : d.hostPool d.commits.epoch v r.addr = none) :
    d.readRefused p r (d.hostMem p v r bad errs) ∧ .log "unbound" r.addr ∈ (d.hostMem p v r bad errs).out := by
  obtain ⟨d1, fl, hadm, had⟩ := admitFlight_admits ht (memRequest r p v bad)
  obtain ⟨d2, hpass, hpasses, -⟩ :=
    hpass_allowed d1 d.commits.epoch (.port p) v r.addr n (some p) ((had.hcheck _ _ _ _ _).trans hc)
  have hlast : (d2.send (.log "unbound" r.addr)).lastIs d.core.flights fl := had.last.core hpasses.core
  have hpool : d2.hostPool d.commits.epoch v r.addr = none := ((had.maps.trans hpasses.maps).hostPool _ _).trans hb
  have hup : (d2.send (.log "unbound" r.addr)).portUp p = true := ((had.maps.trans hpasses.maps).portUp p).trans hu
  unfold memRequest at hadm
  unfold Dev.hostMem
  simp only [hadm, hn, had.maps.commits, hpass, hpool]
  rw [← had.tag, hlast.answerTag]
  obtain ⟨href, hout⟩ := hlast.readRefused had rfl rfl rfl (unbound_read hr hm _) hup
  refine ⟨href, ?_⟩
  rw [hout]
  exact List.mem_append_right _ (List.mem_singleton_self _)

/-- The access is bound and allowed, and its memory lies on a device whose port is up. -/
theorem hostMem_routed {rule rule2 : Option Nat} {nc nc2 : Bool} {pool dev a : Nat} (hh : ∀ f ∈ d.core.flights, f.phase ≠ .held)
    (hc : d.hcheck d.commits.epoch (.port p) v r.addr n = .allow rule nc)
    (hb : d.hostPool d.commits.epoch v r.addr = some pool) (hi : d.integ.poison = []) (hsh : d.shared d.commits.epoch pool = false)
    (hc2 : d.hcheck d.commits.epoch .pool v pool (if nc then .read else n) = .allow rule2 nc2)
    (hpl : d.place d.commits.epoch pool = .at dev a) (hst : d.inStall pool = false)
    (hup : d.portUp (d.cfg d.commits.epoch TMP_DEV_CFG.PORT 0 dev) = true) :
    (d.hostMem p v r bad []).waits (d.cfg d.commits.epoch TMP_DEV_CFG.PORT 0 dev) (.request d.core.nextTag) := by
  obtain ⟨d1, fl, hadm, had⟩ := admitFlight_admits ht (memRequest r p v bad)
  obtain ⟨d2, hpass, hpasses, hsame⟩ :=
    hpass_allowed d1 d.commits.epoch (.port p) v r.addr n (some p) ((had.hcheck _ _ _ _ _).trans hc)
  have hmap2 := had.maps.trans hpasses.maps
  have hpool : d2.hostPool d.commits.epoch v r.addr = some pool := (hmap2.hostPool _ _).trans hb
  have hread : d2.readTables pool [] = d2 := readTables_clean (by rw [hmap2.integ, hi]) pool
  have hshared : d2.shared d.commits.epoch pool = false := (hmap2.shared _).trans hsh
  obtain ⟨d3, hpass3, hpasses3, -⟩ := hpass_allowed d2 d.commits.epoch .pool v pool (if nc then .read else n) (some p)
    ((hsame _ _ _ _ _).trans ((had.hcheck _ _ _ _ _).trans hc2))
  have hmap3 := hmap2.trans hpasses3.maps
  unfold memRequest at hadm
  unfold Dev.hostMem
  simp only [hadm, hn, had.maps.commits, hpass, hpool, hread, hshared, Bool.false_and, hpass3]
  have hlast3 : d3.lastIs d.core.flights fl := (had.last.core hpasses.core).core hpasses3.core
  have hlast4 := hlast3.setFlight (granted (if nc || nc2 then .readU else kindOf r.op) rule2) rfl
  have hcount := countAccess_passes (d3.setFlight fl.tag (granted (if nc || nc2 then .readU else kindOf r.op) rule2)) pool
  have hmap4 := hmap3.trans (setFlight_mapsAs d3 fl.tag (granted (if nc || nc2 then .readU else kindOf r.op) rule2))
  have hwaits := toPool_granted (hlast4.core hcount.core) had.epoch (hmap4.trans hcount.maps) (grantedKind_returnsData hr _) hh hsh
    hpl hst hup
  rw [← had.tag]
  exact hwaits

end

end Sys2Proof.Machine
end

section
namespace Sys2Proof.Machine

/-! A host's read that arrives -/

theorem Dev.readRefused.core {d x y : Dev} {p : Nat} {r : HostReq} (h : d.readRefused p r x) (hc : y.core = x.core) :
    d.readRefused p r y := by
  obtain ⟨hfl, hw⟩ := h
  exact ⟨by rw [hc, hfl], (trafficTo_of_core hc).waits _ _ hw⟩

section
variable {s : State} (h : s.dev.inReset = false) {p : Fin 128} (hu : s.dev.portUp p = true) (hl : s.dev.inL1 p = false)
include h hu hl

/-- A request for memory that a host's port takes has its effect at once. -/
theorem hostRequest_runs (hm : s.dev.portMode p = 1) {r : HostReq} (hk : s.dev.withholds p .mem = false)
    (hc : (kindOf r.op).chan = .mem) {P : Dev → Prop}
    (hp : ∀ x : Dev, x.core = (s.dev.hostMem p (s.dev.fget CXP_PORT_CFG.VSW p) r false []).core →
      x.out = (s.dev.hostMem p (s.dev.fget CXP_PORT_CFG.VSW p) r false []).out → P x) :
    Runs (.ingressMessage p (.request r) []) s P := by
  have hkeep : s.dev.keptBack p (.request r) = false := by
    unfold Dev.keptBack Dev.msgChan
    dsimp only
    rw [hc, hk]
  unfold Runs Ends exec execIngressMessage
  refine onDev_after h fun x hxc hxo => hp x ?_ ?_
  · rw [hxc, if_neg (arrives hu hl hkeep)]
    exact congrArg Dev.core ((if_pos hm).trans (if_pos hc))
  · rw [hxo, if_neg (arrives hu hl hkeep)]
    exact congrArg Dev.out ((if_pos hm).trans (if_pos hc))

section
variable (hm : s.dev.portMode p = 1) {r : HostReq} {n : HNeed} (hk : s.dev.withholds p .mem = false)
  (ht : ∀ f ∈ s.dev.core.flights, f.tag < s.dev.core.nextTag) (hn : (kindOf r.op).need = some n)
  (hr : (kindOf r.op).returnsData = true) (hc : (kindOf r.op).chan = .mem)
include hm hk ht hn hr hc

theorem hostRead_denied {nm lk : Bool} {rule : Nat} (hv : s.dev.hcheck s.dev.commits.epoch (.port p) (s.dev.fget CXP_PORT_CFG.VSW p)
    r.addr n = .deny nm lk rule) : Runs (.ingressMessage p (.request r) []) s (s.dev.readRefused p r) := by
  have href := hostMem_denied (bad := false) (errs := []) ht hn hr hu hv
  exact hostRequest_runs h hu hl hm hk hc fun x hxc _ => href.core hxc

section
variable {rule : Option Nat} {nc : Bool} (hv : s.dev.hcheck s.dev.commits.epoch (.port p) (s.dev.fget CXP_PORT_CFG.VSW p)
  r.addr n = .allow rule nc)
include hv

theorem hostRead_unbound (hb : s.dev.hostPool s.dev.commits.epoch (s.dev.fget CXP_PORT_CFG.VSW p) r.addr = none) :
    Runs (.ingressMessage p (.request r) []) s fun x => s.dev.readRefused p r x ∧ .log "unbound" r.addr ∈ x.out := by
  obtain ⟨href, hlog⟩ := hostMem_unbound (bad := false) (errs := []) ht hn hr hu hc hv hb
  exact hostRequest_runs h hu hl hm hk hc fun x hxc hxo => ⟨href.core hxc, by rwa [hxo]⟩

theorem hostRead_routed (hh : ∀ f ∈ s.dev.core.flights, f.phase ≠ .held) {pool dev a : Nat} {rule2 : Option Nat} {nc2 : Bool}
    (hb : s.dev.hostPool s.dev.commits.epoch (s.dev.fget CXP_PORT_CFG.VSW p) r.addr = some pool) (hi : s.dev.integ.poison = [])
    (hsh : s.dev.shared s.dev.commits.epoch pool = false)
    (hc2 : s.dev.hcheck s.dev.commits.epoch .pool (s.dev.fget CXP_PORT_CFG.VSW p) pool (if nc then .read else n) = .allow rule2 nc2)
    (hpl : s.dev.place s.dev.commits.epoch pool = .at dev a) (hst : s.dev.inStall pool = false)
    (hup : s.dev.portUp (s.dev.cfg s.dev.commits.epoch TMP_DEV_CFG.PORT 0 dev) = true) :
    Runs (.ingressMessage p (.request r) []) s fun x =>
      x.waits (s.dev.cfg s.dev.commits.epoch TMP_DEV_CFG.PORT 0 dev) (.request s.dev.core.nextTag) := by
  have hw := hostMem_routed (bad := false) ht hn hr hh hv hb hi hsh hc2 hpl hst hup
  exact hostRequest_runs h hu hl hm hk hc fun x hxc _ => (trafficTo_of_core hxc).waits _ _ hw

end

end

end

/-! A request or a message of a reserved type routed by PID (R308, R309) -/

/-- A request routed by PID before it is admitted. -/
def pbrFlight (r : HostReq) (p : Nat) (bad : Bool) : Flight :=
  { tag := 0, epoch := false, src := .port p, kind := kindOf r.op, write := (kindOf r.op).writes, addr := r.addr, len := r.len,
    hostTag := r.tag, data := r.data, poison := r.poison || bad, routed := true, admitted := 0, extra := r.extra }

section
variable {d : Dev} {p dpid : Nat} {r : HostReq} {bad : Bool} (ht : ∀ f ∈ d.core.flights, f.tag < d.core.nextTag)
include ht

theorem pbrRequest_unrouted (hr : (kindOf r.op).returnsData = true) (hu : d.portUp p = true) (hq : d.pbrEgress p dpid = none) :
    d.readRefused p r (d.pbrRequest p none dpid r bad) ∧ .log "no route" dpid ∈ (d.pbrRequest p none dpid r bad).out := by
  obtain ⟨d1, fl, hadm, had⟩ := admitFlight_admits ht (pbrFlight r p bad)
  have hfl : d1.flight d.core.nextTag = some fl := had.tag ▸ had.last.flight
  have hlast : (d1.send (.log "no route" dpid)).lastIs d.core.flights fl := had.last.core rfl
  have hup : (d1.send (.log "no route" dpid)).portUp p = true := (had.maps.portUp p).trans hu
  unfold pbrFlight at hadm
  unfold Dev.pbrRequest
  simp only [hadm, Option.isSome_none, Bool.false_eq_true, if_false, hfl, had.pbrEgress, hq, hr, if_true, Dev.slotDone]
  obtain ⟨href, hout⟩ := hlast.readRefused had rfl rfl rfl rfl hup
  refine ⟨href, ?_⟩
  rw [hout]
  exact List.mem_append_right _ (List.mem_singleton_self _)

theorem pbrRequest_routed {q : Nat} (hq : d.pbrEgress p dpid = some q) :
    (d.pbrRequest p none dpid r bad).waits q (.request d.core.nextTag) := by
  obtain ⟨d1, fl, hadm, had⟩ := admitFlight_admits ht (pbrFlight r p bad)
  have hfl : d1.flight d.core.nextTag = some fl := had.tag ▸ had.last.flight
  unfold pbrFlight at hadm
  unfold Dev.pbrRequest
  simp only [hadm, Option.isSome_none, Bool.false_eq_true, if_false, hfl, had.pbrEgress, hq]
  exact queueFlight_waits _ _ _ _ _ _ _

end

/-- A message on a PBR port that is up and not kept back is routed, and what a stall's end released goes on. -/
theorem pbrTaken_eq {d : Dev} {p : Nat} {m : PortMsg} (hu : d.portUp p = true) (hm : d.portMode p = 3) (hk : d.keptBack p m = false)
    (x y : Dev) : (if !(d.portUp p) then d else if d.portMode p = 3 then (if d.keptBack p m then d else x) else y) = x := by
  rw [if_neg (by simp [hu]), if_pos hm, if_neg (by simp [hk])]

section
variable {s : State} (h : s.dev.inReset = false) {p : Fin 128} (vc : Fin 8) (dpid : BitVec 12) (hu : s.dev.portUp p = true)
  (hm : s.dev.portMode p = 3)
include h hu hm

theorem pbrReserved_ends (hh : s.dev.unheld) (typ : Nat) :
    Ends (.pbrMessage p vc dpid (.reserved typ) []) s (s.dev.send (.log "reserved type" typ)) := by
  unfold Ends exec execPbrMessage
  refine onDev_to h ?_ (send_gable _ _) (send_fuses _ _)
  refine (pbrTaken_eq hu hm rfl _ _).trans ?_
  exact settle_unheld (d := s.dev.send (.log "reserved type" typ)) hh

theorem pbrRequest_runs {r : HostReq} (hk : s.dev.withholds p (kindOf r.op).chan = false) {P : Dev → Prop}
    (hp : ∀ x : Dev, x.core = (s.dev.pbrRequest p none dpid.toNat r false).settle.core →
      x.out = (s.dev.pbrRequest p none dpid.toNat r false).settle.out → P x) :
    Runs (.pbrMessage p vc dpid (.request r) []) s P := by
  have hkeep : s.dev.keptBack p (.request r) = false := hk
  unfold Runs Ends exec execPbrMessage
  refine onDev_after h fun x hxc hxo => hp x ?_ ?_
  · rw [hxc]
    exact congrArg Dev.core (pbrTaken_eq hu hm hkeep _ _)
  · rw [hxo]
    exact congrArg Dev.out (pbrTaken_eq hu hm hkeep _ _)

section
variable {r : HostReq} (hk : s.dev.withholds p (kindOf r.op).chan = false)
  (ht : ∀ f ∈ s.dev.core.flights, f.tag < s.dev.core.nextTag)
include hk ht

theorem pbrUnrouted_runs (hh : s.dev.unheld) (hr : (kindOf r.op).returnsData = true) (hq : s.dev.pbrEgress p dpid.toNat = none) :
    Runs (.pbrMessage p vc dpid (.request r) []) s fun x =>
      s.dev.readRefused p r x ∧ .log "no route" dpid.toNat ∈ x.out := by
  obtain ⟨href, hout⟩ := pbrRequest_unrouted (bad := false) ht hr hu hq
  have hself := settle_unheld (d := s.dev.pbrRequest p none dpid.toNat r false) (by unfold Dev.unheld; rwa [href.1])
  refine pbrRequest_runs h vc dpid hu hm hk fun x hxc hxo => ?_
  rw [hself] at hxc hxo
  exact ⟨href.core hxc, by rwa [hxo]⟩

theorem pbrRouted_runs {q : Nat} (hq : s.dev.pbrEgress p dpid.toNat = some q) :
    Runs (.pbrMessage p vc dpid (.request r) []) s fun x => x.waits q (.request s.dev.core.nextTag) :=
  pbrRequest_runs h vc dpid hu hm hk fun _ hxc _ =>
    ((settle_trafficTo _).core hxc).waits _ _ (pbrRequest_routed ht hq)

end

end

end Sys2Proof.Machine
end

section
namespace Sys2Proof.Machine

/-! A slot of an egress port (R338, R353) -/

/-- A response's message. -/
def QMsg.isResponse (m : QMsg) : Prop := ∃ tag dat x r, m.body = .response tag dat x r

theorem freeCells_keeps (d : Dev) (m : QMsg) : (d.freeCells m).core = d.core ∧ (d.freeCells m).out = d.out := by
  unfold Dev.freeCells
  split
  · exact ⟨rfl, rfl⟩
  · exact ⟨rfl, rfl⟩
  · exact ⟨rfl, rfl⟩

/-- A response whose last flit has left is on the link. -/
theorem sent_response (d : Dev) {m : QMsg} (hm : m.isResponse) :
    (d.sent m).core = d.core ∧ (d.sent m).out = d.out ++ [.link m.egress m.body none (d.devLoad m)] := by
  obtain ⟨tag, dat, x, r, hb⟩ := hm
  have hleft (e : Dev) : e.snoopLeft m = e := by unfold Dev.snoopLeft; rw [hb]
  have hcarry : d.carried m = none := by unfold Dev.carried Dev.coordFlight; rw [hb]
  unfold Dev.sent
  dsimp only
  rw [hleft, hcarry, hb]
  obtain ⟨hc, ho⟩ := freeCells_keeps d m
  exact ⟨hc, congrArg (· ++ _) ho⟩

theorem nonPosted_response (d : Dev) {m : QMsg} (hm : m.isResponse) : d.nonPosted m = false := by
  obtain ⟨tag, dat, x, r, hb⟩ := hm
  unfold Dev.nonPosted QBody.tag?
  rw [hb]
  rfl

/-- A response at the head of the Ridge queue is what it offers. -/
theorem offered_head {d : Dev} {p : Nat} {m : QMsg} (np : Bool) (hm : m.isResponse) (h : d.head p 0 0 = some m) :
    d.offered p 0 0 np = some m := by
  unfold Dev.head at h
  unfold Dev.offered
  rw [← List.head?_filter] at h
  obtain ⟨ms, hms⟩ := List.head?_eq_some_iff.mp h
  dsimp only
  rw [hms]
  dsimp only
  rw [if_neg (by simp [nonPosted_response d hm])]

theorem head_some {d : Dev} {p : Nat} {m : QMsg} (h : d.head p 0 0 = some m) : m ∈ d.core.buf ∧ m.egress = p ∧ m.cls = 0 := by
  have hp := List.find?_some h
  simp only [Bool.and_eq_true, beq_iff_eq] at hp
  exact ⟨List.mem_of_find?_eq_some h, hp.1.1, hp.1.2⟩

theorem unqueue_keeps (d : Dev) (m : QMsg) :
    (d.unqueue m).core = { d.core with buf := d.core.buf.erase m } ∧ (d.unqueue m).out = d.out := by
  unfold Dev.unqueue
  dsimp only
  split
  next n _ =>
    obtain ⟨hc, ho⟩ := tagHead_keeps { d with core := { d.core with buf := d.core.buf.erase m } } n
    exact ⟨hc, ho⟩
  · exact ⟨rfl, rfl⟩

/-- A message of the Ridge queue taken out of it: nothing but the queue is touched. -/
theorem unqueue_ridge (d : Dev) {m : QMsg} (hm : m.cls = 0) :
    d.unqueue m = { d with core := { d.core with buf := d.core.buf.erase m } } := by
  unfold Dev.unqueue
  dsimp only
  split
  next n hn =>
    unfold Dev.head at hn
    have hp := List.find?_some hn
    simp only [Bool.and_eq_true, beq_iff_eq] at hp
    unfold Dev.tagHead
    exact if_pos (hp.1.2.trans hm)
  · rfl

/-- A message that is neither old nor of an old generation is sent as it is. -/
theorem atDequeue_whole {d : Dev} {m : QMsg} (hg : d.oldGen m = false) (ha : d.tooOld m = false) :
    d.atDequeue m .whole = (d.depth m false, some m) := by
  unfold Dev.atDequeue
  dsimp only
  rw [if_neg (by simp [hg]), if_neg (by simp [ha])]

theorem served_ridge (d : Dev) {m : QMsg} (hm : m.cls = 0) : (d.served m).core = d.core ∧ (d.served m).out = d.out := by
  unfold Dev.served
  rw [if_pos hm]
  exact ⟨rfl, rfl⟩

/-- What has left a port: the message, on the link. -/
def Dev.left (d x : Dev) (m : QMsg) : Prop := ∃ load, x.out = d.out ++ [.link m.egress m.body none load]

/-- With nothing under way, the head of the Ridge queue is sent first. -/
theorem egressSlot_ridge {d : Dev} {p : Nat} {m : QMsg} (np : Bool) (hh : d.head p 0 0 = some m) (hu : d.underWay p = none)
    (hg : d.oldGen m = false) (ha : d.tooOld m = false) (hm : m.isResponse) :
    (Dev.egressSlot p false .whole np d).core.buf = d.core.buf.erase m ∧ d.left (Dev.egressSlot p false .whole np d) m := by
  obtain ⟨-, -, hcls⟩ := head_some hh
  have hslot : Dev.egressSlot p false .whole np d = (((d.unqueue m).depth m false).served m).sent m := by
    have hdeq : (d.unqueue m).atDequeue m .whole = ((d.unqueue m).depth m false, some m) := by
      rw [unqueue_ridge d hcls]
      exact atDequeue_whole hg ha
    unfold Dev.egressSlot
    dsimp only
    rw [hu]
    unfold Dev.slotChoice
    dsimp only
    rw [if_pos rfl, offered_head np hm hh]
    dsimp only
    rw [hdeq]
    rfl
  obtain ⟨hs, hso⟩ := sent_response (((d.unqueue m).depth m false).served m) hm
  obtain ⟨hv, hvo⟩ := served_ridge ((d.unqueue m).depth m false) hcls
  obtain ⟨hd, hdo⟩ := depth_keeps (d.unqueue m) m false
  obtain ⟨hq, hqo⟩ := unqueue_keeps d m
  rw [hslot]
  exact ⟨by rw [hs, hv, hd, hq], _, by rw [hso, hvo, hdo, hqo]⟩

/-- The messages whose transmission has begun changed. -/
def Dev.setSending (d : Dev) (t : Tab QMsg) : Dev := { d with core := { d.core with sending := t } }

section
variable {d : Dev} {p : Nat} {m : QMsg} {np : Bool} (hu : d.underWay p = some m)
  (hr : ∀ r, d.offered p 0 0 np = some r → r.chan ≠ .mem)
include hu hr

/-- A message under way that no Ridge message suspends goes on. -/
theorem egressSlot_goesOn (more : Bool) (cs : CellState) : Dev.egressSlot p more cs np d =
    if more then d else (d.setSending (Tab.erase d.core.sending p)).sent m := by
  unfold Dev.egressSlot
  dsimp only
  rw [hu]
  dsimp only
  refine if_neg ?_
  split
  next r hoff => simp [hr r hoff]
  · simp

end

theorem underWay_erased {d x : Dev} {p : Nat} (h : x.core.sending = Tab.erase d.core.sending p) : x.underWay p = none := by
  unfold Dev.underWay Tab.erase at *
  rw [h, List.find?_eq_none.mpr fun e he => by simpa using List.of_mem_filter he]
  rfl

/-! A slot with nothing to send -/

/-- The messages and what is on the wire are the same. -/
structure Dev.sendsNone (d x : Dev) : Prop where
  buf : x.core.buf = d.core.buf
  sending : x.core.sending = d.core.sending
  out : x.out = d.out

section
variable {d : Dev} {p : Nat} (he : ∀ m ∈ d.core.buf, m.egress ≠ p)
include he

theorem offered_none (c f : Nat) (np : Bool) : d.offered p c f np = none := by
  have hq : (d.core.buf.filter fun x => x.egress == p && x.cls == c && (c == 0 || x.flow == f)) = [] :=
    List.filter_eq_nil_iff.mpr fun m hm => by simp [he m hm]
  unfold Dev.offered
  dsimp only
  rw [hq]

theorem flowsOf_none (c : Nat) : d.flowsOf p c = [] := by
  have hq : (d.core.buf.filter fun m => m.egress == p && m.cls == c) = [] :=
    List.filter_eq_nil_iff.mpr fun m hm => by simp [he m hm]
  unfold Dev.flowsOf
  rw [hq]
  rfl

/-- No class has a message to choose. -/
theorem chooseClass_none (np : Bool) (ready : Nat → Bool) :
    (d.chooseClass p np ready).2 = none ∧ d.sendsNone (d.chooseClass p np ready).1 := by
  unfold Dev.chooseClass
  refine List.foldlRecOn (motive := fun acc : Dev × Option (Nat × Nat × QMsg) => acc.2 = none ∧ d.sendsNone acc.1)
    (List.range 8) _ ⟨rfl, rfl, rfl, rfl⟩ fun acc hacc c _ => ?_
  obtain ⟨x, best⟩ := acc
  obtain ⟨hbest, hx⟩ := hacc
  have hflows := flowsOf_none (d := x) (p := p) (by rwa [hx.buf]) c
  have hlag : x.lagFlows p c = x := by
    unfold Dev.lagFlows
    rw [hflows]
    rfl
  have hchoose : x.chooseFlow p c np = none := by
    unfold Dev.chooseFlow
    rw [hflows]
    rfl
  dsimp only
  split
  · exact ⟨hbest, hx⟩
  · rw [hlag, hchoose]
    exact ⟨hbest, hx.buf, hx.sending, hx.out⟩

/-- With nothing waiting, under way or suspended, a slot sends nothing. -/
theorem egressSlot_empty (more : Bool) (cs : CellState) (np : Bool) (hu : d.underWay p = none)
    (hs : ∀ x ∈ d.core.suspended, x.1 ≠ p) : d.sendsNone (Dev.egressSlot p more cs np d) := by
  have hsus : (d.core.suspended.find? fun e => e.1 == p) = none :=
    List.find?_eq_none.mpr fun e hm => by simpa using hs e hm
  obtain ⟨hnone, hsame⟩ := chooseClass_none he np fun _ => true
  unfold Dev.egressSlot
  dsimp only
  rw [hu]
  unfold Dev.slotChoice
  dsimp only
  rw [if_pos rfl, offered_none he]
  dsimp only
  rw [hsus]
  dsimp only
  generalize d.chooseClass p np (fun _ => true) = y at hnone hsame
  obtain ⟨x, o⟩ := y
  subst hnone
  exact hsame

end

end Sys2Proof.Machine
end

section
namespace Sys2Proof.Machine

/-! An egress slot's command -/

theorem eaveCross_keeps (d : Dev) (p : Nat) (retried : Bool) :
    (d.eaveCross p retried).core = d.core ∧ (d.eaveCross p retried).out = d.out := by
  unfold Dev.eaveCross
  split
  · exact ⟨raise_core _ _ _, raise_out _ _ _⟩
  · exact ⟨rfl, rfl⟩

theorem eaveCross_frame (d : Dev) (p : Nat) (retried : Bool) :
    (d.eaveCross p retried).gable = d.gable ∧ (d.eaveCross p retried).fuses = d.fuses := by
  unfold Dev.eaveCross
  split
  · exact ⟨raise_gable _ _ _, raise_fuses _ _ _⟩
  · exact ⟨rfl, rfl⟩

/-- A message's age and generation are the same after the crossing. -/
theorem eaveCross_age (d : Dev) (p : Nat) (retried : Bool) (m : QMsg) :
    (d.eaveCross p retried).oldGen m = d.oldGen m ∧ (d.eaveCross p retried).tooOld m = d.tooOld m := by
  unfold Dev.eaveCross
  split
  next =>
    have hlimit (e : Bool) : (d.raise (160 + p / 16) (recCE 0x30 (p / 16))).cfg e SWC_AGE_CFG.LIMIT = d.cfg e SWC_AGE_CFG.LIMIT := by
      unfold Dev.cfg Dev.rdE
      rw [rd_raise d _ _ ⟨SWC_AGE_CFG.LIMIT.k, 0, 0⟩ (by decide), raise_commits]
    have hfget (f : Fld) (hf : f.k ≠ .FLT_UNIT_STAT) (i j : Nat) := raise_fget d (160 + p / 16) (recCE 0x30 (p / 16)) f i j (.inl hf)
    refine ⟨?_, ?_⟩
    · unfold Dev.oldGen
      simp only [hfget FLD_STAT.GEN (by decide)]
    · have hnow : (d.raise (160 + p / 16) (recCE 0x30 (p / 16))).now = d.now :=
        hfget TIM_NOW.NOW (by decide) 0 0
      unfold Dev.tooOld Dev.fon Dev.ownSwath Dev.ownNow
      simp only [hfget SWC_AGE_CFG.EN (by decide), hlimit, hnow, raise_time]
  · exact ⟨rfl, rfl⟩

section
variable {d e : Dev} (hc : e.core = d.core) (p : Nat)
include hc

theorem head_core : e.head p 0 0 = d.head p 0 0 := by unfold Dev.head; rw [hc]

theorem underWay_core : e.underWay p = d.underWay p := by unfold Dev.underWay; rw [hc]

theorem offered_core (np : Bool) : e.offered p 0 0 np = d.offered p 0 0 np := by
  have hn : e.nonPosted = d.nonPosted := by
    unfold Dev.nonPosted Dev.flight
    rw [hc]
  unfold Dev.offered
  rw [hc, hn]

end

/-- A slot of a port that is up and has a mode for messages. -/
theorem egressSlot_acts {d : Dev} {p : Nat} (hu : d.portUp p = true) (hl : d.inL1 p = false) (h0 : d.portMode p ≠ 0)
    (h4 : d.portMode p ≠ 4) (x y : Dev) :
    (if d.portUp p && !d.inL1 p && d.configured p && d.fget CXP_PORT_CFG.MODE p != 4 then x else y) = x := by
  have hc : d.configured p = true := by simpa [Dev.configured, Dev.fon, Dev.portMode] using h0
  have hm : (d.fget CXP_PORT_CFG.MODE p != 4) = true := by simpa [Dev.portMode] using h4
  exact if_pos (by simp [hu, hl, hc, hm])

/-- A slot in which a message under way goes on. -/
theorem goesOn_eq {d : Dev} {p : Nat} {m : QMsg} {np : Bool} (hw : d.underWay p = some m)
    (hr : ∀ r, d.offered p 0 0 np = some r → r.chan ≠ .mem) (more retried : Bool) (cs : CellState) :
    Dev.egressSlot p more cs np (d.eaveCross p retried) =
      if more then d.eaveCross p retried else ((d.eaveCross p retried).setSending (Tab.erase d.core.sending p)).sent m := by
  obtain ⟨hc, -⟩ := eaveCross_keeps d p retried
  refine (egressSlot_goesOn ((underWay_core hc p).trans hw) (by rwa [offered_core hc]) more cs).trans ?_
  rw [hc]

section
variable {s : State} (h : s.dev.inReset = false) {p : Fin 128} (more : Bool) (link : SlotLink)
include h

theorem egressSlot_down (cs : CellState) (hd : s.dev.portUp p = false ∨ s.dev.inL1 p = true ∨ s.dev.portMode p = 4) :
    exec (.egressSlot p more cs link) s = .next s := by
  unfold exec execEgressSlot
  refine onDev_idle h (if_neg ?_)
  rcases hd with hd | hd | hd
  · simp [hd]
  · simp [hd]
  · have : s.dev.fget CXP_PORT_CFG.MODE p = 4 := hd
    simp [this]

variable (hu : s.dev.portUp p = true) (hl : s.dev.inL1 p = false) (h0 : s.dev.portMode p ≠ 0) (h4 : s.dev.portMode p ≠ 4)
include hu hl h0 h4

theorem egressSlot_runs {cs : CellState} {P : Dev → Prop} (hp : ∀ x : Dev,
    x.core = (Dev.egressSlot p more cs link.npBlocked (s.dev.eaveCross p link.retried)).core →
    x.out = (Dev.egressSlot p more cs link.npBlocked (s.dev.eaveCross p link.retried)).out → P x) :
    Runs (.egressSlot p more cs link) s P := by
  unfold Runs Ends exec execEgressSlot
  refine onDev_after h fun x hxc hxo => hp x ?_ ?_
  · rw [hxc]
    exact congrArg Dev.core (egressSlot_acts hu hl h0 h4 _ _)
  · rw [hxo]
    exact congrArg Dev.out (egressSlot_acts hu hl h0 h4 _ _)

/-- The head of the Ridge queue is sent first. -/
theorem ridge_runs {m : QMsg} (hh : s.dev.head p 0 0 = some m) (hw : s.dev.underWay p = none) (hg : s.dev.oldGen m = false)
    (ha : s.dev.tooOld m = false) (hm : m.isResponse) : Runs (.egressSlot p false .whole link) s fun x =>
      x.core.buf = s.dev.core.buf.erase m ∧ s.dev.left x m := by
  obtain ⟨hc, ho⟩ := eaveCross_keeps s.dev p link.retried
  obtain ⟨hgen, hage⟩ := eaveCross_age s.dev p link.retried m
  obtain ⟨hbuf, load, hout⟩ := egressSlot_ridge link.npBlocked ((head_core hc p).trans hh) ((underWay_core hc p).trans hw)
    (hgen.trans hg) (hage.trans ha) hm
  exact egressSlot_runs h false link hu hl h0 h4 fun x hxc hxo =>
    ⟨by rw [hxc, hbuf, hc], load, by rw [hxo, hout, ho]⟩

section
variable {m : QMsg} (hw : s.dev.underWay p = some m)
  (hr : ∀ r, s.dev.offered p 0 0 link.npBlocked = some r → r.chan ≠ .mem)
include hw hr

theorem goesOn_ends (cs : CellState) : Ends (.egressSlot p true cs link) s (s.dev.eaveCross p link.retried) := by
  obtain ⟨hg, hf⟩ := eaveCross_frame s.dev p link.retried
  unfold Ends exec execEgressSlot
  exact onDev_to h ((egressSlot_acts hu hl h0 h4 _ _).trans (goesOn_eq hw hr true link.retried cs)) hg hf

theorem lastFlit_runs (cs : CellState) (hm : m.isResponse) : Runs (.egressSlot p false cs link) s fun x =>
    x.underWay p = none ∧ s.dev.left x m ∧ x.core.buf = s.dev.core.buf := by
  obtain ⟨hc, ho⟩ := eaveCross_keeps s.dev p link.retried
  obtain ⟨hs, hso⟩ := sent_response ((s.dev.eaveCross p link.retried).setSending (Tab.erase s.dev.core.sending p)) hm
  refine egressSlot_runs h false link hu hl h0 h4 (cs := cs) fun x hxc hxo => ?_
  rw [goesOn_eq hw hr] at hxc hxo
  rw [if_neg Bool.false_ne_true, hs] at hxc
  rw [if_neg Bool.false_ne_true, hso] at hxo
  have hbuf : x.core.buf = (s.dev.eaveCross p link.retried).core.buf := by rw [hxc]; rfl
  have hout : ((s.dev.eaveCross p link.retried).setSending (Tab.erase s.dev.core.sending p)).out = s.dev.out := ho
  exact ⟨underWay_erased (d := s.dev) (by rw [hxc]; rfl), ⟨_, by rw [hxo, hout]⟩, by rw [hbuf, hc]⟩

end

theorem emptySlot_runs (cs : CellState) (he : ∀ m ∈ s.dev.core.buf, m.egress ≠ p.val) (hw : s.dev.underWay p = none)
    (hs : ∀ x ∈ s.dev.core.suspended, x.1 ≠ p.val) : Runs (.egressSlot p more cs link) s fun x =>
      x.core.buf = s.dev.core.buf ∧ x.out = s.dev.out ∧ x.core.sending = s.dev.core.sending := by
  obtain ⟨hc, ho⟩ := eaveCross_keeps s.dev p link.retried
  have hnone := egressSlot_empty (d := s.dev.eaveCross p link.retried) (by rwa [hc]) more cs link.npBlocked
    ((underWay_core hc p).trans hw) (by rwa [hc])
  refine egressSlot_runs h more link hu hl h0 h4 fun x hxc hxo => ⟨?_, ?_, ?_⟩
  · rw [hxc, hnone.buf, hc]
  · rw [hxo, hnone.out, ho]
  · rw [hxc, hnone.sending, hc]

end

end Sys2Proof.Machine
end

section
namespace Sys2Proof.Machine

/-! A rule whose parity fails (R510, R516) -/

theorem rd_raise_other (d : Dev) (u : Nat) (x : FaultRec) (r : Reg) (h : r ≠ ⟨.FLT_UNIT_STAT, u, 0⟩) :
    (d.raise u x).rd r = d.rd r := by
  unfold Dev.raise
  dsimp only
  split
  · rfl
  · exact rd_fset_other (d.setSrc u _) FLT_UNIT_STAT.DROPPED _ u 0 r h

/-- A one-bit field that is set stands in its register. -/
theorem putBits_flag (v : Word) : (putBits v 6 1 1).getLsbD 6 = true := by
  have h := congrArg (Nat.testBit · 0) (bitsOf_putBits_same v 6 1 1 (by decide))
  rw [bitsOf_testBit] at h
  simpa using h

/-- A flag at bit 6 set, and a fault raised: the flag stands, and no register changes but its own and the fault's counter. -/
theorem flagRaised (d : Dev) {f : Fld} (i j u : Nat) (x : FaultRec) (hlo : f.lo = 6) (hw : f.w = 1) (hk : f.k ≠ .FLT_UNIT_STAT) :
    (((d.fset f 1 i j).raise u x).rd ⟨f.k, i, j⟩).getLsbD 6 = true ∧
      RegsBut [⟨f.k, i, j⟩, ⟨.FLT_UNIT_STAT, u, 0⟩] d ((d.fset f 1 i j).raise u x) := by
  refine ⟨?_, fun r hr => ?_⟩
  · rw [rd_raise _ _ _ _ hk, rd_fset, if_pos rfl, hlo, hw]
    exact putBits_flag _
  · rw [List.mem_cons, List.mem_singleton, not_or] at hr
    rw [rd_raise_other _ _ _ _ hr.2, rd_fset_other _ _ _ _ _ _ hr.1]

theorem flagRaised_runs {s : State} (h : s.dev.inReset = false) {g : Dev → Dev} {f : Fld} (i j u : Nat) (x : FaultRec)
    (hg : g s.dev = (s.dev.fset f 1 i j).raise u x) (hlo : f.lo = 6) (hw : f.w = 1) (hk : f.k ≠ .FLT_UNIT_STAT) :
    ∃ d, onDev s g = .next { s with dev := d } ∧ (d.rd ⟨f.k, i, j⟩).getLsbD 6 = true ∧
      RegsBut [⟨f.k, i, j⟩, ⟨.FLT_UNIT_STAT, u, 0⟩] s.dev d :=
  ⟨_, onDev_to h hg (raise_gable _ _ _) (raise_fuses _ _ _), flagRaised s.dev i j u x hlo hw hk⟩

theorem ruleParityFail_runs {s : State} (h : s.dev.inReset = false) (which : Fin 131) (rule : Fin 1024) :
    let r : Reg := if which.val < 128 then ⟨.HRW_PORT_RULE0, which, rule % 32⟩
      else if which.val = 128 then ⟨.HRW_ENG_RULE0, 0, rule % 256⟩ else if which.val = 129 then ⟨.HRW_POOL_RULE0, 0, rule⟩
      else ⟨.HRW_DEFMAP0, 0, 0⟩
    Runs (.ruleParityFail which rule) s fun x => (x.rd r).getLsbD 6 = true ∧
      RegsBut [r, ⟨.FLT_UNIT_STAT, if which.val < 128 then which else 408, 0⟩] s.dev x := by
  intro r
  unfold Runs Ends exec execRuleParityFail
  by_cases h1 : which.val < 128
  · simp only [r, if_pos h1]
    exact flagRaised_runs (f := HRW_PORT_RULE0.PARITY_ERR) h _ _ _ _ rfl rfl rfl (by decide)
  · by_cases h2 : which.val = 128
    · simp only [r, if_neg h1, if_pos h2]
      exact flagRaised_runs (f := HRW_ENG_RULE0.PARITY_ERR) h _ _ _ _ rfl rfl rfl (by decide)
    · by_cases h3 : which.val = 129
      · simp only [r, if_neg h1, if_neg h2, if_pos h3]
        exact flagRaised_runs (f := HRW_POOL_RULE0.PARITY_ERR) h _ _ _ _ rfl rfl rfl (by decide)
      · simp only [r, if_neg h1, if_neg h2, if_neg h3]
        exact flagRaised_runs (f := HRW_DEFMAP0.PARITY_ERR) h _ _ _ _ rfl rfl rfl (by decide)

end Sys2Proof.Machine
end

section
namespace Sys2Proof.Machine

/-! The commands of messages: a clause each -/

/-- The buffer's clause: a held message is admitted unless one before it is held too, or no part has room. -/
theorem bufferAdmit_clause {s : State} (h : s.dev.inReset = false) {n : Nat} {i : Option Nat} {m : QMsg}
    (hn : s.dev.core.holds[n]? = some (i, m)) :
    let before : Prop := ∃ h ∈ s.dev.core.holds.take n, h.1 = m.ingress ∧ h.2.cls = m.cls ∧ h.2.chan = m.chan ∧
      (m.ingress ≠ none ∨ h.2.egress = m.egress)
    (before → exec (.bufferAdmit n) s = .next s) ∧ (s.dev.admitPart m = none → exec (.bufferAdmit n) s = .next s) ∧
    ∀ part, ¬ before → s.dev.admitPart m = some part → Runs (.bufferAdmit n) s fun x =>
      x.core.holds = s.dev.core.holds.eraseIdx n ∧
      x.core.buf = s.dev.core.buf ++ [{ m with part := part, stamp := s.dev.stampOf m }] :=
  ⟨fun hb => bufferAdmit_behind h hn ((heldBefore_iff _ _).mpr hb), bufferAdmit_full h hn,
    fun _ hb ha => bufferAdmit_runs h hn (fun hq => hb ((heldBefore_iff _ _).mp hq)) ha⟩

/-- Settles O48, a clause per command. -/
theorem trafficCommands : Obligations.TrafficCommands := by
  unfold Obligations.TrafficCommands
  intro s p h d e v mode t up steady waits answered
  have htags (hs : steady) : ∀ f ∈ s.dev.core.flights, f.tag < s.dev.core.nextTag := fun f hf =>
    let ⟨htag, _⟩ := hs f hf; htag
  have hunheld (hs : steady) : s.dev.unheld := fun f hf => let ⟨_, hresumed, hbehind, _⟩ := hs f hf; ⟨hresumed, hbehind⟩
  have hheld (hs : steady) : ∀ f ∈ s.dev.core.flights, f.phase ≠ .held := fun f hf => let ⟨_, _, _, hheld⟩ := hs f hf; hheld
  refine ⟨fun m errs => ingressMessage_down h p m errs, fun vc dpid m errs => pbrMessage_down h p vc dpid m errs,
    fun ⟨hu, hl⟩ hm => ⟨biEnable_ends h p hu hl hm, dpcEnable_runs h p hu hl hm, fun r n hk hs hn hr hc => ?_⟩,
    fun tag data poison ex ⟨hu, hl⟩ hs => response_discarded h data poison ex hu hl (hunheld hs),
    fun tag data poison ex fl q ⟨hu, hl⟩ hw hk hq hs => response_completes h data poison ex hu hl hw hk hq
      (htags hs fl (awaited_some hw).1),
    fun vc dpid ⟨hu, _⟩ hm hs => ⟨pbrReserved_ends h vc dpid hu hm (hunheld hs), fun r hk hr =>
      ⟨pbrUnrouted_runs h vc dpid hu hm hk (htags hs) (hunheld hs) hr, fun q => pbrRouted_runs h vc dpid hu hm hk (htags hs)⟩⟩,
    fun n => bufferAdmit_none h, fun n i m hn => bufferAdmit_clause h hn, fun more np retried => ⟨?_, fun ⟨hu, hl⟩ h0 h4 =>
      ⟨fun m hh hw hg ha hmore hm => ?_, fun m hw hr => ⟨fun hmore => ?_, fun hmore hm => ?_⟩, ?_⟩⟩,
    ruleParityFail_runs h⟩
  · exact ⟨fun nm lk rule => hostRead_denied h hu hl hm hk (htags hs) hn hr hc, fun rule nc hv =>
      ⟨hostRead_unbound h hu hl hm hk (htags hs) hn hr hc hv, fun pool rule2 nc2 dev a hb hi hsh hc2 hpl hst hup =>
        hostRead_routed h hu hl hm hk (htags hs) hn hr hc hv (hheld hs) hb hi hsh hc2 hpl hst hup⟩⟩
  · exact egressSlot_down h more ⟨np, retried⟩ .whole
  · subst hmore
    exact ridge_runs h ⟨np, retried⟩ hu hl h0 h4 hh hw hg ha hm
  · subst hmore
    exact goesOn_ends h ⟨np, retried⟩ hu hl h0 h4 hw hr .whole
  · subst hmore
    exact lastFlit_runs h ⟨np, retried⟩ hu hl h0 h4 hw hr .whole hm
  · exact emptySlot_runs h more ⟨np, retried⟩ hu hl h0 h4 .whole

end Sys2Proof.Machine
end

section
namespace Sys2Proof.Machine

/-! The status of a commit (R38, R39): a lemma per test, in the order in which they are made -/

/-- Without good time nothing else is tested. -/
theorem commitStatus_noTime {d : Dev} (n T : Nat) (ht : d.timeGood = false) : d.commitStatus n T = 4 := by
  simp [Dev.commitStatus, ht]

theorem commitStatus_faulted {d : Dev} (n T : Nat) (ht : d.timeGood = true) (hf : d.inFault = true) : d.commitStatus n T = 10 := by
  simp [Dev.commitStatus, ht, hf]

section
variable {d : Dev} {T : Nat} (n : Nat) (ht : d.timeGood = true) (hf : d.inFault = false)
include ht hf

theorem commitStatus_late (h : T < d.now + 2048) : d.commitStatus n T = 2 := by
  simp [Dev.commitStatus, ht, hf, h]

theorem commitStatus_far (h : d.now + 2 ^ 30 < T) : d.commitStatus n T = 3 := by
  have hl : ¬ T < d.now + 2048 := by omega
  simp only [Dev.commitStatus, ht, hf, hl, h, Bool.not_true, Bool.false_eq_true, if_true, if_false]

variable {x : Nat} (hx : d.lastInstant = some x) (hl : d.now + 2048 ≤ T) (hu : T ≤ d.now + 2 ^ 30)
include hx hl hu

theorem commitStatus_order (h : T < x) : d.commitStatus n T = 5 := by
  simpa [Dev.commitStatus, ht, hf, Nat.not_lt.mpr hl, hx, h] using hu

theorem commitStatus_close (h : x < T) (hc : T < x + 65536) : d.commitStatus n T = 6 := by
  simpa [Dev.commitStatus, ht, hf, Nat.not_lt.mpr hl, hx, Nat.lt_asymm h, h, hc] using hu

end

/-- Settles O21, a lemma per test. -/
theorem commitChecks : Obligations.CommitChecks := by
  unfold Obligations.CommitChecks
  intro d n T
  exact ⟨commitStatus_noTime n T, commitStatus_faulted n T, fun ht hf => ⟨commitStatus_late n ht hf, commitStatus_far n ht hf,
    fun x hx hl hu => ⟨commitStatus_order n ht hf hx hl hu, commitStatus_close n ht hf hx hl hu⟩⟩⟩

end Sys2Proof.Machine
end

section
namespace Sys2Proof.Machine

/-! An instant in the last swath that NOW's 64 bits can show -/

/-- A device in the last ns that NOW can show, with set 0 pending for the start of that swath. Its one write clears binding entry 0,
the only binding of field 0, which is granted and LOST. -/
def lastSwath : Dev :=
  let d : Dev := {
    fuses := ⟨0, 0, false, 0⟩
    wygel := { keys := [], slotEntry := [] }
    gable := { boot := .up }
    commits := { order := [0], sets := [(0, [⟨Reg.addr ⟨.TMP_BIND0, 0, 0⟩, 8, 0, 0⟩])] } }
  let d := ((d.fset TIM_NOW.NOW (2 ^ 64 - 1)).fset TIM_COMMIT_INSTANT.INSTANT (2 ^ 64 - 1024)).fset TIM_COMMIT_STAT.STATE 2
  let d := (d.fset TMP_FIELD0.MODE fLost).fset TMP_FIELD0.ORIGIN 1
  ((d.fset TMP_BIND0.VALID 1).fset TMP_BIND0.LEN_GIB 1).fset TMP_FIELD1.BIND_COUNT 1

theorem lastSwath_now : lastSwath.now = 2 ^ 64 - 1 := by decide

theorem lastSwath_nextInstant : lastSwath.nextInstant = some (2 ^ 64 - 1024, [0]) := by decide

/-- The flip unbinds the field and so releases it (R383). It holds no frame, so it ends at the next swath boundary, 2^64, which
NOW shows as 0. -/
theorem lastSwath_commitInstant : ∃ d, Ends .commitInstant ⟨lastSwath, []⟩ d ∧ d.now = 0 :=
  ⟨_, rfl, by decide +kernel⟩

/-- Refutes O34: NOW can be below what it was after an instant, where a field released at it ends at a swath boundary that 64 bits
do not show. -/
theorem not_commitInstant : ¬ Obligations.CommitInstant := by
  unfold Obligations.CommitInstant
  intro h
  obtain ⟨instants, -⟩ := h ⟨lastSwath, []⟩ (by decide)
  obtain ⟨-, d, ends, -, -, -, -, -, monotone, -⟩ := instants _ _ lastSwath_nextInstant ⟨rfl, rfl⟩
  obtain ⟨d', ends', wrapped⟩ := lastSwath_commitInstant
  rw [← ends_unique ends' ends, wrapped] at monotone
  exact absurd monotone (by simp [lastSwath_now])

end Sys2Proof.Machine
end

section
namespace Sys2Proof.Machine

/-! The register map: every element lies in its unit, and no two elements of a unit share an address (R143 to R147) -/

/-- The bytes of one unit of a block whose stride is 2^sh; a block of one unit has its whole 40-bit space. -/
def unitSize (sh : Nat) : Nat := if sh = 0 then 2 ^ 40 else 2 ^ sh

/-- A block's units are whole registers and lie within its 40-bit space. -/
def blockSound (n sh : Nat) : Prop := sh = 0 ∧ n = 1 ∨ 3 ≤ sh ∧ n * 2 ^ sh ≤ 2 ^ 40

/-- A place is made of whole registers, the last of which begins within its block's unit. -/
def Place.sound (p : Place) : Bool :=
  decide (p.off % 8 = 0 ∧ p.stride % 8 = 0 ∧ 0 < p.stride) &&
    (blockInfo p.block).all fun (_, sh) => decide (p.off + (p.count - 1) * p.stride < unitSize sh)

/-- Two places share no address: other blocks, one behind the other, or interleaved. -/
def Place.apart (p q : Place) : Bool :=
  !(p.block.beq q.block) || (p.off + (p.count - 1) * p.stride).blt q.off || (q.off + (q.count - 1) * q.stride).blt p.off ||
    (p.stride.beq q.stride && !((p.off % p.stride).beq (q.off % q.stride)))

/-- Each place lies apart from those after it. -/
def placesApart : List Place → Bool
  | [] => true
  | p :: ps => ps.all p.apart && placesApart ps

theorem blockInfo_sound {b n sh : Nat} (h : blockInfo b = some (n, sh)) : blockSound n sh := by
  unfold blockInfo at h
  split at h
  · cases h; exact .inl ⟨rfl, rfl⟩
  · split at h <;> cases h <;> unfold blockSound <;> decide

theorem RK.place_sound (k : RK) : k.place.sound = true := by cases k <;> rfl

theorem RK.all_getElem (k : RK) : RK.all[k.ctorIdx]? = some k := by cases k <;> rfl

theorem RK.mem_all (k : RK) : k ∈ RK.all := List.mem_of_getElem? k.all_getElem

/-- By the kernel's evaluation: some 27,000 pairs of places. -/
theorem RK.places_apart : placesApart (RK.all.map RK.place) = true := by decide +kernel

theorem RK.place_aligned (k : RK) : k.place.off % 8 = 0 ∧ k.place.stride % 8 = 0 ∧ 0 < k.place.stride := by
  have h := k.place_sound
  simp only [Place.sound, Bool.and_eq_true, decide_eq_true_eq] at h
  exact h.1

theorem RK.place_within (k : RK) {n sh : Nat} (hb : blockInfo k.place.block = some (n, sh)) {j : Nat}
    (hj : j < k.place.count) : k.place.off + j * k.place.stride < unitSize sh := by
  have h : k.place.off + (k.place.count - 1) * k.place.stride < unitSize sh := by
    simpa [hb, k.place_aligned, Place.sound] using k.place_sound
  have hm : j * k.place.stride ≤ (k.place.count - 1) * k.place.stride := Nat.mul_le_mul_right _ (by omega)
  omega

theorem Place.apart_iff (p q : Place) : p.apart q = true ↔ p.block ≠ q.block ∨
    p.off + (p.count - 1) * p.stride < q.off ∨ q.off + (q.count - 1) * q.stride < p.off ∨
    (p.stride = q.stride ∧ p.off % p.stride ≠ q.off % q.stride) := by
  have hne : ∀ a b : Nat, a.beq b = false ↔ a ≠ b := fun a b => by rw [ne_eq, ← Nat.beq_eq, Bool.not_eq_true]
  simp [Place.apart, hne, Nat.blt_eq, or_assoc]

/-- Elements of places that lie apart have addresses apart. -/
theorem Place.elements_apart {p q : Place} (h : p.apart q = true) (hb : p.block = q.block) {j j' : Nat}
    (hj : j < p.count) (hj' : j' < q.count) : p.off + j * p.stride ≠ q.off + j' * q.stride := by
  have hp : j * p.stride ≤ (p.count - 1) * p.stride := Nat.mul_le_mul_right _ (by omega)
  have hq : j' * q.stride ≤ (q.count - 1) * q.stride := Nat.mul_le_mul_right _ (by omega)
  intro he
  rcases (p.apart_iff q).mp h with h | h | h | ⟨hs, h⟩
  · exact h hb
  · omega
  · omega
  · exact h (by rw [← Nat.add_mul_mod_self_right p.off j, he, hs, Nat.add_mul_mod_self_right])

/-- The element of a register at an offset of a unit: the two registers of part of their places apart (block 0x08's
upper half, class 0), the one whose offset it is. -/
theorem RK.at?_eq_some (k : RK) (b i x : Nat) (r : Reg) : k.at? b i x = some r ↔
    r = ⟨k, i, r.j⟩ ∧ k.place.block = b ∧ r.j < k.place.count ∧ x = k.place.off + r.j * k.place.stride ∧
      ¬ (b = 0x08 ∧ 0x8000 ≤ k.place.off ∧ i ≠ 0) ∧ ¬ (k = .SCH_CLASS_CFG ∧ r.j = 0) := by
  obtain ⟨-, -, hs⟩ := k.place_aligned
  unfold RK.at?
  constructor
  · intro h
    simp only at h
    split at h
    case isFalse => cases h
    case isTrue hc =>
    obtain ⟨hb, hx, hm, hj⟩ := hc
    split at h
    case isTrue => cases h
    case isFalse h8 =>
    split at h
    case isTrue => cases h
    case isFalse hz =>
    cases h
    have he : x = k.place.off + (x - k.place.off) / k.place.stride * k.place.stride := by
      have := Nat.div_add_mod' (x - k.place.off) k.place.stride
      omega
    refine ⟨rfl, hb, hj, he, h8, fun ⟨hk, hj0⟩ => hz ⟨hk, ?_⟩⟩
    simp only at hj0
    rw [hj0] at he
    omega
  · rintro ⟨hr, hb, hj, hx, h8, hz⟩
    have hd : x - k.place.off = r.j * k.place.stride := by omega
    have hq : (x - k.place.off) / k.place.stride = r.j := by rw [hd, Nat.mul_div_cancel _ hs]
    have h0 : ¬ (k = .SCH_CLASS_CFG ∧ x = k.place.off) := fun ⟨hk, he⟩ => hz ⟨hk, by
      rw [he, Nat.sub_self, Nat.zero_div] at hq
      exact hq.symm⟩
    rw [if_pos ⟨hb, by omega, by rw [hd, Nat.mul_mod_left], by rw [hq]; exact hj⟩, if_neg h8, if_neg h0, hq]
    exact congrArg some hr.symm

/-- Where places lie apart, the search finds the one register of an offset. -/
theorem findSome_at {ks : List RK} (ha : placesApart (ks.map RK.place) = true) {k : RK} (hk : k ∈ ks) {b i x : Nat} {r : Reg}
    (h : k.at? b i x = some r) : ks.findSome? (RK.at? b i x) = some r := by
  induction ks with
  | nil => cases hk
  | cons k0 ks ih =>
    simp only [List.map_cons, placesApart, Bool.and_eq_true, List.all_eq_true, List.mem_map, forall_exists_index, and_imp,
      forall_apply_eq_imp_iff₂] at ha
    obtain ⟨h0, hs⟩ := ha
    rw [List.findSome?_cons]
    rcases List.mem_cons.mp hk with rfl | hk
    · rw [h]
    · have hn : k0.at? b i x = none := by
        rw [Option.eq_none_iff_forall_ne_some]
        intro r0 hr0
        obtain ⟨-, hb0, hj0, hx0, -⟩ := (k0.at?_eq_some b i x r0).mp hr0
        obtain ⟨-, hb, hj, hx, -⟩ := (k.at?_eq_some b i x r).mp h
        exact Place.elements_apart (h0 k hk) (hb0.trans hb.symm) hj0 hj (hx0.symm.trans hx)
      rw [hn]
      exact ih hs hk

/-- The unit that offset `x` of a block's space lies in. -/
def instanceAt (sh x : Nat) : Nat := if sh = 0 then 0 else x / 2 ^ sh

/-- The offset there. -/
def offsetAt (sh x : Nat) : Nat := if sh = 0 then x else x % 2 ^ sh

theorem instance_offset (sh x : Nat) : instanceAt sh x * 2 ^ sh + offsetAt sh x = x := by
  unfold instanceAt offsetAt
  split
  · omega
  · exact Nat.div_add_mod' x (2 ^ sh)

theorem instanceAt_eq {i sh o : Nat} (ho : o < unitSize sh) (hi : sh = 0 → i = 0) :
    instanceAt sh (i * 2 ^ sh + o) = i ∧ offsetAt sh (i * 2 ^ sh + o) = o := by
  unfold instanceAt offsetAt
  split
  case isTrue h => simp [hi h]
  case isFalse h =>
    rw [unitSize, if_neg h] at ho
    rw [Nat.add_comm, Nat.add_mul_div_right _ _ (by positivity), Nat.div_eq_of_lt ho, Nat.zero_add, Nat.add_mul_mod_self_right,
      Nat.mod_eq_of_lt ho]
    exact ⟨rfl, rfl⟩

/-- The register at an offset of a block's space. -/
theorem regAt_block {a b n sh x : Nat} (ha : a / 2 ^ 40 = b) (hb : blockInfo b = some (n, sh)) (hx : a % 2 ^ 40 / 8 * 8 = x) :
    regAt a = if n ≤ instanceAt sh x then none else RK.all.findSome? (RK.at? b (instanceAt sh x) (offsetAt sh x)) := by
  unfold regAt
  simp only [ha, hx, hb]
  rfl

theorem regAt_unlisted {a b : Nat} (ha : a / 2 ^ 40 = b) (hb : blockInfo b = none) : regAt a = none := by
  unfold regAt
  simp only [ha, hb]

/-- What an address that leads to a register is made of. -/
theorem regAt_some {a : Nat} {r : Reg} (h : regAt a = some r) : r.addr = a / 8 * 8 ∧ r.j < r.k.place.count := by
  cases hb : blockInfo (a / 2 ^ 40) with
  | none => rw [regAt_unlisted rfl hb] at h; cases h
  | some e =>
    obtain ⟨n, sh⟩ := e
    rw [regAt_block rfl hb rfl] at h
    split at h
    case isTrue => cases h
    case isFalse =>
      obtain ⟨_, k, _, -, hat, -⟩ := List.findSome?_eq_some_iff.mp h
      obtain ⟨hr, hk, hj, hx, -⟩ := (RK.at?_eq_some ..).mp hat
      have hadd := instance_offset sh (a % 2 ^ 40 / 8 * 8)
      rw [hx] at hadd
      rw [hr]
      refine ⟨?_, hj⟩
      simp only [Reg.addr, hk, hb]
      omega

theorem aligned_of_stride {sh : Nat} (h : 3 ≤ sh) (n : Nat) : n * 2 ^ sh % 8 = 0 :=
  Nat.mod_eq_zero_of_dvd (Dvd.dvd.mul_left (pow_dvd_pow 2 h : 2 ^ 3 ∣ 2 ^ sh) n)

/-- A unit of a block is a whole number of registers, and lies in the block's 40-bit space. -/
theorem instance_fits {b n sh i : Nat} (hb : blockInfo b = some (n, sh)) (hi : i < n) :
    (sh = 0 → i = 0) ∧ i * 2 ^ sh % 8 = 0 ∧ i * 2 ^ sh + unitSize sh ≤ 2 ^ 40 := by
  rcases blockInfo_sound hb with ⟨rfl, rfl⟩ | ⟨h3, hn⟩
  · obtain rfl : i = 0 := by omega
    simp [unitSize]
  · have hle : (i + 1) * 2 ^ sh ≤ n * 2 ^ sh := Nat.mul_le_mul_right _ hi
    rw [Nat.add_one_mul] at hle
    rw [unitSize, if_neg (by omega)]
    exact ⟨by omega, aligned_of_stride h3 i, by omega⟩

theorem regAt_addr {r : Reg} {n sh : Nat} (hb : blockInfo r.k.place.block = some (n, sh)) (hi : r.i < n)
    (hj : r.j < r.k.place.count) (h8 : r.k.place.block = 0x08 → 0x8000 ≤ r.k.place.off → r.i = 0)
    (hz : r.k = .SCH_CLASS_CFG → r.j ≠ 0) : regAt r.addr = some r := by
  obtain ⟨ho, hs, -⟩ := r.k.place_aligned
  have hw := r.k.place_within hb hj
  generalize hx : r.k.place.off + r.j * r.k.place.stride = x at hw
  have hx8 : x % 8 = 0 := by
    have : (r.j * r.k.place.stride) % 8 = 0 := by rw [Nat.mul_mod, hs, Nat.mul_zero, Nat.zero_mod]
    omega
  have hat : r.k.at? r.k.place.block r.i x = some r :=
    (RK.at?_eq_some ..).mpr ⟨rfl, rfl, hj, hx.symm, fun ⟨h, h', hn⟩ => hn (h8 h h'), fun ⟨h, h0⟩ => hz h h0⟩
  have ha : r.addr = r.k.place.block * 2 ^ 40 + (r.i * 2 ^ sh + x) := by
    simp only [Reg.addr, hb, ← hx]; omega
  obtain ⟨h0, hi8, hfit⟩ := instance_fits hb hi
  obtain ⟨hinst, hoff⟩ := instanceAt_eq hw h0
  rw [regAt_block (by omega) hb (by omega : _ = r.i * 2 ^ sh + x), hinst, hoff, if_neg (by omega)]
  exact findSome_at RK.places_apart r.k.mem_all hat

theorem regAt_beyond {b n sh x : Nat} (hx : x < 2 ^ 40) (hb : blockInfo b = some (n, sh)) (hn : n * 2 ^ sh ≤ x)
    (h0 : sh ≠ 0) :
    regAt (b * 2 ^ 40 + x) = none := by
  rcases blockInfo_sound hb with ⟨h, -⟩ | ⟨h3, -⟩
  · exact absurd h h0
  · have h8 := aligned_of_stride h3 n
    have hi : n ≤ instanceAt sh (x / 8 * 8) := by
      rw [instanceAt, if_neg h0, Nat.le_div_iff_mul_le (by positivity)]
      omega
    rw [regAt_block (by omega) hb (by omega : _ = x / 8 * 8), if_pos hi]

/-- Settles O60: the places of the map lie apart and within their units, so that the search finds each register by its own
address. -/
theorem registerAddresses : Obligations.RegisterAddresses := by
  unfold Obligations.RegisterAddresses
  exact ⟨fun _ _ _ hb hi hj h8 hz => regAt_addr hb hi hj h8 hz, fun _ _ h => regAt_some h,
    fun _ _ _ _ hx hb hn h0 => regAt_beyond hx hb hn h0, fun _ _ hx hb => regAt_unlisted (by omega) hb⟩

end Sys2Proof.Machine
end

section
namespace Sys2Proof.Machine

/-! Threads set and read -/

theorem tab_set_set {α : Type} (t : Tab α) (k : Nat) (v w : α) : Tab.set (Tab.set t k v) k w = Tab.set t k w := by
  induction t with
  | nil => simp [Tab.set]
  | cons e t ih =>
    obtain ⟨k', v'⟩ := e
    rcases Nat.lt_trichotomy k k' with h | rfl | h
    · simp [Tab.set, h]
    · simp [Tab.set]
    · simp [Tab.set, Nat.not_lt.mpr h.le, h.ne', ih]

@[simp] theorem setThr_setThr (d : Dev) (t : Nat) (a b : Thread) : (d.setThr t a).setThr t b = d.setThr t b := by
  simp [Dev.setThr, tab_set_set]

@[simp] theorem thr_setThr_same (d : Dev) (t : Nat) (th : Thread) : (d.setThr t th).thr t = th := tab_get_set_same _ _ _ _

theorem thr_setThr_other (d : Dev) {t u : Nat} (th : Thread) (h : u ≠ t) : (d.setThr t th).thr u = d.thr u :=
  tab_get_set_other _ _ _ _ _ h

@[simp] theorem turn_setThr (d : Dev) (t : Nat) (th : Thread) : (d.turn t).setThr t th = d.setThr t th := setThr_setThr _ _ _ _

theorem turn_thr_other (d : Dev) {t u : Nat} (h : u ≠ t) : (d.turn t).thr u = d.thr u := thr_setThr_other _ _ h

/-! What an exception leaves (R77, R78) -/

/-- An exception changes threads, registers and fault sources alone. -/
structure Dev.exceptKeeps (d e : Dev) : Prop where
  fuses : e.fuses = d.fuses
  gable : e.gable = d.gable
  wygel : e.wygel = d.wygel
  out : e.out = d.out

theorem threadFault_keeps (d : Dev) (t code : Nat) : d.exceptKeeps (d.threadFault t code) := by
  unfold Dev.threadFault
  dsimp only
  split <;> constructor <;> simp

theorem takeException_keeps (d : Dev) (t code : Nat) (epc : BitVec 32) (detail : Nat) :
    d.exceptKeeps (d.takeException t code epc detail) := by
  unfold Dev.takeException
  dsimp only
  split
  · exact threadFault_keeps d t code
  · split
    · exact threadFault_keeps d t code
    · constructor <;> rfl

/-! The issue of an instruction -/

/-- What a thread is as it issues: it owes no other thread its engine any longer (R116). -/
def Dev.issuing (d : Dev) (t : Nat) : Thread := { d.thr t with owes := [] }

theorem turn_thr_issuing (d : Dev) (t : Nat) : (d.turn t).thr t = d.issuing t := turn_thr d t

/-- The instruction's own exception. -/
theorem turn_trap (d : Dev) (t code detail : Nat) :
    (d.turn t).trap t code detail = (d.turn t).takeException t code (d.issuing t).pc detail := by
  rw [Dev.trap, turn_thr_issuing]

section
variable {s : State} {t : Nat} {legal mgr : Bool} {act : Dev → Thread → Dev} {d : Dev}

/-- An instruction of a ready thread, of legal form and within its privilege, ends at what its own effect gives. -/
theorem issue_ends (h : s.dev.issues t) (hl : legal = true) (hm : mgr = true → (s.dev.thr t).priv = false)
    (ha : act (s.dev.turn t) (s.dev.issuing t) = d) (hu : d.wygel.update = none) (hg : d.gable = s.dev.gable)
    (hf : d.fuses = s.dev.fuses) : onDev s (Dev.issue t legal mgr act) = .next { s with dev := d } := by
  have hp : (mgr && (s.dev.issuing t).priv) = false := by
    cases mgr with
    | false => rfl
    | true => exact hm rfl
  refine onDev_to h.1 ?_ hg hf
  rw [issue_runs _ _ _ _ _ h]
  simp only [turn_thr_issuing, hl, hp, Bool.not_true, Bool.false_eq_true, if_false]
  rw [ha, trySwitch_none d hu]

theorem issues_update (h : s.dev.issues t) : s.dev.wygel.update = none := h.2.2.2.1

/-- It ends with its thread's own record changed, and nothing else. -/
theorem issue_ends_setThr {th : Thread} (h : s.dev.issues t) (hl : legal = true) (hm : mgr = true → (s.dev.thr t).priv = false)
    (ha : act (s.dev.turn t) (s.dev.issuing t) = s.dev.setThr t th) :
    onDev s (Dev.issue t legal mgr act) = .next { s with dev := s.dev.setThr t th } :=
  issue_ends h hl hm ha (issues_update h) rfl rfl

/-- It ends in an exception, the machine else as it was. -/
theorem issue_ends_exception {code detail : Nat} {epc : BitVec 32} {e : Dev} (h : s.dev.issues t) (hl : legal = true)
    (hm : mgr = true → (s.dev.thr t).priv = false)
    (ha : act (s.dev.turn t) (s.dev.issuing t) = e.takeException t code epc detail) (he : s.dev.exceptKeeps e) :
    onDev s (Dev.issue t legal mgr act) = .next { s with dev := e.takeException t code epc detail } := by
  have hk := takeException_keeps e t code epc detail
  exact issue_ends h hl hm ha (by rw [hk.wygel, he.wygel]; exact issues_update h) (hk.gable.trans he.gable)
    (hk.fuses.trans he.fuses)

end

theorem turn_keeps (d : Dev) (t : Nat) : d.exceptKeeps (d.turn t) := ⟨rfl, rfl, rfl, rfl⟩

/-- A general register written, the flags as they were, and the thread goes on. -/
theorem advance_setG (th : Thread) (rd : Nat) (v : Word) : (th.setG rd v).advance = th.wrote rd v th.flags := by
  unfold Thread.wrote Thread.setG Thread.advance
  split <;> rfl

end Sys2Proof.Machine
end

section
namespace Sys2Proof.Machine

/-! Bytes of memory: lists read and written, and their values -/

@[simp] theorem readList_length (m : Mem) (a n : Nat) : (m.readList a n).length = n := by
  induction n generalizing a with
  | zero => rfl
  | succ n ih => simp [Mem.readList, ih]

theorem readList_getElem? (m : Mem) (a n k : Nat) (h : k < n) : (m.readList a n)[k]? = some (m.read (a + k)) := by
  induction n generalizing a k with
  | zero => omega
  | succ n ih =>
    cases k with
    | zero => rfl
    | succ k => rw [Mem.readList, List.getElem?_cons_succ, ih _ _ (by omega)]; congr 2; omega

theorem leNat_lt (bs : List Byte) : leNat bs < 2 ^ (8 * bs.length) := by
  induction bs with
  | nil => decide
  | cons b bs ih =>
    have hb := b.isLt
    rw [leNat, List.length_cons, Nat.mul_add, pow_add]
    omega

/-- Byte `k` of a list's value. -/
theorem leNat_byte {bs : List Byte} {k : Nat} {b : Byte} (h : bs[k]? = some b) : leNat bs / 2 ^ (8 * k) % 256 = b.toNat := by
  induction bs generalizing k with
  | nil => cases h
  | cons c bs ih =>
    have hc := c.isLt
    cases k with
    | zero =>
      obtain rfl : c = b := by simpa using h
      rw [leNat]
      omega
    | succ k =>
      have hd : (c.toNat + 256 * leNat bs) / 2 ^ 8 = leNat bs := by omega
      rw [leNat, Nat.mul_add, Nat.mul_one, Nat.add_comm (8 * k), pow_add, ← Nat.div_div_eq_div_mul, hd]
      exact ih (by simpa using h)

theorem extractLsb'_toNat_byte (v : Word) (k : Nat) : (v.extractLsb' (8 * k) 8).toNat = v.toNat / 2 ^ (8 * k) % 256 := by
  rw [BitVec.extractLsb'_toNat, Nat.shiftRight_eq_div_pow]

/-- The word that bytes of memory make: each byte in its place, and no bit beyond them. -/
theorem leWord_bytes (m : Mem) {p w : Nat} (hw : w ≤ 8) :
    (∀ k < w, (BitVec.ofNat 64 (leNat (m.readList p w))).extractLsb' (8 * k) 8 = m.read (p + k)) ∧
      (BitVec.ofNat 64 (leNat (m.readList p w))).toNat < 2 ^ (8 * w) := by
  have hl := leNat_lt (m.readList p w)
  rw [readList_length] at hl
  have h64 : leNat (m.readList p w) < 2 ^ 64 := lt_of_lt_of_le hl (Nat.pow_le_pow_right (by omega) (by omega))
  have hn : (BitVec.ofNat 64 (leNat (m.readList p w))).toNat = leNat (m.readList p w) := by
    rw [BitVec.toNat_ofNat, Nat.mod_eq_of_lt h64]
  refine ⟨fun k hk => BitVec.eq_of_toNat_eq ?_, by rwa [hn]⟩
  rw [extractLsb'_toNat_byte, hn, leNat_byte (readList_getElem? m p w k hk)]

/-- Bytes written read as written. -/
theorem mem_read_writeList_same (m : Mem) (a k : Nat) {bs : List Byte} {b : Byte} (h : bs[k]? = some b) :
    (m.writeList a bs).read (a + k) = b := by
  induction bs generalizing m a k with
  | nil => cases h
  | cons c bs ih =>
    cases k with
    | zero =>
      rw [Mem.writeList, mem_read_writeList_other _ _ _ _ (by omega), Nat.add_zero, mem_read_write, if_pos rfl]
      simpa using h
    | succ k =>
      have hn := ih (m.write a c) (a + 1) k (by simpa using h)
      rw [Mem.writeList, ← Nat.add_assoc, Nat.add_right_comm]
      exact hn

theorem leBytes_getElem? (w v k : Nat) (h : k < w) : (leBytes w v)[k]? = some (BitVec.ofNat 8 (v / 2 ^ (8 * k))) := by
  induction w generalizing v k with
  | zero => omega
  | succ w ih =>
    cases k with
    | zero => simp [leBytes]
    | succ k =>
      rw [leBytes, List.getElem?_cons_succ, ih _ _ (by omega), Nat.div_div_eq_div_mul, Nat.mul_add, Nat.mul_one,
        Nat.add_comm (8 * k), pow_add]
      rfl

/-- Byte `k` of a word. -/
theorem leBytes_word (w : Nat) (v : Word) (k : Nat) (h : k < w) : (leBytes w v.toNat)[k]? = some (v.extractLsb' (8 * k) 8) := by
  rw [leBytes_getElem? w _ k h]
  congr 1
  apply BitVec.eq_of_toNat_eq
  rw [extractLsb'_toNat_byte, BitVec.toNat_ofNat]

end Sys2Proof.Machine
end

section
namespace Sys2Proof.Machine

/-! Scratch accesses (R70, R71, R110, R111) -/

/-- A device gives a thread's scratch address whoever's turn it is. -/
@[simp] theorem turn_scratchAddr (d : Dev) (t : Nat) (th : Thread) (a w : Nat) :
    (d.turn t).scratchAddr th a w = d.scratchAddr th a w := rfl

@[simp] theorem turn_scratchPoisoned (d : Dev) (t a w : Nat) : (d.turn t).scratchPoisoned a w = d.scratchPoisoned a w := rfl

/-- A word of scratch stays poisoned unless the bytes stored cover it whole. -/
theorem mem_scratchStore_poison (d : Dev) (p : Nat) (bs : List Byte) (x : Nat) :
    x ∈ (d.scratchStore p bs).wygel.scratchPoison ↔
      x ∈ d.wygel.scratchPoison ∧ ¬ (p ≤ 8 * x ∧ 8 * x + 8 ≤ p + bs.length) := by
  simp only [Dev.scratchStore, List.mem_filter, Bool.not_eq_true', decide_eq_false_iff_not, Nat.mul_comm 8]

section
variable {s : State} {t rd ra : Nat} {imm : BitVec 16} {p : Nat}

/-- The scratch address of an access. -/
def Dev.issuingEA (d : Dev) (t ra : Nat) (imm : BitVec 16) : Nat :=
  ((d.issuing t).g ra + imm.signExtend 64).toNat % 2 ^ 22

theorem scratchEA_issuing (d : Dev) : scratchEA (d.issuing t) ra imm = d.issuingEA t ra imm := rfl

theorem loadScratch_loads {w : Nat} (h : s.dev.issues t) (hw : w ≤ 8) (hal : s.dev.issuingEA t ra imm % w = 0)
    (hp : s.dev.scratchAddr (s.dev.issuing t) (s.dev.issuingEA t ra imm) w = some p)
    (hc : s.dev.scratchPoisoned p w = false) :
    ∃ v : Word, onDev s (Dev.loadScratch t rd ra imm w) =
        .next { s with dev := s.dev.setThr t ((s.dev.issuing t).wrote rd v (s.dev.issuing t).flags) } ∧
      (∀ k < w, v.extractLsb' (8 * k) 8 = s.dev.wygel.scratch.read (p + k)) ∧ v.toNat < 2 ^ (8 * w) := by
  refine ⟨_, issue_ends_setThr h rfl (by simp) ?_, leWord_bytes s.dev.wygel.scratch hw⟩
  simp only [scratchEA_issuing, hal, turn_scratchAddr, hp, turn_scratchPoisoned, hc]
  simp [Dev.retire, advance_setG, Dev.scratchLoad, Dev.turn]

theorem storeScratch_stores {w : Nat} (h : s.dev.issues t) (hal : s.dev.issuingEA t ra imm % w = 0)
    (hp : s.dev.scratchAddr (s.dev.issuing t) (s.dev.issuingEA t ra imm) w = some p) :
    ∃ m poison, onDev s (Dev.storeScratch t rd ra imm w) =
        .next { s with dev := { s.dev.setThr t { s.dev.issuing t with pc := (s.dev.issuing t).pc + 4 } with
          wygel := { s.dev.wygel with scratch := m, scratchPoison := poison } } } ∧
      (∀ k < w, m.read (p + k) = ((s.dev.issuing t).g rd).extractLsb' (8 * k) 8) ∧
      (∀ x, x < p ∨ p + w ≤ x → m.read x = s.dev.wygel.scratch.read x) ∧
      (s.dev.wygel.scratch.wf = true → m.wf = true) ∧
      (∀ x, x ∈ poison ↔ x ∈ s.dev.wygel.scratchPoison ∧ ¬ (p ≤ 8 * x ∧ 8 * x + 8 ≤ p + w)) := by
  have hpoison := mem_scratchStore_poison s.dev p (leBytes w ((s.dev.issuing t).g rd).toNat)
  rw [leBytes_length] at hpoison
  refine ⟨s.dev.wygel.scratch.writeList p (leBytes w ((s.dev.issuing t).g rd).toNat), _,
    issue_ends h rfl (by simp) ?_ (issues_update h) rfl rfl,
    fun k hk => mem_read_writeList_same _ _ _ (leBytes_word w _ k hk),
    fun x hx => mem_read_writeList_other _ _ _ _ (by simpa using hx), mem_wf_writeList _ _ _, hpoison⟩
  simp only [scratchEA_issuing, hal, turn_scratchAddr, hp]
  simp [Dev.retire, Thread.advance, Dev.scratchStore, Dev.turn, Dev.setThr, tab_set_set]

/-- A scratch access that takes exception `code`: EPC is the instruction, the detail the address. -/
def accessTraps (s : State) (t ra : Nat) (imm : BitVec 16) (f : Dev → Dev) (code : Nat) : Prop :=
  onDev s f = .next
    { s with dev := (s.dev.turn t).takeException t code (s.dev.issuing t).pc (s.dev.issuingEA t ra imm) }

theorem loadScratch_traps {w : Nat} (h : s.dev.issues t) :
    let traps := accessTraps s t ra imm (Dev.loadScratch t rd ra imm w)
    let a := s.dev.issuingEA t ra imm
    (a % w ≠ 0 → traps 4) ∧ (a % w = 0 → s.dev.scratchAddr (s.dev.issuing t) a w = none → traps 5) ∧
      (∀ p, true = true → a % w = 0 → s.dev.scratchAddr (s.dev.issuing t) a w = some p →
        s.dev.scratchPoisoned p w = true → traps 8) := by
  refine ⟨fun hal => ?_, fun hal hp => ?_, fun p _ hal hp hc => ?_⟩ <;>
    refine issue_ends_exception h rfl (by simp) ?_ (turn_keeps _ _)
  · simp [scratchEA_issuing, hal, turn_trap]
  · simp [scratchEA_issuing, hal, hp, turn_trap]
  · simp [scratchEA_issuing, hal, hp, hc, turn_trap]

theorem storeScratch_traps {w : Nat} (h : s.dev.issues t) :
    let traps := accessTraps s t ra imm (Dev.storeScratch t rd ra imm w)
    let a := s.dev.issuingEA t ra imm
    (a % w ≠ 0 → traps 4) ∧ (a % w = 0 → s.dev.scratchAddr (s.dev.issuing t) a w = none → traps 5) ∧
      (∀ p, false = true → a % w = 0 → s.dev.scratchAddr (s.dev.issuing t) a w = some p →
        s.dev.scratchPoisoned p w = true → traps 8) := by
  refine ⟨fun hal => ?_, fun hal hp => ?_, fun p hf => (Bool.false_ne_true hf).elim⟩ <;>
    refine issue_ends_exception h rfl (by simp) ?_ (turn_keeps _ _)
  · simp [scratchEA_issuing, hal, turn_trap]
  · simp [scratchEA_issuing, hal, hp, turn_trap]

end

/-- Settles O3: each width's load, by the one rule of scratch loads. -/
theorem scratchLoads : Obligations.ScratchLoads := by
  unfold Obligations.ScratchLoads
  intro s t rd ra imm p h
  exact ⟨loadScratch_loads h (by decide), loadScratch_loads h (by decide), loadScratch_loads h (by decide),
    loadScratch_loads h (by decide)⟩

/-- Settles O4: each width's store, by the one rule of scratch stores. -/
theorem scratchStores : Obligations.ScratchStores := by
  unfold Obligations.ScratchStores
  intro s t rd ra imm p h
  exact ⟨storeScratch_stores h, storeScratch_stores h, storeScratch_stores h, storeScratch_stores h⟩

/-- Settles O5: the tests of an access are made in the order ALIGN, SCRATCH, POISON, the last for loads alone. -/
theorem scratchTraps : Obligations.ScratchTraps := by
  unfold Obligations.ScratchTraps
  intro s t rd ra imm h
  exact ⟨loadScratch_traps h, loadScratch_traps h, loadScratch_traps h, loadScratch_traps h, storeScratch_traps h,
    storeScratch_traps h, storeScratch_traps h, storeScratch_traps h⟩

end Sys2Proof.Machine
end

section
namespace Sys2Proof.Machine

/-! Taking an exception (R77, R78) -/

theorem src_setSrc_same (d : Dev) (u : Nat) (x : FaultSrc) : (d.setSrc u x).src u = x := tab_get_set_same _ _ _ _

/-- A source with room for a record queues it last (R549). -/
theorem raise_queue (d : Dev) (u : Nat) (r : FaultRec) (h : (d.src u).queue.length < 4) :
    ((d.raise u r).src u).queue = (d.src u).queue ++ [(r, false)] := by
  unfold Dev.raise
  dsimp only
  rw [if_pos h, src_setSrc_same]

/-- A field put above all bits of a word is added to it. -/
theorem putBits_above {v : Word} {lo w n : Nat} (hv : v.toNat < 2 ^ lo) (hn : n < 2 ^ w) (h : lo + w ≤ 64) :
    (putBits v lo w n).toNat = v.toNat + n * 2 ^ lo := by
  have hlt : v.toNat + n * 2 ^ lo < 2 ^ 64 := calc
    v.toNat + n * 2 ^ lo < (n + 1) * 2 ^ lo := by rw [Nat.add_one_mul]; omega
    _ ≤ 2 ^ w * 2 ^ lo := Nat.mul_le_mul_right _ hn
    _ ≤ 2 ^ 64 := by rw [← pow_add]; exact Nat.pow_le_pow_right (by omega) (by omega)
  have he : putBits v lo w n = BitVec.ofNat 64 (2 ^ lo * n + v.toNat) := by
    apply BitVec.eq_of_getElem_eq
    intro k hk
    have hbit : (BitVec.ofNat 64 (2 ^ lo * n + v.toNat))[k] = (2 ^ lo * n + v.toNat).testBit k := by
      rw [← BitVec.getLsbD_eq_getElem, BitVec.getLsbD_ofNat]; simp [hk]
    rw [putBits_getElem, hbit, Nat.testBit_two_pow_mul_add _ hv]
    by_cases hlo : k < lo
    · simp [hlo, Nat.not_le.mpr hlo, BitVec.getElem_eq_testBit_toNat]
    · by_cases hw : k < lo + w
      · simp [hlo, hw, Nat.not_lt.mp hlo]
      · have hv0 : v.toNat.testBit k = false :=
          Nat.testBit_lt_two_pow (lt_of_lt_of_le hv (Nat.pow_le_pow_right (by omega) (by omega)))
        have hn0 : n.testBit (k - lo) = false :=
          Nat.testBit_lt_two_pow (lt_of_lt_of_le hn (Nat.pow_le_pow_right (by omega) (by omega)))
        simp [hlo, hw, hn0, BitVec.getElem_eq_testBit_toNat, hv0]
  rw [he, BitVec.toNat_ofNat, Nat.mod_eq_of_lt (by rw [Nat.mul_comm]; omega)]
  rw [Nat.mul_comm, Nat.add_comm]

/-- A program counter with bits 1:0 as 0 (R64). -/
theorem alignedPC (h : Nat) : BitVec.ofNat 32 h &&& 0xFFFFFFFC = BitVec.ofNat 32 (h / 4 * 4) := by
  have hm : ∀ i < 32, (0xFFFFFFFC : BitVec 32).getLsbD i = decide (2 ≤ i) := by decide
  apply BitVec.eq_of_getLsbD_eq
  intro i hi
  have hd : (h / 4 * 4).testBit i = (decide (2 ≤ i) && h.testBit i) := by
    rw [show h / 4 * 4 = (h >>> 2) <<< 2 by rw [Nat.shiftRight_eq_div_pow, Nat.shiftLeft_eq], Nat.testBit_shiftLeft,
      Nat.testBit_shiftRight]
    by_cases h2 : 2 ≤ i
    · simp [h2]
    · simp [h2]
  rw [BitVec.getLsbD_and, BitVec.getLsbD_ofNat, BitVec.getLsbD_ofNat, hm i hi, hd]
  simp [hi, Bool.and_comm]

/-- ECAUSE of an exception: the code, PPRIV, EXL and the detail. -/
theorem ecause_toNat (p : Bool) {code detail : Nat} (hc : code < 256) (hd : detail < 2 ^ 32) :
    (putBits (putBits (putBits (putBits 0 0 8 code) 8 1 p.toNat) 9 1 1) 32 32 detail).toNat =
      code + (if p then 256 else 0) + 512 + detail * 2 ^ 32 := by
  have hp : p.toNat < 2 ^ 1 := by cases p <;> decide
  have h1 : (putBits 0 0 8 code).toNat = code := by rw [putBits_above (by decide) hc (by decide)]; simp
  have h2 : (putBits (putBits 0 0 8 code) 8 1 p.toNat).toNat = code + p.toNat * 2 ^ 8 := by
    rw [putBits_above (by omega) hp (by decide), h1]
  have h3 : (putBits (putBits (putBits 0 0 8 code) 8 1 p.toNat) 9 1 1).toNat = code + p.toNat * 2 ^ 8 + 1 * 2 ^ 9 := by
    rw [putBits_above (by omega) (by decide) (by decide), h2]
  rw [putBits_above (by omega) hd (by decide), h3]
  cases p <;> rfl

section
variable {d : Dev} {t code detail : Nat} {epc : BitVec 32}

/-- The exception that a handler takes. -/
theorem takeException_handled {h : Nat} (hc : code < 256) (hd : detail < 2 ^ 32) (hh : d.handlerOf (d.thr t) = some h)
    (he : (d.thr t).ecause.getLsbD 9 = false) : ∃ e : Word,
    d.takeException t code epc detail = d.setThr t { d.thr t with
      state := .run, wait := .ready, ecode := code, epc := epc, priv := false, pc := BitVec.ofNat 32 (h / 4 * 4)
      ecause := e } ∧
    e.toNat = code + (if (d.thr t).priv then 256 else 0) + 512 + detail * 2 ^ 32 := by
  refine ⟨putBits (putBits (putBits (putBits 0 0 8 code) 8 1 (d.thr t).priv.toNat) 9 1 1) 32 32 detail, ?_,
    ecause_toNat _ hc hd⟩
  unfold Dev.takeException
  simp only [hh, he, alignedPC, Bool.false_eq_true, if_false]

/-- Without a handler, or with EXL 1, it is a thread fault. -/
theorem takeException_unhandled (h : d.handlerOf (d.thr t) = none ∨ (d.thr t).ecause.getLsbD 9 = true) :
    d.takeException t code epc detail = d.threadFault t code := by
  unfold Dev.takeException
  rcases h with h | h
  · simp only [h]
  · simp only [h, if_true]
    split <;> rfl

end

theorem threadFault_thr (d : Dev) (t code u : Nat) :
    (d.threadFault t code).thr u = if u = t then { (d.thr t).stopped with ecode := code } else d.thr u := by
  have hthr (x y : Dev) (h : x.threads = y.threads) : x.thr u = y.thr u := by simp only [Dev.thr, h]
  have hset : (d.threadFault t code).thr u = (d.setThr t { (d.thr t).stopped with ecode := code }).thr u := by
    apply hthr
    unfold Dev.threadFault
    dsimp only
    rw [raise_threads]
    split <;> rfl
  rw [hset]
  split
  case isTrue h => rw [h, thr_setThr_same]
  case isFalse h => exact thr_setThr_other _ _ h

/-- A fold thread's program reads FAULTED (R78). -/
theorem threadFault_program {d : Dev} {t : Nat} (code : Nat) (hm : (d.thr t).manager = false) :
    (d.threadFault t code).fget FLD_PROG_STAT.STATE (d.thr t).fid = 3 := by
  unfold Dev.threadFault
  simp only [hm, Bool.false_eq_true, if_false]
  rw [raise_fget _ _ _ _ _ _ (.inl (by decide)), fget_fset_same _ _ _ _ _ (by decide)]
  rfl

/-- The engine's source gets the thread fault, if it has room (R78, R549). -/
theorem threadFault_queue {d : Dev} {t : Nat} (code : Nat) (h : (d.src (202 + (d.thr t).engine)).queue.length < 4) :
    ∃ r : FaultRec, r.sev = 1 ∧ r.code = 0x90 ∧ ((d.threadFault t code).src (202 + (d.thr t).engine)).queue =
      (d.src (202 + (d.thr t).engine)).queue ++ [(r, false)] := by
  unfold Dev.threadFault
  dsimp only
  split
  all_goals exact ⟨_, rfl, rfl, raise_queue _ _ _ h⟩

/-- Settles O12, by the two outcomes of `takeException`. -/
theorem takingAnException : Obligations.TakingAnException := by
  unfold Obligations.TakingAnException
  intro d t code detail epc hc hd
  refine ⟨fun h hh he => takeException_handled hc hd hh he, fun h => ?_⟩
  rw [takeException_unhandled h]
  refine ⟨by rw [threadFault_thr, if_pos rfl]; rfl, fun u hu => by rw [threadFault_thr, if_neg hu],
    fun hm _ => threadFault_program code hm, fun hq => threadFault_queue code hq⟩

end Sys2Proof.Machine
end

section
namespace Sys2Proof.Machine

/-! What leaves all but a list of registers as it was -/

theorem onlyRegs_refl (rs : List Reg) (d : Dev) : OnlyRegs rs d d := ⟨rfl, fun _ _ => rfl⟩

section
variable {rs : List Reg} {d e x : Dev}

theorem OnlyRegs.trans (h : OnlyRegs rs d e) (h' : OnlyRegs rs e x) : OnlyRegs rs d x := by
  refine ⟨?_, fun r hr => (h'.2 r hr).trans (h.2 r hr)⟩
  have := h.1
  rw [← h'.1] at this
  exact this

theorem OnlyRegs.fset (h : OnlyRegs rs d e) (f : Fld) (n i j : Nat) (hr : ⟨f.k, i, j⟩ ∈ rs) :
    OnlyRegs rs d (e.fset f n i j) :=
  h.trans ⟨rfl, fun r hn => rd_fset_other e f n i j r fun he => hn (he ▸ hr)⟩

/-- Does a part of the device's state lie beside the register file? -/
def BesideRegs {β : Type} (g : Dev → β) : Prop := ∀ (y : Dev) (l : List RegCell), g { y with regs := l } = g y

/-- Nothing of the device's other state has changed. -/
theorem OnlyRegs.state {β : Type} (h : OnlyRegs rs d e) (g : Dev → β) (hg : BesideRegs g) : g e = g d :=
  (hg e d.regs).symm.trans (congrArg g h.1)

end

/-- A draining engine that is found empty changes its own register alone. -/
theorem drainCheck_onlyRegs (d : Dev) (e : Nat) : OnlyRegs [⟨.WGL_ENG_CTRL, 0, e⟩] d (d.drainCheck e) := by
  unfold Dev.drainCheck
  split
  · exact (((onlyRegs_refl _ d).fset _ _ _ _ (by simp)).fset _ _ _ _ (by simp)).fset _ _ _ _ (by simp)
  · exact onlyRegs_refl _ d

theorem drainAll_keeps {β : Type} (d : Dev) (g : Dev → β) (hg : BesideRegs g) : g d.drainAll = g d :=
  foldl_keeps g Dev.drainCheck (fun e k => (drainCheck_onlyRegs e k).state g hg) _ d

/-! The end of a thread (R61) -/

theorem tab_get_erase {α : Type} (dflt : α) (t : Tab α) (k k' : Nat) :
    Tab.get dflt (t.erase k) k' = if k' = k then dflt else Tab.get dflt t k' := by
  unfold Tab.erase
  induction t with
  | nil => simp [Tab.get]
  | cons e t ih =>
    obtain ⟨k2, v2⟩ := e
    by_cases h2 : k2 = k
    · subst h2
      simp only [List.filter_cons, bne_self_eq_false, Bool.false_eq_true, if_false, ih, Tab.get]
      split <;> rfl
    · simp only [List.filter_cons, bne_iff_ne, ne_eq, h2, not_false_eq_true, if_true, Tab.get, ih]
      by_cases hk : k' = k2
      · simp [hk, h2]
      · simp [hk]

/-- Thread `t` is gone, every other as it was; no byte of memory changes and nothing is sent. -/
structure Dev.threadGone (d : Dev) (t : Nat) (e : Dev) : Prop where
  thr : e.thr t = {}
  others : ∀ u, u ≠ t → e.thr u = d.thr u
  scratch : e.wygel.scratch = d.wygel.scratch
  pstore : e.wygel.pstore = d.wygel.pstore
  update : e.wygel.update = d.wygel.update
  out : e.out = d.out
  gable : e.gable = d.gable
  fuses : e.fuses = d.fuses

section
variable {d e : Dev} {t : Nat}

theorem Dev.threadGone.freeFoldImage (h : d.threadGone t e) (f : Nat) : d.threadGone t (e.freeFoldImage f) :=
  ⟨h.thr, h.others, h.scratch, h.pstore, h.update, h.out, h.gable, h.fuses⟩

theorem Dev.threadGone.fset (h : d.threadGone t e) (f : Fld) (n i j : Nat) : d.threadGone t (e.fset f n i j) :=
  ⟨h.thr, h.others, h.scratch, h.pstore, h.update, h.out, h.gable, h.fuses⟩

theorem Dev.threadGone.ite {x y : Dev} (c : Prop) [Decidable c] (hx : d.threadGone t x) (hy : d.threadGone t y) :
    d.threadGone t (if c then x else y) := by split <;> assumption

end

/-- A thread's record given up, and its jobs left without a thread. -/
def Dev.erased (d : Dev) (t : Nat) : Dev := { d with
  threads := Tab.erase d.threads t
  folds := { d.folds with work := d.folds.work.map fun w => { w with owner := w.owner.orphan t } } }

/-- A thread's release, but for the hot update that it may let switch. -/
def Dev.released (d : Dev) (t : Nat) : Dev :=
  let th := d.thr t
  let e := if th.live && !th.manager then (d.erased t).freeFoldImage th.fid else d.erased t
  if th.live && !th.manager && th.state != .faulted then e.fset FLD_PROG_STAT.STATE 0 th.fid else e

theorem released_threadGone (d : Dev) (t : Nat) : d.threadGone t (d.released t) := by
  have herase : d.threadGone t (d.erased t) :=
    ⟨(tab_get_erase _ _ _ _).trans (if_pos rfl), fun u h => (tab_get_erase _ _ _ _).trans (if_neg h),
      rfl, rfl, rfl, rfl, rfl, rfl⟩
  have himage := Dev.threadGone.ite (((d.thr t).live && !(d.thr t).manager) = true)
    (herase.freeFoldImage (d.thr t).fid) herase
  exact Dev.threadGone.ite (((d.thr t).live && !(d.thr t).manager && (d.thr t).state != .faulted) = true)
    (himage.fset FLD_PROG_STAT.STATE 0 (d.thr t).fid 0) himage

theorem release_eq {d : Dev} (hu : d.wygel.update = none) (t : Nat) : d.release t = d.released t :=
  trySwitch_none _ ((released_threadGone d t).update.trans hu)

theorem release_threadGone {d : Dev} (hu : d.wygel.update = none) (t : Nat) : d.threadGone t (d.release t) := by
  rw [release_eq hu]
  exact released_threadGone d t

theorem endThread_threadGone {d : Dev} (hu : d.wygel.update = none) (t : Nat) : d.threadGone t (d.endThread t) := by
  have h := release_threadGone hu t
  have keeps {β : Type} (g : Dev → β) (hg : BesideRegs g) : g (d.endThread t) = g (d.release t) := drainAll_keeps _ g hg
  exact ⟨(keeps (fun e => e.thr t) fun _ _ => rfl).trans h.thr,
    fun u hn => (keeps (fun e => e.thr u) fun _ _ => rfl).trans (h.others u hn),
    (keeps (fun e => e.wygel.scratch) fun _ _ => rfl).trans h.scratch,
    (keeps (fun e => e.wygel.pstore) fun _ _ => rfl).trans h.pstore,
    (keeps (fun e => e.wygel.update) fun _ _ => rfl).trans h.update, (keeps Dev.out fun _ _ => rfl).trans h.out,
    (keeps Dev.gable fun _ _ => rfl).trans h.gable, (keeps Dev.fuses fun _ _ => rfl).trans h.fuses⟩

end Sys2Proof.Machine
end

section
namespace Sys2Proof.Machine

/-! The system group (R116) -/

section
variable {s : State} {t : Fin 64}

theorem mapThr_thr (d : Dev) (f : Nat → Thread → Thread) (u : Nat) (h : f u {} = {}) : (d.mapThr f).thr u = f u (d.thr u) :=
  tab_get_map ({} : Thread) f u h d.threads

/-- What YLD does to the other threads: each ready one of its engine is to issue first (R116). -/
def owesTo (t : Nat) (eng : Nat) (n : Nat) (x : Thread) : Thread :=
  if n != t && x.state == .run && x.engine == eng then { x with owes := x.owes ++ [t] } else x

theorem yld_ends (h : s.dev.issues t) : ∃ ts, Ends (.yld t 0 0 0) s { s.dev with threads := ts } ∧
    Tab.get {} ts t = (if (s.dev.issuing t).marked then { (s.dev.issuing t).advance with state := .parked }
      else (s.dev.issuing t).advance) ∧
    ∀ u, u ≠ t.val → Tab.get {} ts u = { s.dev.thr u with
      owes := (s.dev.thr u).owes ++
        (if (s.dev.thr u).state = .run ∧ (s.dev.thr u).engine = (s.dev.issuing t).engine then [t.val] else []) } := by
  let x := if (s.dev.issuing t).marked then { (s.dev.issuing t).advance with state := .parked } else (s.dev.issuing t).advance
  let m := (s.dev.turn t).mapThr (owesTo t (s.dev.issuing t).engine)
  refine ⟨(m.setThr t x).threads, issue_ends (d := m.setThr t x) h rfl (by simp) ?_ (issues_update h) rfl rfl,
    thr_setThr_same m t x, fun u hu => ?_⟩
  · show (if (s.dev.issuing t).marked then (m.retire t (s.dev.issuing t)).park t
      else m.retire t (s.dev.issuing t)) = m.setThr t x
    unfold x Dev.park Dev.retire
    split <;> simp
  · refine (thr_setThr_other m x hu).trans ?_
    rw [mapThr_thr _ _ _ (by simp [owesTo]), turn_thr_other _ hu]
    by_cases ho : (s.dev.thr u).state = .run ∧ (s.dev.thr u).engine = (s.dev.issuing t).engine
    · simp [owesTo, hu, ho]
    · simp only [owesTo, if_neg ho, List.append_nil]
      rw [if_neg]
      simpa [hu] using ho

theorem hlt_runs (h : s.dev.issues t) : Runs (.hlt t 0 0 0) s fun d => d.thr t = {} ∧
    (∀ u, u ≠ t.val → d.thr u = s.dev.thr u) ∧ d.wygel.scratch = s.dev.wygel.scratch ∧ d.out = s.dev.out := by
  have hg := endThread_threadGone (d := s.dev.turn t) (issues_update h) t
  exact ⟨_, issue_ends h rfl (by simp) rfl (hg.update.trans (issues_update h)) hg.gable hg.fuses, hg.thr,
    fun u hu => (hg.others u hu).trans (turn_thr_other _ hu), hg.scratch, hg.out⟩

theorem alignedPC_of_dvd {pc : BitVec 32} (h : 4 ∣ pc.toNat) : pc &&& 0xFFFFFFFC = pc := by
  have := alignedPC pc.toNat
  rwa [Nat.div_mul_cancel h, BitVec.ofNat_toNat, BitVec.setWidth_eq] at this

/-- ECAUSE with EXL cleared. -/
theorem exl_cleared (e : Word) (b : Nat) : (e &&& ~~~ mask 9 1).getLsbD b = (e.getLsbD b && decide (b ≠ 9)) := by
  by_cases hb : b < 64
  · simp only [BitVec.getLsbD_eq_getElem hb, BitVec.getElem_and, BitVec.getElem_not, mask_getElem]
    congr 1
    by_cases h9 : b = 9
    · simp [h9]
    · have : ¬ (9 ≤ b ∧ b < 9 + 1) := by omega
      simp [this, h9]
  · simp [BitVec.getLsbD_of_ge, Nat.le_of_not_lt hb]

theorem eret_ends (h : s.dev.issues t) (hp : (s.dev.issuing t).priv = false) (he : (s.dev.issuing t).ecause.getLsbD 9 = true)
    (ha : 4 ∣ (s.dev.issuing t).epc.toNat) : ∃ x : Thread, Ends (.eret t 0 0 0) s (s.dev.setThr t x) ∧
    x = { s.dev.issuing t with pc := (s.dev.issuing t).epc, priv := (s.dev.issuing t).ecause.getLsbD 8, ecause := x.ecause } ∧
      ∀ b, x.ecause.getLsbD b = ((s.dev.issuing t).ecause.getLsbD b && decide (b ≠ 9)) := by
  refine ⟨(s.dev.issuing t).eret, issue_ends_setThr h rfl (fun _ => hp) ?_, ?_, exl_cleared _⟩
  · simp only [he, if_true, turn_setThr]
  · simp only [Thread.eret, alignedPC_of_dvd ha]

theorem fnc_done (h : s.dev.issues t) (hp : s.dev.posted t = []) :
    Ends (.fnc t 0 0 0) s (s.dev.setThr t { s.dev.issuing t with
      pc := (s.dev.issuing t).pc + 4, flags := { (s.dev.issuing t).flags with c := (s.dev.issuing t).postFail },
      postFail := false, wait := .ready }) := by
  have hr : (s.dev.issuing t).state = .run := h.2.2.2.2.1
  refine issue_ends_setThr h rfl (by simp) ?_
  have ht : (s.dev.turn t).posted t = [] := hp
  simp only [ht, List.isEmpty_nil, if_true, turn_setThr, fenceDone, Thread.advance, ← hr]

theorem fnc_waits (h : s.dev.issues t) (hp : s.dev.posted t ≠ []) :
    Ends (.fnc t 0 0 0) s (s.dev.setThr t { s.dev.issuing t with state := .wait, wait := .fence }) := by
  refine issue_ends_setThr h rfl (by simp) ?_
  have ht : (s.dev.turn t).posted t ≠ [] := hp
  simp [ht]

theorem sys_ends (h : s.dev.issues t) (imm : BitVec 16) : Ends (.sys t 0 0 imm) s
    ((s.dev.turn t).takeException t 0xA ((s.dev.issuing t).pc + 4) imm.toNat) :=
  issue_ends_exception h rfl (by simp) rfl (turn_keeps _ _)

end

/-- Settles O7, an instruction at a time. -/
theorem systemGroup : Obligations.SystemGroup := by
  unfold Obligations.SystemGroup
  intro s t h
  exact ⟨yld_ends h, hlt_runs h, eret_ends h, ⟨fnc_done h, fnc_waits h⟩, sys_ends h⟩

end Sys2Proof.Machine
end

section
namespace Sys2Proof.Machine

/-! Events and faults from software (R118 to R120) -/

/-- An entry of a table that is not the default is listed, so that a map over the table reaches it. -/
theorem tab_get_map_listed {α : Type} (dflt : α) (f : Nat → α → α) (k : Nat) (t : Tab α)
    (h : Tab.get dflt t k ≠ dflt) : Tab.get dflt (t.map fun e => (e.1, f e.1 e.2)) k = f k (Tab.get dflt t k) := by
  induction t with
  | nil => exact absurd rfl h
  | cons e t ih =>
    simp only [List.map_cons, Tab.get] at h ⊢
    split
    · rename_i hk; rw [hk]
    · rename_i hk; exact ih (by simpa [hk] using h)

theorem mapThr_thr_listed (d : Dev) (f : Nat → Thread → Thread) (u : Nat) (h : d.thr u ≠ {}) :
    (d.mapThr f).thr u = f u (d.thr u) :=
  tab_get_map_listed ({} : Thread) f u d.threads h

/-- An event put in a word of events. -/
theorem or_event (w : Word) {e : Nat} (he : e < 64) (b : Nat) :
    (w ||| mask e 1).getLsbD b = (w.getLsbD b || decide (b = e)) := by
  by_cases hb : b < 64
  · simp only [BitVec.getLsbD_eq_getElem hb, BitVec.getElem_or, mask_getElem]
    congr 2
    apply propext
    omega
  · have : b ≠ e := by omega
    simp [BitVec.getLsbD_of_ge, Nat.le_of_not_lt hb, this]

/-- A thread that a software event reaches has the event among its pending ones, and is else as it was. -/
theorem softEvent_thr (d : Dev) {e : Nat} (he : e < 64) (fold u : Nat) : ∃ m : Word,
    (d.softEvent e fold).thr u = { d.thr u with evpend := m } ∧
    ∀ b, m.getLsbD b = ((d.thr u).evpend.getLsbD b || (decide (b = e) && (d.thr u).live && (d.thr u).evmask.getLsbD e &&
      ((d.thr u).manager || (decide (56 ≤ e) && (d.thr u).fid == fold)))) := by
  unfold Dev.softEvent
  rw [latch_thr]
  dsimp only
  rw [Bool.and_right_comm]
  split
  case isTrue h =>
    refine ⟨_, rfl, fun b => ?_⟩
    rw [or_event _ he, Bool.and_assoc, Bool.and_assoc, ← Bool.and_assoc _ _ (_ || _), h, Bool.and_true]
  case isFalse h =>
    rw [Bool.not_eq_true] at h
    refine ⟨(d.thr u).evpend, rfl, fun b => ?_⟩
    rw [Bool.and_assoc, Bool.and_assoc, ← Bool.and_assoc _ _ (_ || _), h, Bool.and_false, Bool.or_false]

section
variable {s : State} {t : Fin 64}

/-- EVS of an event that the thread may send. -/
theorem evs_ends (h : s.dev.issues t) (rd ra : Fin 32) {imm : BitVec 16} (h16 : 16 ≤ imm.toNat) (h64 : imm.toNat < 64)
    (hp : (s.dev.issuing t).priv = false ∨ 56 ≤ imm.toNat) :
    let th := s.dev.issuing t
    let fold := if th.manager then (th.g ra).toNat % 256 else th.fid
    ∃ ts, Ends (.evs t rd ra imm) s { s.dev with threads := ts } ∧
      ∀ u, ∃ m : Word, Tab.get {} ts u =
          { s.dev.thr u with
            evpend := m
            pc := if u = t then th.pc + 4 else (s.dev.thr u).pc
            owes := if u = t then [] else (s.dev.thr u).owes } ∧
        ∀ b, m.getLsbD b = ((s.dev.thr u).evpend.getLsbD b ||
          (decide (b = imm.toNat) && (s.dev.thr u).live && (s.dev.thr u).evmask.getLsbD imm.toNat &&
            ((s.dev.thr u).manager || (decide (56 ≤ imm.toNat) && (s.dev.thr u).fid == fold)))) := by
  intro th fold
  let l := (s.dev.turn t).softEvent imm.toNat fold
  let step (n : Nat) (x : Thread) : Thread := if n = t.val then x.advance else x
  refine ⟨(l.mapThr step).threads,
    issue_ends (d := l.mapThr step) h (by simp [h16, h64]) (by simp) ?_ (issues_update h) rfl rfl, fun u => ?_⟩
  · have hnp : ¬ ((s.dev.issuing t).priv && decide (imm.toNat < 56)) = true := by
      rcases hp with hp | hp
      · simp [hp]
      · simp [Nat.not_lt.mpr hp]
    have hfold : (if (s.dev.issuing t).manager then bitsOf ((s.dev.issuing t).g ra) 0 8 else (s.dev.issuing t).fid) = fold := by
      simp [fold, th, bitsOf]
    dsimp only
    rw [if_neg hnp, hfold]
  · obtain ⟨m, hm, hb⟩ := softEvent_thr (s.dev.turn t) h64 fold u
    by_cases hu : u = t.val
    · subst hu
      have hr : (s.dev.thr t).state = .run := h.2.2.2.2.1
      rw [turn_thr_issuing] at hm hb
      refine ⟨m, ?_, hb⟩
      refine (mapThr_thr_listed l step t ?_).trans ?_
      · intro he
        have := congrArg Thread.state (hm.symm.trans he)
        rw [Dev.issuing, hr] at this
        cases this
      · simp only [step, if_true]
        rw [show l.thr t = _ from hm]
        rfl
    · rw [turn_thr_other _ hu] at hm hb
      refine ⟨m, ?_, hb⟩
      refine (mapThr_thr l step u (by simp [step, hu])).trans ?_
      simp only [step, if_neg hu]
      exact hm

/-- FRSE's record, as its statement gives it. -/
theorem frseRecord_eq (v : Word) (imm : BitVec 16) :
    frseRecord v imm = ⟨imm.toNat / 2 ^ 14, imm.toNat % 2 ^ 14, if imm.toNat / 2 ^ 14 = 2 then v.toNat / 4096 % 16 else 0,
      if imm.toNat / 2 ^ 14 = 2 then v.toNat % 4096 else 0, v⟩ := by
  simp [frseRecord, bitsOf, Nat.shiftRight_eq_div_pow]

theorem frse_sends (h : s.dev.issues t) (hp : (s.dev.thr t).priv = false) (ra : Fin 32) (imm : BitVec 16)
    (hq : (s.dev.src (412 + t)).queue = []) :
    Ends (.frse t 0 ra imm) s ((s.dev.setSrc (412 + t) { s.dev.src (412 + t) with
      queue := [(frseRecord ((s.dev.issuing t).g ra) imm, false)] }).setThr t
        { s.dev.issuing t with pc := (s.dev.issuing t).pc + 4 }) := by
  refine issue_ends h rfl (fun _ => hp) ?_ (issues_update h) rfl rfl
  have hq' : ((s.dev.turn t).src (412 + t)).queue = [] := hq
  simp only [hq', List.isEmpty_nil, if_true]
  exact setThr_setThr (s.dev.setSrc (412 + t) _) t _ _

theorem frse_waits (h : s.dev.issues t) (hp : (s.dev.thr t).priv = false) (ra : Fin 32) (imm : BitVec 16)
    (hq : (s.dev.src (412 + t)).queue ≠ []) :
    Ends (.frse t 0 ra imm) s (s.dev.setThr t { s.dev.issuing t with
      state := .wait, wait := .faultSlot (frseRecord ((s.dev.issuing t).g ra) imm) }) := by
  refine issue_ends_setThr h rfl (fun _ => hp) ?_
  have hq' : ((s.dev.turn t).src (412 + t)).queue ≠ [] := hq
  simp [hq']

end

/-- Settles O9: EVS by the threads that the event reaches, FRSE by the state of the thread's own source. -/
theorem softwareEventsAndFaults : Obligations.SoftwareEventsAndFaults := by
  unfold Obligations.SoftwareEventsAndFaults
  intro s t ra imm h
  refine ⟨fun rd h16 h64 hp => evs_ends h rd ra h16 h64 hp, fun hp => ?_⟩
  have sends := frse_sends h hp ra imm
  have waits := frse_waits h hp ra imm
  rw [frseRecord_eq] at sends waits
  exact ⟨sends, waits⟩

end Sys2Proof.Machine
end

section
namespace Sys2Proof.Machine

/-! Waits for an event and for an instant (R120, R121, R123, R124) -/

/-- Does EVW see event `e`: it is pending and enabled, and for a fold thread one of 56 to 63 (R120)? -/
def Thread.sees (th : Thread) (e : Nat) : Prop :=
  th.evpend.getLsbD e = true ∧ th.evmask.getLsbD e = true ∧ (th.priv = true → 56 ≤ e)

theorem evReady_iff (th : Thread) {e : Nat} (he : e < 64) : th.evReady.getLsbD e = true ↔ th.sees e := by
  have hm : (if th.priv then mask 56 8 else BitVec.allOnes 64).getLsbD e = true ↔ (th.priv = true → 56 ≤ e) := by
    cases th.priv
    · simp only [Bool.false_eq_true, if_false, BitVec.getLsbD_allOnes, he, decide_true, false_imp_iff]
    · simp only [if_true, BitVec.getLsbD_eq_getElem he, mask_getElem, decide_eq_true_eq]
      exact ⟨fun h _ => h.1, fun h => ⟨h trivial, he⟩⟩
  rw [Thread.evReady, BitVec.getLsbD_and, BitVec.getLsbD_and, Bool.and_eq_true, Bool.and_eq_true, hm, Thread.sees, and_assoc]

theorem evReady_ne_zero {th : Thread} {e : Nat} (he : e < 64) (h : th.sees e) : th.evReady ≠ 0 := by
  intro h0
  have := (evReady_iff th he).mpr h
  rw [h0] at this
  simp at this

theorem evReady_eq_zero {th : Thread} (h : ∀ e < 64, ¬ th.sees e) : th.evReady = 0 := by
  apply BitVec.eq_of_getLsbD_eq
  intro e he
  have := mt (evReady_iff th he).mp (h e he)
  simpa using this

/-- The lowest event that EVW sees. -/
theorem lowestEvent_eq {th : Thread} {e : Nat} (he : e < 64) (h : th.sees e) (hk : ∀ k < e, ¬ th.sees k) :
    lowestEvent th.evReady = e := by
  have hf : (List.range 64).find? (fun e => th.evReady.getLsbD e) = some e := by
    rw [List.find?_range_eq_some]
    refine ⟨(evReady_iff th he).mpr h, List.mem_range.mpr he, fun k hlt => ?_⟩
    simpa using mt (evReady_iff th (by omega)).mp (hk k hlt)
  rw [lowestEvent, hf]
  rfl

/-- A thread whose wait ends with a value in g[rd]: the flag C, the pending events given, and it goes on. -/
def Thread.back (x : Thread) (rd : Nat) (v : Word) (c : Bool) (pend : Word) : Thread :=
  { x.setG rd v with pc := x.pc + 4, flags := { x.flags with c := c }, evpend := pend, state := .run, wait := .ready }

@[simp] theorem setG_pc (th : Thread) (rd : Nat) (v : Word) : (th.setG rd v).pc = th.pc := by unfold Thread.setG; split <;> rfl
@[simp] theorem setG_evpend (th : Thread) (rd : Nat) (v : Word) : (th.setG rd v).evpend = th.evpend := by
  unfold Thread.setG; split <;> rfl

theorem evwEvent_eq (th : Thread) (rd : Nat) : evwEvent th rd =
    th.back rd (BitVec.ofNat 64 (lowestEvent th.evReady)) false (th.evpend &&& ~~~ mask (lowestEvent th.evReady) 1) := by
  simp only [evwEvent, Thread.back, Thread.advance, setG_pc]

theorem evwLate_eq (th : Thread) (rd : Nat) : evwLate th rd = th.back rd (BitVec.allOnes 64) true th.evpend := by
  simp only [evwLate, Thread.back, Thread.advance, setG_pc, setG_evpend]

theorem watDone_eq (now : Nat) (late : Bool) (th : Thread) (rd : Nat) :
    watDone now late th rd = th.back rd (BitVec.ofNat 64 now) late th.evpend := by
  simp only [watDone, Thread.back, Thread.advance, setG_pc, setG_evpend]

/-- A word of events with one cleared. -/
theorem event_cleared (w : Word) (e b : Nat) : (w &&& ~~~ mask e 1).getLsbD b = (w.getLsbD b && decide (b ≠ e)) := by
  by_cases hb : b < 64
  · simp only [BitVec.getLsbD_eq_getElem hb, BitVec.getElem_and, BitVec.getElem_not, mask_getElem]
    congr 1
    rw [← decide_not]
    congr 1
    apply propext
    omega
  · simp [BitVec.getLsbD_of_ge, Nat.le_of_not_lt hb]

theorem safePoint_unmarked (d : Dev) (t : Nat) {th : Thread} (h : th.marked = false) : d.safePoint t th = d.setThr t th := by
  simp [Dev.safePoint, h]

theorem back_marked (x : Thread) (rd : Nat) (v : Word) (c : Bool) (pend : Word) : (x.back rd v c pend).marked = x.marked := by
  unfold Thread.back Thread.setG; split <;> rfl

theorem upTo_now (d : Dev) {n : Nat} (h : n < 2 ^ 64) : (d.upTo n).now = max d.now n := by
  unfold Dev.upTo
  split
  case isTrue hlt =>
    rw [Dev.now, fget_fset_same _ _ _ _ _ (by decide), Nat.max_eq_right hlt.le]
    exact Nat.mod_eq_of_lt h
  case isFalse hge => rw [Nat.max_eq_left (by omega)]

section
variable {s : State} {t : Fin 64} {rd ra : Fin 32}

theorem evw_event (h : s.dev.issues t) (hm : (s.dev.thr t).marked = false) {e : Nat} (he : e < 64)
    (hs : (s.dev.thr t).sees e) (hk : ∀ k < e, ¬ (s.dev.thr t).sees k) :
    ∃ m : Word, (∀ b, m.getLsbD b = ((s.dev.thr t).evpend.getLsbD b && decide (b ≠ e))) ∧
      Ends (.evw t rd ra 0 0) s (s.dev.setThr t ((s.dev.issuing t).back rd (BitVec.ofNat 64 e) false m)) := by
  refine ⟨_, event_cleared _ e, issue_ends_setThr h rfl (by simp) ?_⟩
  have hs' : (s.dev.issuing t).sees e := hs
  have hne : ((s.dev.issuing t).evReady != 0) = true := by simpa using evReady_ne_zero he hs'
  rw [if_pos hne, evwEvent_eq, lowestEvent_eq he hs' hk, safePoint_unmarked _ _ (by rw [back_marked]; exact hm), turn_setThr]
  rfl

theorem evw_late (h : s.dev.issues t) (hm : (s.dev.thr t).marked = false) (hs : ∀ e < 64, ¬ (s.dev.thr t).sees e)
    (h0 : (s.dev.thr t).g ra ≠ 0) (hn : ((s.dev.thr t).g ra).toNat ≤ s.dev.now) : Ends (.evw t rd ra 0 0) s
      (s.dev.setThr t ((s.dev.issuing t).back rd (BitVec.allOnes 64) true (s.dev.thr t).evpend)) := by
  refine issue_ends_setThr h rfl (by simp) ?_
  have hz : ¬ ((s.dev.issuing t).evReady != 0) = true := by simpa using evReady_eq_zero (th := s.dev.issuing t) hs
  have hd : deadlinePassed (s.dev.turn t).now ((s.dev.issuing t).g ra) = true := by
    simp only [deadlinePassed, Bool.and_eq_true, bne_iff_ne, decide_eq_true_eq]
    exact ⟨h0, hn⟩
  rw [if_neg hz, if_pos hd, evwLate_eq, safePoint_unmarked _ _ (by rw [back_marked]; exact hm), turn_setThr]
  rfl

theorem evw_waits (h : s.dev.issues t) (hm : (s.dev.thr t).marked = false) (hs : ∀ e < 64, ¬ (s.dev.thr t).sees e)
    (hn : (s.dev.thr t).g ra = 0 ∨ s.dev.now < ((s.dev.thr t).g ra).toNat) : Ends (.evw t rd ra 0 0) s
      (s.dev.setThr t { s.dev.issuing t with state := .wait, wait := .event rd ((s.dev.thr t).g ra) }) := by
  refine issue_ends_setThr h rfl (by simp) ?_
  have hz : ¬ ((s.dev.issuing t).evReady != 0) = true := by simpa using evReady_eq_zero (th := s.dev.issuing t) hs
  have hd : ¬ deadlinePassed (s.dev.turn t).now ((s.dev.issuing t).g ra) = true := by
    simp only [deadlinePassed, Bool.and_eq_true, bne_iff_ne, decide_eq_true_eq, not_and, Nat.not_le]
    exact fun h0 => hn.resolve_left h0
  have hnot : ¬ (s.dev.issuing t).marked = true := by
    rw [show (s.dev.issuing t).marked = false from hm]
    exact Bool.false_ne_true
  have hm' : ((if (s.dev.issuing t).marked = true then .parked else .wait) : TState) = .wait := if_neg hnot
  rw [if_neg hz, if_neg hd, hm', turn_setThr]
  rfl

theorem wat_ends (h : s.dev.issues t) (sw : BitVec 9) :
    let due := (((s.dev.thr t).g ra).toNat + sw.toNat * 1024) % 2 ^ 64
    (due ≤ s.dev.now → Ends (.wat t rd ra 0 0 sw) s (s.dev.setThr t ((s.dev.issuing t).back rd (BitVec.ofNat 64 s.dev.now)
      (decide (due < s.dev.now)) (s.dev.thr t).evpend))) ∧
    (s.dev.now < due → Ends (.wat t rd ra 0 0 sw) s (s.dev.setThr t
      { s.dev.issuing t with state := .wait, wait := .instant rd (BitVec.ofNat 64 due) })) := by
  intro due
  have hdue : instantOf ((s.dev.issuing t).g ra) sw = due := rfl
  have hnow : (s.dev.turn t).now = s.dev.now := rfl
  refine ⟨fun hd => issue_ends_setThr h rfl (by simp) ?_, fun hd => issue_ends_setThr h rfl (by simp) ?_⟩ <;>
    dsimp only <;> rw [hdue, hnow]
  · rw [if_pos hd, watDone_eq, turn_setThr]
    rfl
  · rw [if_neg (by omega), turn_setThr]

end

section
variable {s : State} {t : Fin 64} {r : Nat} (hr : s.dev.inReset = false) (hh : s.dev.threadsHeld = false)
  (hw : (s.dev.thr t).state = .wait)
include hr hh hw

theorem evwDeadline_ends {dl : Word} (he : (s.dev.thr t).wait = .event r dl) (h0 : dl ≠ 0)
    (hs : ∀ e < 64, ¬ (s.dev.thr t).sees e) (hm : (s.dev.thr t).marked = false) :
    Ends (.evwDeadline t) s ((s.dev.upTo dl.toNat).setThr t
      ((s.dev.thr t).back r (BitVec.allOnes 64) true (s.dev.thr t).evpend)) := by
  show execEvwDeadline t s = _
  refine onDev_to hr ?_ (upTo_gable s.dev _) (upTo_fuses s.dev _)
  have hz : ((s.dev.thr t).evReady != 0) = false := by simpa using evReady_eq_zero hs
  have h0' : (dl == 0) = false := by simpa using h0
  simp only [he, hw, hh, h0', hz, bne_self_eq_false, Bool.or_self, Bool.false_eq_true, if_false]
  rw [evwLate_eq, safePoint_unmarked _ _ (by rw [back_marked]; exact hm)]

theorem watExpire_ends {i : Word} (hi : (s.dev.thr t).wait = .instant r i) (hst : s.dev.time.steppedAt = none) :
    Ends (.watExpire t) s ((s.dev.upTo i.toNat).setThr t
      ((s.dev.thr t).back r (BitVec.ofNat 64 (max s.dev.now i.toNat)) false (s.dev.thr t).evpend)) := by
  show execWatExpire t s = _
  refine onDev_to hr ?_ (upTo_gable s.dev _) (upTo_fuses s.dev _)
  have hp : (s.dev.upTo i.toNat).steppedPast i.toNat = false := by simp [Dev.steppedPast, hst]
  simp only [hi, hw, hh, bne_self_eq_false, Bool.or_self, Bool.false_eq_true, if_false]
  rw [watDone_eq, hp, upTo_now _ i.isLt]

end

/-- Settles O10: EVW by what it sees, WAT by its instant, and the commands that end their waits. -/
theorem eventAndInstantWaits : Obligations.EventAndInstantWaits := by
  unfold Obligations.EventAndInstantWaits
  intro s t rd ra sw
  refine ⟨fun h hm => ⟨fun e he hs hk => evw_event h hm he hs hk,
      fun hs => ⟨fun h0 hn => evw_late h hm hs h0 hn, fun hn => evw_waits h hm hs hn⟩⟩,
    fun h => wat_ends h sw, fun hr hh hw => ⟨fun _ _ he h0 hs hm => evwDeadline_ends hr hh hw he h0 hs hm,
      fun _ _ hi hst => watExpire_ends hr hh hw hi hst⟩⟩

end Sys2Proof.Machine
end

section
namespace Sys2Proof.Machine

/-! Limits, kills and the end of a hot update (R61, R76, R93) -/

section
variable {s : State} {t : Fin 64}

/-- An exception taken by a machine that awaits no hot update, with the same gable die and fuses. -/
theorem excepted_ends {f : Dev → Dev} {e : Dev} {u code detail : Nat} {th : Thread} {epc : BitVec 32}
    (hr : s.dev.inReset = false)
    (hu : e.wygel.update = none) (hg : e.gable = s.dev.gable) (hf : e.fuses = s.dev.fuses)
    (he : f s.dev = ((e.setThr u th).takeException u code epc detail).trySwitch) :
    onDev s f = .next { s with dev := (e.setThr u th).takeException u code epc detail } := by
  have hk := takeException_keeps (e.setThr u th) u code epc detail
  refine onDev_to hr (he.trans (trySwitch_none _ ?_)) (hk.gable.trans hg) (hk.fuses.trans hf)
  exact (congrArg Wygel.update hk.wygel).trans hu

theorem limit_ends (hr : s.dev.inReset = false) (hh : s.dev.threadsHeld = false) (hu : s.dev.wygel.update = none)
    (hs : (s.dev.thr t).state = .run) (hm : (s.dev.thr t).manager = false) {n : Nat} (hn : n = s.dev.fget WGL_CTRL.FOLD_RUN_LIMIT)
    (h0 : n ≠ 0) :
    let d := s.dev.upTo ((s.dev.thr t).started + n * 1048576)
    Ends (.limit t) s ((d.setThr t { s.dev.thr t with started := d.now }).takeException t 0xC (s.dev.thr t).pc
      (s.dev.thr t).pc.toNat) := by
  show execLimit t s = _
  have hgo : ¬ ((s.dev.thr t).state != .run || (s.dev.thr t).manager || n == 0 || s.dev.threadsHeld) = true := by
    simpa [hs, hm, hh] using h0
  refine excepted_ends hr ((congrArg Wygel.update (upTo_wygel _ _)).trans hu) (upTo_gable _ _) (upTo_fuses _ _) ?_
  subst hn
  exact if_neg hgo

/-- What a killed thread still has on its way is kept; nothing else changes. -/
theorem orphanWrite_eq (d : Dev) (t : Nat) : ∃ l, d.orphanWrite t = { d with wygel := { d.wygel with orphans := l } } := by
  unfold Dev.orphanWrite
  split
  · exact ⟨_, rfl⟩
  · exact ⟨_, rfl⟩
  · exact ⟨_, rfl⟩

theorem kill_threadGone {d : Dev} {t : Nat} (hu : d.wygel.update = none) (hl : (d.thr t).live = true) :
    d.threadGone t (d.kill t) := by
  obtain ⟨l, ho⟩ := orphanWrite_eq d t
  have hg := endThread_threadGone (d := { d with wygel := { d.wygel with orphans := l } }) hu t
  rw [← ho] at hg
  rw [Dev.kill, if_pos hl]
  refine ⟨hg.thr, fun u hn => (hg.others u hn).trans ?_, hg.scratch.trans ?_, hg.pstore.trans ?_, hg.update.trans ?_,
    hg.out.trans ?_, hg.gable.trans ?_, hg.fuses.trans ?_⟩
  · rw [ho]
    rfl
  all_goals rw [ho]

theorem kill_runs (ha : s.dev.answers = true) (hu : s.dev.wygel.update = none) (hl : (s.dev.thr t).live = true) :
    Runs (.kill t) s fun d => d.thr t = {} ∧ (∀ u, u ≠ t.val → d.thr u = s.dev.thr u) ∧
      d.wygel.scratch = s.dev.wygel.scratch ∧ d.wygel.pstore = s.dev.wygel.pstore ∧ d.out = s.dev.out := by
  have hg := kill_threadGone hu hl
  refine ⟨s.dev.kill t, ?_, hg.thr, hg.others, hg.scratch, hg.pstore, hg.out⟩
  show execKill t s = _
  exact onReg_ends ha rfl (congrArg Gable.boot hg.gable) hg.fuses

theorem kill_free (ha : s.dev.answers = true) (hl : (s.dev.thr t).live = false) : exec (.kill t) s = .next s := by
  show execKill t s = _
  exact onReg_ends ha (by rw [Dev.kill, if_neg (by simp [hl])]) rfl rfl

/-- A reply of at most 4,336 bytes fits every MTU in force, and is sent (R606, R633). -/
theorem finish_eq (d : Dev) (p typ q : Nat) (r : Reply) (h : r.payload.length ≤ 4336) :
    d.finish p typ q r = (d.keep typ q r).send (.fcpReply p typ r.status q r.payload) := by
  have hf : (d.keep typ q r).fits p r.payload.length = true := by
    unfold Dev.fits Dev.mtu
    rw [decide_eq_true_eq]
    omega
  rw [Dev.finish, Dev.reply, if_pos hf]

/-- A thread as the end of a hot update of image `id` leaves it (R93). -/
def unmarked (id : Nat) (th : Thread) : Thread :=
  if th.manager && th.image == some id && th.marked then
    if th.state == .parked then { th with marked := false, state := if th.wait == .ready then .run else .wait }
    else { th with marked := false }
  else th

theorem unmarked_marked {id : Nat} {th : Thread} (hm : th.manager = true) (hi : th.image = some id) :
    (unmarked id th).marked = false := by
  unfold unmarked
  cases hk : th.marked
  · simp [hk]
  · simp only [hm, hi, beq_self_eq_true, Bool.and_self, if_true]
    split <;> rfl

theorem unmarked_kept (id : Nat) (th : Thread) : (unmarked id th).pc = th.pc ∧ (unmarked id th).gpr = th.gpr := by
  unfold unmarked
  split
  · split <;> exact ⟨rfl, rfl⟩
  · exact ⟨rfl, rfl⟩

theorem abortUpdate_eq {d : Dev} {u : Update} (h : d.wygel.update = some u) : d.abortUpdate =
    ({ d.mapThr fun _ => unmarked u.image.id with wygel := { d.wygel with update := none } }.loadDone 0xA u.image.id).finish
      u.port 0x10 u.seq ⟨0, [0xA]⟩ := by
  unfold Dev.abortUpdate
  rw [h]
  rfl

/-- What has become of a device `d` whose hot update `u` has ended unswitched (R93). -/
structure Dev.updateEnded (d : Dev) (u : Update) (e : Dev) : Prop where
  update : e.wygel.update = none
  images : e.wygel.images = d.wygel.images
  status : e.fget WGL_LOAD_STAT.STATUS = 0xA
  out : e.out = d.out ++ [.fcpReply u.port 0x10 0 u.seq [0xA]]
  thr : ∀ x, e.thr x = unmarked u.image.id (d.thr x)
  gable : e.gable = d.gable
  fuses : e.fuses = d.fuses

theorem abortUpdate_ended {d : Dev} {u : Update} (h : d.wygel.update = some u) : d.updateEnded u d.abortUpdate := by
  rw [abortUpdate_eq h, finish_eq _ _ _ _ _ (by decide)]
  refine ⟨rfl, rfl, ?_, rfl, fun x => ?_, rfl, rfl⟩
  · refine (fget_fset_other _ WGL_LOAD_STAT.IMAGE_ID WGL_LOAD_STAT.STATUS _ _ _ _ _ (by decide)).trans ?_
    exact fget_fset_same _ _ _ _ _ (by decide)
  · exact mapThr_thr d (fun _ => unmarked u.image.id) x (by simp [unmarked])

theorem updateTimeout_runs {u : Update} (hr : s.dev.inReset = false) (hu : s.dev.wygel.update = some u) :
    Runs .updateTimeout s fun d =>
      d.wygel.update = none ∧ d.wygel.images = s.dev.wygel.images ∧ d.fget WGL_LOAD_STAT.STATUS = 0xA ∧
      d.out = s.dev.out ++ [.fcpReply u.port 0x10 0 u.seq [0xA]] ∧
      ∀ x, ((s.dev.thr x).manager = true → (s.dev.thr x).image = some u.image.id → (d.thr x).marked = false) ∧
        (d.thr x).pc = (s.dev.thr x).pc ∧ (d.thr x).gpr = (s.dev.thr x).gpr := by
  obtain ⟨m, hm⟩ : ∃ m, m = s.dev.upTo (u.since + max 1 (s.dev.fget WGL_CTRL.UPDATE_LIMIT) * 1048576) := ⟨_, rfl⟩
  have hw : m.wygel = s.dev.wygel := hm ▸ upTo_wygel _ _
  have ho : m.out = s.dev.out := hm ▸ upTo_out _ _
  have hg : m.gable = s.dev.gable := hm ▸ upTo_gable _ _
  have hf : m.fuses = s.dev.fuses := hm ▸ upTo_fuses _ _
  have ht : m.threads = s.dev.threads := hm ▸ upTo_threads _ _
  have he := abortUpdate_ended ((congrArg Wygel.update hw).trans hu)
  have hthr (x : Nat) : m.abortUpdate.thr x = unmarked u.image.id (s.dev.thr x) :=
    (he.thr x).trans (congrArg (fun l => unmarked u.image.id (Tab.get {} l x)) ht)
  refine ⟨m.abortUpdate, ?_, he.update, he.images.trans (congrArg Wygel.images hw), he.status,
    he.out.trans (congrArg (· ++ _) ho), fun x => ⟨fun h h' => ?_, ?_⟩⟩
  · show execUpdateTimeout s = _
    refine onDev_to hr ?_ (he.gable.trans hg) (he.fuses.trans hf)
    simp only [hu]
    rw [← hm]
  · exact (congrArg Thread.marked (hthr x)).trans (unmarked_marked h h')
  · rw [hthr x]
    exact unmarked_kept _ _

end

/-- Settles O24, a command at a time. -/
theorem limitsAndKills : Obligations.LimitsAndKills := by
  unfold Obligations.LimitsAndKills
  intro s t
  exact ⟨fun hr hh hu hs hm _ hn h0 => limit_ends hr hh hu hs hm hn h0, kill_runs, kill_free, fun _ => updateTimeout_runs⟩

end Sys2Proof.Machine
end

section
namespace Sys2Proof.Machine

/-! What a refused access records (R156) -/

/-- A refusal's record names the cause, the address, the source and the thread; no other register changes. -/
theorem refuse_recorded (d : Dev) (th : Thread) (t : Fin 64) {cause : Nat} (addr : Nat) (hc : cause < 16) :
    let x := d.refuse (th.csSource t) cause addr
    x.fget CSP_ERR.CAUSE = cause ∧ x.fget CSP_ERR.ADDR = addr % 2 ^ 48 ∧
      x.fget CSP_ERR.SOURCE = (if th.priv then 1 else 0) ∧ x.fget CSP_ERR.THREAD = t.val ∧ x.fget CSP_ERR.VALID = 1 ∧
      OnlyRegs [⟨.CSP_ERR, 0, 0⟩, ⟨.CSP_ERR_COUNT, 0, 0⟩] d x := by
  have hx : d.refuse (th.csSource t) cause addr = d.cspErr cause (if th.priv then 1 else 0) t addr := by
    unfold Thread.csSource
    cases th.priv <;> rfl
  have hs : (if th.priv then 1 else 0) < 4 := by split <;> decide
  intro x
  rw [show x = _ from hx]
  have ht := t.isLt
  refine ⟨?_, ?_, ?_, ?_, ?_, cspErr_onlyRegs _ _ _ _ _⟩ <;> unfold Dev.cspErr Dev.fadd <;>
    simp [fget_fset_other, fget_fset_same] <;> omega

theorem refuse_keeps (d : Dev) (src : CsSource) (cause a : Nat) : d.exceptKeeps (d.refuse src cause a) := by
  cases src <;> exact ⟨rfl, rfl, rfl, rfl⟩

theorem refuse_thr (d : Dev) (src : CsSource) (cause a u : Nat) : (d.refuse src cause a).thr u = d.thr u := by
  cases src <;> rfl

/-! Searches (R135) -/

/-- Does a word match in a search's mode (R135)? -/
def Search.matching (x : Search) (w : Word) : Prop :=
  (x.mode = 0 → w &&& x.msk = x.key) ∧ (x.mode = 1 → w &&& x.msk ≠ x.key) ∧
    (x.mode = 2 → (w &&& x.msk).toNat < x.key.toNat) ∧ (x.mode = 3 → x.key.toNat ≤ (w &&& x.msk).toNat)

theorem hits_iff {x : Search} (hm : x.mode < 4) (w : Word) : x.hits w = true ↔ x.matching w := by
  unfold Search.hits Search.matching
  obtain h | h | h | h : x.mode = 0 ∨ x.mode = 1 ∨ x.mode = 2 ∨ x.mode = 3 := by omega
  all_goals simp [h]

/-- Does element `i` of a search match, a register or a word of calibration memory? -/
def Dev.found (d : Dev) (x : Search) (i : Nat) : Prop :=
  (∃ r, regAt (x.base + i * x.stride) = some r ∧ x.matching (d.shown r)) ∨
    (regAt (x.base + i * x.stride) = none ∧ calibrationAt (x.base + i * x.stride) = true ∧
      x.matching (d.calibrationWord (x.base + i * x.stride)))

/-- The test of an element that a search makes. -/
def Dev.elementHits (d : Dev) (x : Search) (i : Nat) : Bool :=
  match regAt (x.at_ i) with
  | some r => x.hits (d.shown r)
  | none => calibrationAt (x.at_ i) && x.hits (d.calibrationWord (x.at_ i))

theorem elementHits_iff (d : Dev) {x : Search} (hm : x.mode < 4) (i : Nat) : d.elementHits x i = true ↔ d.found x i := by
  unfold Dev.elementHits Dev.found Search.at_
  cases regAt (x.base + i * x.stride) with
  | some r => simp [hits_iff hm]
  | none => simp [hits_iff hm]

/-- The elements that a search looks at, in their order. -/
theorem searchFor_eq (d : Dev) (x : Search) :
    d.searchFor x = (List.range' x.first (x.count - x.first)).find? (d.elementHits x) := by
  have h : (List.range x.count).drop x.first = List.range' x.first (x.count - x.first) := by
    rw [List.range_eq_range', List.drop_range', Nat.zero_add, Nat.mul_one]
  exact congrArg (List.find? (d.elementHits x)) h

theorem searchFor_some {d : Dev} {x : Search} (hm : x.mode < 4) {i : Nat} (h0 : x.first ≤ i) (h1 : i < x.count)
    (h : d.found x i) (hk : ∀ k, x.first ≤ k → k < i → ¬ d.found x k) : d.searchFor x = some i := by
  rw [searchFor_eq, List.find?_range'_eq_some]
  refine ⟨(elementHits_iff d hm i).mpr h, by rw [List.mem_range'_1]; omega, fun k hl hlt => ?_⟩
  rw [Bool.not_eq_true', ← Bool.not_eq_true]
  exact mt (elementHits_iff d hm k).mp (hk k hl hlt)

theorem searchFor_none {d : Dev} {x : Search} (hm : x.mode < 4)
    (hk : ∀ k, x.first ≤ k → k < x.count → ¬ d.found x k) : d.searchFor x = none := by
  rw [searchFor_eq, List.find?_range'_eq_none]
  intro k hl hlt
  rw [Bool.not_eq_true', ← Bool.not_eq_true]
  exact mt (elementHits_iff d hm k).mp (hk k hl (by omega))

/-! The ends of waits (R61, R73, R74, R116, R135) -/

/-- A thread whose wait has ended: it runs again. -/
def Thread.woken (th : Thread) : Thread := { th with state := .run, wait := .ready }

theorem searchDone_eq {d : Dev} {t : Nat} {x : Search} (hf : d.commits.flips = x.flips) : d.searchDone t x =
    d.setThr t ((d.thr t).woken.wrote x.rd
      (match d.searchFor x with | some i => BitVec.ofNat 64 i | none => BitVec.allOnes 64)
      ⟨false, false, (d.searchFor x).isNone, false⟩) := by
  simp only [Dev.searchDone, hf, bne_self_eq_false, Bool.false_and, Bool.false_eq_true, if_false, Dev.retire]
  unfold Thread.wrote Thread.setG Thread.advance Thread.woken
  split <;> rfl

/-- The exception of a poisoned read, taken with the request gone and the thread running again (R74). -/
theorem poisoned_ends {s : State} {t : Fin 64} {tag : Nat} {fl : Flight} (hr : s.dev.inReset = false)
    (hu : s.dev.wygel.update = none) {f : Dev → Dev} (he : f s.dev =
      (((s.dev.dropFlight tag).setThr t (s.dev.thr t).woken).trap t 8 (fl.addr % 2 ^ 32)).trySwitch) :
    onDev s f = .next { s with
      dev := ((s.dev.dropFlight tag).setThr t (s.dev.thr t).woken).takeException t 8 (s.dev.thr t).pc (fl.addr % 2 ^ 32) } := by
  refine excepted_ends hr hu rfl rfl (he.trans ?_)
  rw [Dev.trap, thr_setThr_same]
  rfl

section
variable {s : State} {t : Fin 64} (hr : s.dev.inReset = false) (hh : s.dev.threadsHeld = false)
  (hu : s.dev.wygel.update = none) (hs : (s.dev.thr t).state = .wait)
include hr hu hs

include hh in
theorem fence_wakes (hw : (s.dev.thr t).wait = .fence) (hp : s.dev.posted t = []) : Ends (.threadWake t) s (s.dev.setThr t
    { (s.dev.thr t).woken with
      pc := (s.dev.thr t).pc + 4, flags := { (s.dev.thr t).flags with c := (s.dev.thr t).postFail }, postFail := false }) := by
  show execThreadWake t s = _
  refine onDev_to hr ?_ rfl rfl
  simp only [Dev.threadWake, hs, hh, hw, hp, bne_self_eq_false, Bool.or_self, Bool.false_eq_true, if_false,
    List.isEmpty_nil, if_true]
  exact trySwitch_none _ hu

include hh in
theorem search_wakes {x : Search} (hw : (s.dev.thr t).wait = .search x) (hb : s.dev.regWaits x.base = false)
    (hf : s.dev.commits.flips = x.flips) : Ends (.threadWake t) s (s.dev.setThr t ((s.dev.thr t).woken.wrote x.rd
      (match s.dev.searchFor x with | some i => BitVec.ofNat 64 i | none => BitVec.allOnes 64)
      ⟨false, false, (s.dev.searchFor x).isNone, false⟩)) := by
  show execThreadWake t s = _
  refine onDev_to hr ?_ rfl rfl
  simp only [Dev.threadWake, hs, hh, hw, hb, bne_self_eq_false, Bool.or_self, Bool.false_eq_true, if_false, searchDone_eq hf]
  exact trySwitch_none _ hu

include hh in
theorem search_finds {x : Search} (hw : (s.dev.thr t).wait = .search x) (hb : s.dev.regWaits x.base = false)
    (hf : s.dev.commits.flips = x.flips) (hm : x.mode < 4) :
    (∀ i, x.first ≤ i → i < x.count → i < 2 ^ 64 - 1 → s.dev.found x i →
      (∀ k, x.first ≤ k → k < i → ¬ s.dev.found x k) →
      Ends (.threadWake t) s (s.dev.setThr t
        ((s.dev.thr t).woken.wrote x.rd (BitVec.ofNat 64 i) ⟨false, false, false, false⟩))) ∧
    ((∀ k, x.first ≤ k → k < x.count → ¬ s.dev.found x k) →
      Ends (.threadWake t) s (s.dev.setThr t
        ((s.dev.thr t).woken.wrote x.rd (BitVec.allOnes 64) ⟨false, false, true, false⟩))) := by
  have hwake := search_wakes hr hh hu hs hw hb hf
  refine ⟨fun i h0 h1 _ h hk => ?_, fun hk => ?_⟩
  · rwa [searchFor_some hm h0 h1 h hk] at hwake
  · rwa [searchFor_none hm hk] at hwake

section
variable {rd w tag : Nat} {fl : Flight} (hw : (s.dev.thr t).wait = .poolRead rd w tag) (hf : s.dev.flight tag = some fl)
include hw hf

include hh in
theorem poolRead_wakes {v : Nat} (ha : fl.answer = some (v, false)) : Ends (.threadWake t) s ((s.dev.dropFlight tag).setThr t
    ((s.dev.thr t).woken.wrote rd (BitVec.ofNat 64 (v % 2 ^ (8 * w))) (s.dev.thr t).flags)) := by
  show execThreadWake t s = _
  refine onDev_to hr ?_ rfl rfl
  simp only [Dev.threadWake, hs, hh, hw, bne_self_eq_false, Bool.or_self, Bool.false_eq_true, if_false, Dev.poolAnswer, hf, ha,
    Dev.retire, advance_setG]
  exact trySwitch_none _ hu

include hh in
theorem poolRead_poisoned {v : Nat} (ha : fl.answer = some (v, true)) : Ends (.threadWake t) s
    (((s.dev.dropFlight tag).setThr t (s.dev.thr t).woken).takeException t 8 (s.dev.thr t).pc (fl.addr % 2 ^ 32)) := by
  show execThreadWake t s = _
  refine poisoned_ends hr hu ?_
  simp only [Dev.threadWake, hs, hh, hw, bne_self_eq_false, Bool.or_self, Bool.false_eq_true, if_false, Dev.poolAnswer, hf, ha,
    if_true]
  rfl

omit hs in
theorem poolRead_timesOut (ha : fl.answer = none) (hfw : fl.write = false) (hsrc : fl.src = .thread t) :
    Ends (.poolAccessTimeout tag) s
      (((s.dev.dropFlight tag).setThr t (s.dev.thr t).woken).takeException t 8 (s.dev.thr t).pc (fl.addr % 2 ^ 32)) := by
  show execPoolAccessTimeout tag s = _
  refine poisoned_ends hr hu ?_
  simp only [hf, ha, hsrc, hw, hfw, Option.isSome_none, Bool.false_eq_true, if_false, if_true]
  rfl

end

theorem regAccess_timesOut {op : CsOp} {w a : Nat} (hw : (s.dev.thr t).wait = .regAccess op w a) :
    ∃ d : Dev, d.fget CSP_ERR.CAUSE = 2 ∧ d.fget CSP_ERR.THREAD = t.val ∧
      OnlyRegs [⟨.CSP_ERR, 0, 0⟩, ⟨.CSP_ERR_COUNT, 0, 0⟩] (s.dev.setThr t (s.dev.thr t).woken) d ∧
      Ends (.csbusTimeout t) s (d.takeException t 9 (s.dev.thr t).pc (a % 2 ^ 32)) := by
  let b := s.dev.setThr t (s.dev.thr t).woken
  obtain ⟨hcause, -, -, hthread, -, honly⟩ := refuse_recorded b (s.dev.thr t) t (cause := 2) a (by decide)
  have hb := refuse_keeps b ((s.dev.thr t).csSource t) 2 a
  have hk := takeException_keeps (b.refuse ((s.dev.thr t).csSource t) 2 a) t 9 (s.dev.thr t).pc (a % 2 ^ 32)
  refine ⟨_, hcause, hthread, honly, ?_⟩
  show execCsbusTimeout t s = _
  refine onDev_to hr ?_ (hk.gable.trans hb.gable) (hk.fuses.trans hb.fuses)
  simp only [hw, hs, bne_self_eq_false, Bool.false_eq_true, if_false]
  rw [Dev.trap, refuse_thr, thr_setThr_same]
  exact trySwitch_none _ ((congrArg Wygel.update (hk.wygel.trans hb.wygel)).trans hu)

end

/-- A posted write that times out counts as failed for the next FNC (R116). -/
theorem postedWrite_timesOut {s : State} {t : Fin 64} (hr : s.dev.inReset = false) {tag : Nat} {fl : Flight}
    (hf : s.dev.flight tag = some fl) (ha : fl.answer = none) (hw : fl.write = true) (hsrc : fl.src = .thread t) :
    Ends (.poolAccessTimeout tag) s ((s.dev.dropFlight tag).setThr t { s.dev.thr t with postFail := true }) := by
  show execPoolAccessTimeout tag s = _
  refine onDev_to hr ?_ rfl rfl
  simp only [hf, ha, hsrc, hw, Option.isSome_none, Bool.false_eq_true, if_false, if_true]
  rfl

/-- Settles O17, a wait at a time. -/
theorem waitsEnd : Obligations.WaitsEnd := by
  unfold Obligations.WaitsEnd
  intro s t hr hh hu th back hs
  exact ⟨fence_wakes hr hh hu hs, fun _ _ _ _ _ hw hf ha => poolRead_wakes hr hh hu hs hw hf ha,
    fun _ _ _ _ _ hw hf ha => poolRead_poisoned hr hh hu hs hw hf ha, fun _ hw hb hf => search_finds hr hh hu hs hw hb hf,
    fun _ _ _ hw => regAccess_timesOut hr hu hs hw,
    fun _ _ _ _ hw hf ha hfw hsrc => poolRead_timesOut hr hu hw hf ha hfw hsrc,
    fun _ _ hf ha hw hsrc => postedWrite_timesOut hr hf ha hw hsrc⟩

end Sys2Proof.Machine
end

section
namespace Sys2Proof.Machine

/-! Where an access of control space traps or waits (R71, R73, R75, R144, R156) -/

/-- The address in control space that a thread's access names, no upper bits cut (R75). -/
def Thread.named (th : Thread) (ea : Nat) : Nat := if th.priv then 0x200000000000 + th.fid * 0x10000 + ea else ea

theorem csAddr_eq_named {th : Thread} {ea : Nat} (h : th.named ea < 2 ^ 47) : th.csAddr ea = th.named ea := by
  unfold Thread.named at h
  unfold Thread.csAddr Thread.named
  cases hp : th.priv
  · rfl
  · simp only [hp, if_true] at h
    exact Nat.mod_eq_of_lt (by omega)

section
variable {d : Dev} {t ea w : Nat} {op : CsOp}

theorem controlOp_misaligned (h : ea % w ≠ 0) :
    d.controlOp t op w ea = (d.refuse ((d.thr t).csSource t) 5 ((d.thr t).csAddr ea)).trap t 4 (ea % 2 ^ 32) := if_pos h

variable (h : ea % w = 0)
include h

theorem controlOp_beyond (hp : (d.thr t).priv = true) (he : 0x10000 ≤ ea) :
    d.controlOp t op w ea = (d.refuse ((d.thr t).csSource t) 7 ((d.thr t).csAddr ea)).trap t 6 (ea % 2 ^ 32) := by
  simp [Dev.controlOp, h, hp, he]

variable (hp : (d.thr t).priv = true → ea < 0x10000) (ha : (d.thr t).named ea < 2 ^ 47)
include hp ha

/-- An access within its window and below the pool aperture. -/
theorem controlOp_inside : d.controlOp t op w ea =
    if !(mapped ((d.thr t).named ea)) then
      (d.refuse ((d.thr t).csSource t) 1 ((d.thr t).named ea)).trap t 6 (ea % 2 ^ 32)
    else if d.regWaits ((d.thr t).named ea) then
      d.setThr t { d.thr t with state := .wait, wait := .regAccess op w ((d.thr t).named ea) }
    else d.mappedOp t op w ((d.thr t).named ea) := by
  have hwin : ¬ ((d.thr t).priv && decide (0x10000 ≤ ea)) = true := by
    simp only [Bool.and_eq_true, decide_eq_true_eq, not_and, Nat.not_le]
    exact hp
  have hap : ¬ inAperture ((d.thr t).named ea) = true := by simpa [inAperture] using ha
  unfold Dev.controlOp
  dsimp only
  rw [if_neg (not_not.mpr h), if_neg hwin, csAddr_eq_named ha, if_neg hap]

end

/-- What CSP_ERR then names. -/
def Dev.refusal (d : Dev) (th : Thread) (t cause addr : Nat) (x : Dev) : Prop :=
  x.fget CSP_ERR.CAUSE = cause ∧ x.fget CSP_ERR.ADDR = addr % 2 ^ 48 ∧ x.fget CSP_ERR.SOURCE = (if th.priv then 1 else 0) ∧
    x.fget CSP_ERR.THREAD = t ∧ x.fget CSP_ERR.VALID = 1 ∧ OnlyRegs [⟨.CSP_ERR, 0, 0⟩, ⟨.CSP_ERR_COUNT, 0, 0⟩] d x

section
variable {s : State} {t : Fin 64} {i : Instr} {act : Dev → Thread → Dev}
  (hi : exec i s = onDev s (Dev.issue t true false act)) (h : s.dev.issues t)
include hi h

/-- A refused access of an issuing thread: it is recorded, and the thread takes the exception. -/
theorem refused_traps {cause code addr detail : Nat} (hc : cause < 16)
    (ha : act (s.dev.turn t) (s.dev.issuing t) =
      ((s.dev.turn t).refuse ((s.dev.issuing t).csSource t) cause addr).trap t code detail) :
    ∃ d : Dev, (s.dev.turn t).refusal (s.dev.issuing t) t cause addr d ∧
      Ends i s (d.takeException t code (s.dev.issuing t).pc detail) := by
  refine ⟨_, refuse_recorded (s.dev.turn t) (s.dev.issuing t) t addr hc,
    hi.trans (issue_ends_exception h rfl (by simp) ?_ ?_)⟩
  · rw [ha, Dev.trap, refuse_thr, turn_thr_issuing]
  · obtain ⟨hf, hg, hw, ho⟩ := refuse_keeps (s.dev.turn t) ((s.dev.issuing t).csSource t) cause addr
    exact ⟨hf, hg, hw, ho⟩

variable {ea w : Nat} {op : CsOp} (ha : act (s.dev.turn t) (s.dev.issuing t) = (s.dev.turn t).controlOp t op w ea)
include ha

theorem access_traps_or_waits :
    let th := s.dev.issuing t
    let traps (cause code addr : Nat) : Prop := ∃ d : Dev, (s.dev.turn t).refusal th t cause addr d ∧
      Ends i s (d.takeException t code th.pc (ea % 2 ^ 32))
    (ea % w ≠ 0 → traps 5 4 (th.csAddr ea)) ∧
    (ea % w = 0 → th.priv = true → 0x10000 ≤ ea → traps 7 6 (th.csAddr ea)) ∧
    (ea % w = 0 → (th.priv = true → ea < 0x10000 ∧ th.fid < 256) → th.named ea < 2 ^ 47 →
      mapped (th.named ea) = false → traps 1 6 (th.named ea)) ∧
    (∀ r, ea % w = 0 → (th.priv = true → ea < 0x10000 ∧ th.fid < 256) → th.named ea < 2 ^ 47 →
      regAt (th.named ea) = some r →
      s.dev.regWaits (th.named ea) = true →
      Ends i s (s.dev.setThr t { th with state := .wait, wait := .regAccess op w (th.named ea) })) := by
  intro th traps
  have ht : (s.dev.turn t).thr t = th := turn_thr_issuing s.dev t
  refine ⟨fun h0 => refused_traps hi h (by decide) ?_, fun h0 hp he => refused_traps hi h (by decide) ?_,
    fun h0 hp hl hm => refused_traps hi h (by decide) ?_, fun r h0 hp hl hr hw => ?_⟩
  · rw [ha, controlOp_misaligned h0, ht]
  · rw [ha, controlOp_beyond h0 (ht ▸ hp) he, ht]
  · rw [ha, controlOp_inside h0 (by rw [ht]; exact fun e => (hp e).1) (by rwa [ht]), ht, hm]
    rfl
  · refine hi.trans (issue_ends_setThr h rfl (by simp) ?_)
    have hm : mapped (th.named ea) = true := by simp [mapped, hr]
    have hw' : (s.dev.turn t).regWaits (th.named ea) = true := hw
    rw [ha, controlOp_inside h0 (by rw [ht]; exact fun e => (hp e).1) (by rwa [ht]), ht, hm, if_neg (by simp), if_pos hw',
      turn_setThr]

end

/-- Settles O16: CLD and CST of every width are one access of control space. -/
theorem registerAccessTraps : Obligations.RegisterAccessTraps := by
  unfold Obligations.RegisterAccessTraps
  intro s t rd ra off h
  exact ⟨access_traps_or_waits rfl h rfl, access_traps_or_waits rfl h rfl, access_traps_or_waits rfl h rfl,
    access_traps_or_waits rfl h rfl, access_traps_or_waits rfl h rfl, access_traps_or_waits rfl h rfl,
    access_traps_or_waits rfl h rfl, access_traps_or_waits rfl h rfl⟩

end Sys2Proof.Machine
end

section
namespace Sys2Proof.Machine

/-! When an instruction is not executed (R61, R76, R80, R105, R106, R68) -/

theorem onDev_congr {s : State} {f g : Dev → Dev} (h : f s.dev = g s.dev) : onDev s f = onDev s g := by
  unfold onDev onAny onReset
  simp only [h]

/-- Outside a soft reset, nothing waits for its end (R646). -/
theorem onDev_afterSoft {s : State} (h : s.dev.fget CSP_STATUS.PHASE ≠ 4) (f : Dev → Dev) :
    onDev s (afterSoft f) = onDev s f :=
  onDev_congr (if_neg h)

/-- An instruction of thread `t` passes what every instruction shares before it has its own effect: whether the thread may
issue, the fetch, the fields of R105, the privilege of R68. -/
def Issued (i : Instr) (t : Fin 64) (s : State) : Prop :=
  ∃ act, exec i s = onDev s (Dev.issue t (fieldsLegal i) (managerOnly i) act)

theorem issued_of {i : Instr} {t : Fin 64} {s : State} {l : Bool} {act : Dev → Thread → Dev} (hl : fieldsLegal i = l)
    (he : exec i s = onDev s (Dev.issue t l (managerOnly i) act)) : Issued i t s :=
  ⟨act, hl ▸ he⟩

theorem allZero_one (a : Fin 32) : allZero [a] = (a == 0) := by simp [allZero]

theorem allZero_two (a b : Fin 32) : allZero [a, b] = (a == 0 && b == 0) := by simp [allZero]

theorem allZero_three (a b c : Fin 32) : allZero [a, b, c] = (a == 0 && b == 0 && c == 0) := by
  simp [allZero, Bool.and_assoc]

theorem val_beq_zero (r : Fin 32) : (r.val == 0) = (r == 0) := by
  rw [Bool.beq_eq_decide_eq, Bool.beq_eq_decide_eq]
  exact decide_eq_decide.mpr Fin.val_eq_zero_iff

theorem div_beq_zero (n : Nat) : (n / 256 == 0) = decide (n < 256) := by
  rw [Bool.beq_eq_decide_eq]
  exact decide_eq_decide.mpr (by omega)

theorem issuer_issued (i : Instr) (t : Fin 64) (h : issuer i = some t) {s : State} (hp : s.dev.fget CSP_STATUS.PHASE ≠ 4) :
    Issued i t s := by
  cases i
  case add | sub | and | or | xor | andn | shl | shr | sar | mul | mulhu | divu | remu =>
    cases h
    exact ⟨_, rfl⟩
  case addi | andi | ori | xori | shli | shri | sari | movk =>
    cases h
    exact ⟨_, rfl⟩
  case ldb | ldh | ldw | ldd | stb | sth | stw | std | cldB | cldH | cldW | cldD | cstB | cstH | cstW | cstD =>
    cases h
    exact ⟨_, rfl⟩
  case br | call | evs | spwn | cas | tfnd | mrcv | mrcvNb | dmvk =>
    cases h
    exact ⟨_, rfl⟩
  case cmp | cmpi | movi =>
    cases h
    exact issued_of (val_beq_zero _).symm rfl
  case yld | hlt | eret | fnc =>
    cases h
    exact issued_of (allZero_three _ _ _).symm rfl
  case jr | sys =>
    cases h
    exact issued_of (allZero_two _ _).symm rfl
  case callr | frse =>
    cases h
    exact issued_of (allZero_one _).symm rfl
  case mfs | mts | evw | wat =>
    cases h
    exact issued_of (congrArg (· && _) (allZero_one _).symm) rfl
  case msnd =>
    cases h
    exact issued_of (div_beq_zero _).symm rfl
  case stgW | stgD | cmtCommit =>
    cases h
    exact ⟨_, onDev_afterSoft hp _⟩
  case cmtOpen | cmtDiscard =>
    cases h
    exact issued_of (congrArg (· && _) (allZero_one _).symm) (onDev_afterSoft hp _)
  all_goals cases h

theorem fetchFault_keeps (d : Dev) (t page : Nat) : d.exceptKeeps (d.fetchFault t page) := by
  unfold Dev.fetchFault
  dsimp only
  split <;> constructor <;> simp

theorem fetchFault_thr (d : Dev) (t page : Nat) : (d.fetchFault t page).thr t = (d.thr t).stopped := by
  unfold Dev.fetchFault
  dsimp only
  refine (congrArg (fun l => Tab.get {} l t) (raise_threads _ _ _)).trans ?_
  split <;> exact thr_setThr_same _ _ _

section
variable {s : State} {t : Nat} {legal mgr : Bool} {act : Dev → Thread → Dev}

/-- A thread that may not issue. -/
theorem issue_held (hr : s.dev.inReset = false)
    (h : (s.dev.thr t).state ≠ .run ∨ s.dev.threadsHeld = true ∨ s.dev.mustYield t = true) :
    onDev s (Dev.issue t legal mgr act) = .next s := by
  refine onDev_to (d := s.dev) hr (if_pos ?_) rfl rfl
  simpa [or_assoc] using h

theorem issue_illegal (h : s.dev.issues t) (hl : legal = false) :
    onDev s (Dev.issue t legal mgr act) = .next { s with
      dev := (s.dev.turn t).takeException t 1 (s.dev.issuing t).pc (s.dev.issuing t).pc.toNat } := by
  have hk := takeException_keeps (s.dev.turn t) t 1 (s.dev.issuing t).pc (s.dev.issuing t).pc.toNat
  refine onDev_to h.1 ?_ hk.gable hk.fuses
  rw [issue_runs _ _ _ _ _ h]
  simp only [turn_thr_issuing, hl, Bool.not_false, if_true]
  exact trySwitch_none _ ((congrArg Wygel.update hk.wygel).trans (issues_update h))

theorem issue_privileged (h : s.dev.issues t) (hl : legal = true) (hm : mgr = true) (hp : (s.dev.issuing t).priv = true) :
    onDev s (Dev.issue t legal mgr act) = .next { s with
      dev := (s.dev.turn t).takeException t 2 (s.dev.issuing t).pc (s.dev.issuing t).pc.toNat } := by
  have hk := takeException_keeps (s.dev.turn t) t 2 (s.dev.issuing t).pc (s.dev.issuing t).pc.toNat
  refine onDev_to h.1 ?_ hk.gable hk.fuses
  rw [issue_runs _ _ _ _ _ h]
  simp only [turn_thr_issuing, hl, hm, hp, Bool.not_true, Bool.false_eq_true, if_false, Bool.and_self, if_true]
  exact trySwitch_none _ ((congrArg Wygel.update hk.wygel).trans (issues_update h))

section
variable (hr : s.dev.inReset = false) (hs : (s.dev.thr t).state = .run) (hh : s.dev.threadsHeld = false)
  (hy : s.dev.mustYield t = false) (hu : s.dev.wygel.update = none) {im : Image} (hc : s.dev.codeOf (s.dev.issuing t) = some im)
include hs hh hy hc

/-- The fetch of a thread that may issue, with code (R64, R80). -/
theorem issue_fetches : s.dev.issue t legal mgr act =
    if im.codeLen ≤ (s.dev.issuing t).pc.toNat then
      ((s.dev.turn t).takeException t 3 (s.dev.issuing t).pc (s.dev.issuing t).pc.toNat).trySwitch
    else if s.dev.wygel.pstoreBad.contains (fetchWord im (s.dev.issuing t).pc) then
      ((s.dev.turn t).fetchFault t (im.codePage + (s.dev.issuing t).pc.toNat / 4096)).trySwitch
    else if !legal then ((s.dev.turn t).takeException t 1 (s.dev.issuing t).pc (s.dev.issuing t).pc.toNat).trySwitch
    else if mgr && (s.dev.issuing t).priv then
      ((s.dev.turn t).takeException t 2 (s.dev.issuing t).pc (s.dev.issuing t).pc.toNat).trySwitch
    else (act (s.dev.turn t) (s.dev.issuing t)).trySwitch := by
  have hgo : ¬ ((s.dev.thr t).state != .run || s.dev.threadsHeld || s.dev.mustYield t) = true := by simp [hs, hh, hy]
  have hc' : (s.dev.turn t).codeOf (s.dev.issuing t) = some im := hc
  unfold Dev.issue
  rw [if_neg hgo]
  simp only [turn_thr_issuing, hc']
  rfl

include hr hu

theorem issue_outside (hpc : im.codeLen ≤ (s.dev.issuing t).pc.toNat) :
    onDev s (Dev.issue t legal mgr act) = .next { s with
      dev := (s.dev.turn t).takeException t 3 (s.dev.issuing t).pc (s.dev.issuing t).pc.toNat } := by
  have hk := takeException_keeps (s.dev.turn t) t 3 (s.dev.issuing t).pc (s.dev.issuing t).pc.toNat
  refine onDev_to hr ?_ hk.gable hk.fuses
  rw [issue_fetches hs hh hy hc, if_pos hpc]
  exact trySwitch_none _ ((congrArg Wygel.update hk.wygel).trans hu)

theorem issue_badWord (hpc : (s.dev.issuing t).pc.toNat < im.codeLen)
    (hb : fetchWord im (s.dev.issuing t).pc ∈ s.dev.wygel.pstoreBad) :
    ∃ d : Dev, onDev s (Dev.issue t legal mgr act) = .next { s with dev := d } ∧ d.thr t = (s.dev.issuing t).stopped := by
  have hk := fetchFault_keeps (s.dev.turn t) t (im.codePage + (s.dev.issuing t).pc.toNat / 4096)
  refine ⟨_, onDev_to hr ?_ hk.gable hk.fuses, (fetchFault_thr _ _ _).trans (congrArg Thread.stopped (turn_thr_issuing _ _))⟩
  rw [issue_fetches hs hh hy hc, if_neg (by omega), if_pos (List.contains_iff_mem.mpr hb)]
  exact trySwitch_none _ ((congrArg Wygel.update hk.wygel).trans hu)

end

end

/-- Settles O13: every instruction is issued in one way, whose tests come in one order. -/
theorem instructionsNotExecuted : Obligations.InstructionsNotExecuted := by
  unfold Obligations.InstructionsNotExecuted
  intro s i t hi hr hp th
  obtain ⟨act, he⟩ := issuer_issued i t hi hp
  refine ⟨fun h => he.trans (issue_held hr h),
    fun hs hh hy hu im hc => ⟨fun hpc => he.trans (issue_outside hr hs hh hy hu hc hpc), fun hpc hb => ?_⟩,
    fun h hl => he.trans (issue_illegal h hl), fun h hl hm hv => he.trans (issue_privileged h hl hm hv)⟩
  obtain ⟨d, hd, ht⟩ := issue_badWord (legal := fieldsLegal i) (mgr := managerOnly i) (act := act) hr hs hh hy hu hc hpc hb
  exact ⟨d, he.trans hd, ht⟩

end Sys2Proof.Machine
end

section
namespace Sys2Proof.Machine

/-! SPWN on a table of threads that is out of order (R120) -/

/-- A booted device with a thread on each ACTIVE engine: thread 0, in RUN on engine 0, stands last in the table, which no
statement asks to be in order. -/
def unordered : Dev where
  fuses := ⟨0, 0, false, 0⟩
  wygel := { keys := [], slotEntry := [], images := [witnessImage] }
  threads := ((List.range' 1 13).map fun e => (e, { state := .wait, engine := e })) ++ [(0, { state := .run, image := some 1 })]
  gable := { boot := .up }

theorem unordered_issues : unordered.issues 0 :=
  ⟨rfl, by decide, rfl, rfl, rfl, witnessImage, rfl, by decide, by decide⟩

/-- Engine 0 holds one thread of it and is the lowest of those with three free contexts. -/
theorem unordered_newContext : unordered.newContext = some (14, 0, 1) := by decide

/-- The turn enters thread 0 a second time, so that engine 0 has two free contexts and SPWN chooses engine 1. -/
theorem unordered_spawn : ∃ d, Ends (.spwn 0 0 0 0 0) ⟨unordered, []⟩ d ∧ (d.thr 14).engine = 1 :=
  ⟨_, rfl, by decide⟩

/-- Refutes O11: in a table out of order the issuing thread is entered a second time as it issues, before SPWN counts the free
contexts, and the statement counts them without it. -/
theorem not_spawnStartsThread : ¬ Obligations.SpawnStartsThread := by
  unfold Obligations.SpawnStartsThread
  intro h
  obtain ⟨-, starts⟩ := h ⟨unordered, []⟩ 0 0 0 0 unordered_issues rfl
  obtain ⟨x, ends, -, -, -, engine, -⟩ := starts 14 0 1 unordered_newContext
  obtain ⟨d, ends', engine'⟩ := unordered_spawn
  rw [ends_unique ends' ends, thr_setThr_other _ _ (by decide), thr_setThr_same, engine] at engine'
  exact absurd engine' (by decide)

end Sys2Proof.Machine
end

section
namespace Sys2Proof.Machine

/-! CAS of a register by a thread whose record still names a wait (R134) -/

/-- A CAS of CSP_ID that finds another value readies the thread: its record's `wait` is dropped. -/
theorem staleWait_cas : ∃ d, Ends (.cas 0 0 0 0 3) ⟨staleWait, []⟩ d ∧ (d.thr 0).wait = .ready :=
  ⟨_, rfl, by decide⟩

/-- Refutes O18: a CAS of a register also clears a `wait` that the record of the running thread still holds, and the statement
leaves it. -/
theorem not_compareAndSwapAndFind : ¬ Obligations.CompareAndSwapAndFind := by
  unfold Obligations.CompareAndSwapAndFind
  intro h
  obtain ⟨-, register, -⟩ := h ⟨staleWait, []⟩ 0 0 0 0 staleWait_issues
  obtain ⟨-, stores⟩ := register 8 3 ⟨.CSP_ID, 0, 0⟩ (Or.inr ⟨rfl, rfl⟩) rfl rfl (by decide) (by decide) (by decide)
  obtain ⟨differs, -⟩ := stores rfl (by decide)
  obtain ⟨d, ends', ready⟩ := staleWait_cas
  rw [ends_unique ends' (differs (by decide))] at ready
  revert ready
  simp [Dev.thr, Dev.setThr, Thread.wrote, Thread.setG, staleWait, Tab.get]

end Sys2Proof.Machine
end

section
namespace Sys2Proof.Machine

/-! Engines: drain, return, self-test (R94, R95) -/

section
variable {s : State} {e : Fin 16}

theorem drain_holding (ha : s.dev.answers = true) (h0 : s.dev.fget WGL_ENG_CTRL.STATE 0 e = 0) (hs : s.dev.slotsHeld e ≠ []) :
    Runs (.engineDrain e) s fun d =>
      d.fget WGL_ENG_CTRL.STATE 0 e = 2 ∧ d.fget WGL_ENG_CTRL.DRAIN 0 e = 1 ∧
        OnlyRegs [⟨.WGL_ENG_CTRL, 0, e⟩] s.dev d := by
  let x := (s.dev.fset WGL_ENG_CTRL.STATE 2 0 e).fset WGL_ENG_CTRL.DRAIN 1 0 e
  have hn : s.dev.engineDrain e = x := by
    have hs' : x.slotsHeld e ≠ [] := hs
    simp only [Dev.engineDrain, h0]
    exact if_neg fun h => hs' h.2
  refine ⟨x, ?_, ?_, ?_, ((onlyRegs_refl _ s.dev).fset _ _ _ _ (by simp)).fset _ _ _ _ (by simp)⟩
  · show execEngineDrain e s = _
    exact onReg_ends ha hn rfl rfl
  · exact (fget_fset_other _ WGL_ENG_CTRL.DRAIN WGL_ENG_CTRL.STATE _ _ _ _ _ (by simp)).trans
      (fget_fset_same _ _ _ _ _ (by decide))
  · exact fget_fset_same _ _ _ _ _ (by decide)

/-- An engine that is DRAINING and holds no thread goes OUT, its DRAIN cleared. -/
theorem drainCheck_empty (d : Dev) {e : Nat} (h2 : d.fget WGL_ENG_CTRL.STATE 0 e = 2) (hs : d.slotsHeld e = []) :
    (d.drainCheck e).fget WGL_ENG_CTRL.STATE 0 e = 3 ∧ (d.drainCheck e).fget WGL_ENG_CTRL.DRAIN 0 e = 0 := by
  rw [Dev.drainCheck, if_pos ⟨h2, hs⟩]
  simp [fget_fset_other, fget_fset_same]

theorem drain_empty (ha : s.dev.answers = true) (h0 : s.dev.fget WGL_ENG_CTRL.STATE 0 e = 0) (hs : s.dev.slotsHeld e = []) :
    Runs (.engineDrain e) s fun d =>
      d.fget WGL_ENG_CTRL.STATE 0 e = 3 ∧ d.fget WGL_ENG_CTRL.DRAIN 0 e = 0 ∧
        OnlyRegs [⟨.WGL_ENG_CTRL, 0, e⟩] s.dev d := by
  let x := (s.dev.fset WGL_ENG_CTRL.STATE 2 0 e).fset WGL_ENG_CTRL.DRAIN 1 0 e
  have hx : OnlyRegs [⟨.WGL_ENG_CTRL, 0, e⟩] s.dev x :=
    ((onlyRegs_refl _ s.dev).fset _ _ _ _ (by simp)).fset _ _ _ _ (by simp)
  have h2 : x.fget WGL_ENG_CTRL.STATE 0 e = 2 :=
    (fget_fset_other _ WGL_ENG_CTRL.DRAIN WGL_ENG_CTRL.STATE _ _ _ _ _ (by simp)).trans
      (fget_fset_same _ _ _ _ _ (by decide))
  have hd := hx.trans (drainCheck_onlyRegs x e)
  obtain ⟨hstate, hdrain⟩ := drainCheck_empty x h2 hs
  refine ⟨x.drainCheck e, ?_, hstate, hdrain, hd⟩
  show execEngineDrain e s = _
  refine onReg_ends ha (by simp only [Dev.engineDrain, h0]; rfl) ?_ ?_
  · exact hd.state (fun y => y.gable.boot) fun _ _ => rfl
  · exact hd.state Dev.fuses fun _ _ => rfl

theorem drain_reserve (ha : s.dev.answers = true) (h1 : s.dev.fget WGL_ENG_CTRL.STATE 0 e = 1) :
    Ends (.engineDrain e) s (s.dev.fset WGL_ENG_CTRL.STATE 3 0 e) := by
  show execEngineDrain e s = _
  exact onReg_ends ha (by simp only [Dev.engineDrain, h1]) rfl rfl

theorem return_starts (ha : s.dev.answers = true) (h3 : s.dev.fget WGL_ENG_CTRL.STATE 0 e = 3) :
    Ends (.engineReturn e) s (s.dev.fset WGL_ENG_CTRL.RETURN 1 0 e) := by
  show execEngineReturn e s = _
  exact onReg_ends ha (if_pos h3) rfl rfl

theorem return_ignored (ha : s.dev.answers = true) (h3 : s.dev.fget WGL_ENG_CTRL.STATE 0 e ≠ 3) :
    exec (.engineReturn e) s = .next s := by
  show execEngineReturn e s = _
  exact onReg_ends ha (if_neg h3) rfl rfl

theorem selfTest_ends (hr : s.dev.inReset = false) (h : s.dev.fon WGL_ENG_CTRL.RETURN 0 e = true) :
    Ends (.selfTestDone e true) s ((s.dev.fset WGL_ENG_CTRL.RETURN 0 0 e).fset WGL_ENG_CTRL.STATE 1 0 e) ∧
      Ends (.selfTestDone e false) s ((s.dev.fset WGL_ENG_CTRL.RETURN 0 0 e).fset WGL_ENG_CTRL.RETURN_FAIL 1 0 e) := by
  have hgo : ¬ (!s.dev.fon WGL_ENG_CTRL.RETURN 0 e) = true := by simp [h]
  constructor
  · show execSelfTestDone e true s = _
    exact onDev_to hr (if_neg hgo) rfl rfl
  · show execSelfTestDone e false s = _
    exact onDev_to hr (if_neg hgo) rfl rfl

end

end Sys2Proof.Machine
end

section
namespace Sys2Proof.Machine

/-! A thread that moves (R95) -/

/-- What THREAD_MOVE looks for first. -/
theorem mayMove {d : Dev} {t : Nat} (hl : (d.thr t).live = true) (h2 : d.fget WGL_ENG_CTRL.STATE 0 (d.thr t).engine = 2)
    (hm : d.movable t = true) :
    ¬ (!(d.thr t).live || d.fget WGL_ENG_CTRL.STATE 0 (d.thr t).engine != 2 || !d.movable t) = true := by
  simp [hl, h2, hm]

section
variable {s : State} {t : Fin 64} (hr : s.dev.inReset = false) (hl : (s.dev.thr t).live = true)
  (h2 : s.dev.fget WGL_ENG_CTRL.STATE 0 (s.dev.thr t).engine = 2) (hm : s.dev.movable t = true)
include hr hl h2 hm

theorem move_ends {n : Nat} (hb : s.dev.bestEngine = some n) : Runs (.threadMove t) s fun d =>
    ∃ k, d.thr t = { s.dev.thr t with engine := n, slot := k } ∧ (∀ u, u ≠ t.val → d.thr u = s.dev.thr u) ∧
      RegsBut [⟨.WGL_ENG_CTRL, 0, (s.dev.thr t).engine⟩] s.dev d := by
  let k := ((List.range 4).find? fun x => !((s.dev.slotsHeld n).contains x)).getD 0
  let x := s.dev.setThr t { s.dev.thr t with engine := n, slot := k }
  let y := x.fset WGL_ENG_CTRL.NOROOM 0 0 (s.dev.thr t).engine
  have hy : OnlyRegs [⟨.WGL_ENG_CTRL, 0, (s.dev.thr t).engine⟩] x (y.drainCheck (s.dev.thr t).engine) :=
    ((onlyRegs_refl _ x).fset _ _ _ _ (by simp)).trans (drainCheck_onlyRegs y _)
  refine ⟨y.drainCheck (s.dev.thr t).engine, ?_, k, ?_, fun u hu => ?_, fun r hn => hy.2 r hn⟩
  · show execThreadMove t s = _
    refine onDev_to hr ?_ (hy.state Dev.gable fun _ _ => rfl) (hy.state Dev.fuses fun _ _ => rfl)
    dsimp only
    rw [if_neg (mayMove hl h2 hm)]
    simp only [hb, Option.isNone_some, Bool.false_eq_true, if_false]
    rfl
  · exact (hy.state (fun z => z.thr t) fun _ _ => rfl).trans (thr_setThr_same _ _ _)
  · exact (hy.state (fun z => z.thr u) fun _ _ => rfl).trans (thr_setThr_other _ _ hu)

theorem move_noRoom (hb : s.dev.bestEngine = none) (hp : s.dev.promote = s.dev) :
    Ends (.threadMove t) s (s.dev.fset WGL_ENG_CTRL.NOROOM 1 0 (s.dev.thr t).engine) := by
  show execThreadMove t s = _
  refine onDev_to hr ?_ rfl rfl
  dsimp only
  rw [if_neg (mayMove hl h2 hm)]
  simp only [hb, hp, Option.isNone_none, if_true]

end

end Sys2Proof.Machine
end

section
namespace Sys2Proof.Machine

/-! An engine that fails (R96) -/

theorem tab_get_mem {α : Type} {dflt : α} {l : Tab α} {k : Nat} (h : Tab.get dflt l k ≠ dflt) :
    (k, Tab.get dflt l k) ∈ l := by
  induction l with
  | nil => exact absurd rfl h
  | cons e l ih =>
    obtain ⟨k', v⟩ := e
    by_cases hk : k = k'
    · subst hk
      simp [Tab.get]
    · simp only [Tab.get, hk, if_false] at h ⊢
      exact List.mem_cons_of_mem _ (ih h)

theorem live_mem_threads {d : Dev} {u : Nat} (h : (d.thr u).live = true) : (u, d.thr u) ∈ d.threads := by
  refine tab_get_mem fun he => ?_
  rw [Dev.thr, he] at h
  exact absurd h (by decide)

/-- A thread FAULTED with its engine, and its fold program with it. -/
def Dev.faultWith (d : Dev) (x : Nat × Thread) : Dev :=
  if x.2.manager then d.setThr x.1 x.2.stopped else (d.setThr x.1 x.2.stopped).fset FLD_PROG_STAT.STATE 3 x.2.fid

theorem faultWith_keeps {β : Type} (g : Dev → β) (hg : ∀ (d : Dev) (ts : Tab Thread) (l : List RegCell),
    g { d with threads := ts, regs := l } = g d) (d : Dev) (x : Nat × Thread) : g (d.faultWith x) = g d := by
  unfold Dev.faultWith
  split
  · exact hg d _ d.regs
  · exact hg d _ _

theorem faultWith_thr (d : Dev) (x : Nat × Thread) (u : Nat) :
    (d.faultWith x).thr u = if u = x.1 then x.2.stopped else d.thr u := by
  have h : (d.faultWith x).thr u = (d.setThr x.1 x.2.stopped).thr u := by
    unfold Dev.faultWith
    split <;> rfl
  rw [h]
  split
  case isTrue hu => rw [hu, thr_setThr_same]
  case isFalse hu => rw [thr_setThr_other _ _ hu]

/-- Every thread listed is FAULTED, and one that was stays so. -/
theorem faultWith_faults (l : List (Nat × Thread)) (d : Dev) (u : Nat)
    (h : (d.thr u).state = .faulted ∨ u ∈ l.map (·.1)) : ((l.foldl Dev.faultWith d).thr u).state = .faulted := by
  induction l generalizing d with
  | nil => simpa using h
  | cons x l ih =>
    apply ih
    rw [faultWith_thr]
    by_cases hu : u = x.1
    · exact Or.inl (by rw [if_pos hu]; rfl)
    · rw [if_neg hu]
      exact h.imp_right fun hm => by simpa [hu] using hm

/-- A RESERVE engine promoted: another engine's register alone changes. -/
theorem promote_eq (d : Dev) : d.promote = d ∨
    ∃ k, d.fget WGL_ENG_CTRL.STATE 0 k = 1 ∧ d.promote = d.fset WGL_ENG_CTRL.STATE 0 0 k := by
  unfold Dev.promote
  split
  case h_1 k hk => exact Or.inr ⟨k, by simpa using List.find?_some hk, rfl⟩
  case h_2 => exact Or.inl rfl

theorem promote_keeps {β : Type} (g : Dev → β) (hg : BesideRegs g) (d : Dev) : g d.promote = g d := by
  obtain h | ⟨k, -, h⟩ := promote_eq d
  · rw [h]
  · rw [h]
    exact hg d _

theorem promote_out {d : Dev} {e : Nat} (h : d.fget WGL_ENG_CTRL.STATE 0 e = 3) : d.promote.fget WGL_ENG_CTRL.STATE 0 e = 3 := by
  obtain hp | ⟨k, hk, hp⟩ := promote_eq d
  · rw [hp, h]
  · have hne : k ≠ e := by
      rintro rfl
      omega
    rw [hp, fget_fset_other _ _ _ _ _ _ _ _ (Or.inr (Or.inr (Or.inl hne))), h]

/-- What a failing engine leaves: it is OUT, its threads FAULTED, and fault sources, memories and hot updates are as they were. -/
structure Dev.engineFailed (d : Dev) (e : Nat) (x : Dev) : Prop where
  out : x.fget WGL_ENG_CTRL.STATE 0 e = 3
  faulted : ∀ u, (d.thr u).live = true → (d.thr u).engine = e → (x.thr u).state = .faulted
  faults : x.faults = d.faults
  gable : x.gable = d.gable
  fuses : x.fuses = d.fuses

theorem engineFail_failed {d : Dev} (hu : d.wygel.update = none) (e : Nat) : d.engineFailed e (d.engineFail e) := by
  let hit := d.liveThreads.filter fun x => x.2.engine == e && x.2.state != .faulted
  let a := hit.foldl Dev.faultWith d
  let b := ((a.fset WGL_ENG_CTRL.STATE 3 0 e).fset WGL_ENG_CTRL.DRAIN 0 0 e).fset WGL_ENG_CTRL.NOROOM 0 0 e
  have ha {β : Type} (g : Dev → β) (hg : ∀ (d : Dev) (ts : Tab Thread) (l : List RegCell),
      g { d with threads := ts, regs := l } = g d) : g a = g d := foldl_keeps g _ (faultWith_keeps g hg) hit d
  have hb {β : Type} (g : Dev → β) (hg : BesideRegs g) : g b.promote = g a :=
    (promote_keeps g hg b).trans (hg a _)
  have hx : d.engineFail e = b.promote := trySwitch_none b.promote
    ((hb (fun y => y.wygel.update) fun _ _ => rfl).trans ((ha (fun y => y.wygel.update) fun _ _ _ => rfl).trans hu))
  rw [hx]
  refine ⟨promote_out ?_, fun u hl he => ?_, (hb Dev.faults fun _ _ => rfl).trans (ha Dev.faults fun _ _ _ => rfl),
    (hb Dev.gable fun _ _ => rfl).trans (ha Dev.gable fun _ _ _ => rfl),
    (hb Dev.fuses fun _ _ => rfl).trans (ha Dev.fuses fun _ _ _ => rfl)⟩
  · simp [b, fget_fset_other, fget_fset_same]
  · refine (congrArg Thread.state (hb (fun y => y.thr u) fun _ _ => rfl)).trans (faultWith_faults hit d u ?_)
    by_cases hf : (d.thr u).state = .faulted
    · exact Or.inl hf
    · refine Or.inr (List.mem_map.mpr ⟨(u, d.thr u), ?_, rfl⟩)
      simp only [hit, Dev.liveThreads, List.mem_filter]
      exact ⟨⟨live_mem_threads hl, hl⟩, by simpa [he] using hf⟩

theorem engineFault_runs {s : State} {e : Fin 16} (hr : s.dev.inReset = false) (hu : s.dev.wygel.update = none)
    (hq : (s.dev.src (202 + e)).queue.length < 4) : Runs (.engineFault e) s fun d =>
      d.fget WGL_ENG_CTRL.STATE 0 e = 3 ∧
      (∀ u, (s.dev.thr u).live = true → (s.dev.thr u).engine = e → (d.thr u).state = .faulted) ∧
      (d.src (202 + e)).queue.map (·.1) =
        (s.dev.src (202 + e)).queue.map (·.1) ++ [⟨1, 0x92, 0, 0, BitVec.ofNat 64 e⟩] := by
  have hf := engineFail_failed hu e
  have hsrc : (s.dev.engineFail e).src (202 + e) = s.dev.src (202 + e) := by
    unfold Dev.src
    rw [hf.faults]
  refine ⟨(s.dev.engineFail e).raise (202 + e) (engineRec e), ?_, ?_, fun u hl he => ?_, ?_⟩
  · show execEngineFault e s = _
    exact onDev_to hr rfl ((raise_gable _ _ _).trans hf.gable) ((raise_fuses _ _ _).trans hf.fuses)
  · rw [raise_fget _ _ _ _ _ _ (Or.inl (by decide)), hf.out]
  · rw [Dev.thr, raise_threads]
    exact hf.faulted u hl he
  · rw [raise_queue _ _ _ (hsrc ▸ hq), hsrc, List.map_append]
    rfl

/-- Settles O27, a command at a time. -/
theorem engineService : Obligations.EngineService := by
  unfold Obligations.EngineService
  intro s e t
  exact ⟨fun ha => ⟨drain_holding ha, drain_empty ha, drain_reserve ha, return_starts ha, return_ignored ha⟩,
    fun hr => ⟨selfTest_ends hr, engineFault_runs hr,
      fun hl h2 hm => ⟨fun _ => move_ends hr hl h2 hm, move_noRoom hr hl h2 hm⟩⟩⟩

end Sys2Proof.Machine
end

section
namespace Sys2Proof.Machine

/-! The registers that the end of a thread, and a message offered, leave (R61, R307) -/

theorem released_rd (d : Dev) (t : Nat) {r : Reg} (h : r.k ≠ .FLD_PROG_STAT) : (d.released t).rd r = d.rd r := by
  have hf (e : Dev) (n i : Nat) : (e.fset FLD_PROG_STAT.STATE n i 0).rd r = e.rd r :=
    rd_fset_other _ _ _ _ _ _ fun he => h (congrArg Reg.k he)
  unfold Dev.released
  dsimp only
  split
  · rw [hf]
    split <;> rfl
  · split <;> rfl

theorem drainAll_rd (d : Dev) {r : Reg} (h : r.k ≠ .WGL_ENG_CTRL) : d.drainAll.rd r = d.rd r :=
  foldl_keeps (fun e => e.rd r) Dev.drainCheck (fun e k => (drainCheck_onlyRegs e k).2 r fun hm => h (by simp_all)) _ d

/-- A thread killed changes no register but the engines' and the programs'. -/
theorem kill_rd {d : Dev} (hu : d.wygel.update = none) (t : Nat) {r : Reg} (hp : r.k ≠ .FLD_PROG_STAT)
    (he : r.k ≠ .WGL_ENG_CTRL) : (d.kill t).rd r = d.rd r := by
  unfold Dev.kill
  split
  · obtain ⟨l, hl⟩ := orphanWrite_eq d t
    rw [hl, Dev.endThread, drainAll_rd _ he, release_eq (d := { d with wygel := { d.wygel with orphans := l } }) hu,
      released_rd _ _ hp]
    rfl
  · rfl

/-- The registers of the buffer and the queues. -/
def queueRegs : List RK := [.SWC_BUF_STAT, .SWC_PORT_MIN, .SWC_EVENT_CNT, .SCH_RIDGE_Q, .SCH_QUEUE_STAT]

theorem enqueue_keptBut (d : Dev) (m : QMsg) (part : BufPart) : d.keptBut queueRegs (d.enqueue m part) := by
  have htake (m : QMsg) : d.keptBut queueRegs (d.takeCells m) := by
    have h := (keptBut_refl queueRegs d).fset SWC_BUF_STAT.CELLS_FREE
      (d.fget SWC_BUF_STAT.CELLS_FREE - m.cells) 0 0 (by decide)
    unfold Dev.takeCells
    dsimp only
    split
    · exact h.fset _ _ _ _ (by decide)
    · exact h.fset _ _ _ _ (by decide)
    · exact Dev.keptBut.ite _ (h.fset _ _ _ _ (by decide)) h
  have hdepth (e : Dev) (m : QMsg) : e.keptBut queueRegs (e.depth m true) := by
    unfold Dev.depth
    exact Dev.keptBut.ite _ ((keptBut_refl _ e).fset _ _ _ _ (by decide)) ((keptBut_refl _ e).fset _ _ _ _ (by decide))
  have htag (e : Dev) (m : QMsg) : e.keptBut queueRegs (e.tagHead m) := by
    unfold Dev.tagHead
    exact Dev.keptBut.ite _ (keptBut_refl _ e) ((keptBut_refl _ e).fset _ _ _ _ (by decide))
  unfold Dev.enqueue
  extract_lets m' first d1 d2 buf d3
  have h1 : d.keptBut queueRegs d1 := (htake m').trans (hdepth _ m')
  have h2 : d.keptBut queueRegs d2 := Dev.keptBut.ite _ (h1.trans (htag d1 m')) h1
  have h3 : d.keptBut queueRegs d3 := h2.hidden rfl rfl rfl rfl rfl id
  exact Dev.keptBut.ite _ (h3.fset _ _ _ _ (by decide)) h3

/-- A message from no port, offered to the buffer. -/
theorem offer_keptBut (d : Dev) {m : QMsg} (hi : m.ingress = none) : d.keptBut queueRegs (d.offer m) := by
  unfold Dev.offer
  split
  · exact (keptBut_refl _ d).hidden rfl rfl rfl rfl rfl id
  · split
    · rw [hi]
      exact enqueue_keptBut d m _
    · exact (keptBut_refl _ d).hidden rfl rfl rfl rfl rfl id

/-- A read of host memory asked for over a port that is up. -/
theorem hostRead_keptBut {d : Dev} {f : Nat} (hp : d.portUp (d.usp (d.foldVsw f)) = true) (addr len : Nat) :
    d.keptBut queueRegs (d.hostRead f addr len) := by
  unfold Dev.hostRead Dev.foldMsg
  simp only [hp, Bool.not_true, Bool.false_eq_true, if_false]
  exact offer_keptBut d rfl

end Sys2Proof.Machine
end

section
namespace Sys2Proof.Machine

/-! Fold programs: the start (R90, R466) -/

section
variable {d : Dev} {f : Nat}

/-- Is a start refused (R90)? -/
def Dev.startRefused (d : Dev) (f : Nat) : Prop :=
  d.fon FLD_CFG.PROG_ALLOW f = false ∨ d.fget FLD_PROG_STAT.STATE f = 1 ∨ d.fget FLD_PROG_STAT.STATE f = 2 ∨
    d.fget FLD_PROG_CTRL.LEN f = 0 ∨ 32992 < d.fget FLD_PROG_CTRL.LEN f ∨ d.fget FLD_MIG_STAT.STATE f = mgFreezePending

theorem startRefused_iff : (!d.fon FLD_CFG.PROG_ALLOW f || d.fget FLD_PROG_STAT.STATE f == 1 ||
    d.fget FLD_PROG_STAT.STATE f == 2 || d.fget FLD_PROG_CTRL.LEN f == 0 || decide (32992 < d.fget FLD_PROG_CTRL.LEN f) ||
    d.fget FLD_MIG_STAT.STATE f == mgFreezePending) = true ↔ d.startRefused f := by
  simp [Dev.startRefused, or_assoc]

theorem progStart_refused (h : d.startRefused f) : d.progStart f = d.fset FLD_PROG_STAT.LOAD_STATUS 7 f :=
  if_pos (startRefused_iff.mpr h)

/-- A program that is to start gives up the thread of an earlier one. -/
def Dev.cleared (d : Dev) (f : Nat) : Dev :=
  match d.threads.find? fun e => e.2.live && e.2.fid == f with
  | some (t, _) => d.kill t
  | none => d

theorem cleared_eq (d : Dev) (f : Nat) : d.cleared f = d ∨ ∃ t, d.cleared f = d.kill t := by
  unfold Dev.cleared
  split
  · exact Or.inr ⟨_, rfl⟩
  · exact Or.inl rfl

/-- The state of a program that loads. -/
def Dev.loading (d : Dev) (f : Nat) : Dev :=
  ((d.cleared f).fset FLD_PROG_STAT.STATE 1 f).fset FLD_PROG_STAT.LOAD_STATUS 0 f

theorem progStart_loads (h : ¬ d.startRefused f) : d.progStart f =
    ((d.loading f).hostRead f ((d.loading f).fget FLD_PROG_ADDR.ADDR f) (d.fget FLD_PROG_CTRL.LEN f)).eventMgr 7 :=
  if_neg (mt startRefused_iff.mp h)

variable (hu : d.wygel.update = none)
include hu

theorem kill_keeps (t : Nat) : (d.kill t).gable = d.gable ∧ (d.kill t).fuses = d.fuses := by
  cases hl : (d.thr t).live with
  | true => exact ⟨(kill_threadGone hu hl).gable, (kill_threadGone hu hl).fuses⟩
  | false =>
    rw [Dev.kill, if_neg (by simp [hl])]
    exact ⟨rfl, rfl⟩

theorem loading_keeps : (d.loading f).gable = d.gable ∧ (d.loading f).fuses = d.fuses := by
  have h : (d.cleared f).gable = d.gable ∧ (d.cleared f).fuses = d.fuses := by
    obtain he | ⟨t, he⟩ := cleared_eq d f
    · rw [he]
      exact ⟨rfl, rfl⟩
    · rw [he]
      exact kill_keeps hu t
  exact h

theorem loading_rd {r : Reg} (hp : r.k ≠ .FLD_PROG_STAT) (he : r.k ≠ .WGL_ENG_CTRL) : (d.loading f).rd r = d.rd r := by
  unfold Dev.loading
  rw [rd_fset_other _ _ _ _ _ _ fun h => hp (congrArg Reg.k h), rd_fset_other _ _ _ _ _ _ fun h => hp (congrArg Reg.k h)]
  obtain h | ⟨t, h⟩ := cleared_eq d f
  · rw [h]
  · rw [h, kill_rd hu t hp he]

theorem loading_fget (x : Fld) (i j : Nat) (hp : x.k ≠ .FLD_PROG_STAT) (he : x.k ≠ .WGL_ENG_CTRL) :
    (d.loading f).fget x i j = d.fget x i j :=
  congrArg (fun v => bitsOf v x.lo x.w) (loading_rd (r := ⟨x.k, i, j⟩) hu hp he)

theorem loading_portUp (h : d.portUp (d.usp (d.foldVsw f)) = true) :
    (d.loading f).portUp ((d.loading f).usp ((d.loading f).foldVsw f)) = true := by
  unfold Dev.portUp Dev.usp Dev.foldVsw at *
  rwa [loading_fget hu _ _ _ (by decide) (by decide), loading_fget hu _ _ _ (by decide) (by decide),
    loading_fget hu _ _ _ (by decide) (by decide)]

end

section
variable {s : State} {f : Fin 256} (ha : s.dev.answers = true)
include ha

theorem start_refused (hw : s.dev.hostWrites f = true) (h : s.dev.startRefused f) :
    Ends (.foldProgStart f) s (s.dev.fset FLD_PROG_STAT.LOAD_STATUS 7 f) := by
  show execFoldProgStart f s = _
  exact onReg_ends ha ((if_pos hw).trans (progStart_refused h)) rfl rfl

theorem start_ignored (hw : s.dev.hostWrites f = false) : exec (.foldProgStart f) s = .next s := by
  show execFoldProgStart f s = _
  exact onReg_ends ha (if_neg (by simp [hw])) rfl rfl

theorem start_loads (hw : s.dev.hostWrites f = true) (h : ¬ s.dev.startRefused f) (hu : s.dev.wygel.update = none)
    (hp : s.dev.portUp (s.dev.usp (s.dev.foldVsw f)) = true) : Runs (.foldProgStart f) s fun d =>
      d.fget FLD_PROG_STAT.STATE f = 1 ∧ d.fget FLD_PROG_STAT.LOAD_STATUS f = 0 := by
  have hk := (hostRead_keptBut (loading_portUp hu hp) ((s.dev.loading f).fget FLD_PROG_ADDR.ADDR f)
    (s.dev.fget FLD_PROG_CTRL.LEN f)).trans (latch_keptBut _ 7 fun _ th => th.manager)
  obtain ⟨hg, hf⟩ := loading_keeps (f := f) hu
  refine ⟨_, ?_, (hk.fget _ _ _ (by decide)).trans ?_, (hk.fget _ _ _ (by decide)).trans ?_⟩
  · show execFoldProgStart f s = _
    exact onReg_ends ha ((if_pos hw).trans (progStart_loads h)) (hk.boot.trans (congrArg Gable.boot hg)) (hk.fuses.trans hf)
  · simp [Dev.loading, fget_fset_other, fget_fset_same]
  · simp [Dev.loading, fget_fset_same]

end

end Sys2Proof.Machine
end

section
namespace Sys2Proof.Machine

/-! Fold programs: the image that has come (R87, R90) -/

/-- The program's state as its image has been looked at: running on its fold's thread, or idle. -/
def Dev.programSettled (d : Dev) (f : Nat) : Dev :=
  match d.threads.find? fun e => e.2.live && e.2.fid == f with
  | some (t, _) => (d.fset FLD_PROG_STAT.STATE 2 f).fset FLD_PROG_STAT.THREAD t f
  | none => d.fset FLD_PROG_STAT.STATE 0 f

theorem programSettled_running {d : Dev} {f t : Nat} {x : Thread}
    (h : (d.threads.find? fun e => e.2.live && e.2.fid == f) = some (t, x)) :
    d.programSettled f = (d.fset FLD_PROG_STAT.STATE 2 f).fset FLD_PROG_STAT.THREAD t f := by
  rw [Dev.programSettled, h]

theorem programSettled_idle {d : Dev} {f : Nat} (h : ∀ t th, (t, th) ∈ d.threads → th.live = true → th.fid ≠ f) :
    d.programSettled f = d.fset FLD_PROG_STAT.STATE 0 f := by
  have hn : (d.threads.find? fun e => e.2.live && e.2.fid == f) = none := by
    rw [List.find?_eq_none]
    rintro ⟨t, th⟩ hm
    simpa using h t th hm
  rw [Dev.programSettled, hn]

/-- In a table whose threads are of other folds, the thread of a fold is the one entered. -/
theorem find_entered {ts : Tab Thread} {t f : Nat} {x : Thread} (hl : x.live = true) (hf : x.fid = f)
    (h : ∀ u th, (u, th) ∈ ts → th.live = true → th.fid ≠ f) :
    ((Tab.set ts t x).find? fun e => e.2.live && e.2.fid == f) = some (t, x) := by
  have hx : (x.live && x.fid == f) = true := by simp [hl, hf]
  induction ts with
  | nil => simp [Tab.set, hx]
  | cons e ts ih =>
    obtain ⟨u, y⟩ := e
    have hy : (y.live && y.fid == f) = false := by
      have := h u y List.mem_cons_self
      cases hyl : y.live <;> simp_all
    simp only [Tab.set]
    split
    · simp [hx]
    · split
      · simp [hx]
      · rw [List.find?_cons_of_neg (by simp [hy])]
        exact ih fun u th hm => h u th (List.mem_cons_of_mem _ hm)

/-- A load that a check fails writes WGL_LOAD_STAT alone (R87). -/
theorem loadImage_fails {d : Dev} {bs : List Byte} {path : ImgPath} (port seq : Nat) (h : d.loadStatus bs path ≠ 0) :
    d.loadImage bs path port seq = (d.loadDone (d.loadStatus bs path) (imgField bs 8 4), some (d.loadStatus bs path)) :=
  if_neg h

/-- The image that a load of `bs` keeps, no hot update and no key record. -/
def Dev.newImage (d : Dev) (bs : List Byte) (path : ImgPath) : Image :=
  imgRecord bs ((firstFit d.codeRuns (pagesFor (imgField bs 0x14 4))).getD 0)
    ((firstFit d.scratchRuns (pagesFor (imgField bs 0x20 4))).getD 0) (pagesFor (imgField bs 0x20 4))
    (match path with | .fold f => some f | _ => none)

/-- The device with that image kept and copied, its threads not yet started. -/
def Dev.imageKept (d : Dev) (bs : List Byte) (path : ImgPath) : Dev :=
  let c := (d.copyCode bs ((firstFit d.codeRuns (pagesFor (imgField bs 0x14 4))).getD 0)).copyData bs
    ((firstFit d.scratchRuns (pagesFor (imgField bs 0x20 4))).getD 0)
  { c with wygel := { c.wygel with images := c.wygel.images ++ [d.newImage bs path] } }

theorem loadImage_passes {d : Dev} {bs : List Byte} {path : ImgPath} (port seq : Nat) (h : d.loadStatus bs path = 0)
    (hk : imgField bs 6 1 ≠ 3) (hh : d.hotTarget bs path = none) : d.loadImage bs path port seq =
      (((d.imageKept bs path).startThreads (d.newImage bs path) (d.newImage bs path).entry (imgField bs 0x34 1)).loadDone 0
        (imgField bs 8 4), some 0) := by
  have ha : d.acceptImage bs path port seq =
      ((d.imageKept bs path).startThreads (d.newImage bs path) (d.newImage bs path).entry (imgField bs 0x34 1), false) := by
    unfold Dev.acceptImage
    rw [if_neg hk]
    dsimp only
    rw [hh]
    rfl
  unfold Dev.loadImage
  dsimp only
  rw [if_pos h, ha]
  rfl

theorem newContext_lt {d : Dev} {t e k : Nat} (h : d.newContext = some (t, e, k)) : t < 64 := by
  unfold Dev.newContext at h
  split at h
  next hf =>
    split at h
    · obtain ⟨rfl, -⟩ := by simpa using h
      exact List.mem_range.mp (List.mem_of_find?_eq_some hf)
    · cases h
  · cases h

/-- A device whose fold `f` has its image loaded: thread `x`, live, the fold's own and at PRIV 1, entered as `t` (R90). -/
structure Dev.programLoaded (d : Dev) (bs : List Byte) (f t : Nat) (x : Thread) (e : Dev) : Prop where
  live : x.live = true
  fid : x.fid = f
  priv : x.priv = true
  threads : e.threads = Tab.set d.threads t x
  image : ∃ im ∈ e.wygel.images, im.id = imgField bs 8 4 ∧ im.fold = some f
  gable : e.gable = d.gable
  fuses : e.fuses = d.fuses

/-- The thread of a fold's image as it starts. -/
def foldThread (im : Image) (f engine slot now : Nat) : Thread :=
  { state := .run, engine := engine, slot := slot, priv := true, fid := f, gpr := Tab.set [] 1 0,
    pc := toPC (BitVec.ofNat 64 im.entry), image := some im.id, started := now }

theorem imageKept_image (d : Dev) (bs : List Byte) (path : ImgPath) :
    d.newImage bs path ∈ (d.imageKept bs path).wygel.images :=
  List.mem_append_right _ (List.mem_singleton.mpr rfl)

theorem loadImage_starts {d : Dev} {bs : List Byte} {f t e k : Nat} (h : d.loadStatus bs (.fold f) = 0)
    (hk : imgField bs 6 1 ≠ 3) (h1 : imgField bs 0x34 1 = 1) (hc : d.newContext = some (t, e, k)) :
    ∃ x y, d.programLoaded bs f t x y ∧ d.loadImage bs (.fold f) 0 0 = (y, some 0) := by
  have hc' : (d.imageKept bs (.fold f)).newContext = some (t, e, k) := hc
  rw [loadImage_passes 0 0 h hk rfl, h1, Dev.startThreads]
  simp only [List.range_one, List.foldl_cons, List.foldl_nil, Dev.startThread, hc']
  refine ⟨foldThread (d.newImage bs (.fold f)) f e k d.now, _, ?_, rfl⟩
  exact ⟨rfl, rfl, rfl, rfl, ⟨d.newImage bs (.fold f), imageKept_image d bs _, rfl, rfl⟩, rfl, rfl⟩

section
variable {s : State} {f : Fin 256} (ha : s.dev.answers = true) (h1 : s.dev.fget FLD_PROG_STAT.STATE f = 1)
  (hr : s.dev.foldState f ≠ fdResetting)
include ha h1 hr

theorem fetched_ends {bs : List Byte} {e : Dev} {st : Nat} (hl : s.dev.loadImage bs (.fold f) 0 0 = (e, some st))
    (hf : e.fuses = s.dev.fuses) (hg : e.gable = s.dev.gable) :
    Ends (.foldImageFetched f (some bs)) s ((e.fset FLD_PROG_STAT.LOAD_STATUS st f).programSettled f) := by
  have hgo : ¬ (s.dev.fget FLD_PROG_STAT.STATE f ≠ 1 ∨ s.dev.foldState f = fdResetting) := by simp [h1, hr]
  have hk : ∀ x : Dev, (x.programSettled f).gable = x.gable ∧ (x.programSettled f).fuses = x.fuses := by
    intro x
    unfold Dev.programSettled
    split <;> exact ⟨rfl, rfl⟩
  show execFoldImageFetched f (some bs) s = _
  refine onDev_to (inReset_of_answers ha) ?_ ((hk _).1.trans hg) ((hk _).2.trans hf)
  dsimp only
  rw [if_neg hgo, hl]
  rfl

theorem fetched_fails {bs : List Byte} {code : Nat} (hc : s.dev.loadStatus bs (.fold f) = code) (h0 : code ≠ 0)
    (hn : ∀ t th, (t, th) ∈ s.dev.threads → th.live = true → th.fid ≠ f.val) :
    Runs (.foldImageFetched f (some bs)) s fun d =>
      d.fget FLD_PROG_STAT.STATE f = 0 ∧ d.fget FLD_PROG_STAT.LOAD_STATUS f = code % 2 ^ FLD_PROG_STAT.LOAD_STATUS.w ∧
      d.wygel.images = s.dev.wygel.images ∧ d.threads = s.dev.threads := by
  have hl := loadImage_fails 0 0 (hc ▸ h0)
  rw [hc] at hl
  have he := fetched_ends ha h1 hr hl rfl rfl
  rw [programSettled_idle (d := (s.dev.loadDone code (imgField bs 8 4)).fset FLD_PROG_STAT.LOAD_STATUS code f) hn] at he
  refine ⟨_, he, ?_, ?_, rfl, rfl⟩
  · exact fget_fset_same _ _ _ _ _ (by decide)
  · simp [fget_fset_other, fget_fset_same]

theorem fetched_runs {bs : List Byte} (hc : s.dev.loadStatus bs (.fold f) = 0) (hk : imgField bs 6 1 ≠ 3)
    (hn1 : imgField bs 0x34 1 = 1) (hctx : s.dev.newContext.isSome = true)
    (hn : ∀ t th, (t, th) ∈ s.dev.threads → th.live = true → th.fid ≠ f.val) :
    Runs (.foldImageFetched f (some bs)) s fun d =>
      d.fget FLD_PROG_STAT.STATE f = 2 ∧ d.fget FLD_PROG_STAT.LOAD_STATUS f = 0 ∧
      (∃ im ∈ d.wygel.images, im.id = imgField bs 8 4 ∧ im.fold = some f.val) ∧
      let x := d.thr (d.fget FLD_PROG_STAT.THREAD f)
      x.live = true ∧ x.fid = f.val ∧ x.priv = true := by
  obtain ⟨⟨t, e, k⟩, hctx⟩ := Option.isSome_iff_exists.mp hctx
  obtain ⟨x, y, hy, hl⟩ := loadImage_starts (f := f) hc hk hn1 hctx
  have hfind : (y.threads.find? fun e => e.2.live && e.2.fid == f.val) = some (t, x) := by
    rw [hy.threads]
    exact find_entered hy.live hy.fid hn
  have he := fetched_ends ha h1 hr hl hy.fuses hy.gable
  rw [programSettled_running (d := y.fset FLD_PROG_STAT.LOAD_STATUS 0 f) hfind] at he
  have ht : t % 2 ^ 6 = t := Nat.mod_eq_of_lt (newContext_lt hctx)
  have hthread : (((y.fset FLD_PROG_STAT.LOAD_STATUS 0 f).fset FLD_PROG_STAT.STATE 2 f).fset FLD_PROG_STAT.THREAD t f).fget
      FLD_PROG_STAT.THREAD f = t := (fget_fset_same _ _ _ _ _ (by decide)).trans ht
  have hx : y.thr t = x := by rw [Dev.thr, hy.threads, tab_get_set_same]
  refine ⟨_, he, ?_, ?_, hy.image, ?_⟩
  · simp [fget_fset_other, fget_fset_same]
  · simp [fget_fset_other, fget_fset_same]
  · rw [hthread]
    show (y.thr t).live = true ∧ (y.thr t).fid = f.val ∧ (y.thr t).priv = true
    rw [hx]
    exact ⟨hy.live, hy.fid, hy.priv⟩

theorem fetched_lost : Runs (.foldImageFetched f none) s fun d =>
    d.fget FLD_PROG_STAT.STATE f = 0 ∧ d.wygel = s.dev.wygel ∧ d.threads = s.dev.threads := by
  have hgo : ¬ (s.dev.fget FLD_PROG_STAT.STATE f ≠ 1 ∨ s.dev.foldState f = fdResetting) := by simp [h1, hr]
  refine ⟨s.dev.progBad f, ?_, ?_, rfl, rfl⟩
  · show execFoldImageFetched f none s = _
    exact onDev_to (inReset_of_answers ha) (if_neg hgo) rfl rfl
  · show ((s.dev.fset FLD_PROG_STAT.STATE 0 f).fset FLD_PROG_STAT.LOAD_STATUS _ f).fget FLD_PROG_STAT.STATE f = 0
    simp [fget_fset_other, fget_fset_same]

end

/-- Settles O26: the start of a program, and the load of its image. -/
theorem foldPrograms : Obligations.FoldPrograms := by
  unfold Obligations.FoldPrograms
  intro s f ha
  exact ⟨start_refused ha, start_ignored ha, start_loads ha, fun _ _ h1 hr hc h0 hn => fetched_fails ha h1 hr hc h0 hn,
    fun _ h1 hr hc hk hn1 hctx hn => fetched_runs ha h1 hr hc hk hn1 hctx hn, fetched_lost ha⟩

end Sys2Proof.Machine
end

section
namespace Sys2Proof.Machine

/-! Images over the Ethernet ports: segments and unloading (R89, R613) -/

/-- A request that reaches the device finds it up. -/
theorem executes_answers {d : Dev} {via : FcpFrom} {typ session seq : Nat} (h : d.executes via typ session seq) :
    d.answers = true := by
  have hr := h.1
  simp only [Dev.reached, Bool.and_eq_true] at hr
  simp [Dev.answers, hr]

/-- A request whose answer comes later. -/
theorem fcpRequest_later {d : Dev} {via : FcpFrom} {typ session seq : Nat} (h : d.executes via typ session seq)
    {act : Dev → Dev × Option Reply} {x : Dev} (hact : act (d.executing via seq) = (x, none)) :
    d.fcpRequest via typ session seq act = x := by
  obtain ⟨-, -, -, hopen, hsess, hrep, hexe, hstale⟩ := id h
  have hs : (d.gableCross via).session = true := by
    rw [← hopen]; simp [Dev.session, Dev.fon, gableCross_fget]
  have hn : (d.gableCross via).fget ETH_SESSION.SESSION = session := by rw [gableCross_fget _ _ _ _ _ (by decide), hsess]
  have hnow : (d.gableCross via).now = d.now := gableCross_fget d via _ _ _ (by decide)
  have hf : d.fcp.replies.find? (fun r => r.1 == seq) = none := List.find?_eq_none.mpr fun r hr => by simpa using hrep r hr
  have hst (fcp : Fcp) (hfcp : fcp.replies = d.fcp.replies) :
      ({ d.gableCross via with fcp := fcp } : Dev).staleSeq seq = false := by
    rw [← hstale]; simp only [Dev.staleSeq, hfcp]
  have he : ({ d.gableCross via with fcp := { d.fcp with lastHeard := d.now, executing := d.fcp.executing ++ [seq] } } : Dev) =
      d.executing via seq := by simp only [Dev.executing, gableCross_fcp]
  unfold Dev.fcpRequest
  rw [arrive_executes h]
  simp only [hs, hn, gableCross_fcp, hf, List.contains_iff_mem, hexe, hst, hnow, Bool.true_and, beq_self_eq_true, Bool.not_true,
    Bool.false_eq_true, if_false, he, hact]

theorem executing_wygel (d : Dev) (via : FcpFrom) (seq : Nat) : (d.executing via seq).wygel = d.wygel := by
  show (d.gableCross via).wygel = d.wygel
  unfold Dev.gableCross
  split <;> simp

theorem executing_threads (d : Dev) (via : FcpFrom) (seq : Nat) : (d.executing via seq).threads = d.threads := by
  show (d.gableCross via).threads = d.threads
  unfold Dev.gableCross
  split <;> simp

section
variable {s : State} {via : FcpFrom} {typ : Nat} {session seq : BitVec 32} {i : Instr}
  {act : Dev → Dev × Option Reply} {x : Dev} (hx : s.dev.executes via typ session.toNat seq.toNat)
  (hi : exec i s = onDev s (Dev.fcpRequest via typ session.toNat seq.toNat act))
  (hg : x.gable = s.dev.gable) (hf : x.fuses = s.dev.fuses)
include hx hi hg hf

theorem request_answered {r : Reply} (h : act (s.dev.executing via seq.toNat) = (x, some r)) :
    Ends i s (x.finish via.port typ seq.toNat r) :=
  hi.trans (onDev_to (inReset_of_answers (executes_answers hx)) (fcpRequest_executes hx h) ((finish_gable _ _ _ _ _).trans hg)
    ((finish_fuses _ _ _ _ _).trans hf))

theorem request_later (h : act (s.dev.executing via seq.toNat) = (x, none)) : Ends i s x :=
  hi.trans (onDev_to (inReset_of_answers (executes_answers hx)) (fcpRequest_later hx h) hg hf)

end

/-- The partial image that a segment joins: a new one at offset 0, else the one there (R613). -/
def Wygel.joined (w : Wygel) (offset total : BitVec 32) : Wygel :=
  if offset = 0 then { w with rxImage := [], rxTotal := total.toNat } else w

/-- What a segment of IMAGE_DATA comes to, on port `p` with SEQ `q` (R613). -/
def Dev.segmentTaken (p q : Nat) (offset total : BitVec 32) (bytes : List Byte) (d : Dev) : Dev × Option Reply :=
  let w := d.wygel.joined offset total
  let got := w.rxImage ++ bytes
  if offset.toNat ≠ w.rxImage.length ∨ 3 * 2 ^ 20 < w.rxTotal ∨ w.rxTotal < got.length then (d.dropLoad, some (.code 6))
  else if got.length < w.rxTotal then ({ d with wygel := { w with rxImage := got } }, some (.code 0))
  else ({ d with wygel := { w with rxImage := got, rxWhole := some (p, q) } }, none)

section
variable {d : Dev} {p q : Nat} {offset total : BitVec 32} {bytes : List Byte}

theorem segmentTaken_refused (h : offset.toNat ≠ (d.wygel.joined offset total).rxImage.length ∨
      3 * 2 ^ 20 < (d.wygel.joined offset total).rxTotal ∨
      (d.wygel.joined offset total).rxTotal < ((d.wygel.joined offset total).rxImage ++ bytes).length) :
    d.segmentTaken p q offset total bytes = (d.dropLoad, some ⟨6, []⟩) := if_pos h

variable (ho : offset.toNat = (d.wygel.joined offset total).rxImage.length)
  (ht : (d.wygel.joined offset total).rxTotal ≤ 3 * 2 ^ 20)
include ho ht

theorem segmentTaken_kept
    (hl : ((d.wygel.joined offset total).rxImage ++ bytes).length < (d.wygel.joined offset total).rxTotal) :
    d.segmentTaken p q offset total bytes = ({ d with wygel := { d.wygel.joined offset total with
      rxImage := (d.wygel.joined offset total).rxImage ++ bytes } }, some ⟨0, []⟩) :=
  (if_neg (by omega)).trans (if_pos hl)

theorem segmentTaken_last
    (hl : ((d.wygel.joined offset total).rxImage ++ bytes).length = (d.wygel.joined offset total).rxTotal) :
    d.segmentTaken p q offset total bytes = ({ d with wygel := { d.wygel.joined offset total with
      rxImage := (d.wygel.joined offset total).rxImage ++ bytes, rxWhole := some (p, q) } }, none) :=
  (if_neg (by omega)).trans (if_neg (by omega))

end

section
variable {s : State} {via : FcpFrom} {session seq : BitVec 32}

section
variable {offset total : BitVec 32} {bytes : List Byte} (hx : s.dev.executes via 0x10 session.toNat seq.toNat)
  (hp : s.dev.phase ≠ phStandby) (hw : s.dev.wygel.rxWhole = none) (hu : s.dev.wygel.update = none)
include hp hw hu

/-- A segment that finds no load and no hot update in progress. -/
theorem imageData_taken : awake (fun d =>
    let w := d.wygel
    if w.rxWhole.isSome || w.update.isSome then (d, some (.code 4))
    else d.segmentTaken via.port seq.toNat offset total bytes) (s.dev.executing via seq.toNat) =
      (s.dev.executing via seq.toNat).segmentTaken via.port seq.toNat offset total bytes := by
  have hp' : (s.dev.executing via seq.toNat).phase ≠ phStandby := by
    rwa [Dev.phase, executing_fget _ _ _ _ _ _ (by decide)]
  have hgo : ¬ ((s.dev.executing via seq.toNat).wygel.rxWhole.isSome ||
      (s.dev.executing via seq.toNat).wygel.update.isSome) = true := by
    simp [executing_wygel, hw, hu]
  exact (if_neg hp').trans (if_neg hgo)

include hx

theorem imageData_ends :
    let i := Instr.imageData via session seq offset total bytes
    let e := s.dev.executing via seq.toNat
    let w := s.dev.wygel
    let w0 := w.joined offset total
    let got := w0.rxImage ++ bytes
    (offset.toNat = w0.rxImage.length → w0.rxTotal ≤ 3 * 2 ^ 20 → got.length < w0.rxTotal →
      Ends i s (({ e with wygel := { w0 with rxImage := got } } : Dev).finish via.port 0x10 seq.toNat ⟨0, []⟩)) ∧
    (offset.toNat = w0.rxImage.length → w0.rxTotal ≤ 3 * 2 ^ 20 → got.length = w0.rxTotal →
      Ends i s { e with wygel := { w0 with rxImage := got, rxWhole := some (via.port.val, seq.toNat) } }) ∧
    (offset.toNat ≠ w0.rxImage.length ∨ 3 * 2 ^ 20 < w0.rxTotal ∨ w0.rxTotal < got.length →
      Ends i s (({ e with wygel := { w with rxImage := [], rxTotal := 0 } } : Dev).finish via.port 0x10 seq.toNat
        ⟨6, []⟩)) := by
  intro i e w w0 got
  have hgable : e.gable = s.dev.gable := executing_gable _ _ _
  have hfuses : e.fuses = s.dev.fuses := executing_fuses _ _ _
  have hew : e.wygel = w := executing_wygel _ _ _
  have htaken := imageData_taken (via := via) (seq := seq) (offset := offset) (total := total) (bytes := bytes) hp hw hu
  refine ⟨fun ho ht hl => request_answered hx rfl (by exact hgable) (by exact hfuses) (htaken.trans ?_),
    fun ho ht hl => request_later hx rfl (by exact hgable) (by exact hfuses) (htaken.trans ?_),
    fun h => request_answered hx rfl (by exact hgable) (by exact hfuses) (htaken.trans ?_)⟩
  · exact (segmentTaken_kept (by rwa [hew]) (by rwa [hew]) (by rwa [hew])).trans (by rw [hew])
  · exact (segmentTaken_last (by rwa [hew]) (by rwa [hew]) (by rwa [hew])).trans (by rw [hew])
  · exact (segmentTaken_refused (by rwa [hew])).trans (by rw [Dev.dropLoad, hew])

end

end

end Sys2Proof.Machine
end

section
namespace Sys2Proof.Machine

/-! Images over the Ethernet ports: unloading (R89) -/

section
variable {s : State} {via : FcpFrom} {session seq imageId : BitVec 32}

/-- What IMAGE_UNLOAD comes to (R89). -/
def Dev.unloaded (id : Nat) (d : Dev) : Dev × Option Reply :=
  if (d.imageOf id).isNone then (d, some (.code 8))
  else if d.liveThreads.any fun e => e.2.manager && e.2.image == some id then (d, some (.code 6))
  else (d.dropImage id none, some (.code 0))

/-- Does some live thread run the manager image `id`? -/
theorem imageInUse_iff (d : Dev) (id : Nat) : (d.liveThreads.any fun e => e.2.manager && e.2.image == some id) = true ↔
    ∃ t th, (t, th) ∈ d.threads ∧ th.live = true ∧ th.manager = true ∧ th.image = some id := by
  simp [Dev.liveThreads]

theorem imageUnload_ends (hx : s.dev.executes via 0x11 session.toNat seq.toNat) :
    let i := Instr.imageUnload via session seq imageId
    let e := s.dev.executing via seq.toNat
    let w := s.dev.wygel
    (s.dev.imageOf imageId.toNat = none → Ends i s (e.finish via.port 0x11 seq.toNat ⟨8, []⟩)) ∧
    ((s.dev.imageOf imageId.toNat).isSome → (∃ t th, (t, th) ∈ s.dev.threads ∧ th.live = true ∧ th.manager = true ∧
        th.image = some imageId.toNat) → Ends i s (e.finish via.port 0x11 seq.toNat ⟨6, []⟩)) ∧
    ((s.dev.imageOf imageId.toNat).isSome → (∀ t th, (t, th) ∈ s.dev.threads → th.live = true → th.manager = true →
        th.image ≠ some imageId.toNat) →
      ∃ l, Ends i s (({ e with wygel := { w with images := l } } : Dev).finish via.port 0x11 seq.toNat ⟨0, []⟩) ∧
        ∀ im, im ∈ l ↔ im ∈ w.images ∧ ¬ (im.id = imageId.toNat ∧ im.fold = none)) := by
  intro i e w
  have hgable : e.gable = s.dev.gable := executing_gable _ _ _
  have hfuses : e.fuses = s.dev.fuses := executing_fuses _ _ _
  have hew : e.wygel = w := executing_wygel _ _ _
  have himage : e.imageOf imageId.toNat = s.dev.imageOf imageId.toNat := by simp only [Dev.imageOf, hew, w]
  have huse : (e.liveThreads.any fun x => x.2.manager && x.2.image == some imageId.toNat) = true ↔ _ :=
    imageInUse_iff e imageId.toNat
  rw [executing_threads] at huse
  have hi : exec i s = onDev s (Dev.fcpRequest via 0x11 session.toNat seq.toNat (Dev.unloaded imageId.toNat)) := rfl
  refine ⟨fun h => request_answered hx hi hgable hfuses ?_, fun h hl => request_answered hx hi hgable hfuses ?_,
    fun h hl => ⟨w.images.filter fun im => !(im.id == imageId.toNat && im.fold == none),
      request_answered hx hi (by exact hgable) (by exact hfuses) ?_, fun im => ?_⟩⟩
  · exact if_pos (by rw [himage, h]; rfl)
  · have h0 : ¬ (e.imageOf imageId.toNat).isNone = true := by
      rw [himage, Option.isNone_iff_eq_none]
      exact Option.isSome_iff_ne_none.mp h
    exact (if_neg h0).trans (if_pos (huse.mpr hl))
  · have h0 : ¬ (e.imageOf imageId.toNat).isNone = true := by
      rw [himage, Option.isNone_iff_eq_none]
      exact Option.isSome_iff_ne_none.mp h
    have h1 : ¬ (e.liveThreads.any fun x => x.2.manager && x.2.image == some imageId.toNat) = true := by
      rw [huse]
      rintro ⟨t, th, hm, hlive, hman, him⟩
      exact hl t th hm hlive hman him
    refine ((if_neg h0).trans (if_neg h1)).trans ?_
    rw [Dev.dropImage, hew]
    rfl
  · rw [List.mem_filter, Bool.not_eq_true', ← Bool.not_eq_true, Bool.and_eq_true, beq_iff_eq, beq_iff_eq]

end

end Sys2Proof.Machine
end

section
namespace Sys2Proof.Machine

/-! Images over the Ethernet ports: the load (R87, R613) -/

/-- The reply to a load carries its status in one byte. -/
theorem finish_loadStatus (d : Dev) (p q st : Nat) : d.finish p 0x10 q ⟨0, leBytes 1 st⟩ =
    (d.keep 0x10 q ⟨0, [BitVec.ofNat 8 st]⟩).send (.fcpReply p 0x10 0 q [BitVec.ofNat 8 st]) :=
  finish_eq d p 0x10 q ⟨0, [BitVec.ofNat 8 st]⟩ (show 1 ≤ 4336 by decide)

/-- Threads started leave everything but the table of threads. -/
theorem startThreads_keeps {β : Type} (g : Dev → β) (hg : ∀ (d : Dev) (ts : Tab Thread), g { d with threads := ts } = g d)
    (im : Image) (entry n : Nat) (d : Dev) : g (d.startThreads im entry n) = g d := by
  refine foldl_keeps g _ (fun e k => ?_) _ d
  unfold Dev.startThread
  split
  · rfl
  · exact hg e _

section
variable {s : State} {p r st : Nat} (hr : s.dev.inReset = false) (hw : s.dev.wygel.rxWhole = some (p, r))
  (hs : s.dev.loadStatus s.dev.wygel.rxImage .fcp = st)
include hr hw hs

/-- The device as its load begins: the partial image is gone. -/
def Dev.loadBegun (d : Dev) : Dev := { d with wygel := { d.wygel with rxImage := [], rxTotal := 0, rxWhole := none } }

omit hs in
/-- A load whose outcome is known at once is answered with it. -/
theorem imageLoad_answered {e : Dev} (he : s.dev.loadBegun.loadImage s.dev.wygel.rxImage .fcp p r = (e, some st))
    (hg : e.gable = s.dev.gable) (hf : e.fuses = s.dev.fuses) :
    Ends .imageLoad s (e.finish p 0x10 r ⟨0, leBytes 1 st⟩) := by
  show execImageLoad s = _
  refine onDev_to hr ?_ ((finish_gable _ _ _ _ _).trans hg) ((finish_fuses _ _ _ _ _).trans hf)
  have he' : ({ s.dev with wygel := { s.dev.wygel with rxImage := [], rxTotal := 0, rxWhole := none } } : Dev).loadImage
    s.dev.wygel.rxImage .fcp p r = (e, some st) := he
  simp only [hw, he']

theorem imageLoad_fails (h0 : st ≠ 0) : Ends .imageLoad s
    ((((s.dev.loadBegun.fset WGL_LOAD_STAT.STATUS st).fset WGL_LOAD_STAT.IMAGE_ID
      (imgField s.dev.wygel.rxImage 8 4))).finish p 0x10 r ⟨0, [BitVec.ofNat 8 st]⟩) := by
  have hs' : s.dev.loadBegun.loadStatus s.dev.wygel.rxImage .fcp = st := hs
  have hl := loadImage_fails p r (hs' ▸ h0)
  rw [hs'] at hl
  exact imageLoad_answered hr hw hl rfl rfl

theorem imageLoad_lists (h0 : st = 0) (hk : imgField s.dev.wygel.rxImage 6 1 ≠ 3)
    (hh : s.dev.hotTarget s.dev.wygel.rxImage .fcp = none) : Runs .imageLoad s fun d =>
      d.fget WGL_LOAD_STAT.STATUS = 0 ∧ d.out.getLast? = some (.fcpReply p 0x10 0 r [0]) ∧
      ∃ im ∈ d.wygel.images, im.id = imgField s.dev.wygel.rxImage 8 4 ∧ im.version = imgField s.dev.wygel.rxImage 0xC 4 ∧
        im.fold = none := by
  subst h0
  let bs := s.dev.wygel.rxImage
  let b := s.dev.loadBegun
  obtain ⟨x, hx⟩ : ∃ x, x = (b.imageKept bs .fcp).startThreads (b.newImage bs .fcp) (b.newImage bs .fcp).entry
    (imgField bs 0x34 1) := ⟨_, rfl⟩
  have hl : b.loadImage bs .fcp p r = (x.loadDone 0 (imgField bs 8 4), some 0) := by
    rw [hx]
    exact loadImage_passes p r hs hk hh
  have keeps {β : Type} (g : Dev → β) (hg : ∀ (d : Dev) (ts : Tab Thread), g { d with threads := ts } = g d) :
      g x = g (b.imageKept bs .fcp) := hx ▸ startThreads_keeps g hg _ _ _ _
  have he := imageLoad_answered hr hw hl (keeps Dev.gable fun _ _ => rfl) (keeps Dev.fuses fun _ _ => rfl)
  rw [finish_loadStatus] at he
  refine ⟨_, he, ?_, ?_, b.newImage bs .fcp, ?_, rfl, rfl, rfl⟩
  · show ((x.fset WGL_LOAD_STAT.STATUS 0).fset WGL_LOAD_STAT.IMAGE_ID _).fget WGL_LOAD_STAT.STATUS = 0
    simp [fget_fset_other, fget_fset_same]
  · exact List.getLast?_concat
  · show _ ∈ x.wygel.images
    rw [keeps (fun d => d.wygel.images) fun _ _ => rfl]
    exact imageKept_image b bs .fcp

end

/-- Settles O25, a command at a time. -/
theorem imageLoading : Obligations.ImageLoading := by
  unfold Obligations.ImageLoading
  intro s via session seq offset total imageId bytes e w q
  refine ⟨fun hx hp hw hu i hi => ?_, imageUnload_ends,
    fun p r st hr hw _ hs => ⟨imageLoad_fails hr hw hs, imageLoad_lists hr hw hs⟩⟩
  subst hi
  exact imageData_ends hx hp hw hu

end Sys2Proof.Machine
end

section
namespace Sys2Proof.Machine

/-! The results and flags of the arithmetic (R107 to R109) -/

/-- A result `r` with the flags that it and the carry and overflow given make (R107). -/
def resultFlags (r : Word) (c v : Bool) : Word × Flags := (r, ⟨decide (r = 0), r.getLsbD 63, c, v⟩)

theorem flagsOf_eq (r : Word) (c v : Bool) : flagsOf r c v = (resultFlags r c v).2 := by
  rw [flagsOf, BitVec.msb_eq_getLsbD_last]
  rfl

theorem logicFlags_eq (r : Word) : logicFlags r = resultFlags r false false := by
  rw [logicFlags, flagsOf_eq]
  rfl

/-- V of an addition: the sum does not fit. -/
theorem addOverflow_eq (a b : Word) :
    (a.msb == b.msb && (a + b).msb != a.msb) = decide ((a + b).toInt ≠ a.toInt + b.toInt) := by
  rw [show (a.msb == b.msb && (a + b).msb != a.msb) = a.saddOverflow b from (BitVec.saddOverflow_eq a b).symm]
  cases h : a.saddOverflow b with
  | false => simp only [BitVec.toInt_add_of_not_saddOverflow (Bool.not_eq_true _ ▸ h), ne_eq, not_true, decide_false]
  | true =>
    have ha := BitVec.toInt_lt (x := a + b)
    have hb := BitVec.le_toInt (x := a + b)
    simp only [BitVec.saddOverflow, Bool.or_eq_true, decide_eq_true_eq] at h
    exact (decide_eq_true (by omega)).symm

/-- V of a subtraction: the difference does not fit. -/
theorem subOverflow_eq (a b : Word) :
    (a.msb != b.msb && (a - b).msb != a.msb) = decide ((a - b).toInt ≠ a.toInt - b.toInt) := by
  have hs : (a.msb != b.msb && (a - b).msb != a.msb) = a.ssubOverflow b := by
    rw [BitVec.ssubOverflow_eq]
    cases a.msb <;> cases b.msb <;> cases (a - b).msb <;> rfl
  rw [hs]
  cases h : a.ssubOverflow b with
  | false => simp only [BitVec.toInt_sub_of_not_ssubOverflow (Bool.not_eq_true _ ▸ h), ne_eq, not_true, decide_false]
  | true =>
    have ha := BitVec.toInt_lt (x := a - b)
    have hb := BitVec.le_toInt (x := a - b)
    simp only [BitVec.ssubOverflow, Bool.or_eq_true, decide_eq_true_eq] at h
    exact (decide_eq_true (by omega)).symm

theorem addFlags_eq (a b : Word) : addFlags a b =
    resultFlags (a + b) (decide (2 ^ 64 ≤ a.toNat + b.toNat)) (decide ((a + b).toInt ≠ a.toInt + b.toInt)) := by
  rw [addFlags, flagsOf_eq, addOverflow_eq]
  rfl

theorem subFlags_eq (a b : Word) : subFlags a b =
    resultFlags (a - b) (decide (a.toNat < b.toNat)) (decide ((a - b).toInt ≠ a.toInt - b.toInt)) := by
  rw [subFlags, flagsOf_eq, subOverflow_eq]
  rfl

theorem bne_zero_eq_decide (n : Nat) : (n != 0) = decide (n ≠ 0) := by
  rw [bne, Bool.beq_eq_decide_eq, ← decide_not]

theorem shlFlags_eq (a : Word) (n : Nat) :
    shlFlags a n = resultFlags (a <<< n) (decide (n ≠ 0) && a.getLsbD (64 - n)) false := by
  rw [shlFlags, flagsOf_eq, bne_zero_eq_decide]
  rfl

theorem shrFlags_eq (a : Word) (n : Nat) :
    shrFlags a n = resultFlags (a >>> n) (decide (n ≠ 0) && a.getLsbD (n - 1)) false := by
  rw [shrFlags, flagsOf_eq, bne_zero_eq_decide]
  rfl

theorem sarFlags_eq (a : Word) (n : Nat) :
    sarFlags a n = resultFlags (a.sshiftRight n) (decide (n ≠ 0) && a.getLsbD (n - 1)) false := by
  rw [sarFlags, flagsOf_eq, bne_zero_eq_decide]
  rfl

theorem divuFlags_eq (a b : Word) :
    divuFlags a b = resultFlags (if b = 0 then BitVec.allOnes 64 else a / b) false (decide (b = 0)) := by
  by_cases hb : b = 0
  · rw [divuFlags, if_pos hb, if_pos hb, decide_eq_true hb, flagsOf_eq]
    rfl
  · rw [divuFlags, if_neg hb, if_neg hb, decide_eq_false hb, flagsOf_eq]
    rfl

theorem remuFlags_eq (a b : Word) : remuFlags a b = resultFlags (if b = 0 then a else a % b) false (decide (b = 0)) := by
  by_cases hb : b = 0
  · rw [remuFlags, if_pos hb, if_pos hb, decide_eq_true hb, flagsOf_eq]
    rfl
  · rw [remuFlags, if_neg hb, if_neg hb, decide_eq_false hb, flagsOf_eq]
    rfl

/-- A shift's count within its 6 bits is the immediate as it stands. -/
theorem zext16_count {imm : BitVec 16} (h : imm.toNat < 64) : (zext16 imm).toNat % 64 = imm.toNat := by
  rw [zext16, BitVec.toNat_setWidth]
  omega

theorem sext16_toInt (imm : BitVec 16) : (sext16 imm).toInt = imm.toInt := BitVec.toInt_signExtend_of_le (by decide)

/-! What an instruction that ends with a result leaves -/

theorem advance_setG_flags (th : Thread) (rd : Nat) (r : Word) (fl : Flags) :
    Thread.advance { th.setG rd r with flags := fl } = th.wrote rd r fl := by
  unfold Thread.wrote Thread.setG Thread.advance
  split <;> rfl

section
variable {s : State} {t rd ra rb : Nat} (h : s.dev.issues t)
include h

/-- The instruction ends with a value in g[rd] and flags. -/
theorem issue_writes {legal mgr : Bool} {act : Dev → Thread → Dev} (hl : legal = true)
    (hm : mgr = true → (s.dev.thr t).priv = false) {r : Word} {fl : Flags}
    (ha : act (s.dev.turn t) (s.dev.issuing t) =
      (s.dev.turn t).retire t { (s.dev.issuing t).setG rd r with flags := fl }) :
    onDev s (Dev.issue t legal mgr act) =
      .next { s with dev := s.dev.setThr t ((s.dev.issuing t).wrote rd r fl) } := by
  refine issue_ends_setThr h hl hm (ha.trans ?_)
  rw [Dev.retire, turn_setThr, advance_setG_flags]

/-- It ends with a value in g[rd] alone. -/
theorem issue_writes_register {legal mgr : Bool} {act : Dev → Thread → Dev} (hl : legal = true)
    (hm : mgr = true → (s.dev.thr t).priv = false) {r : Word}
    (ha : act (s.dev.turn t) (s.dev.issuing t) = (s.dev.turn t).retire t ((s.dev.issuing t).setG rd r)) :
    onDev s (Dev.issue t legal mgr act) =
      .next { s with dev := s.dev.setThr t ((s.dev.issuing t).wrote rd r (s.dev.issuing t).flags) } := by
  refine issue_ends_setThr h hl hm (ha.trans ?_)
  rw [Dev.retire, turn_setThr, advance_setG]

variable {f : Word → Word → Word × Flags} {r : Word} {c v : Bool}

theorem alu3_gives (hf : f ((s.dev.issuing t).g ra) ((s.dev.issuing t).g rb) = resultFlags r c v) :
    onDev s (Dev.alu3 t rd ra rb f) =
      .next { s with dev := s.dev.setThr t ((s.dev.issuing t).wrote rd r (resultFlags r c v).2) } :=
  issue_writes h rfl (by simp) (by rw [hf]; rfl)

theorem aluImm_gives {legal : Bool} {b : Word} (hl : legal = true) (hf : f ((s.dev.issuing t).g ra) b = resultFlags r c v) :
    onDev s (Dev.aluImm t rd ra legal b f) =
      .next { s with dev := s.dev.setThr t ((s.dev.issuing t).wrote rd r (resultFlags r c v).2) } :=
  issue_writes h hl (by simp) (by rw [hf]; rfl)

/-- A compare leaves the flags of the difference, and no register. -/
theorem compare_gives {rd : Nat} (hrd : rd = 0) {a b : Thread → Word} :
    onDev s (Dev.compare t rd a b) = .next { s with dev := s.dev.setThr t ((s.dev.issuing t).wrote 0 0
      (subFlags (a (s.dev.issuing t)) (b (s.dev.issuing t))).2) } :=
  issue_writes h (by rw [hrd]; rfl) (by simp) rfl

end

/-- Settles O1, an operation at a time: the shape of the three-register operations, and what each computes. -/
theorem integerArithmeticResults : Obligations.IntegerArithmeticResults := by
  unfold Obligations.IntegerArithmeticResults
  intro s t rd ra rb h
  refine ⟨alu3_gives h (addFlags_eq _ _), alu3_gives h (subFlags_eq _ _), alu3_gives h (logicFlags_eq _),
    alu3_gives h (logicFlags_eq _), alu3_gives h (logicFlags_eq _), alu3_gives h (logicFlags_eq _),
    alu3_gives h (shlFlags_eq _ _), alu3_gives h (shrFlags_eq _ _), alu3_gives h (sarFlags_eq _ _),
    alu3_gives h (logicFlags_eq _), alu3_gives h (logicFlags_eq _), alu3_gives h (divuFlags_eq _ _),
    alu3_gives h (remuFlags_eq _ _), fun hrd => ?_⟩
  have hc := compare_gives h (congrArg Fin.val hrd) (a := fun th => th.g ra) (b := fun th => th.g rb)
  rw [subFlags_eq] at hc
  exact hc

/-- MOVK's value: the immediate in one halfword, every other bit as it was. -/
theorem putBits_halfword (w : Word) (k : Fin 4) (imm : BitVec 16) :
    (putBits w (16 * k) 16 imm.toNat).extractLsb' (16 * k) 16 = imm ∧
      ∀ i < 64, ¬ (16 * k.val ≤ i ∧ i < 16 * k.val + 16) → (putBits w (16 * k) 16 imm.toNat).getLsbD i = w.getLsbD i := by
  constructor
  · apply BitVec.eq_of_getLsbD_eq
    intro i hi
    have hk : 16 * k.val + i < 64 := by omega
    rw [BitVec.getLsbD_extractLsb', BitVec.getLsbD_eq_getElem hk, putBits_getElem _ _ _ _ _ hk, if_pos (by omega),
      Nat.add_sub_cancel_left]
    simp [hi, BitVec.getLsbD]
  · intro i hi hn
    rw [BitVec.getLsbD_eq_getElem hi, putBits_getElem _ _ _ _ _ hi, if_neg hn, BitVec.getLsbD_eq_getElem hi]

/-- Settles O2, an operation at a time: the shape of the register-immediate operations, and what each computes. -/
theorem immediateResults : Obligations.ImmediateResults := by
  unfold Obligations.ImmediateResults
  intro s t rd ra imm h
  have hadd := addFlags_eq ((s.dev.issuing t).g ra) (sext16 imm)
  have hsub := subFlags_eq ((s.dev.issuing t).g ra) (sext16 imm)
  rw [sext16_toInt] at hadd hsub
  refine ⟨aluImm_gives h rfl hadd, aluImm_gives h rfl (logicFlags_eq _), aluImm_gives h rfl (logicFlags_eq _),
    aluImm_gives h rfl (logicFlags_eq _), fun hn => ?_, fun hn => ?_, fun hn => ?_, fun hrd => ?_, fun hra => ?_,
    fun k hk => ⟨_, ?_, putBits_halfword ((s.dev.issuing t).g rd) k imm⟩⟩
  · exact aluImm_gives h (decide_eq_true hn) (by rw [zext16_count hn]; exact shlFlags_eq _ _)
  · exact aluImm_gives h (decide_eq_true hn) (by rw [zext16_count hn]; exact shrFlags_eq _ _)
  · exact aluImm_gives h (decide_eq_true hn) (by rw [zext16_count hn]; exact sarFlags_eq _ _)
  · have hc := compare_gives h (congrArg Fin.val hrd) (a := fun th => th.g ra) (b := fun _ => sext16 imm)
    rw [hsub] at hc
    exact hc
  · exact issue_writes_register h (by rw [hra]; rfl) (by simp) rfl
  · exact issue_writes_register h (decide_eq_true (by omega)) (by simp) (by rw [hk])

end Sys2Proof.Machine
end

section
namespace Sys2Proof.Machine

/-! Branches, calls and jumps (R115, R116) -/

theorem branchTarget_eq (pc : BitVec 32) (off : BitVec 21) :
    branchTarget pc off = BitVec.ofInt 32 ((pc.toNat : Int) + 4 * off.toInt) := by
  rw [BitVec.ofInt_add, BitVec.ofInt_mul, BitVec.ofInt_natCast, BitVec.ofNat_toNat, BitVec.setWidth_eq]
  rfl

/-- A COND that has a condition is one of the 15 of R115. -/
theorem cond_lt {c : Nat} {f : Flags} {p : Bool} (h : condHolds c f = some p) : c < 15 := by
  by_contra hc
  obtain ⟨k, rfl⟩ := Nat.exists_eq_add_of_le (Nat.le_of_not_lt hc)
  rw [Nat.add_comm] at h
  cases h

/-- A general register that holds a multiple of 4 within 32 bits holds a jump target. -/
theorem toPC_aligned {v : Word} {a : BitVec 32} (hv : v = a.zeroExtend 64) (ha : 4 ∣ a.toNat) : toPC v = a := by
  have hn : v.toNat = a.toNat := by
    rw [hv, BitVec.toNat_setWidth]
    omega
  have hw : v.setWidth 32 = a := by
    apply BitVec.eq_of_toNat_eq
    rw [BitVec.toNat_setWidth, hn]
    omega
  rw [toPC, if_pos (by omega), hw, alignedPC_of_dvd ha]

section
variable {s : State} {t : Fin 64} {rd ra rb : Fin 32} {cond : BitVec 5} {off : BitVec 21} (h : s.dev.issues t)
include h

/-- BR goes where its condition sends it. -/
theorem br_ends {p : Bool} (hc : condHolds cond.toNat (s.dev.issuing t).flags = some p) :
    Ends (.br t cond off) s (s.dev.setThr t { s.dev.issuing t with
      pc := if p then branchTarget (s.dev.issuing t).pc off else (s.dev.issuing t).pc + 4 }) := by
  refine issue_ends_setThr h (decide_eq_true (cond_lt hc)) (by simp) ?_
  rw [hc, Option.getD_some]
  cases p with
  | false => exact turn_setThr _ _ _
  | true => exact turn_setThr _ _ _

theorem call_ends (hc : cond = 0) : Ends (.call t cond off) s (s.dev.setThr t
    { (s.dev.issuing t).setG 31 (((s.dev.issuing t).pc + 4).zeroExtend 64) with
      pc := branchTarget (s.dev.issuing t).pc off }) :=
  issue_ends_setThr h (by rw [hc]; rfl) (by simp) (turn_setThr _ _ _)

theorem jr_ends (hrd : rd = 0) (hrb : rb = 0) : Ends (.jr t rd ra rb) s
    (s.dev.setThr t { s.dev.issuing t with pc := toPC ((s.dev.issuing t).g ra) }) :=
  issue_ends_setThr h (by rw [hrd, hrb]; rfl) (by simp) (turn_setThr _ _ _)

theorem callr_ends (hrb : rb = 0) : Ends (.callr t rd ra rb) s (s.dev.setThr t
    { (s.dev.issuing t).setG rd (((s.dev.issuing t).pc + 4).zeroExtend 64) with pc := toPC ((s.dev.issuing t).g ra) }) :=
  issue_ends_setThr h (by rw [hrb]; rfl) (by simp) (turn_setThr _ _ _)

end

/-- Settles O6: BR by the table of conditions, then the call and the jumps. -/
theorem branchesAndJumps : Obligations.BranchesAndJumps := by
  unfold Obligations.BranchesAndJumps
  intro s t rd ra rb cond off h th f target ends taken
  have table (k : Nat) (p : Bool) (hp : condHolds k f = some p) : taken k p := fun hk => by
    have hb := br_ends (off := off) h (p := p) (by rw [hk]; exact hp)
    rw [branchTarget_eq] at hb
    exact hb
  refine ⟨⟨table 0 _ rfl, table 1 _ rfl, table 2 _ rfl, table 3 _ rfl, table 4 _ rfl, table 5 _ rfl, table 6 _ rfl,
    table 7 _ rfl, table 8 _ rfl, table 9 _ rfl, table 10 _ rfl, table 11 _ rfl, table 12 _ rfl, table 13 _ rfl,
    table 14 _ rfl⟩, fun hc => ?_, fun a ha h4 => ?_⟩
  · have hcall := call_ends (off := off) h hc
    rw [branchTarget_eq] at hcall
    exact hcall
  · have hpc : toPC ((s.dev.issuing t).g ra) = a := toPC_aligned ha h4
    have hjr := jr_ends (rd := rd) (ra := ra) (rb := rb) h
    have hcallr := callr_ends (rd := rd) (ra := ra) (rb := rb) h
    rw [hpc] at hjr hcallr
    exact ⟨hjr, hcallr⟩

/-! The special registers (R116, R117) -/

/-- A flag's bit of the word that shows the flags. -/
def flagBit (b : Bool) (k : Nat) : Word := if b then BitVec.ofNat 64 (2 ^ k) else 0

theorem specialReg_flags (now : Nat) (th : Thread) : specialReg now th 6 =
    flagBit th.flags.z 0 ||| flagBit th.flags.n 1 ||| flagBit th.flags.c 2 ||| flagBit th.flags.v 3 := by
  rw [show specialReg now th 6 = th.flags.toWord from rfl]
  obtain ⟨z, n, c, v⟩ : Flags := th.flags
  revert z n c v
  decide

theorem specialReg_priv (now : Nat) (th : Thread) : specialReg now th 1 = if th.priv then 1 else 0 := by
  simp only [specialReg]
  cases th.priv <;> rfl

/-- The bits of EVMASK that MTS takes from the register: all at PRIV 0, 56 to 63 at PRIV 1. -/
theorem writtenEvmask_bit (th : Thread) (v : Word) {b : Nat} (hb : b < 64) :
    ((th.evmask &&& ~~~ evmaskWritable th) ||| (v &&& evmaskWritable th)).getLsbD b =
      if th.priv ∧ b < 56 then th.evmask.getLsbD b else v.getLsbD b := by
  have hw : (evmaskWritable th)[b] = decide (¬ (th.priv ∧ b < 56)) := by
    unfold evmaskWritable
    cases th.priv
    · simp only [Bool.false_eq_true, if_false, BitVec.getElem_allOnes, false_and, not_false_eq_true, decide_true]
    · simp only [if_true, mask_getElem, true_and]
      exact decide_eq_decide.mpr (by omega)
  simp only [BitVec.getLsbD_eq_getElem hb, BitVec.getElem_or, BitVec.getElem_and, BitVec.getElem_not, hw]
  by_cases hm : th.priv ∧ b < 56 <;> simp [hm]

/-- The bits of ECAUSE that MTS writes: all but the reserved ones (R65). -/
theorem writtenEcause_bit (v : Word) (b : Nat) :
    (v &&& (mask 0 10 ||| mask 32 32)).getLsbD b = (v.getLsbD b && decide (b < 10 ∨ 32 ≤ b)) := by
  by_cases hb : b < 64
  · simp only [BitVec.getLsbD_eq_getElem hb, BitVec.getElem_and, BitVec.getElem_or, mask_getElem, ← Bool.decide_or]
    congr 1
    exact decide_eq_decide.mpr (by omega)
  · simp [BitVec.getLsbD_of_ge, Nat.le_of_not_lt hb]

/-- Does a thread that names special register `n` need PRIV 0 for it (R117)? -/
def Thread.barred (th : Thread) (n : Fin 32) : Bool := th.priv && (n == 4 || n == 5)

section
variable {s : State} {t : Fin 64} {rd ra n : Fin 32} (h : s.dev.issues t)
include h

theorem mfs_reads (hn : n.val ≤ 6) (hp : (s.dev.issuing t).barred n = false) :
    Ends (.mfs t rd 0 n) s (s.dev.setThr t ((s.dev.issuing t).wrote rd
      (specialReg s.dev.now (s.dev.issuing t) n) (s.dev.issuing t).flags)) :=
  issue_writes_register h (by simp [allZero, hn]) (by simp) (if_neg (Bool.eq_false_iff.mp hp))

theorem mfs_refused (hn : n.val ≤ 6) (hp : (s.dev.issuing t).barred n = true) : Ends (.mfs t rd 0 n) s
    ((s.dev.turn t).takeException t 2 (s.dev.issuing t).pc (s.dev.issuing t).pc.toNat) :=
  issue_ends_exception h (by simp [allZero, hn]) (by simp) ((if_pos hp).trans (turn_trap _ _ _ _)) (turn_keeps _ _)

theorem mts_writes (hn : n.val ≤ 6) (h3 : 3 ≤ n.val) (hp : (s.dev.issuing t).barred n = false) {x : Thread}
    (hx : writeSpecial (s.dev.issuing t) n ((s.dev.issuing t).g ra) = x) (hpc : x.pc = (s.dev.issuing t).pc) :
    Ends (.mts t 0 ra n) s (s.dev.setThr t { x with pc := (s.dev.issuing t).pc + 4 }) := by
  have hc : (decide (n.val < 3) || (s.dev.issuing t).barred n) = false := by simp [hp, h3]
  refine issue_ends_setThr h (by simp [allZero, hn]) (by simp) ((if_neg (Bool.eq_false_iff.mp hc)).trans ?_)
  rw [hx, Dev.retire, turn_setThr, Thread.advance, hpc]

theorem mts_refused (hn : n.val ≤ 6) (hp : n.val < 3 ∨ (s.dev.issuing t).barred n = true) : Ends (.mts t 0 ra n) s
    ((s.dev.turn t).takeException t 2 (s.dev.issuing t).pc (s.dev.issuing t).pc.toNat) := by
  have hc : (decide (n.val < 3) || (s.dev.issuing t).barred n) = true := by simpa using hp
  exact issue_ends_exception h (by simp [allZero, hn]) (by simp) ((if_pos hc).trans (turn_trap _ _ _ _)) (turn_keeps _ _)

end

/-- Settles O8, a register at a time. -/
theorem specialRegisters : Obligations.SpecialRegisters := by
  unfold Obligations.SpecialRegisters
  intro s t rd ra h th v f bit ends reads writes refuses
  have free (n : Fin 32) (h4 : n ≠ 4) (h5 : n ≠ 5) : th.barred n = false := by simp [Thread.barred, h4, h5]
  have privileged (n : Fin 32) (hp : th.priv = false) : th.barred n = false := by simp [Thread.barred, hp]
  have barred (hp : th.priv = true) : th.barred 4 = true ∧ th.barred 5 = true := by simp [Thread.barred, hp]
  refine ⟨⟨mfs_reads h (by decide) (free 0 (by decide) (by decide)), ?_,
      mfs_reads h (by decide) (free 2 (by decide) (by decide)), mfs_reads h (by decide) (free 3 (by decide) (by decide)), ?_⟩,
    fun hp => ⟨mfs_reads h (by decide) (privileged 4 hp), mfs_reads h (by decide) (privileged 5 hp),
      mts_writes h (by decide) (by decide) (privileged 4 hp) rfl rfl,
      _, mts_writes h (by decide) (by decide) (privileged 5 hp) rfl rfl, writtenEcause_bit v⟩,
    ⟨_, mts_writes h (by decide) (by decide) (free 3 (by decide) (by decide)) rfl rfl, fun b hb => writtenEvmask_bit th v hb⟩,
    mts_writes h (by decide) (by decide) (free 6 (by decide) (by decide)) rfl rfl,
    fun hp => ⟨mfs_refused h (by decide) (barred hp).1, mfs_refused h (by decide) (barred hp).2,
      mts_refused h (by decide) (.inr (barred hp).1), mts_refused h (by decide) (.inr (barred hp).2)⟩,
    mts_refused h (by decide) (.inl (by decide)), mts_refused h (by decide) (.inl (by decide)),
    mts_refused h (by decide) (.inl (by decide))⟩
  · have hr := mfs_reads (rd := rd) (n := 1) h (by decide) (free 1 (by decide) (by decide))
    rw [show ((1 : Fin 32) : Nat) = 1 from rfl, specialReg_priv] at hr
    exact hr
  · have hr := mfs_reads (rd := rd) (n := 6) h (by decide) (free 6 (by decide) (by decide))
    rw [show ((6 : Fin 32) : Nat) = 6 from rfl, specialReg_flags] at hr
    exact hr

end Sys2Proof.Machine
end

section
namespace Sys2Proof.Machine

/-! Staging writes (R127 to R129) -/

/-- The low half of a register, as STG.W stages it. -/
theorem and_mask_low (v : Word) : v &&& mask 0 32 = BitVec.ofNat 64 (v.toNat % 2 ^ 32) := by
  apply BitVec.eq_of_toNat_eq
  rw [BitVec.toNat_and, BitVec.toNat_ofNat, show (mask 0 32).toNat = 2 ^ 32 - 1 from rfl, Nat.and_two_pow_sub_one_eq_mod]
  omega

/-- The stage sets given. -/
def Dev.setSets (d : Dev) (sets : Tab (List StagedWrite)) : Dev := { d with commits := { d.commits with sets := sets } }

theorem turn_setSets_setThr (d : Dev) (t : Nat) (sets : Tab (List StagedWrite)) (th : Thread) :
    ((d.turn t).setSets sets).setThr t th = (d.setThr t th).setSets sets :=
  congrArg (Dev.setSets · sets) (turn_setThr d t th)

/-- The address of an STG. -/
def Dev.stgAddr (d : Dev) (t ra : Nat) : Nat := ((d.issuing t).g ra).toNat % 2 ^ 48

/-- The stage set that g[rb] names. -/
def Dev.namedSet (d : Dev) (t rb : Nat) : Nat := ((d.issuing t).g rb).toNat % 16

/-- An STG that takes exception `code`: the detail is the address, and nothing is staged. -/
def stgTraps (s : State) (t ra : Nat) (f : Dev → Dev) (code : Nat) : Prop := onDev s f = .next { s with
  dev := (s.dev.turn t).takeException t code (s.dev.issuing t).pc (s.dev.stgAddr t ra % 2 ^ 32) }

section
variable {s : State} {t rd ra rb w : Nat} (h : s.dev.issues t) (hp : (s.dev.thr t).priv = false) (hs : s.dev.phase ≠ phSoft)
include h hp hs

theorem stg_traps {code : Nat} {act : Dev → Thread → Dev}
    (ha : act (s.dev.turn t) (s.dev.issuing t) = (s.dev.turn t).trap t code (s.dev.stgAddr t ra % 2 ^ 32)) :
    stgTraps s t ra (afterSoft (Dev.issue t true true act)) code :=
  (onDev_afterSoft hs _).trans
    (issue_ends_exception h rfl (fun _ => hp) (ha.trans (turn_trap _ _ _ _)) (turn_keeps _ _))

theorem stage_misaligned (hal : s.dev.stgAddr t ra % w ≠ 0) : stgTraps s t ra (Dev.stage t rd ra rb w) 4 :=
  stg_traps h hp hs (if_pos hal)

variable (hal : s.dev.stgAddr t ra % w = 0)
include hal

theorem stage_unmapped (hr : regAt (s.dev.stgAddr t ra) = none) : stgTraps s t ra (Dev.stage t rd ra rb w) 6 := by
  refine stg_traps h hp hs ((if_neg (not_not.mpr hal)).trans ?_)
  rw [show regAt (((s.dev.issuing t).g ra).toNat % 2 ^ 48) = none from hr]
  rfl

variable {r : Reg} (hr : regAt (s.dev.stgAddr t ra) = some r)
include hr

theorem stage_unstaged (hm : r.k.stagedMask = 0) : stgTraps s t ra (Dev.stage t rd ra rb w) 6 := by
  refine stg_traps h hp hs ((if_neg (not_not.mpr hal)).trans ?_)
  rw [show regAt (((s.dev.issuing t).g ra).toNat % 2 ^ 48) = some r from hr]
  exact if_pos hm

variable (hm : r.k.stagedMask ≠ 0)
include hm

theorem stage_refused (hset : s.dev.setState (s.dev.namedSet t rb) ≠ 1 ∨
    4096 ≤ (s.dev.setWrites (s.dev.namedSet t rb)).length) : stgTraps s t ra (Dev.stage t rd ra rb w) 0xB := by
  refine stg_traps h hp hs ((if_neg (not_not.mpr hal)).trans ?_)
  rw [show regAt (((s.dev.issuing t).g ra).toNat % 2 ^ 48) = some r from hr]
  exact (if_neg hm).trans (if_pos hset)

theorem stage_appends {v : Word} (hv : (if w = 8 then (s.dev.issuing t).g rd else (s.dev.issuing t).g rd &&& mask 0 32) = v)
    (ho : s.dev.setState (s.dev.namedSet t rb) = 1) (hl : (s.dev.setWrites (s.dev.namedSet t rb)).length < 4096) :
    ∃ sets, onDev s (Dev.stage t rd ra rb w) = .next { s with
        dev := { s.dev.setThr t { s.dev.issuing t with pc := (s.dev.issuing t).pc + 4 } with
          commits := { s.dev.commits with sets := sets } } } ∧
      Tab.get [] sets (s.dev.namedSet t rb) =
        s.dev.setWrites (s.dev.namedSet t rb) ++ [⟨s.dev.stgAddr t ra, w, v, t⟩] ∧
      ∀ m, m ≠ s.dev.namedSet t rb → Tab.get [] sets m = s.dev.setWrites m := by
  have hopen : ¬ (s.dev.setState (s.dev.namedSet t rb) ≠ 1 ∨ 4096 ≤ (s.dev.setWrites (s.dev.namedSet t rb)).length) := by
    rw [ho]
    omega
  subst hv
  refine ⟨_, (onDev_afterSoft hs _).trans (issue_ends h rfl (fun _ => hp) ?_ (issues_update h) rfl rfl),
    tab_get_set_same _ _ _ _, fun m hne => tab_get_set_other _ _ _ _ _ hne⟩
  refine (if_neg (not_not.mpr hal)).trans ?_
  rw [show regAt (((s.dev.issuing t).g ra).toNat % 2 ^ 48) = some r from hr]
  refine (if_neg hm).trans ((if_neg hopen).trans ?_)
  exact turn_setSets_setThr s.dev t _ _

end

/-- Settles O19: the tests of STG in their order, for both widths. -/
theorem stagingWrites : Obligations.StagingWrites := by
  unfold Obligations.StagingWrites
  intro s t rd ra rb h hp hs th a n ws traps stages
  have stg (i : Instr) (w : Nat) (v : Word) (hi : exec i s = onDev s (Dev.stage t rd ra rb w))
      (hv : (if w = 8 then th.g rd else th.g rd &&& mask 0 32) = v) : stages i w v := by
    simp only [stages, traps, Ends, hi]
    exact ⟨stage_misaligned h hp hs, fun hal => stage_unmapped h hp hs hal, fun r hal hr =>
      ⟨stage_unstaged h hp hs hal hr, stage_refused h hp hs hal hr, fun hm => stage_appends h hp hs hal hr hm hv⟩⟩
  exact ⟨stg _ 4 _ rfl (and_mask_low _), stg _ 8 _ rfl rfl⟩

end Sys2Proof.Machine
end

section
namespace Sys2Proof.Machine

/-! A commit's checks do not look at threads (R38) -/

section
variable (t : Nat) (a : Thread)

theorem foldl_setThr {α : Type} {f : Dev → α → Dev} (hf : ∀ d x, f (d.setThr t a) x = (f d x).setThr t a) (l : List α)
    (d : Dev) : l.foldl f (d.setThr t a) = (l.foldl f d).setThr t a :=
  List.foldl_hom (fun d : Dev => d.setThr t a) hf

theorem ite_setThr (c : Prop) [Decidable c] (d e : Dev) :
    (if c then d.setThr t a else e.setThr t a) = (if c then d else e).setThr t a := by split <;> rfl

theorem fget_setThr (d : Dev) (f : Fld) (i j : Nat) : (d.setThr t a).fget f i j = d.fget f i j := rfl

theorem fset_setThr (d : Dev) (f : Fld) (n i j : Nat) : (d.setThr t a).fset f n i j = (d.fset f n i j).setThr t a := rfl

theorem applyWrite_setThr (l d : Dev) (w : StagedWrite) :
    Dev.applyWrite (l.setThr t a) (d.setThr t a) w = (Dev.applyWrite l d w).setThr t a := by
  unfold Dev.applyWrite
  cases w.reg <;> rfl

theorem viewWrites_setThr (l d : Dev) (ws : List StagedWrite) :
    Dev.viewWrites (l.setThr t a) (d.setThr t a) ws = (Dev.viewWrites l d ws).setThr t a := by
  have hw : ws.foldl (fun d w => Dev.applyWrite (l.setThr t a) d w) (d.setThr t a) =
      (ws.foldl (fun d w => Dev.applyWrite l d w) d).setThr t a :=
    List.foldl_hom (fun d : Dev => d.setThr t a) (applyWrite_setThr t a l)
  unfold Dev.viewWrites
  dsimp only
  rw [hw, foldl_setThr t a, foldl_setThr t a]
  · rfl
  · intro d x
    by_cases h1 : x.2 = 1
    · simp -implicitDefEqProofs only [if_pos h1, fset_setThr, fget_setThr]
    · rw [if_neg h1, if_neg h1]
      exact ite_setThr t a _ (d.fset TMP_FIELD0.MODE fUnused x.1) d
  · exact fun d x => ite_setThr t a _ (d.fset TMP_DEV_STAT.STATE (d.fget TMP_DEV_CFG.STATE 0 x.2) 0 x.2) d

theorem viewSets_setThr (d : Dev) (ns : List Nat) : (d.setThr t a).viewSets ns = (d.viewSets ns).setThr t a := by
  unfold Dev.viewSets
  refine congrArg Prod.fst (List.foldl_hom (fun x : Dev × Dev × Nat => (x.1.setThr t a, x.2.1.setThr t a, x.2.2))
    (init := (d, d, 0)) fun x n => ?_)
  dsimp only
  rw [ite_setThr, viewWrites_setThr]
  rfl

theorem admissible_setThr (d b v : Dev) (ws : List StagedWrite) :
    admissible (d.setThr t a) (b.setThr t a) (v.setThr t a) ws = admissible d b v ws := rfl

/-- The status of a commit is the same whatever thread has changed. -/
theorem commitStatus_setThr (d : Dev) (n T : Nat) : (d.setThr t a).commitStatus n T = d.commitStatus n T := by
  unfold Dev.commitStatus
  dsimp only
  rw [show (d.setThr t a).commits = d.commits from rfl, viewSets_setThr, viewWrites_setThr, admissible_setThr]
  rfl

end

end Sys2Proof.Machine
end

section
namespace Sys2Proof.Machine

/-! The forms of CMT (R130 to R133) -/

/-- No commit has status 0xF. -/
theorem commitStatus_lt (d : Dev) (n T : Nat) : d.commitStatus n T < 12 := by
  unfold Dev.commitStatus
  extract_lets ws b same after
  have ha : after < 12 := by
    unfold after
    cases d.lastInstant with
    | none => exact Nat.zero_lt_succ _
    | some x =>
      dsimp only
      split_ifs <;> omega
  clear_value after
  split_ifs <;> omega

@[simp] theorem setG_flags (th : Thread) (rd : Nat) (v : Word) : (th.setG rd v).flags = th.flags := by
  unfold Thread.setG; split <;> rfl

/-- A thread after CMT: its status in g[rd], and Z. -/
def Thread.committed (th : Thread) (rd value : Nat) (z : Bool) : Thread :=
  th.wrote rd (BitVec.ofNat 64 value) { th.flags with z := z }

theorem cmtRetire_eq (d : Dev) (t rd value : Nat) (z : Bool) :
    d.cmtRetire t rd value z = d.setThr t ((d.thr t).committed rd value z) := by
  unfold Dev.cmtRetire Dev.retire Thread.committed
  dsimp only
  rw [advance_setG_flags, setG_flags]

theorem cmtRetire_turn (d : Dev) (t rd value : Nat) (z : Bool) :
    (d.turn t).cmtRetire t rd value z = d.setThr t ((d.issuing t).committed rd value z) := by
  rw [cmtRetire_eq, turn_thr_issuing, turn_setThr]

section
variable {s : State} {t : Fin 64} {rd ra rb : Fin 32} {sw : BitVec 9} (h : s.dev.issues t) (hp : (s.dev.thr t).priv = false)
  (hs : s.dev.phase ≠ phSoft)
include h hp hs

/-- A CMT that only gives its thread a status. -/
theorem cmt_answers {legal : Bool} {act : Dev → Thread → Dev} {value : Nat} {z : Bool} (hl : legal = true)
    (ha : act (s.dev.turn t) (s.dev.issuing t) = (s.dev.turn t).cmtRetire t rd value z) :
    onDev s (afterSoft (Dev.issue t legal true act)) =
      .next { s with dev := s.dev.setThr t ((s.dev.issuing t).committed rd value z) } :=
  (onDev_afterSoft hs _).trans (issue_ends_setThr h hl (fun _ => hp) (ha.trans (cmtRetire_turn _ _ _ _ _)))

/-- A CMT that gives its set another state, with no write in it, and status 0. -/
theorem cmt_moves {legal : Bool} {act : Dev → Thread → Dev} {k : Nat} (hl : legal = true)
    (ha : act (s.dev.turn t) (s.dev.issuing t) = (((s.dev.turn t).setSets
      (Tab.erase s.dev.commits.sets (s.dev.namedSet t rb))).fset TIM_COMMIT_STAT.STATE k 0 (s.dev.namedSet t rb)).cmtRetire
        t rd 0 true) :
    ∃ sets, onDev s (afterSoft (Dev.issue t legal true act)) = .next { s with
        dev := ((s.dev.fset TIM_COMMIT_STAT.STATE k 0 (s.dev.namedSet t rb)).setSets sets).setThr t
          ((s.dev.issuing t).committed rd 0 true) } ∧
      Tab.get [] sets (s.dev.namedSet t rb) = [] ∧
      ∀ m, m ≠ s.dev.namedSet t rb → Tab.get [] sets m = s.dev.setWrites m := by
  refine ⟨_, (onDev_afterSoft hs _).trans (issue_ends h hl (fun _ => hp) (ha.trans ?_) (issues_update h) rfl rfl),
    (tab_get_erase _ _ _ _).trans (if_pos rfl), fun m hm => (tab_get_erase _ _ _ _).trans (if_neg hm)⟩
  exact cmtRetire_turn ((s.dev.fset TIM_COMMIT_STAT.STATE k 0 (s.dev.namedSet t rb)).setSets
      (Tab.erase s.dev.commits.sets (s.dev.namedSet t rb))) t rd 0 true

theorem open_moves (ho : s.dev.setState (s.dev.namedSet t rb) = 0) : ∃ sets, Ends (.cmtOpen t rd 0 rb 0) s
      (((s.dev.fset TIM_COMMIT_STAT.STATE 1 0 (s.dev.namedSet t rb)).setSets sets).setThr t
        ((s.dev.issuing t).committed rd 0 true)) ∧
    Tab.get [] sets (s.dev.namedSet t rb) = [] ∧
    ∀ m, m ≠ s.dev.namedSet t rb → Tab.get [] sets m = s.dev.setWrites m :=
  cmt_moves h hp hs rfl (if_neg (not_not.mpr ho))

theorem open_refused (ho : s.dev.setState (s.dev.namedSet t rb) ≠ 0) : Ends (.cmtOpen t rd 0 rb 0) s
    (s.dev.setThr t ((s.dev.issuing t).committed rd 0xF false)) :=
  cmt_answers h hp hs rfl (if_pos ho)

theorem discard_moves (ho : s.dev.setState (s.dev.namedSet t rb) = 1) : ∃ sets, Ends (.cmtDiscard t rd 0 rb 0) s
      (((s.dev.fset TIM_COMMIT_STAT.STATE 0 0 (s.dev.namedSet t rb)).setSets sets).setThr t
        ((s.dev.issuing t).committed rd 0 true)) ∧
    Tab.get [] sets (s.dev.namedSet t rb) = [] ∧
    ∀ m, m ≠ s.dev.namedSet t rb → Tab.get [] sets m = s.dev.setWrites m :=
  cmt_moves h hp hs rfl (if_neg (not_not.mpr ho))

theorem discard_refused (ho : s.dev.setState (s.dev.namedSet t rb) ≠ 1) : Ends (.cmtDiscard t rd 0 rb 0) s
    (s.dev.setThr t ((s.dev.issuing t).committed rd 0xF false)) :=
  cmt_answers h hp hs rfl (if_pos ho)

theorem commit_refused (ho : s.dev.setState (s.dev.namedSet t rb) ≠ 1) : Ends (.cmtCommit t rd ra rb sw) s
    (s.dev.setThr t ((s.dev.issuing t).committed rd 0xF false)) :=
  cmt_answers h hp hs rfl (if_pos ho)

end

/-! An accepted commit: what it holds and reserves leaves the stage sets, the threads and the registers of the commits -/

/-- The registers that an accepted commit's holds and reservations write. -/
def acceptRegs : List RK := [.LAN_FALLOW_STAT, .TMP_TIER_STAT]

/-- Device `e` is `d` but for what the ports hold and the frames that are reserved. -/
structure Dev.acceptKeeps (d e : Dev) : Prop where
  kept : d.keptBut acceptRegs e
  commits : e.commits = d.commits
  wygel : e.wygel = d.wygel

section
variable {d e : Dev}

theorem acceptKeeps_refl (d : Dev) : d.acceptKeeps d := ⟨keptBut_refl _ d, rfl, rfl⟩

theorem Dev.acceptKeeps.trans {x : Dev} (h : d.acceptKeeps e) (h' : e.acceptKeeps x) : d.acceptKeeps x :=
  ⟨h.kept.trans h'.kept, h'.commits.trans h.commits, h'.wygel.trans h.wygel⟩

theorem Dev.acceptKeeps.fset (h : d.acceptKeeps e) (f : Fld) (n i j : Nat) (hf : f.k ∈ acceptRegs) :
    d.acceptKeeps (e.fset f n i j) :=
  ⟨h.kept.fset f n i j hf, h.commits, h.wygel⟩

theorem Dev.acceptKeeps.setLanePort (h : d.acceptKeeps e) (p : Nat) (x : PortHid) : d.acceptKeeps (e.setLanePort p x) :=
  ⟨h.kept.hidden rfl rfl rfl rfl rfl id, h.commits, h.wygel⟩

theorem Dev.acceptKeeps.ite {x y : Dev} (c : Prop) [Decidable c] (hx : d.acceptKeeps x) (hy : d.acceptKeeps y) :
    d.acceptKeeps (if c then x else y) := by split <;> assumption

theorem Dev.acceptKeeps.foldl {α : Type} {f : Dev → α → Dev} (hf : ∀ (d : Dev) (x : α), d.acceptKeeps (f d x))
    (h : d.acceptKeeps e) (l : List α) : d.acceptKeeps (l.foldl f e) := by
  induction l generalizing e with
  | nil => exact h
  | cons x l ih => exact ih (h.trans (hf e x))

theorem wake_acceptKeeps (d : Dev) (p : Nat) (fromSleep : Bool) : d.acceptKeeps (d.wake p fromSleep) := by
  have hs : RK.LAN_FALLOW_STAT ∈ acceptRegs := by decide
  unfold Dev.wake Dev.fallow
  refine Dev.acceptKeeps.setLanePort (Dev.acceptKeeps.ite _ (acceptKeeps_refl d) ?_) _ _
  exact ((acceptKeeps_refl d).fset LAN_FALLOW_STAT.STATE _ _ _ hs).fset LAN_FALLOW_STAT.CHANGES _ _ _ hs

theorem holdFull_acceptKeeps (d : Dev) (p : Nat) : d.acceptKeeps (d.holdFull p) := by
  have hx : d.acceptKeeps (d.fset LAN_FALLOW_STAT.HELD 1 (4 * p)) := (acceptKeeps_refl d).fset _ _ _ _ (by decide)
  unfold Dev.holdFull
  refine Dev.acceptKeeps.ite _ (Dev.acceptKeeps.ite _ hx (Dev.acceptKeeps.ite _ (hx.trans (wake_acceptKeeps _ _ _))
    (Dev.acceptKeeps.ite _ ((hx.setLanePort _ _).trans (wake_acceptKeeps _ _ _))
      (Dev.acceptKeeps.ite _ (hx.setLanePort _ _) (hx.setLanePort _ _))))) ?_
  exact Dev.acceptKeeps.ite _ ((acceptKeeps_refl d).setLanePort _ _) (acceptKeeps_refl d)

theorem setFrame_acceptKeeps (d : Dev) (dev frame : Nat) (st : FrameState) : d.acceptKeeps (d.setFrame dev frame st) := by
  have ht : RK.TMP_TIER_STAT ∈ acceptRegs := by decide
  unfold Dev.setFrame
  extract_lets old tier thatch x
  have hx : d.acceptKeeps x := ⟨(keptBut_refl _ d).hidden rfl rfl rfl rfl rfl id, rfl, rfl⟩
  exact Dev.acceptKeeps.ite _ ((((hx.fset TMP_TIER_STAT.FREE_GIB _ _ _ ht).fset TMP_TIER_STAT.FREE_GIB _ _ _ ht).fset
    TMP_TIER_STAT.ZEROED_GIB _ _ _ ht).fset TMP_TIER_STAT.ZEROED_GIB _ _ _ ht) hx

end

/-- Device `e` is `d` with set `n` behind the pending ones, but for what the ports hold and the frames that are reserved. -/
structure Dev.accepts (d : Dev) (n : Nat) (e : Dev) : Prop where
  kept : d.keptBut acceptRegs e
  order : e.commits.order = d.commits.order ++ [n]
  wygel : e.wygel = d.wygel

theorem commitAccept_accepts (d : Dev) (n : Nat) : d.accepts n (d.commitAccept n) := by
  unfold Dev.commitAccept
  extract_lets ws b v fresh c x c' y z
  have hx : x.commits.order = d.commits.order ∧ d.keptBut acceptRegs x ∧ x.wygel = d.wygel := by
    unfold x
    split
    · exact ⟨rfl, (keptBut_refl _ d).hidden rfl rfl rfl rfl rfl id, rfl⟩
    · exact ⟨rfl, keptBut_refl _ d, rfl⟩
  obtain ⟨hxo, hxk, hxw⟩ := hx
  have hyk : d.keptBut acceptRegs y := hxk.hidden rfl rfl rfl rfl rfl id
  have hyo : y.commits.order = d.commits.order ++ [n] := congrArg (· ++ [n]) hxo
  have hyw : y.wygel = d.wygel := hxw
  have hz : y.acceptKeeps z := (acceptKeeps_refl y).foldl (fun e p =>
    ((acceptKeeps_refl e).setLanePort p _).trans (holdFull_acceptKeeps _ p)) _
  have hk := hz.foldl (fun e (x : Nat × Nat × Nat) => setFrame_acceptKeeps e x.2.1 x.2.2 .reserved) (v.placements ws)
  exact ⟨hyk.trans hk.kept, (congrArg Commits.order hk.commits).trans hyo, hk.wygel.trans hyw⟩

end Sys2Proof.Machine
end

section
namespace Sys2Proof.Machine

/-! CMT.COMMIT of an OPEN set (R130, R132, R133) -/

/-- A set's commit has ended in a state and with a status, and the writes and the order of the sets are as they were. -/
structure Dev.commitEnded (d : Dev) (n state status : Nat) (e : Dev) : Prop where
  kept : d.keptBut [.TIM_COMMIT_STAT] e
  commits : e.commits = d.commits
  wygel : e.wygel = d.wygel
  state : e.fget TIM_COMMIT_STAT.STATE 0 n = state
  status : e.fget TIM_COMMIT_STAT.LAST_STATUS 0 n = status

theorem commitFinal_commits (d : Dev) (n status : Nat) : (d.commitFinal n status).commits = d.commits := by
  unfold Dev.commitFinal; split <;> rfl

theorem commitFinal_wygel (d : Dev) (n status : Nat) : (d.commitFinal n status).wygel = d.wygel := by
  unfold Dev.commitFinal; split <;> rfl

theorem commitEnds_ended (d : Dev) (n : Nat) {state status : Nat} (h4 : state < 4) (h16 : status < 16) :
    d.commitEnded n state status (d.commitEnds n state status) := by
  let x := (d.fset TIM_COMMIT_STAT.STATE state 0 n).fset TIM_COMMIT_STAT.LAST_STATUS status 0 n
  have hx : d.keptBut [.TIM_COMMIT_STAT] x :=
    ((keptBut_refl _ d).fset _ _ _ _ (by simp)).fset _ _ _ _ (by simp)
  have hlatch : x.keptBut [] (x.eventAll 0) := latch_keptBut x 0 _
  have hend : x.keptBut [] (d.commitEnds n state status) :=
    Dev.keptBut.ite _ hlatch (hlatch.trans (commitFinal_keptBut _ _ _))
  refine ⟨hx.trans (hend.mono (by simp)), ?_, ?_, ?_, ?_⟩
  · exact (apply_ite Dev.commits (status = 0) (x.eventAll 0) _).trans ((congrArg _ (commitFinal_commits _ _ _)).trans
      (ite_self _))
  · exact (apply_ite Dev.wygel (status = 0) (x.eventAll 0) _).trans ((congrArg _ (commitFinal_wygel _ _ _)).trans
      (ite_self _))
  · rw [hend.fget _ _ _ (by simp), fget_fset_other _ _ _ _ _ _ _ _ (by simp), fget_fset_same _ _ _ _ _ (by decide)]
    exact Nat.mod_eq_of_lt h4
  · rw [hend.fget _ _ _ (by simp), fget_fset_same _ _ _ _ _ (by decide)]
    exact Nat.mod_eq_of_lt h16

theorem wrote_g (th : Thread) (rd : Nat) (r : Word) (fl : Flags) : (th.wrote rd r fl).g rd = if rd = 0 then 0 else r := by
  unfold Thread.wrote Thread.setG Thread.g
  split
  · rfl
  · exact tab_get_set_same _ _ _ _

/-- An instruction of a ready thread may also change what the gable die holds beside its boot. -/
theorem issue_ends_booted {s : State} {t : Nat} {legal mgr : Bool} {act : Dev → Thread → Dev} {d : Dev} (h : s.dev.issues t)
    (hl : legal = true) (hm : mgr = true → (s.dev.thr t).priv = false)
    (ha : act (s.dev.turn t) (s.dev.issuing t) = d) (hu : d.wygel.update = none) (hb : d.gable.boot = s.dev.gable.boot)
    (hf : d.fuses = s.dev.fuses) : onDev s (Dev.issue t legal mgr act) = .next { s with dev := d } := by
  have hi : Dev.issue t legal mgr act s.dev = d := by
    rw [issue_runs _ _ _ _ _ h]
    have hp : (mgr && (s.dev.issuing t).priv) = false := by
      cases mgr with
      | false => rfl
      | true => exact hm rfl
    simp only [turn_thr_issuing, hl, hp, Bool.not_true, Bool.false_eq_true, if_false]
    rw [ha, trySwitch_none d hu]
  subst hi
  exact onDev_next s _ h.1 hb hf

/-- The registers that a commit's checks and their outcome write. -/
def commitRegs : List RK := .TIM_COMMIT_INSTANT :: .TIM_COMMIT_STAT :: acceptRegs

/-- A commit of set `n` for instant `T` has ended with a status: the set's registers say so, and no thread but for event COMMIT,
no other register but those of its holds, and no byte of the Wygel has changed. -/
structure Dev.commitTried (d : Dev) (n T state status : Nat) (e : Dev) : Prop where
  kept : d.keptBut commitRegs e
  wygel : e.wygel = d.wygel
  state : e.fget TIM_COMMIT_STAT.STATE 0 n = state
  status : e.fget TIM_COMMIT_STAT.LAST_STATUS 0 n = status
  instant : e.fget TIM_COMMIT_INSTANT.INSTANT 0 n = T

section
variable (d : Dev) (n : Nat) {T : Nat} (hT : T < 2 ^ 64)
include hT

/-- What follows the record of the instant asked for leaves that record. -/
theorem commitTried_of_ended {x e : Dev} {state status : Nat}
    (hx : (d.fset TIM_COMMIT_INSTANT.INSTANT T 0 n).keptBut acceptRegs x) (hw : x.wygel = d.wygel)
    (he : x.commitEnded n state status e) : d.commitTried n T state status e := by
  have hi : d.keptBut commitRegs (d.fset TIM_COMMIT_INSTANT.INSTANT T 0 n) := (keptBut_refl _ d).fset _ _ _ _ (by decide)
  refine ⟨(hi.trans (hx.mono (by decide))).trans (he.kept.mono (by decide)), he.wygel.trans hw, he.state, he.status, ?_⟩
  rw [he.kept.fget _ _ _ (by decide), hx.fget _ _ _ (by decide), fget_fset_same _ _ _ _ _ (by decide)]
  exact Nat.mod_eq_of_lt hT

theorem commitTry_accepted (hs : d.commitStatus n T = 0) : ∃ e, d.commitTry n T = (e, 0) ∧ d.commitTried n T 2 0 e ∧
    e.commits.order = d.commits.order ++ [n] := by
  have ha := commitAccept_accepts (d.fset TIM_COMMIT_INSTANT.INSTANT T 0 n) n
  have he := commitEnds_ended ((d.fset TIM_COMMIT_INSTANT.INSTANT T 0 n).commitAccept n) n (state := 2) (status := 0)
    (by decide) (by decide)
  exact ⟨_, if_pos hs, commitTried_of_ended d n hT ha.kept ha.wygel he, (congrArg Commits.order he.commits).trans ha.order⟩

theorem commitTry_refused (hs : d.commitStatus n T ≠ 0) : ∃ e, d.commitTry n T = (e, d.commitStatus n T) ∧
    d.commitTried n T 1 (d.commitStatus n T) e ∧ e.commits = d.commits := by
  have he := commitEnds_ended (d.fset TIM_COMMIT_INSTANT.INSTANT T 0 n) n (state := 1) (status := d.commitStatus n T)
    (by decide) ((commitStatus_lt d n T).trans (by decide))
  exact ⟨_, if_neg hs, commitTried_of_ended d n hT (keptBut_refl _ _) rfl he, he.commits⟩

end

theorem turn_commitStatus (d : Dev) (t n T : Nat) : (d.turn t).commitStatus n T = d.commitStatus n T :=
  commitStatus_setThr t _ d n T

section
variable {s : State} {t : Fin 64} {rd ra rb : Fin 32} {sw : BitVec 9} (h : s.dev.issues t) (hp : (s.dev.thr t).priv = false)
  (hs : s.dev.phase ≠ phSoft) (ho : s.dev.setState (s.dev.namedSet t rb) = 1)

/-- The instant that a commit asks for. -/
def Dev.asked (d : Dev) (t ra : Nat) (sw : BitVec 9) : Nat := commitInstant ((d.issuing t).g ra) sw

theorem asked_lt (d : Dev) (t ra : Nat) (sw : BitVec 9) : d.asked t ra sw < 2 ^ 64 := Nat.mod_lt _ (by decide)

include h hp hs ho

/-- CMT.COMMIT of an OPEN set: it ends as its checks decide, and the thread is told. -/
theorem commit_ends {e : Dev} {state status st : Nat}
    (hc : (s.dev.turn t).commitTry (s.dev.namedSet t rb) (s.dev.asked t ra sw) = (e, st))
    (he : (s.dev.turn t).commitTried (s.dev.namedSet t rb) (s.dev.asked t ra sw) state status e) :
    Ends (.cmtCommit t rd ra rb sw) s (e.setThr t ((e.thr t).committed rd st (st == 0))) := by
  refine (onDev_afterSoft hs _).trans (issue_ends_booted h rfl (fun _ => hp) ?_
    ((congrArg Wygel.update he.wygel).trans (issues_update h)) he.kept.boot he.kept.fuses)
  refine (if_neg (not_not.mpr ho)).trans ?_
  rw [show (s.dev.turn t).commitTry (((s.dev.issuing t).g rb).toNat % 16) (commitInstant ((s.dev.issuing t).g ra) sw) = (e, st)
    from hc]
  exact cmtRetire_eq e t rd st _

theorem commit_accepted (hst : s.dev.commitStatus (s.dev.namedSet t rb) (s.dev.asked t ra sw) = 0) :
    Runs (.cmtCommit t rd ra rb sw) s fun d =>
      (d.thr t).g rd = 0 ∧ (d.thr t).flags.z = true ∧ d.fget TIM_COMMIT_STAT.STATE 0 (s.dev.namedSet t rb) = 2 ∧
      d.fget TIM_COMMIT_STAT.LAST_STATUS 0 (s.dev.namedSet t rb) = 0 ∧
      d.fget TIM_COMMIT_INSTANT.INSTANT 0 (s.dev.namedSet t rb) = s.dev.asked t ra sw ∧
      d.commits.order = s.dev.commits.order ++ [s.dev.namedSet t rb] := by
  obtain ⟨e, hc, he, horder⟩ := commitTry_accepted (s.dev.turn t) (s.dev.namedSet t rb) (asked_lt s.dev t ra sw)
    ((turn_commitStatus _ _ _ _).trans hst)
  refine ⟨_, commit_ends h hp hs ho hc he, ?_, ?_, he.state, he.status, he.instant, horder⟩
  · rw [thr_setThr_same, Thread.committed, wrote_g]
    exact ite_self _
  · rw [thr_setThr_same]
    rfl

theorem commit_fails (hst : s.dev.commitStatus (s.dev.namedSet t rb) (s.dev.asked t ra sw) ≠ 0) :
    Runs (.cmtCommit t rd ra rb sw) s fun d =>
      (rd ≠ 0 → (d.thr t).g rd =
        BitVec.ofNat 64 (s.dev.commitStatus (s.dev.namedSet t rb) (s.dev.asked t ra sw))) ∧ (d.thr t).flags.z = false ∧
      d.fget TIM_COMMIT_STAT.STATE 0 (s.dev.namedSet t rb) = 1 ∧
      d.fget TIM_COMMIT_STAT.LAST_STATUS 0 (s.dev.namedSet t rb) =
        s.dev.commitStatus (s.dev.namedSet t rb) (s.dev.asked t ra sw) ∧
      d.setWrites (s.dev.namedSet t rb) = s.dev.setWrites (s.dev.namedSet t rb) ∧
      d.commits.order = s.dev.commits.order := by
  obtain ⟨e, hc, he, hcommits⟩ := commitTry_refused (s.dev.turn t) (s.dev.namedSet t rb) (asked_lt s.dev t ra sw)
    (by rw [turn_commitStatus]; exact hst)
  have hends := commit_ends (rd := rd) h hp hs ho hc he
  rw [turn_commitStatus] at he hends
  refine ⟨_, hends, fun hrd => ?_, ?_, he.state, he.status, congrArg (fun c : Commits => Tab.get [] c.sets _) hcommits,
    congrArg Commits.order hcommits⟩
  · rw [thr_setThr_same, Thread.committed, wrote_g, if_neg (Fin.val_ne_zero_iff.mpr hrd)]
  · rw [thr_setThr_same]
    exact beq_eq_false_iff_ne.mpr hst

end

/-- Settles O20, a form at a time; an accepted commit's holds and reservations leave the registers and the order of the sets. -/
theorem commitForms : Obligations.CommitForms := by
  unfold Obligations.CommitForms
  intro s t rd ra rb sw h hp hs th n state gives moves T
  exact ⟨((commitStatus_lt s.dev n T).trans (by decide)).ne, open_moves h hp hs, discard_moves h hp hs, open_refused h hp hs,
    fun ho => ⟨discard_refused h hp hs ho, commit_refused h hp hs ho⟩, fun ho hst => commit_accepted h hp hs ho hst,
    fun st hst ho h0 => by subst hst; exact commit_fails h hp hs ho h0⟩

end Sys2Proof.Machine
end

section
namespace Sys2Proof.Machine

/-! Operands in scratch (R70, R71) -/

theorem scratchOperand_ok {d : Dev} {th : Thread} {r al n p : Nat} (hal : (th.g r).toNat % 2 ^ 22 % al = 0)
    (hp : d.scratchAddr th ((th.g r).toNat % 2 ^ 22) n = some p) : d.scratchOperand th r al n = .ok p := by
  unfold Dev.scratchOperand
  dsimp only
  rw [if_neg (not_not.mpr hal), hp]

/-- Bytes that do not reach over the top of scratch are read in one run. -/
theorem scratchGet_within (d : Dev) {p n : Nat} (h : p + n ≤ 2 ^ 22) : d.scratchGet p n = d.wygel.scratch.readList p n :=
  if_pos h

theorem scratchPut_within (d : Dev) {p : Nat} {bs : List Byte} (h : p + bs.length ≤ 2 ^ 22) :
    d.scratchPut p bs = d.scratchStore p bs := if_pos h

/-- Bytes written and read again. -/
theorem readList_writeList (m : Mem) (p : Nat) (bs : List Byte) : (m.writeList p bs).readList p bs.length = bs := by
  apply List.ext_getElem?
  intro k
  by_cases hk : k < bs.length
  · rw [readList_getElem? _ _ _ _ hk, List.getElem?_eq_getElem hk]
    exact congrArg some (mem_read_writeList_same m p k (List.getElem?_eq_getElem hk))
  · rw [List.getElem?_eq_none (by simpa using hk), List.getElem?_eq_none (by simpa using hk)]

/-! MSND (R137) -/

/-- The status of MSND: the session before the queue (assumption 175). -/
def Dev.msndStatus (d : Dev) : Nat := if !d.session then 2 else if 64 ≤ d.wygel.txMail.length then 1 else 0

/-- A message queued and sent. -/
def Dev.mailed (d : Dev) (m : Mail) : Dev := { d with
  out := d.out ++ [.mbox m], wygel := { d.wygel with txMail := d.wygel.txMail ++ [m] },
  fcp := { d.fcp with txSeq := d.fcp.txSeq + 1 } }

/-- The message that MSND makes of `n` bytes of scratch. -/
def Dev.mailOf (d : Dev) (t p n channel : Nat) : Mail :=
  ⟨(d.issuing t).image.getD 0, channel, d.wygel.scratch.readList p n, d.fcp.txSeq, 1, d.now⟩

theorem turn_mailed_setThr (d : Dev) (t : Nat) (m : Mail) (th : Thread) :
    ((d.turn t).mailed m).setThr t th = (d.setThr t th).mailed m :=
  congrArg (Dev.mailed · m) (turn_setThr d t th)

/-- A thread told the status of its MSND. -/
def Thread.sent (th : Thread) (rd st : Nat) : Thread := th.wrote rd (BitVec.ofNat 64 st) { th.flags with z := decide (st = 0) }

section
variable {s : State} {t : Fin 64} {rd ra rb : Fin 32} {p : Nat} (h : s.dev.issues t) (hpr : (s.dev.thr t).priv = false)
  (hal : ((s.dev.issuing t).g ra).toNat % 2 ^ 22 % 8 = 0)
include h hpr hal

section
variable {channel : BitVec 11} (hch : channel.toNat < 256) (h1 : 1 ≤ ((s.dev.issuing t).g rb).toNat)
  (h2 : ((s.dev.issuing t).g rb).toNat ≤ 4096)
  (hp : s.dev.scratchAddr (s.dev.issuing t) (((s.dev.issuing t).g ra).toNat % 2 ^ 22) ((s.dev.issuing t).g rb).toNat = some p)
  (hpn : p + ((s.dev.issuing t).g rb).toNat ≤ 2 ^ 22)
include hch h1 h2 hp hpn

/-- MSND leaves the message, where its status is 0, and the status. -/
theorem msnd_ends : Ends (.msnd t rd ra rb channel) s
    ((if s.dev.msndStatus ≠ 0 then s.dev
      else s.dev.mailed (s.dev.mailOf t p ((s.dev.issuing t).g rb).toNat channel.toNat)).setThr t
      ((s.dev.issuing t).sent rd s.dev.msndStatus)) := by
  have hlen : ¬ (((s.dev.issuing t).g rb).toNat = 0 ∨ 4096 < ((s.dev.issuing t).g rb).toNat) := by omega
  have hop : (s.dev.turn t).scratchOperand (s.dev.issuing t) ra 8 ((s.dev.issuing t).g rb).toNat = .ok p :=
    scratchOperand_ok hal hp
  have hget := scratchGet_within (s.dev.turn t) hpn
  have hchannel : channel.toNat % 256 = channel.toNat := Nat.mod_eq_of_lt hch
  have hlegal : (channel.toNat / 256 == 0) = true := by rw [div_beq_zero]; exact decide_eq_true hch
  refine issue_ends h hlegal (fun _ => hpr) ((if_neg hlen).trans ?_) ?_ ?_ ?_
  · rw [hop]
    dsimp only
    rw [hget, hchannel, Dev.retire, advance_setG_flags]
    change (if s.dev.msndStatus ≠ 0 then s.dev.turn t
      else (s.dev.turn t).mailed (s.dev.mailOf t p ((s.dev.issuing t).g rb).toNat channel.toNat)).setThr t _ = _
    split
    · exact turn_setThr _ _ _
    · exact turn_mailed_setThr _ _ _ _
  all_goals split
  · exact issues_update h
  · exact issues_update h
  all_goals rfl

end

end

/-! MRCV and MRCV.NB (R138, R139) -/

/-- A table's entry that a selection passes over, before and after it is written, leaves what the selection finds. -/
theorem filterMap_tab_set {α β : Type} (dflt : α) {f : Nat × α → Option β} (tab : Tab α) {k : Nat} {v : α}
    (hv : f (k, v) = none) (hg : f (k, Tab.get dflt tab k) = none) : (Tab.set tab k v).filterMap f = tab.filterMap f := by
  induction tab with
  | nil => simp [Tab.set, hv]
  | cons e tab ih =>
    obtain ⟨k', v'⟩ := e
    rcases Nat.lt_trichotomy k k' with hk | rfl | hk
    · simp [Tab.set, hk, hv]
    · have hv' : f (k, v') = none := by simpa [Tab.get] using hg
      simp [Tab.set, hv, hv']
    · have hg' : f (k, Tab.get dflt tab k) = none := by simpa [Tab.get, hk.ne'] using hg
      simp [Tab.set, Nat.not_lt.mpr hk.le, hk.ne', List.filterMap_cons, ih hg']

/-- A thread that runs waits for no message, and its turn changes no receiver. -/
theorem turn_receivers (d : Dev) (t : Nat) (image : Option Nat) (hr : (d.thr t).state = .run) :
    (d.turn t).receivers image = d.receivers image := by
  unfold Dev.receivers
  dsimp only
  rw [show (d.turn t).threads = Tab.set d.threads t (d.issuing t) from rfl, filterMap_tab_set {}]
  · dsimp only
    split
    · exact if_neg (by simp [show (d.issuing t).state = .run from hr])
    · rfl
  · change (match (d.thr t).wait with
      | .message _ _ _ since => if (d.thr t).state == .wait && (d.thr t).image == image then some (since, t) else none
      | _ => none) = none
    split
    · exact if_neg (by simp [hr])
    · rfl

theorem turn_mailNow {d : Dev} {t : Nat} (hr : (d.thr t).state = .run) (image : Option Nat) :
    (d.turn t).mailNow image = d.mailNow image := by
  unfold Dev.mailNow
  rw [turn_receivers d t image hr]
  rfl

/-- The two fields that MRCV puts in g[rd]. -/
theorem mail_word {len ch : Nat} (hl : len < 65536) (hc : ch < 256) :
    (putBits (putBits 0 0 16 len) 16 8 ch).toNat = len + 65536 * ch := by
  have hlt : len + 65536 * ch < 2 ^ 64 := by omega
  have heq : putBits (putBits 0 0 16 len) 16 8 ch = BitVec.ofNat 64 (2 ^ 16 * ch + len) := by
    apply BitVec.eq_of_getLsbD_eq
    intro k hk
    rw [BitVec.getLsbD_ofNat, BitVec.getLsbD_eq_getElem hk, putBits_getElem _ _ _ _ _ hk, putBits_getElem _ _ _ _ _ hk,
      Nat.testBit_two_pow_mul_add _ (by omega)]
    rcases Nat.lt_or_ge k 16 with h16 | h16
    · have : ¬ (16 ≤ k ∧ k < 16 + 8) := by omega
      simp [hk, h16, this]
    · rcases Nat.lt_or_ge k 24 with h24 | h24
      · simp [hk, h16, h24, Nat.not_lt.mpr h16]
      · have hb : ch.testBit (k - 16) = false :=
          Nat.testBit_lt_two_pow (lt_of_lt_of_le hc (Nat.pow_le_pow_right (n := 2) (i := 8) (by decide) (by omega)))
        simp [hk, hb, Nat.not_lt.mpr h16, Nat.not_lt.mpr h24]
  rw [heq, BitVec.toNat_ofNat, Nat.mod_eq_of_lt (by omega)]
  omega

/-- A message taken from those received, and bytes of it stored. -/
def Dev.mailTaken (d : Dev) (p : Nat) (m : Mail) (bs : List Byte) : Dev :=
  ({ d with wygel := { d.wygel with rxMail := d.wygel.rxMail.erase m } } : Dev).scratchStore p bs

/-- A thread that has taken a message. -/
def Thread.received (th : Thread) (rd limit : Nat) (m : Mail) (nb : Bool) : Thread :=
  { (th.setG rd (putBits (putBits 0 0 16 m.bytes.length) 16 8 m.channel)).advance with
    flags := { th.flags with v := decide (limit < m.bytes.length), c := if nb then false else th.flags.c }
    state := .run, wait := .ready }

theorem received_g (th : Thread) {rd : Nat} (limit : Nat) (m : Mail) (nb : Bool) (h : rd ≠ 0) :
    (th.received rd limit m nb).g rd = putBits (putBits 0 0 16 m.bytes.length) 16 8 m.channel := by
  unfold Thread.received Thread.setG Thread.advance Thread.g
  simp only [if_neg h]
  exact tab_get_set_same _ _ _ _

theorem received_pc (th : Thread) (rd limit : Nat) (m : Mail) (nb : Bool) :
    (th.received rd limit m nb).pc = th.pc + 4 := congrArg (· + 4) (setG_pc _ _ _)

theorem takeMail_within (d : Dev) (t rd : Nat) {p : Nat} {limit : Word} {m : Mail} (nb : Bool)
    (hp : p + (m.bytes.take limit.toNat).length ≤ 2 ^ 22) : d.takeMail t rd p limit m nb =
      (d.mailTaken p m (m.bytes.take limit.toNat)).setThr t ((d.thr t).received rd limit.toNat m nb) := by
  unfold Dev.takeMail
  dsimp only
  rw [scratchPut_within _ hp]
  rfl

section
variable {s : State} {t : Fin 64} {rd ra rb : Fin 32} {p : Nat} (h : s.dev.issues t)
  (hpr : (s.dev.thr t).priv = false) (hal : ((s.dev.issuing t).g ra).toNat % 2 ^ 22 % 8 = 0)
  (hp : s.dev.scratchAddr (s.dev.issuing t) (((s.dev.issuing t).g ra).toNat % 2 ^ 22)
    (min 4096 ((s.dev.issuing t).g rb).toNat) = some p)

include hal hp in
theorem mrcv_operand :
    (s.dev.turn t).scratchOperand (s.dev.issuing t) ra 8 (min 4096 ((s.dev.issuing t).g rb).toNat) = .ok p :=
  scratchOperand_ok hal hp

include h hpr hal hp

section
variable (hm : s.dev.mailNow (s.dev.issuing t).image = none)
include hm

theorem mrcv_waits : Ends (.mrcv t rd ra rb 0) s (s.dev.setThr t
    { s.dev.issuing t with state := .wait, wait := .message rd p ((s.dev.issuing t).g rb) s.dev.now }) := by
  refine issue_ends_setThr h rfl (fun _ => hpr) ?_
  rw [mrcv_operand hal hp]
  dsimp only
  rw [turn_mailNow h.2.2.2.2.1, hm]
  exact turn_setThr _ _ _

theorem mrcvNb_empty : Ends (.mrcvNb t rd ra rb 0) s
    (s.dev.setThr t ((s.dev.issuing t).wrote rd 0 { (s.dev.issuing t).flags with c := true })) := by
  refine issue_writes h rfl (fun _ => hpr) ?_
  rw [mrcv_operand hal hp]
  dsimp only
  rw [turn_mailNow h.2.2.2.2.1, hm]
  rfl

end

/-- A message taken: the bytes that fit the limit in scratch, length and channel in g[rd], V set when it was cut. -/
theorem mrcv_takes {nb : Bool} {m : Mail} (hm : s.dev.mailNow (s.dev.issuing t).image = some m)
    (hpn : p + m.bytes.length ≤ 2 ^ 22) (hl : m.bytes.length < 65536) (hc : m.channel < 256) :
    ∃ d, onDev s (Dev.mrcv t rd ra rb 0 nb) = .next { s with dev := d } ∧
      (rd ≠ 0 → ((d.thr t).g rd).toNat = m.bytes.length + 65536 * m.channel) ∧
      (d.thr t).flags = { (s.dev.issuing t).flags with
        v := decide (((s.dev.issuing t).g rb).toNat < m.bytes.length), c := if nb then false else (s.dev.issuing t).flags.c } ∧
      (d.thr t).pc = (s.dev.issuing t).pc + 4 ∧ d.wygel.rxMail = s.dev.wygel.rxMail.erase m ∧
      (∀ x, x < p ∨ p + min ((s.dev.issuing t).g rb).toNat m.bytes.length ≤ x →
        d.wygel.scratch.read x = s.dev.wygel.scratch.read x) ∧
      d.wygel.scratch.readList p (min ((s.dev.issuing t).g rb).toNat m.bytes.length) =
        m.bytes.take ((s.dev.issuing t).g rb).toNat := by
  have hlen : (m.bytes.take ((s.dev.issuing t).g rb).toNat).length = min ((s.dev.issuing t).g rb).toNat m.bytes.length :=
    List.length_take
  refine ⟨((s.dev.turn t).mailTaken p m (m.bytes.take ((s.dev.issuing t).g rb).toNat)).setThr t
      ((s.dev.issuing t).received rd ((s.dev.issuing t).g rb).toNat m nb),
    issue_ends h rfl (fun _ => hpr) ?_ (issues_update h) rfl rfl, fun hrd => ?_, ?_, ?_, rfl, fun x hx => ?_, ?_⟩
  · rw [mrcv_operand hal hp]
    dsimp only
    rw [turn_mailNow h.2.2.2.2.1, hm]
    dsimp only
    rw [takeMail_within _ _ _ _ (by omega), turn_thr_issuing]
  · rw [thr_setThr_same, received_g _ _ _ _ (Fin.val_ne_zero_iff.mpr hrd), mail_word hl hc]
  · rw [thr_setThr_same]
    rfl
  · rw [thr_setThr_same, received_pc]
  · exact mem_read_writeList_other _ _ _ _ (by rw [hlen]; exact hx)
  · rw [← hlen]
    exact readList_writeList _ _ _

end

/-- Settles O22: MSND by its status, MRCV by the message that the thread may take. -/
theorem threadMailboxes : Obligations.ThreadMailboxes := by
  unfold Obligations.ThreadMailboxes
  intro s t rd ra rb channel p h hpr th a n hal
  refine ⟨fun hch h1 h2 hp hpn => ?_, fun hp => ⟨fun hm => ⟨mrcv_waits h hpr hal hp hm, mrcvNb_empty h hpr hal hp hm⟩,
    fun m hm hpn hl hc => ⟨mrcv_takes h hpr hal hp hm hpn hl hc, mrcv_takes h hpr hal hp hm hpn hl hc⟩⟩⟩
  have hends := msnd_ends (rd := rd) h hpr hal hch h1 h2 hp hpn
  refine ⟨fun hs => ?_, fun hs hq => ?_, fun hs hq => ⟨s.dev.mailOf t p n channel.toNat, ?_, rfl, rfl, rfl, rfl⟩⟩
  · rw [show s.dev.msndStatus = 2 by simp [Dev.msndStatus, hs]] at hends
    exact hends
  · rw [show s.dev.msndStatus = 1 by simp [Dev.msndStatus, hs, hq]] at hends
    exact hends
  · rw [show s.dev.msndStatus = 0 by simp [Dev.msndStatus, hs, hq]] at hends
    exact hends

end Sys2Proof.Machine
end

section
namespace Sys2Proof.Machine

/-! DMVK (R140 to R142) -/

/-- A job handle given out. -/
def Dev.handed (d : Dev) : Dev := { d with folds := { d.folds with handle := d.nextHandle } }

/-- The entry of work of a job that thread `t` launches on device `d`. -/
def Dev.jobOf (d : Dev) (fold : Option Nat) (t cpl gen : Nat) (raw : List Byte) : Work :=
  { id := d.folds.nextId, owner := .job fold (d.managerSlot.getD 0) d.nextHandle t cpl, gen := gen, raw := raw,
    state := if dOp raw = opMigrate then .migrate else .fetched }

/-- The 64 bytes of a descriptor in scratch. -/
def Dev.descriptor (d : Dev) (p : Nat) : List Byte := d.wygel.scratch.readList p 64

section
variable {s : State} {t : Fin 64} {rd ra rb : Fin 32} {p c : Nat} (h : s.dev.issues t)
  (halp : ((s.dev.issuing t).g ra).toNat % 2 ^ 22 % 64 = 0)
  (hp : s.dev.scratchAddr (s.dev.issuing t) (((s.dev.issuing t).g ra).toNat % 2 ^ 22) 64 = some p) (hpn : p + 64 ≤ 2 ^ 22)
  (halc : ((s.dev.issuing t).g rb).toNat % 2 ^ 22 % 16 = 0)
  (hc : s.dev.scratchAddr (s.dev.issuing t) (((s.dev.issuing t).g rb).toNat % 2 ^ 22) 16 = some c)

include halp hp in
theorem dmvk_source : (s.dev.turn t).scratchOperand (s.dev.issuing t) ra 64 64 = .ok p := scratchOperand_ok halp hp

include halc hc in
theorem dmvk_completion : (s.dev.turn t).scratchOperand (s.dev.issuing t) rb 16 16 = .ok c := scratchOperand_ok halc hc

include hpn in
theorem dmvk_descriptor : (s.dev.turn t).scratchGet p 64 = s.dev.descriptor p := scratchGet_within _ hpn

include h halp hp hpn halc hc

section
variable (hm : (s.dev.issuing t).manager = true)
include hm

omit hpn in
theorem dmvk_manager_full (hs : s.dev.managerSlot = none) : Ends (.dmvk t rd ra rb 0) s
    (s.dev.setThr t ((s.dev.issuing t).wrote rd 0 { (s.dev.issuing t).flags with c := true })) := by
  refine issue_writes h rfl (by simp) ?_
  rw [dmvk_source halp hp, dmvk_completion halc hc]
  simp only [show (s.dev.turn t).managerSlot = none from hs, hm, Bool.not_true, Bool.false_and, Bool.false_eq_true, if_true,
    if_false, Option.isSome_none, Bool.not_false]

theorem dmvk_manager_launches (hs : s.dev.managerSlot ≠ none) (hw : malformed (s.dev.descriptor p) .manager = none) :
    Ends (.dmvk t rd ra rb 0) s ((s.dev.handed.setThr t ((s.dev.issuing t).wrote rd (BitVec.ofNat 64 s.dev.nextHandle)
      { (s.dev.issuing t).flags with c := false })).addWork (s.dev.jobOf none t c 0 (s.dev.descriptor p))) := by
  have hslot : (s.dev.turn t).managerSlot.isSome = true := Option.isSome_iff_ne_none.mpr hs
  refine issue_ends h rfl (by simp) ?_ (issues_update h) rfl rfl
  rw [dmvk_source halp hp, dmvk_completion halc hc]
  simp only [hslot, hm, Bool.not_true, Bool.false_and, Bool.false_eq_true, if_true, if_false, dmvk_descriptor hpn, hw]
  rw [Dev.retire, advance_setG_flags]
  exact congrArg (Dev.addWork · (s.dev.jobOf none t c 0 (s.dev.descriptor p))) (turn_setThr s.dev.handed t _)

end

section
variable (hm : (s.dev.issuing t).manager = false)
include hm

theorem dmvk_fold_migrate (ho : dOp (s.dev.descriptor p) = opMigrate) : Ends (.dmvk t rd ra rb 0) s
    ((s.dev.turn t).takeException t 2 (s.dev.issuing t).pc (s.dev.issuing t).pc.toNat) := by
  refine issue_ends_exception h rfl (by simp) ?_ (turn_keeps _ _)
  rw [dmvk_source halp hp, dmvk_completion halc hc]
  simp only [hm, Bool.not_false, Bool.true_and, dmvk_descriptor hpn, ho, beq_self_eq_true, if_true]
  exact turn_trap _ _ _ _

variable (ho : dOp (s.dev.descriptor p) ≠ opMigrate)
include ho

theorem dmvk_fold_full (hs : s.dev.mayTakeSlot (s.dev.issuing t).fid = false) : Ends (.dmvk t rd ra rb 0) s
    (s.dev.setThr t ((s.dev.issuing t).wrote rd 0 { (s.dev.issuing t).flags with c := true })) := by
  have hslot : (s.dev.turn t).mayTakeSlot (s.dev.issuing t).fid = false := hs
  refine issue_writes h rfl (by simp) ?_
  rw [dmvk_source halp hp, dmvk_completion halc hc]
  simp only [hslot, hm, Bool.not_false, Bool.true_and, dmvk_descriptor hpn, beq_eq_false_iff_ne.mpr ho, Bool.false_eq_true,
    if_true, if_false]

theorem dmvk_fold_launches (hs : s.dev.mayTakeSlot (s.dev.issuing t).fid = true)
    (hw : malformed (s.dev.descriptor p) .foldJob = none) : Ends (.dmvk t rd ra rb 0) s
    (((s.dev.handed.setThr t ((s.dev.issuing t).wrote rd (BitVec.ofNat 64 s.dev.nextHandle)
      { (s.dev.issuing t).flags with c := false })).takeSlot (s.dev.issuing t).fid).addWork (s.dev.jobOf
        (some (s.dev.issuing t).fid) t c (s.dev.fget FLD_STAT.GEN (s.dev.issuing t).fid) (s.dev.descriptor p))) := by
  have hslot : (s.dev.turn t).mayTakeSlot (s.dev.issuing t).fid = true := hs
  refine issue_ends h rfl (by simp) ?_ (issues_update h) rfl rfl
  rw [dmvk_source halp hp, dmvk_completion halc hc]
  simp only [hslot, hm, Bool.not_false, Bool.not_true, Bool.true_and, dmvk_descriptor hpn, beq_eq_false_iff_ne.mpr ho,
    Bool.false_eq_true, if_false, hw]
  rw [Dev.retire, advance_setG_flags]
  exact congrArg (fun d : Dev => (d.takeSlot (s.dev.issuing t).fid).addWork (s.dev.jobOf (some (s.dev.issuing t).fid) t c
    (s.dev.fget FLD_STAT.GEN (s.dev.issuing t).fid) (s.dev.descriptor p))) (turn_setThr s.dev.handed t _)

end

end

/-- A slot taken is counted, up to the field's greatest value. -/
theorem takeSlot_inFlight (d : Dev) (f : Nat) : (d.takeSlot f).fget FLD_STAT.IN_FLIGHT f =
    min (d.fget FLD_STAT.IN_FLIGHT f + 1) (2 ^ FLD_STAT.IN_FLIGHT.w - 1) := by
  have hpos : 0 < 2 ^ FLD_STAT.IN_FLIGHT.w := by decide
  unfold Dev.takeSlot Dev.fadd
  rw [fget_fset_same _ _ _ _ _ (by decide), satAdd]
  exact Nat.mod_eq_of_lt (by omega)

/-- Settles O23: DMVK by who issues it, whether a slot is free and what the descriptor asks for. -/
theorem moverJobLaunch : Obligations.MoverJobLaunch := by
  unfold Obligations.MoverJobLaunch
  intro s t rd ra rb p c h th raw handle halp hp hpn halc hc
  refine ⟨fun hm hs => dmvk_manager_full h halp hp halc hc hm hs, fun k hm hs hw => ⟨s.dev.jobOf none t c 0 raw, ?_, rfl, ?_, rfl⟩,
    fun hm ho => dmvk_fold_migrate h halp hp hpn halc hc hm ho, fun hm ho hs => dmvk_fold_full h halp hp hpn halc hc hm ho hs,
    fun hm ho hs hw => ⟨_, dmvk_fold_launches h halp hp hpn halc hc hm ho hs hw, fun hrd => ?_, ?_, ?_,
      s.dev.jobOf (some th.fid) t c (s.dev.fget FLD_STAT.GEN th.fid) raw, rfl, rfl, _, rfl⟩⟩
  · exact dmvk_manager_launches h halp hp hpn halc hc hm (by rw [hs]; exact Option.some_ne_none k) hw
  · exact congrArg (WorkOwner.job none · handle t c) (by rw [hs]; rfl)
  · exact (congrArg (·.g rd) (thr_setThr_same s.dev.handed t _)).trans
      ((wrote_g _ _ _ _).trans (if_neg (Fin.val_ne_zero_iff.mpr hrd)))
  · exact congrArg (·.flags.c) (thr_setThr_same s.dev.handed t _)
  · exact takeSlot_inFlight _ _

end Sys2Proof.Machine
end

section
namespace Sys2Proof.Machine

/-! What a command on the device comes to, and the rules of the records that lanes and ports keep beside their registers -/

/-- A register write of a block that waits out a soft reset has its effect outside one. -/
theorem onWaitingReg_to {s : State} {c : Instr} {f : Dev → Dev} {d : Dev} (ha : s.dev.answers = true)
    (hph : s.dev.phase ≠ phSoft) (hf : f s.dev = d) (hg : d.gable = s.dev.gable) (hfu : d.fuses = s.dev.fuses) :
    onWaitingReg c s f = .next { s with dev := d } := by
  subst hf
  exact onWaitingReg_next c s f ha hph (congrArg Gable.boot hg) hfu

@[simp] theorem lane_setLane_same (d : Dev) (l : Nat) (x : LaneHid) : (d.setLane l x).lane l = x := tab_get_set_same _ _ _ _
@[simp] theorem lane_fset (d : Dev) (f : Fld) (n i j l : Nat) : (d.fset f n i j).lane l = d.lane l := by
  rw [Dev.lane, fset_lanes, Dev.lane]
theorem fset_setLane (d : Dev) (l : Nat) (x : LaneHid) (f : Fld) (n i j : Nat) :
    (d.setLane l x).fset f n i j = (d.fset f n i j).setLane l x := rfl
@[simp] theorem rd_setLane (d : Dev) (l : Nat) (x : LaneHid) (r : Reg) : (d.setLane l x).rd r = d.rd r :=
  rd_congr rfl rfl r
@[simp] theorem fget_setLane (d : Dev) (l : Nat) (x : LaneHid) (f : Fld) (i j : Nat) :
    (d.setLane l x).fget f i j = d.fget f i j := by rw [Dev.fget, rd_setLane, Dev.fget]
@[simp] theorem ite_fuses (c : Prop) [Decidable c] (a b : Dev) : (if c then a else b).fuses = if c then a.fuses else b.fuses :=
  apply_ite Dev.fuses c a b
@[simp] theorem setLane_fuses (d : Dev) (l : Nat) (x : LaneHid) : (d.setLane l x).fuses = d.fuses := rfl
@[simp] theorem setLane_regs (d : Dev) (l : Nat) (x : LaneHid) : (d.setLane l x).regs = d.regs := rfl

@[simp] theorem setLane_lanes (d : Dev) (l : Nat) (x : LaneHid) : (d.setLane l x).lanes = Tab.set d.lanes l x := rfl

/-- A lane's record beside its registers is no register, and all else of the device is as it was. -/
theorem OnlyRegs.setLane {rs : List Reg} {d e : Dev} (h : OnlyRegs rs d e) (l : Nat) (x : LaneHid) :
    OnlyRegs rs d { e.setLane l x with lanes := d.lanes } := by
  rw [← h.state Dev.lanes fun _ _ => rfl]
  exact h

/-- The ports' registers stand as they stood: their configuration and their links. -/
structure Dev.portsAs (d e : Dev) : Prop where
  cfg : ∀ p, e.rd ⟨.CXP_PORT_CFG, p, 0⟩ = d.rd ⟨.CXP_PORT_CFG, p, 0⟩
  link : ∀ p, e.rd ⟨.CXP_LINK_STAT, p, 0⟩ = d.rd ⟨.CXP_LINK_STAT, p, 0⟩

section
variable {d e : Dev} (h : d.portsAs e)
include h

theorem Dev.portsAs.cfgField {f : Fld} (hf : f.k = .CXP_PORT_CFG) (p : Nat) : e.fget f p = d.fget f p := by
  rw [Dev.fget, hf, h.cfg, Dev.fget, hf]

theorem Dev.portsAs.linkField {f : Fld} (hf : f.k = .CXP_LINK_STAT) (p : Nat) : e.fget f p = d.fget f p := by
  rw [Dev.fget, hf, h.link, Dev.fget, hf]

theorem Dev.portsAs.configured (p : Nat) : e.configured p = d.configured p := by
  rw [Dev.configured, Dev.fon, h.cfgField rfl]
  rfl

theorem Dev.portsAs.cfgLanes (p : Nat) : e.cfgLanes p = d.cfgLanes p := by
  rw [Dev.cfgLanes, h.configured, h.cfgField rfl, Dev.cfgLanes]

theorem Dev.portsAs.lanesOf (p : Nat) : e.lanesOf p = d.lanesOf p := by rw [Dev.lanesOf, h.cfgLanes, Dev.lanesOf]

theorem Dev.portsAs.portMode (p : Nat) : e.portMode p = d.portMode p := h.cfgField rfl p

theorem Dev.portsAs.portState (p : Nat) : e.portState p = d.portState p := h.linkField rfl p

theorem Dev.portsAs.portUp (p : Nat) : e.portUp p = d.portUp p := congrArg (· == 2) (h.portState p)

theorem Dev.portsAs.portOfLane (l : Nat) : e.portOfLane l = d.portOfLane l := by
  simp only [Dev.portOfLane, h.configured, h.cfgLanes]

theorem Dev.portsAs.inTest (l : Nat) : e.inTest l = d.inTest l := by
  simp only [Dev.inTest, h.portOfLane, h.portState]

theorem Dev.portsAs.rxShed (hp : e.ports = d.ports) {l : Nat} (hl : e.rd ⟨.LAN_STATUS, l, 0⟩ = d.rd ⟨.LAN_STATUS, l, 0⟩) :
    e.rxShed l = d.rxShed l := by
  have hf : e.fget LAN_STATUS.LOGICAL l = d.fget LAN_STATUS.LOGICAL l := congrArg (bitsOf · 5 5) hl
  simp only [Dev.rxShed, h.portOfLane, Dev.lanePort, hp, hf]

end

theorem OnlyRegs.portsAs {rs : List Reg} {d e : Dev} (h : OnlyRegs rs d e)
    (hr : ∀ r ∈ rs, r.k ≠ .CXP_PORT_CFG ∧ r.k ≠ .CXP_LINK_STAT) : d.portsAs e :=
  ⟨fun _ => h.2 _ fun hm => (hr _ hm).1 rfl, fun _ => h.2 _ fun hm => (hr _ hm).2 rfl⟩

/-- A register field is one of its width. -/
theorem fget_lt (d : Dev) (f : Fld) (i j : Nat) : d.fget f i j < 2 ^ f.w := bitsOf_lt _ _ _

end Sys2Proof.Machine
end

section
namespace Sys2Proof.Machine

/-! Transmit coefficients (R182 to R185) -/

/-- R182 and R183 at a rate. -/
def CoeffsKept (r pre post : Nat) : Prop :=
  (2 ≤ r ∧ r ≤ 4 ∧ pre ≤ 15 ∧ post ≤ 24 ∧ 21 + 2 * (pre + post) ≤ 63) ∨
    (5 ≤ r ∧ r ≤ 6 ∧ pre ≤ 12 ∧ post ≤ 18 ∧ 16 + 2 * (pre + post) ≤ 48)

theorem coeffOk_iff (r pre post : Nat) : coeffOk r pre post = true ↔ CoeffsKept r pre post := by
  unfold coeffOk coeffSpace CoeffsKept
  by_cases h2 : r < 2 ∨ 6 < r
  · rw [if_pos h2]
    simp only [Bool.false_eq_true, false_iff]
    omega
  · rw [if_neg h2]
    by_cases h4 : r ≤ 4
    · simp only [if_pos h4, decide_eq_true_eq]
      omega
    · simp only [if_neg h4, decide_eq_true_eq]
      omega

/-- Coefficients in their space: MAIN is the rest of FS. -/
theorem setCoeff_space (d : Dev) (l : Nat) {r : Nat} (pre post : Nat) (h2 : 2 ≤ r) (h6 : r ≤ 6) : d.setCoeff l r pre post =
    ((d.fset LAN_TXEQ.PRE pre l).fset LAN_TXEQ.POST post l).fset LAN_TXEQ.MAIN ((if r ≤ 4 then 63 else 48) - pre - post) l := by
  unfold Dev.setCoeff coeffSpace
  rw [if_neg (by omega)]
  split_ifs <;> rfl

/-- C-1 is 0 below 8 GT/s. -/
theorem setCoeff_low (d : Dev) (l : Nat) {r : Nat} (pre post : Nat) (h : r < 2) : d.setCoeff l r pre post =
    ((d.fset LAN_TXEQ.PRE 0 l).fset LAN_TXEQ.POST (Config.deEmphasis r).1 l).fset LAN_TXEQ.MAIN (Config.deEmphasis r).2 l := by
  unfold Dev.setCoeff coeffSpace
  rw [if_pos (Or.inl h)]

section
variable {s : State} {l : Fin 512} (h : s.dev.inReset = false)
include h

theorem coeffRequest_taken {rate : BitVec 3} {pre post : BitVec 6} {r : Nat}
    (hr : (if s.dev.fon LAN_STATUS.ACTIVE l then s.dev.fget LAN_STATUS.RATE l else rate.toNat) = r)
    (ht : s.dev.inTest l = false) (hf : s.dev.fon LAN_TXEQ.FORCE l = false) (hok : CoeffsKept r pre.toNat post.toNat) :
    Runs (.coeffRequest l rate pre post) s fun x => x.fget LAN_TXEQ.PRE l = pre.toNat ∧ x.fget LAN_TXEQ.POST l = post.toNat ∧
      x.fget LAN_TXEQ.MAIN l = (if r ≤ 4 then 63 else 48) - pre.toNat - post.toNat ∧ (x.lane l).eqRate = some r ∧
      OnlyRegs [⟨.LAN_TXEQ, l, 0⟩] s.dev { x with lanes := s.dev.lanes } := by
  have hb : 2 ≤ r ∧ r ≤ 6 ∧ pre.toNat < 32 ∧ post.toNat < 32 := by unfold CoeffsKept at hok; omega
  obtain ⟨h2, h6, hpre, hpost⟩ := hb
  unfold Runs Ends exec execCoeffRequest
  refine ⟨(s.dev.setCoeff l r pre.toNat post.toNat).setLane l { s.dev.lane l with eqRate := some r }, onDev_to h ?_ ?_ ?_, ?_⟩
  · simp only [hr, ht, hf, (coeffOk_iff _ _ _).mpr hok]
    rfl
  · simp [setCoeff_space _ _ _ _ h2 h6]
  · simp [setCoeff_space _ _ _ _ h2 h6]
  · rw [setCoeff_space _ _ _ _ h2 h6]
    refine ⟨?_, ?_, ?_, ?_, ?_⟩
    · simp [fget_fset_other, fget_fset_same, Nat.mod_eq_of_lt hpre]
    · simp [fget_fset_other, fget_fset_same, Nat.mod_eq_of_lt hpost]
    · simp only [fget_setLane, fget_fset_same _ LAN_TXEQ.MAIN _ _ _ (by decide)]
      exact Nat.mod_eq_of_lt (by split_ifs <;> omega)
    · simp
    · exact ((((onlyRegs_refl _ s.dev).fset LAN_TXEQ.PRE _ l 0 (by simp)).fset LAN_TXEQ.POST _ l 0 (by simp)).fset
        LAN_TXEQ.MAIN _ l 0 (by simp)).setLane _ _

theorem coeffRequest_rejected {rate : BitVec 3} {pre post : BitVec 6} {r : Nat}
    (hr : (if s.dev.fon LAN_STATUS.ACTIVE l then s.dev.fget LAN_STATUS.RATE l else rate.toNat) = r)
    (ht : s.dev.inTest l = false) (hf : s.dev.fon LAN_TXEQ.FORCE l = true ∨ ¬ CoeffsKept r pre.toNat post.toNat) :
    Ends (.coeffRequest l rate pre post) s (s.dev.send (.log "coefficients rejected" l)) := by
  unfold Ends exec execCoeffRequest
  refine onDev_to h ?_ rfl rfl
  have hno : (!s.dev.fon LAN_TXEQ.FORCE l && coeffOk r pre.toNat post.toNat) = false := by
    rcases hf with hf | hf
    · simp [hf]
    · simp [Bool.eq_false_iff.mpr (mt (coeffOk_iff _ _ _).mp hf)]
  simp only [hr, ht, hno]
  rfl

theorem coeffRequest_inTest (rate : BitVec 3) (pre post : BitVec 6) (ht : s.dev.inTest l = true) :
    exec (.coeffRequest l rate pre post) s = .next s := by
  unfold exec execCoeffRequest
  exact onDev_idle h (if_pos ht)

end

end Sys2Proof.Machine
end

section
namespace Sys2Proof.Machine

/-! Background adaptation (R186 to R188) -/

@[simp] theorem fget_used (d : Dev) (f : Fld) (i j : Nat) : d.used.fget f i j = d.fget f i j :=
  congrArg (bitsOf · f.lo f.w) (rd_congr rfl rfl _)

@[simp] theorem lane_used (d : Dev) (l : Nat) : d.used.lane l = d.lane l := by rw [Dev.lane, used_lanes, Dev.lane]

/-- What does not read the adapters' places is as it was once an adapter moves on. -/
theorem adapterAt_keeps {β : Type} (g : Dev → β) (hg : ∀ (y : Dev) t, g { y with adapters := t } = g y) (d : Dev) (l : Nat) :
    g (d.adapterAt l) = g d := hg d _

/-- Why an adapter's visit passes a lane by (R187, R188). -/
def Dev.adapterSkips (d : Dev) (l : Nat) : Prop :=
  d.fon LAN_CTRL.BG_ADAPT_EN l = false ∨ d.fon LAN_STATUS.ACTIVE l = false ∨ d.laneIdle l = true ∨ d.rxShed l = true ∨
    d.inTest l = true ∨ d.margining l = true ∨ (d.adapterAt l).lapOf l < (d.lane l).fromLap

/-- The test that the visit makes, once the adapter has come to the lane. -/
theorem adapterSkips_iff (d : Dev) (l : Nat) : (let e := d.adapterAt l
    (!(e.fon LAN_CTRL.BG_ADAPT_EN l) || !(e.fon LAN_STATUS.ACTIVE l) || e.laneIdle l || e.rxShed l || e.inTest l ||
      e.margining l || decide (e.lapOf l < (e.lane l).fromLap)) = true) ↔ d.adapterSkips l := by
  dsimp only
  rw [adapterAt_keeps (fun y => y.fon LAN_CTRL.BG_ADAPT_EN l) (fun _ _ => rfl),
    adapterAt_keeps (fun y => y.fon LAN_STATUS.ACTIVE l) (fun _ _ => rfl), adapterAt_keeps (·.laneIdle l) (fun _ _ => rfl),
    adapterAt_keeps (·.rxShed l) (fun _ _ => rfl), adapterAt_keeps (·.inTest l) (fun _ _ => rfl),
    adapterAt_keeps (·.margining l) (fun _ _ => rfl), adapterAt_keeps (·.lane l) (fun _ _ => rfl)]
  simp only [Dev.adapterSkips, Bool.or_eq_true, Bool.not_eq_true', decide_eq_true_eq, or_assoc]

/-- The low visits in a row that a visit leaves. -/
def Dev.missesAfter (d : Dev) (l eye : Nat) : Nat := if eye < d.fget LAN_ADAPT.EYE_MIN l then (d.lane l).misses + 1 else 0

/-- The lane's records once its eye is measured, before it is marked. -/
def Dev.eyeTaken (d : Dev) (l eye : Nat) : Dev :=
  (((d.fset LAN_STATUS.EYE eye l).finc LAN_ADAPT.VISITS 1 l).setLane l
    { d.lane l with misses := d.missesAfter l eye, settings := d.free }).used

/-- The lane marked MARGINAL, with its fault. -/
def Dev.markedMarginal (d : Dev) (l : Nat) : Dev :=
  (d.fset LAN_STATUS.MARGINAL 1 l).raise (128 + l / 16) ⟨0, 0x20, 1, (d.portOfLane l).getD (l / 4), BitVec.ofNat 64 l⟩

/-- The device after a visit that is not skipped. -/
def Dev.visited (d : Dev) (l eye : Nat) : Dev :=
  if max 1 (d.fget LAN_ADAPT.MISS_VISITS l) ≤ d.missesAfter l eye ∧ d.fon LAN_STATUS.MARGINAL l = false then
    (d.eyeTaken l eye).markedMarginal l
  else d.eyeTaken l eye

section
variable (d : Dev) (l eye : Nat)

theorem eyeTaken_lane : (d.eyeTaken l eye).lane l = { d.lane l with misses := d.missesAfter l eye, settings := d.free } := by
  rw [Dev.eyeTaken, lane_used, lane_setLane_same]

theorem eyeTaken_fget (f : Fld) (i j : Nat) :
    (d.eyeTaken l eye).fget f i j = ((d.fset LAN_STATUS.EYE eye l).finc LAN_ADAPT.VISITS 1 l).fget f i j := by
  rw [Dev.eyeTaken, fget_used, fget_setLane]

theorem markedMarginal_lane : (d.markedMarginal l).lane l = d.lane l := by
  rw [Dev.lane, Dev.markedMarginal, raise_lanes, fset_lanes, Dev.lane]

theorem markedMarginal_fget (f : Fld) (i j : Nat) (h : f.k ≠ .FLT_UNIT_STAT) :
    (d.markedMarginal l).fget f i j = (d.fset LAN_STATUS.MARGINAL 1 l).fget f i j := raise_fget _ _ _ _ _ _ (.inl h)

theorem visited_gable : (d.visited l eye).gable = d.gable := by
  unfold Dev.visited
  split <;> simp -implicitDefEqProofs [Dev.markedMarginal, Dev.eyeTaken]

theorem visited_fuses : (d.visited l eye).fuses = d.fuses := by
  unfold Dev.visited
  split <;> simp -implicitDefEqProofs [Dev.markedMarginal, Dev.eyeTaken]

theorem visited_lane : (d.visited l eye).lane l = { d.lane l with misses := d.missesAfter l eye, settings := d.free } := by
  unfold Dev.visited
  split
  · exact (markedMarginal_lane _ _).trans (eyeTaken_lane _ _ _)
  · exact eyeTaken_lane _ _ _

theorem visited_eye (he : eye < 2 ^ 16) : (d.visited l eye).fget LAN_STATUS.EYE l = eye := by
  unfold Dev.visited
  split <;> simp [markedMarginal_fget, eyeTaken_fget, Dev.finc, fget_fset_other, fget_fset_same] <;> omega

theorem visited_visits : (d.visited l eye).fget LAN_ADAPT.VISITS l = (d.fget LAN_ADAPT.VISITS l + 1) % 2 ^ 32 := by
  unfold Dev.visited
  split <;> simp [markedMarginal_fget, eyeTaken_fget, Dev.finc, fget_fset_other, fget_fset_same]

theorem visited_marginal : (d.visited l eye).fon LAN_STATUS.MARGINAL l = true ↔
    d.fon LAN_STATUS.MARGINAL l = true ∨ max 1 (d.fget LAN_ADAPT.MISS_VISITS l) ≤ d.missesAfter l eye := by
  unfold Dev.visited
  split
  next hn => simp [hn.1, Dev.fon, markedMarginal_fget, fget_fset_same]
  next hn =>
    have hk : (d.eyeTaken l eye).fon LAN_STATUS.MARGINAL l = d.fon LAN_STATUS.MARGINAL l := by
      simp [Dev.fon, eyeTaken_fget, Dev.finc, fget_fset_other]
    rw [hk]
    rw [not_and, Bool.not_eq_false] at hn
    exact ⟨Or.inl, fun h => h.elim id hn⟩

theorem eyeTaken_regsBut : RegsBut [⟨.LAN_STATUS, l, 0⟩, ⟨.LAN_ADAPT, l, 0⟩] d (d.eyeTaken l eye) := fun r hr => by
  rw [List.mem_cons, List.mem_singleton, not_or] at hr
  calc (d.eyeTaken l eye).rd r = ((d.fset LAN_STATUS.EYE eye l).finc LAN_ADAPT.VISITS 1 l).rd r := rd_congr rfl rfl r
    _ = (d.fset LAN_STATUS.EYE eye l).rd r := rd_fset_other _ LAN_ADAPT.VISITS _ l 0 r hr.2
    _ = d.rd r := rd_fset_other _ LAN_STATUS.EYE _ l 0 r hr.1

theorem visited_regsBut :
    RegsBut [⟨.LAN_STATUS, l, 0⟩, ⟨.LAN_ADAPT, l, 0⟩, ⟨.FLT_UNIT_STAT, 128 + l / 16, 0⟩] d (d.visited l eye) := by
  intro r hr
  have he : r ∉ [⟨.LAN_STATUS, l, 0⟩, ⟨.LAN_ADAPT, l, 0⟩] := fun hm => hr (by simp only [List.mem_cons] at hm ⊢; tauto)
  have hx := eyeTaken_regsBut d l eye r he
  simp only [List.mem_cons, not_or] at hr
  unfold Dev.visited
  split
  · calc ((d.eyeTaken l eye).markedMarginal l).rd r = ((d.eyeTaken l eye).fset LAN_STATUS.MARGINAL 1 l).rd r :=
          rd_raise_other _ _ _ _ hr.2.2.1
      _ = (d.eyeTaken l eye).rd r := rd_fset_other _ LAN_STATUS.MARGINAL _ l 0 r hr.1
      _ = d.rd r := hx
  · exact hx

end

section
variable {s : State} {l : Fin 512} (h : s.dev.inReset = false)
include h

theorem adaptVisit_skipped (eye : BitVec 16) (hs : s.dev.adapterSkips l) :
    Ends (.adaptVisit l eye) s (s.dev.adapterAt l) := by
  unfold Ends exec execAdaptVisit
  exact onDev_to h (if_pos ((adapterSkips_iff _ _).mpr hs)) rfl rfl

theorem adaptVisit_ends (eye : BitVec 16) (hs : ¬ s.dev.adapterSkips l) :
    Ends (.adaptVisit l eye) s ((s.dev.adapterAt l).visited l eye.toNat) := by
  unfold Ends exec execAdaptVisit
  refine onDev_to h ?_ (visited_gable _ _ _) (visited_fuses _ _ _)
  rw [if_neg (mt (adapterSkips_iff _ _).mp hs)]
  unfold Dev.visited Dev.eyeTaken
  simp [Dev.fon, Dev.finc, fget_fset_other, Dev.missesAfter, Dev.markedMarginal, Dev.free]

theorem adaptVisit_visits (eye : BitVec 16) (hs : ¬ s.dev.adapterSkips l) :
    Runs (.adaptVisit l eye) s fun x => x.fget LAN_STATUS.EYE l = eye.toNat ∧
      x.fget LAN_ADAPT.VISITS l = (s.dev.fget LAN_ADAPT.VISITS l + 1) % 2 ^ 32 ∧
      (x.lane l).misses = s.dev.missesAfter l eye.toNat ∧ (x.lane l).settings = s.dev.free ∧
      (x.fon LAN_STATUS.MARGINAL l = true ↔
        s.dev.fon LAN_STATUS.MARGINAL l = true ∨ max 1 (s.dev.fget LAN_ADAPT.MISS_VISITS l) ≤ s.dev.missesAfter l eye.toNat) ∧
      RegsBut [⟨.LAN_STATUS, l, 0⟩, ⟨.LAN_ADAPT, l, 0⟩, ⟨.FLT_UNIT_STAT, 128 + l.val / 16, 0⟩] s.dev x := by
  have hf (f : Fld) : (s.dev.adapterAt l).fget f l = s.dev.fget f l := adapterAt_keeps (·.fget f l) (fun _ _ => rfl) _ _
  have hl : (s.dev.adapterAt l).lane l = s.dev.lane l := adapterAt_keeps (·.lane l) (fun _ _ => rfl) _ _
  have hn : (s.dev.adapterAt l).missesAfter l eye.toNat = s.dev.missesAfter l eye.toNat := by
    rw [Dev.missesAfter, hf, hl, Dev.missesAfter]
  refine ⟨_, adaptVisit_ends h eye hs, visited_eye _ _ _ eye.isLt, ?_, ?_, ?_, ?_, ?_⟩
  · rw [visited_visits, hf]
  · rw [visited_lane, hn]
  · rw [visited_lane]
    exact adapterAt_keeps Dev.free (fun _ _ => rfl) _ _
  · rw [visited_marginal, hf, hn, Dev.fon, hf, Dev.fon]
  · exact fun r hr => (visited_regsBut _ _ _ r hr).trans (adapterAt_keeps (·.rd r) (fun _ _ => rfl) _ _)

end

end Sys2Proof.Machine
end

section
namespace Sys2Proof.Machine

/-! Margining (R189 to R191) -/

/-- A field of one bit that is on holds 1. -/
theorem fon_one {d : Dev} {f : Fld} {i j : Nat} (hw : f.w = 1) : d.fon f i j = true ↔ d.fget f i j = 1 := by
  have := fget_lt d f i j
  rw [hw] at this
  rw [Dev.fon, bne_iff_ne]
  omega

theorem decide_toNat_eq_one (p : Prop) [Decidable p] : (decide p).toNat % 2 ^ 1 = 1 ↔ p := by
  by_cases h : p <;> simp [h]

/-- The registers of a run that is cut. -/
def Dev.cutShown (d : Dev) (l cause : Nat) : Dev :=
  ((d.fset LAN_MARGIN_STAT.STATE 3 l).fset LAN_MARGIN_STAT.CAUSE cause l).fset LAN_MARGIN_CTRL.START 0 l

/-- The registers at the end of a run that counted `errors`. -/
def Dev.endShown (d : Dev) (l errors : Nat) : Dev :=
  (((d.fset LAN_MARGIN_STAT.ERRORS (min 63 errors) l).fset LAN_MARGIN_STAT.STATE 2 l).fset LAN_MARGIN_STAT.LIMIT_HIT
    (decide (max 1 (d.fget LAN_MARGIN_CTRL.ERR_LIMIT l) ≤ errors)).toNat l).fset LAN_MARGIN_CTRL.START 0 l

/-- The registers at the start of a run: no result. -/
def Dev.startShown (d : Dev) (l : Nat) : Dev :=
  (((d.fset LAN_MARGIN_STAT.ERRORS 0 l).fset LAN_MARGIN_STAT.LIMIT_HIT 0 l).fset LAN_MARGIN_STAT.CAUSE 0 l).fset
    LAN_MARGIN_STAT.STATE 1 l

/-- The two registers of a lane's margining. -/
def marginRegs (l : Nat) : List Reg := [⟨.LAN_MARGIN_STAT, l, 0⟩, ⟨.LAN_MARGIN_CTRL, l, 0⟩]

section
variable (d : Dev) (l cause : Nat)

theorem marginCut_eq : d.marginCut l cause = (d.cutShown l cause).setLane l { d.lane l with sampler := none } := rfl

theorem marginCut_shown (hc : cause < 8) : (d.marginCut l cause).fget LAN_MARGIN_STAT.STATE l = 3 ∧
    (d.marginCut l cause).fget LAN_MARGIN_STAT.CAUSE l = cause := by
  rw [marginCut_eq]
  constructor <;> simp [Dev.cutShown, fget_fset_other, fget_fset_same]
  omega

theorem marginCut_errors : (d.marginCut l cause).fget LAN_MARGIN_STAT.ERRORS l = d.fget LAN_MARGIN_STAT.ERRORS l := by
  rw [marginCut_eq]
  simp [Dev.cutShown, fget_fset_other]

theorem marginCut_limitHit : (d.marginCut l cause).fget LAN_MARGIN_STAT.LIMIT_HIT l = d.fget LAN_MARGIN_STAT.LIMIT_HIT l := by
  rw [marginCut_eq]
  simp [Dev.cutShown, fget_fset_other]

variable {d} {e : Dev} {l}

theorem OnlyRegs.cutShown (h : OnlyRegs (marginRegs l) d e) : OnlyRegs (marginRegs l) d (e.cutShown l cause) :=
  ((h.fset LAN_MARGIN_STAT.STATE _ l 0 (by simp [marginRegs])).fset LAN_MARGIN_STAT.CAUSE _ l 0 (by simp [marginRegs])).fset
    LAN_MARGIN_CTRL.START _ l 0 (by simp [marginRegs])

theorem startShown_onlyRegs (d : Dev) (l : Nat) : OnlyRegs (marginRegs l) d (d.startShown l) :=
  ((((onlyRegs_refl _ d).fset LAN_MARGIN_STAT.ERRORS _ l 0 (by simp [marginRegs])).fset LAN_MARGIN_STAT.LIMIT_HIT _ l 0
    (by simp [marginRegs])).fset LAN_MARGIN_STAT.CAUSE _ l 0 (by simp [marginRegs])).fset LAN_MARGIN_STAT.STATE _ l 0
    (by simp [marginRegs])

theorem endShown_onlyRegs (d : Dev) (l errors : Nat) : OnlyRegs (marginRegs l) d (d.endShown l errors) :=
  ((((onlyRegs_refl _ d).fset LAN_MARGIN_STAT.ERRORS _ l 0 (by simp [marginRegs])).fset LAN_MARGIN_STAT.STATE _ l 0
    (by simp [marginRegs])).fset LAN_MARGIN_STAT.LIMIT_HIT _ l 0 (by simp [marginRegs])).fset LAN_MARGIN_CTRL.START _ l 0
    (by simp [marginRegs])

end

section
variable {s : State} {l : Fin 512} (h : s.dev.inReset = false)
include h

theorem marginEnd_runs (errors : Nat) (hr : s.dev.fget LAN_MARGIN_STAT.STATE l = 1) :
    Runs (.marginEnd l errors) s fun x => x.fget LAN_MARGIN_STAT.STATE l = 2 ∧
      x.fget LAN_MARGIN_STAT.ERRORS l = min 63 errors ∧ x.fget LAN_MARGIN_CTRL.START l = 0 ∧
      (x.fon LAN_MARGIN_STAT.LIMIT_HIT l = true ↔ max 1 (s.dev.fget LAN_MARGIN_CTRL.ERR_LIMIT l) ≤ errors) ∧
      (x.lane l).sampler = none ∧ OnlyRegs (marginRegs l) s.dev { x with lanes := s.dev.lanes } := by
  unfold Runs Ends exec execMarginEnd
  refine ⟨(s.dev.endShown l errors).setLane l { s.dev.lane l with sampler := none }, onDev_to h ((if_pos hr).trans ?_) ?_ ?_,
    ?_, ?_, ?_, ?_, ?_, (endShown_onlyRegs _ _ _).setLane _ _⟩
  · simp [Dev.endShown, fget_fset_other, fset_setLane]
  · simp -implicitDefEqProofs [Dev.endShown]
  · simp -implicitDefEqProofs [Dev.endShown]
  · simp [Dev.endShown, fget_fset_other, fget_fset_same]
  · simp [Dev.endShown, fget_fset_other, fget_fset_same]
  · simp [Dev.endShown, fget_fset_same]
  · rw [fon_one rfl, fget_setLane, Dev.endShown, fget_fset_other _ _ _ _ _ _ _ _ (.inl (by decide)),
      fget_fset_same _ _ _ _ _ (by decide)]
    exact decide_toNat_eq_one _
  · simp

theorem marginEnd_idle (errors : Nat) (hr : ¬ s.dev.fget LAN_MARGIN_STAT.STATE l = 1) :
    exec (.marginEnd l errors) s = .next s := by
  unfold exec execMarginEnd
  exact onDev_idle h (if_neg hr)

end

/-- Why a run ends as it starts, if it does (R191): the state and the cause that it then shows. -/
def Dev.marginStarts (d : Dev) (l : Nat) : Nat × Nat :=
  if (d.lane l).remote then (3, 3)
  else if !(d.inTest l) && !(d.fon LAN_STATUS.ACTIVE l) then (3, 1)
  else if d.rxShed l then (3, 2) else (1, 0)

/-- What a start of margining comes to. -/
structure Dev.marginStarted (d : Dev) (l : Nat) (x : Dev) : Prop where
  gable : x.gable = d.gable
  fuses : x.fuses = d.fuses
  errors : x.fget LAN_MARGIN_STAT.ERRORS l = 0
  limitHit : x.fget LAN_MARGIN_STAT.LIMIT_HIT l = 0
  state : x.fget LAN_MARGIN_STAT.STATE l = (d.marginStarts l).1
  cause : x.fget LAN_MARGIN_STAT.CAUSE l = (d.marginStarts l).2
  only : OnlyRegs (marginRegs l) d { x with lanes := d.lanes }

theorem startShown_fget (d : Dev) (l : Nat) : (d.startShown l).fget LAN_MARGIN_STAT.ERRORS l = 0 ∧
    (d.startShown l).fget LAN_MARGIN_STAT.LIMIT_HIT l = 0 ∧ (d.startShown l).fget LAN_MARGIN_STAT.CAUSE l = 0 ∧
    (d.startShown l).fget LAN_MARGIN_STAT.STATE l = 1 := by
  refine ⟨?_, ?_, ?_, ?_⟩ <;> simp [Dev.startShown, fget_fset_other, fget_fset_same]

/-- A run that ends as it starts. -/
theorem marginCut_started (d : Dev) {l cause : Nat} (hc : cause < 8) (hs : d.marginStarts l = (3, cause)) :
    d.marginStarted l ((d.startShown l).marginCut l cause) where
  gable := by simp -implicitDefEqProofs [Dev.startShown]
  fuses := by simp -implicitDefEqProofs [marginCut_eq, Dev.cutShown, Dev.startShown]
  errors := (marginCut_errors _ _ _).trans (startShown_fget d l).1
  limitHit := (marginCut_limitHit _ _ _).trans (startShown_fget d l).2.1
  state := (marginCut_shown _ _ _ hc).1.trans (by rw [hs])
  cause := (marginCut_shown _ _ _ hc).2.trans (by rw [hs])
  only := by
    rw [marginCut_eq]
    exact ((startShown_onlyRegs d l).cutShown cause).setLane l _

/-- A run that goes on. -/
theorem sampling_started (d : Dev) {l : Nat} (x : LaneHid) (hs : d.marginStarts l = (1, 0)) :
    d.marginStarted l (((d.startShown l).fset LAN_MARGIN_CTRL.START 1 l).setLane l x) := by
  obtain ⟨he, hl, hc, hst⟩ := startShown_fget d l
  refine ⟨?_, ?_, ?_, ?_, ?_, ?_,
    ((startShown_onlyRegs d l).fset LAN_MARGIN_CTRL.START 1 l 0 (by simp [marginRegs])).setLane l x⟩
  · simp -implicitDefEqProofs [Dev.startShown]
  · simp -implicitDefEqProofs [Dev.startShown]
  · rw [fget_setLane, fget_fset_other _ _ _ _ _ _ _ _ (.inl (by decide)), he]
  · rw [fget_setLane, fget_fset_other _ _ _ _ _ _ _ _ (.inl (by decide)), hl]
  · rw [fget_setLane, fget_fset_other _ _ _ _ _ _ _ _ (.inl (by decide)), hst, hs]
  · rw [fget_setLane, fget_fset_other _ _ _ _ _ _ _ _ (.inl (by decide)), hc, hs]

/-- A run starts unless one goes on, with clear results, and ends at once where R191 says so. -/
theorem marginStart_started {d : Dev} {l : Nat} (hr : d.fget LAN_MARGIN_STAT.STATE l ≠ 1) :
    d.marginStarted l (d.marginStart l) := by
  have hv : d.portsAs (d.startShown l) := (startShown_onlyRegs d l).portsAs (by simp [marginRegs])
  have ha : ∀ k, (d.startShown l).rd ⟨.LAN_STATUS, k, 0⟩ = d.rd ⟨.LAN_STATUS, k, 0⟩ := fun k =>
    (startShown_onlyRegs d l).2 _ (by simp [marginRegs])
  have hp : (d.startShown l).ports = d.ports := by simp [Dev.startShown]
  have hl : (d.startShown l).lane l = d.lane l := by simp [Dev.startShown]
  have hx : d.marginStart l =
      if (d.lane l).remote then (d.startShown l).marginCut l 3
      else if !(d.inTest l) && !(d.fon LAN_STATUS.ACTIVE l) then (d.startShown l).marginCut l 1
      else if d.rxShed l then (d.startShown l).marginCut l 2
      else (((d.startShown l).fset LAN_MARGIN_CTRL.START 1 l).setLane l
        { d.lane l with sampler := some ((d.startShown l).samplerOf l) }) := by
    rw [← hv.inTest l, ← hv.rxShed hp (ha l), ← hl, ← show (d.startShown l).fon LAN_STATUS.ACTIVE l = d.fon LAN_STATUS.ACTIVE l from
      congrArg (fun v => bitsOf v 3 1 != 0) (ha l)]
    exact if_neg hr
  rw [hx]
  by_cases h3 : (d.lane l).remote = true
  · rw [if_pos h3]
    exact marginCut_started d (by decide) (if_pos h3)
  by_cases h1 : (!(d.inTest l) && !(d.fon LAN_STATUS.ACTIVE l)) = true
  · rw [if_neg h3, if_pos h1]
    exact marginCut_started d (by decide) ((if_neg h3).trans (if_pos h1))
  by_cases h2 : d.rxShed l = true
  · rw [if_neg h3, if_neg h1, if_pos h2]
    exact marginCut_started d (by decide) ((if_neg h3).trans ((if_neg h1).trans (if_pos h2)))
  · rw [if_neg h3, if_neg h1, if_neg h2]
    exact sampling_started d _ ((if_neg h3).trans ((if_neg h1).trans (if_neg h2)))

section
variable {s : State} {l : Fin 512} (ha : s.dev.answers = true) (hp : s.dev.phase ≠ phSoft)
include ha hp

theorem marginStart_idle (hr : s.dev.fget LAN_MARGIN_STAT.STATE l = 1) : exec (.marginStart l) s = .next s := by
  unfold exec execMarginStart
  exact onWaitingReg_to ha hp (if_pos hr) rfl rfl

theorem marginStart_runs (hr : ¬ s.dev.fget LAN_MARGIN_STAT.STATE l = 1) :
    Runs (.marginStart l) s (s.dev.marginStarted l) := by
  have hx := marginStart_started (d := s.dev) hr
  unfold Runs Ends exec execMarginStart
  exact ⟨_, onWaitingReg_to ha hp rfl hx.gable hx.fuses, hx⟩

end

/-- A run that the partner's command cuts: the errors that it had counted are below its limit. -/
theorem marginAbort_shown (d : Dev) (l : Nat) {cause : Nat} (hc : cause < 8) (hr : d.fget LAN_MARGIN_STAT.STATE l = 1) :
    let x := d.marginAbort l cause
    x.fget LAN_MARGIN_STAT.STATE l = 3 ∧ x.fget LAN_MARGIN_STAT.CAUSE l = cause ∧
      x.fget LAN_MARGIN_STAT.ERRORS l < max 1 (d.fget LAN_MARGIN_CTRL.ERR_LIMIT l) := by
  unfold Dev.marginAbort
  rw [if_pos hr]
  obtain ⟨h3, h4⟩ := marginCut_shown (d.fset LAN_MARGIN_STAT.ERRORS
    (d.free.toNat % max 1 (d.fget LAN_MARGIN_CTRL.ERR_LIMIT l)) l).used l cause hc
  refine ⟨h3, h4, ?_⟩
  rw [marginCut_errors, fget_used, fget_fset_same _ _ _ _ _ (by decide)]
  exact (Nat.mod_le _ _).trans_lt (Nat.mod_lt _ (by omega))

@[simp] theorem marginAbort_fuses (d : Dev) (l cause : Nat) : (d.marginAbort l cause).fuses = d.fuses := by
  simp -implicitDefEqProofs [Dev.marginAbort, marginCut_eq, Dev.cutShown]

section
variable {s : State} {l : Fin 512} (h : s.dev.inReset = false)
include h

theorem remoteMargin_unconfigured (hold : Bool) (hl : s.dev.portOfLane l = none) :
    exec (.remoteMargin l hold) s = .next s := by
  unfold exec execRemoteMargin
  exact onDev_idle h (by simp only [hl])

variable {p : Nat} (hl : s.dev.portOfLane l = some p)
include hl

theorem remoteMargin_lets : Runs (.remoteMargin l false) s fun x => (x.lane l).remote = false ∧ x.regs = s.dev.regs := by
  unfold Runs Ends exec execRemoteMargin
  exact ⟨s.dev.setLane l { s.dev.lane l with remote := false }, onDev_to h (by simp [hl]) rfl rfl, by simp, rfl⟩

theorem remoteMargin_holds (hu : s.dev.portUp p = true) (hm : s.dev.portMode p ≠ 4)
    (he : s.dev.fon LAN_PORT_CFG.REMOTE_MARGIN_EN (4 * p) = true) : Runs (.remoteMargin l true) s fun x =>
      (x.lane l).remote = true ∧ (s.dev.fget LAN_MARGIN_STAT.STATE l = 1 →
        (x.fget LAN_MARGIN_STAT.STATE l = 3 ∧ x.fget LAN_MARGIN_STAT.CAUSE l = 3) ∧
        x.fget LAN_MARGIN_STAT.ERRORS l < max 1 (s.dev.fget LAN_MARGIN_CTRL.ERR_LIMIT l)) := by
  unfold Runs Ends exec execRemoteMargin
  refine ⟨(s.dev.marginAbort l 3).setLane l { (s.dev.marginAbort l 3).lane l with remote := true },
    onDev_to h (by simp [hl, hu, hm, he]) ?_ ?_, ?_, fun hr => ?_⟩
  · simp
  · simp
  · simp
  · obtain ⟨h3, hc, hlt⟩ := marginAbort_shown s.dev l (cause := 3) (by decide) hr
    exact ⟨⟨(fget_setLane _ _ _ _ _ _).trans h3, (fget_setLane _ _ _ _ _ _).trans hc⟩, (fget_setLane _ _ _ _ _ _).trans_lt hlt⟩

theorem remoteMargin_refused (hn : s.dev.portUp p = false ∨ s.dev.portMode p = 4 ∨
    s.dev.fon LAN_PORT_CFG.REMOTE_MARGIN_EN (4 * p) = false) : exec (.remoteMargin l true) s = .next s := by
  unfold exec execRemoteMargin
  refine onDev_idle h ?_
  rcases hn with hn | hn | hn <;> simp [hl, hn]

end

end Sys2Proof.Machine
end

section
namespace Sys2Proof.Machine

/-! PRBS checkers (R192 to R194) -/

/-- Gray-coded bits, decoded, are the bits (R192). -/
theorem symbolBits_grayOf (bits : List Bool) (h : bits.length % 2 = 0) : (grayOf bits).flatMap (symbolBits true) = bits := by
  induction bits using grayOf.induct with
  | case1 a b bs ih =>
    have hbs : bs.length % 2 = 0 := by rw [List.length_cons, List.length_cons] at h; omega
    rw [grayOf, List.flatMap_cons, ih hbs]
    cases a <;> cases b <;> rfl
  | case2 bits hb =>
    match bits, hb, h with
    | [], _, _ => rfl
    | [_], _, h => simp at h
    | a :: b :: bs, hb, _ => exact (hb a b bs rfl).elim

/-- The registers that a checker's report writes. -/
def checkerRegs (l : Nat) : List Reg := [⟨.LAN_PRBS_BITS, l, 0⟩, ⟨.LAN_PRBS_ERR, l, 0⟩, ⟨.LAN_PRBS_STAT, l, 0⟩]

/-- The counts after a report of a checker (R194): they move on while it was locked, and no other register changes. -/
structure Dev.reported (d : Dev) (l bits errors : Nat) (x : Dev) : Prop where
  bits : x.fget LAN_PRBS_BITS.BITS l = if d.fon LAN_PRBS_STAT.LOCKED l then min (d.fget LAN_PRBS_BITS.BITS l + bits) (2 ^ 48 - 1)
    else d.fget LAN_PRBS_BITS.BITS l
  errors : x.fget LAN_PRBS_ERR.ERRORS l = if d.fon LAN_PRBS_STAT.LOCKED l then
      min (d.fget LAN_PRBS_ERR.ERRORS l + errors) (2 ^ 32 - 1)
    else d.fget LAN_PRBS_ERR.ERRORS l
  only : OnlyRegs (checkerRegs l) d x

/-- A saturating counter of its register reads so. -/
theorem fget_fadd_same (d : Dev) (f : Fld) (n i j : Nat) (h : f.lo + f.w ≤ 64) :
    (d.fadd f n i j).fget f i j = min (d.fget f i j + n) (2 ^ f.w - 1) := by
  rw [Dev.fadd, fget_fset_same _ _ _ _ _ h, satAdd]
  exact Nat.mod_eq_of_lt ((Nat.min_le_right _ _).trans_lt (Nat.sub_lt (by positivity) Nat.one_pos))

section
variable (d : Dev) (l bits errors : Nat)

theorem checked_reported : d.reported l bits errors (d.checked l bits errors) := by
  unfold Dev.checked
  by_cases hl : d.fon LAN_PRBS_STAT.LOCKED l = true
  · rw [if_pos hl]
    refine ⟨?_, ?_, ((onlyRegs_refl _ d).fset LAN_PRBS_BITS.BITS _ l 0 (by simp [checkerRegs])).fset LAN_PRBS_ERR.ERRORS _ l 0
      (by simp [checkerRegs])⟩
    · rw [if_pos hl, Dev.fadd, fget_fset_other _ _ _ _ _ _ _ _ (.inl (by decide)), fget_fadd_same _ _ _ _ _ (by decide)]
    · rw [if_pos hl, fget_fadd_same _ _ _ _ _ (by decide), Dev.fadd, fget_fset_other _ _ _ _ _ _ _ _ (.inl (by decide))]
  · rw [if_neg hl]
    exact ⟨(if_neg hl).symm, (if_neg hl).symm, onlyRegs_refl _ d⟩

/-- The checker's own state is none of its counts. -/
theorem checked_stat {f : Fld} (hf : f.k = .LAN_PRBS_STAT) : (d.checked l bits errors).fget f l = d.fget f l := by
  unfold Dev.checked
  split
  · rw [Dev.fadd, fget_fset_other _ _ _ _ _ _ _ _ (.inl (by rw [hf]; decide)), Dev.fadd,
      fget_fset_other _ _ _ _ _ _ _ _ (.inl (by rw [hf]; decide))]
  · rfl

variable {d l bits errors}

theorem Dev.reported.stat {x : Dev} (h : d.reported l bits errors x) {f : Fld} (hf : f.k = .LAN_PRBS_STAT) (n : Nat) :
    d.reported l bits errors (x.fset f n l) where
  bits := (fget_fset_other _ _ _ _ _ _ _ _ (.inl (by rw [hf]; decide))).trans h.bits
  errors := (fget_fset_other _ _ _ _ _ _ _ _ (.inl (by rw [hf]; decide))).trans h.errors
  only := h.only.fset f n l 0 (by simp [hf, checkerRegs])

theorem Dev.reported.gable {x : Dev} (h : d.reported l bits errors x) : x.gable = d.gable := h.only.state Dev.gable fun _ _ => rfl

theorem Dev.reported.fuses {x : Dev} (h : d.reported l bits errors x) : x.fuses = d.fuses := h.only.state Dev.fuses fun _ _ => rfl

/-- A checker that is not locked has counted nothing. -/
theorem reported_unlocked (h : d.fon LAN_PRBS_STAT.LOCKED l = false) : d.reported l bits errors d :=
  ⟨by rw [h]; rfl, by rw [h]; rfl, onlyRegs_refl _ d⟩

end

section
variable {s : State} {l : Fin 512} (h : s.dev.inReset = false)
include h

/-- Do the symbols that a checker has seen follow its pattern? -/
def Dev.follows (d : Dev) (l : Nat) (seen : List (Fin 4)) : Bool :=
  prbsLocks (d.fget LAN_PRBS_CTRL.PATTERN l) (d.fget LAN_PRBS_CTRL.USER_PATTERN l)
    (seen.flatMap (symbolBits (decide (5 ≤ d.testRate l))))

theorem checkerLock_runs {bits errors : Nat} {seen : List (Fin 4)} (hr : s.dev.checkerRuns l = true)
    (hl : s.dev.fon LAN_PRBS_STAT.LOCKED l = true ∨ s.dev.follows l seen = true) :
    Runs (.checkerLock l (bits, errors) seen) s fun x => x.fget LAN_PRBS_STAT.LOCKED l = 1 ∧ s.dev.reported l bits errors x := by
  unfold Runs Ends exec execCheckerLock
  by_cases hk : s.dev.fon LAN_PRBS_STAT.LOCKED l = true
  · have hx := checked_reported s.dev l bits errors
    refine ⟨_, onDev_to h (by simp [hr, hk]) hx.gable hx.fuses, ?_, hx⟩
    rw [checked_stat _ _ _ _ rfl]
    exact (fon_one rfl).mp hk
  · rw [Bool.not_eq_true] at hk
    have hx : s.dev.reported l bits errors (s.dev.fset LAN_PRBS_STAT.LOCKED 1 l) := (reported_unlocked hk).stat rfl 1
    have hf : s.dev.follows l seen = true := by simpa [hk] using hl
    refine ⟨_, onDev_to h ?_ hx.gable hx.fuses, fget_fset_same _ _ _ _ _ (by decide), hx⟩
    rw [Dev.follows] at hf
    simp [hr, hk, hf]

theorem checkerLock_idle (n : Nat × Nat) {seen : List (Fin 4)} (hn : s.dev.checkerRuns l = false ∨
    (s.dev.fon LAN_PRBS_STAT.LOCKED l = false ∧ s.dev.follows l seen = false)) :
    exec (.checkerLock l n seen) s = .next s := by
  unfold exec execCheckerLock
  refine onDev_idle h ?_
  rcases hn with hr | ⟨hk, hf⟩
  · simp [hr]
  · rw [Dev.follows] at hf
    simp [hk, hf]

theorem checkerLockLoss_runs {bits errors : Nat} (hr : s.dev.checkerRuns l = true) (hk : s.dev.fon LAN_PRBS_STAT.LOCKED l = true)
    (he : 256 < errors) : Runs (.checkerLockLoss l bits errors) s fun x => x.fget LAN_PRBS_STAT.LOCKED l = 0 ∧
      x.fget LAN_PRBS_STAT.LOCK_LOSS l = min 255 (s.dev.fget LAN_PRBS_STAT.LOCK_LOSS l + 1) ∧
      s.dev.reported l bits errors x := by
  unfold Runs Ends exec execCheckerLockLoss
  have hx : s.dev.reported l bits errors (((s.dev.checked l bits errors).fset LAN_PRBS_STAT.LOCKED 0 l).fadd LAN_PRBS_STAT.LOCK_LOSS 1 l) :=
    ((checked_reported s.dev l bits errors).stat rfl 0).stat rfl _
  refine ⟨_, onDev_to h (by simp [hr, hk, he]) hx.gable hx.fuses, ?_, ?_, hx⟩
  · rw [Dev.fadd, fget_fset_other _ _ _ _ _ _ _ _ (by simp), fget_fset_same _ _ _ _ _ (by decide)]
    rfl
  · rw [fget_fadd_same _ _ _ _ _ (by decide), fget_fset_other _ _ _ _ _ _ _ _ (by simp), checked_stat _ _ _ _ rfl]
    exact Nat.min_comm _ _

theorem checkerLockLoss_idle (bits : Nat) {errors : Nat} (hn : s.dev.checkerRuns l = false ∨
    s.dev.fon LAN_PRBS_STAT.LOCKED l = false ∨ errors ≤ 256) : exec (.checkerLockLoss l bits errors) s = .next s := by
  unfold exec execCheckerLockLoss
  refine onDev_idle h ?_
  rcases hn with hn | hn | hn <;> simp [hn]

end

section
variable {s : State} {l : Fin 512} (ha : s.dev.answers = true) (hp : s.dev.phase ≠ phSoft)
include ha hp

/-- The registers that a checker's start writes. -/
def checkerStartRegs (l : Nat) : List Reg :=
  [⟨.LAN_PRBS_CTRL, l, 0⟩, ⟨.LAN_PRBS_ERR, l, 0⟩, ⟨.LAN_PRBS_BITS, l, 0⟩, ⟨.LAN_PRBS_STAT, l, 0⟩]

theorem prbsChkEnable_starts (hc : s.dev.fon LAN_PRBS_CTRL.CHK_EN l = false) :
    Runs (.prbsChkEnable l) s fun x => x.fget LAN_PRBS_CTRL.CHK_EN l = 1 ∧ x.fget LAN_PRBS_ERR.ERRORS l = 0 ∧
      x.fget LAN_PRBS_BITS.BITS l = 0 ∧ x.fget LAN_PRBS_STAT.LOCK_LOSS l = 0 ∧ x.fget LAN_PRBS_STAT.LOCKED l = 0 ∧
      OnlyRegs (checkerStartRegs l) s.dev x := by
  unfold Runs Ends exec execPrbsChkEnable
  refine ⟨(s.dev.fset LAN_PRBS_CTRL.CHK_EN 1 l).checkerOn l, onWaitingReg_to ha hp (by simp [hc]) rfl rfl, ?_, ?_, ?_, ?_, ?_, ?_⟩
  · simp [Dev.checkerOn, fget_fset_other, fget_fset_same]
  · simp [Dev.checkerOn, fget_fset_other, fget_fset_same]
  · simp [Dev.checkerOn, fget_fset_other, fget_fset_same]
  · simp [Dev.checkerOn, fget_fset_other, fget_fset_same]
  · simp [Dev.checkerOn, fget_fset_same]
  · exact (((((onlyRegs_refl _ s.dev).fset LAN_PRBS_CTRL.CHK_EN 1 l 0 (by simp [checkerStartRegs])).fset LAN_PRBS_ERR.ERRORS 0 l 0
      (by simp [checkerStartRegs])).fset LAN_PRBS_BITS.BITS 0 l 0 (by simp [checkerStartRegs])).fset LAN_PRBS_STAT.LOCK_LOSS 0 l 0
      (by simp [checkerStartRegs])).fset LAN_PRBS_STAT.LOCKED 0 l 0 (by simp [checkerStartRegs])

theorem prbsChkEnable_idle (hc : s.dev.fon LAN_PRBS_CTRL.CHK_EN l = true) : exec (.prbsChkEnable l) s = .next s := by
  unfold exec execPrbsChkEnable
  exact onWaitingReg_to ha hp (if_pos hc) rfl rfl

end

/-! Injection (R195, R196) -/

/-- Is the lane one of an up port? -/
def Dev.ofUpPort (d : Dev) (l : Nat) : Prop := ∃ p, d.portOfLane l = some p ∧ d.portUp p = true

/-- The bits that an injection in a mode flips. -/
def Dev.injected (d : Dev) (l m : Nat) : Dev :=
  d.send (.inject l (if m = 2 ∨ m = 4 then d.fget LAN_PRBS_INJ.BURST_LEN l + 1 else 1))

/-- On a lane of an up port LIVE decides, and the debug lock. -/
theorem inject_up {d : Dev} {l : Nat} (m : Nat) (h : d.ofUpPort l) : d.inject l m =
    if d.fon LAN_PRBS_INJ.LIVE l = false then d
    else if d.fon CSP_STATUS.DEBUG_LOCK then d.fset LAN_PRBS_STAT.LIVE_REFUSED 1 l else d.injected l m := by
  obtain ⟨p, hp, hu⟩ := h
  unfold Dev.inject Dev.injected
  simp only [hp, hu, if_true, Bool.not_eq_true']

/-- On any other, the test. -/
theorem inject_notUp {d : Dev} {l : Nat} (m : Nat) (h : ¬ d.ofUpPort l) : d.inject l m =
    if d.inTest l = true ∧ d.txState l = 3 then d.injected l m else d := by
  unfold Dev.inject Dev.injected
  cases hp : d.portOfLane l with
  | none => simp
  | some p =>
    have hu : d.portUp p = false := Bool.not_eq_true _ ▸ fun hu => h ⟨p, hp, hu⟩
    simp [hu]

/-- What the commands of injection come to, for one that injects in mode `m`. -/
structure Injects (c : Instr) (s : State) (l m : Nat) : Prop where
  live : s.dev.ofUpPort l → s.dev.fon LAN_PRBS_INJ.LIVE l = true → s.dev.fon CSP_STATUS.DEBUG_LOCK = false →
    Ends c s (s.dev.injected l m)
  locked : s.dev.ofUpPort l → s.dev.fon LAN_PRBS_INJ.LIVE l = true → s.dev.fon CSP_STATUS.DEBUG_LOCK = true →
    Ends c s (s.dev.fset LAN_PRBS_STAT.LIVE_REFUSED 1 l)
  dead : s.dev.ofUpPort l → s.dev.fon LAN_PRBS_INJ.LIVE l = false → exec c s = .next s
  test : ¬ s.dev.ofUpPort l → s.dev.inTest l = true → s.dev.txState l = 3 → Ends c s (s.dev.injected l m)
  idle : ¬ s.dev.ofUpPort l → s.dev.inTest l = false ∨ s.dev.txState l ≠ 3 → exec c s = .next s

theorem injects_of {c : Instr} {s : State} {l m : Nat}
    (h : ∀ d, s.dev.inject l m = d → d.gable = s.dev.gable → d.fuses = s.dev.fuses → Ends c s d) : Injects c s l m := by
  refine ⟨fun hu hl hk => h _ ?_ rfl rfl, fun hu hl hk => h _ ?_ rfl rfl, fun hu hl => h _ ?_ rfl rfl,
    fun hu ht hx => h _ ?_ rfl rfl, fun hu hn => h _ ?_ rfl rfl⟩
  · simp [inject_up m hu, hl, hk]
  · simp [inject_up m hu, hl, hk]
  · simp [inject_up m hu, hl]
  · rw [inject_notUp m hu, if_pos ⟨ht, hx⟩]
  · refine (inject_notUp m hu).trans (if_neg fun hc => ?_)
    exact hn.elim (fun ht => by simp [ht] at hc) fun hx => hx hc.2

section
variable {s : State} {l : Fin 512} (ha : s.dev.answers = true) (hp : s.dev.phase ≠ phSoft)
include ha hp

theorem injectGo_injects (hm : s.dev.fget LAN_PRBS_INJ.MODE l = 1 ∨ s.dev.fget LAN_PRBS_INJ.MODE l = 2) :
    Injects (.injectGo l) s l (s.dev.fget LAN_PRBS_INJ.MODE l) :=
  injects_of fun d hd hg hf => by
    unfold Ends exec execInjectGo
    exact onWaitingReg_to ha hp ((if_pos hm).trans hd) hg hf

theorem injectGo_idle (h1 : s.dev.fget LAN_PRBS_INJ.MODE l ≠ 1) (h2 : s.dev.fget LAN_PRBS_INJ.MODE l ≠ 2) :
    exec (.injectGo l) s = .next s := by
  unfold exec execInjectGo
  exact onWaitingReg_to ha hp (if_neg (not_or.mpr ⟨h1, h2⟩)) rfl rfl

end

/-- Is a periodic injection due after `bits` bits (R212)? -/
def Dev.injectDue (d : Dev) (l bits : Nat) : Prop := 2 ^ min 40 (max 10 (d.fget LAN_PRBS_INJ.PERIOD_LOG2 l)) ≤ bits

section
variable {s : State} {l : Fin 512} (h : s.dev.inReset = false) {bits : Nat}
include h

theorem injectPeriodic_injects (hm : s.dev.fget LAN_PRBS_INJ.MODE l = 3 ∨ s.dev.fget LAN_PRBS_INJ.MODE l = 4)
    (hd : s.dev.injectDue l bits) : Injects (.injectPeriodic (l, bits)) s l (s.dev.fget LAN_PRBS_INJ.MODE l) :=
  injects_of fun d hi hg hf => by
    unfold Ends exec execInjectPeriodic
    exact onDev_to h ((if_pos ⟨hm, hd⟩).trans hi) hg hf

theorem injectPeriodic_idle (hn : (s.dev.fget LAN_PRBS_INJ.MODE l ≠ 3 ∧ s.dev.fget LAN_PRBS_INJ.MODE l ≠ 4) ∨
    ¬ s.dev.injectDue l bits) : exec (.injectPeriodic (l, bits)) s = .next s := by
  unfold exec execInjectPeriodic
  refine onDev_idle h (if_neg fun hc => ?_)
  exact hn.elim (fun hm => hc.1.elim hm.1 hm.2) fun hd => hd hc.2

end

end Sys2Proof.Machine
end

section
namespace Sys2Proof.Machine

/-- The clauses of an injecting command, as the statement orders them. -/
theorem Injects.clauses {c : Instr} {s : State} {l m : Nat} (h : Injects c s l m) :
    (s.dev.ofUpPort l → s.dev.fon LAN_PRBS_INJ.LIVE l = true → s.dev.fon CSP_STATUS.DEBUG_LOCK = false →
      Ends c s (s.dev.injected l m)) ∧
    (s.dev.ofUpPort l → s.dev.fon LAN_PRBS_INJ.LIVE l = true → s.dev.fon CSP_STATUS.DEBUG_LOCK = true →
      Ends c s (s.dev.fset LAN_PRBS_STAT.LIVE_REFUSED 1 l)) ∧
    (s.dev.ofUpPort l → s.dev.fon LAN_PRBS_INJ.LIVE l = false → exec c s = .next s) ∧
    (¬ s.dev.ofUpPort l → s.dev.inTest l = true → s.dev.txState l = 3 → Ends c s (s.dev.injected l m)) ∧
    (¬ s.dev.ofUpPort l → s.dev.inTest l = false ∨ s.dev.txState l ≠ 3 → exec c s = .next s) :=
  ⟨h.live, h.locked, h.dead, h.test, h.idle⟩

/-- A register write of a lane waits out a soft reset (R169). -/
theorem laneWrite_waits {s : State} (l : Fin 512) (ha : s.dev.answers = true) (hp : s.dev.phase = phSoft) :
    ∀ i ∈ [Instr.marginStart l, .prbsChkEnable l, .injectGo l], Ends i s { s.dev with held := s.dev.held ++ [i] } := by
  intro i hi
  simp only [List.mem_cons, List.not_mem_nil, or_false] at hi
  unfold Ends
  rcases hi with rfl | rfl | rfl
  · unfold exec execMarginStart
    exact onWaitingReg_waits _ s _ ha hp
  · unfold exec execPrbsChkEnable
    exact onWaitingReg_waits _ s _ ha hp
  · unfold exec execInjectGo
    exact onWaitingReg_waits _ s _ ha hp

/-- R191's states and causes at the start of a run. -/
theorem marginStarts_eq (d : Dev) (l : Nat) : d.marginStarts l =
    (if (d.lane l).remote = true ∨ (d.inTest l = false ∧ d.fon LAN_STATUS.ACTIVE l = false) ∨ d.rxShed l = true then 3 else 1,
      if (d.lane l).remote = true then 3 else if d.inTest l = false ∧ d.fon LAN_STATUS.ACTIVE l = false then 1
        else if d.rxShed l = true then 2 else 0) := by
  unfold Dev.marginStarts
  simp only [Bool.and_eq_true, Bool.not_eq_true']
  split_ifs <;> simp_all

/-- Settles O44, a command at a time. -/
theorem laneTests : Obligations.LaneTests := by
  unfold Obligations.LaneTests
  intro s l d running shown remote apart
  refine ⟨fun h => ⟨?_, ?_, ?_, ?_, ?_, ?_, ?_⟩, fun bits => symbolBits_grayOf bits, ?_, fun ha hp => ⟨?_, ?_, ?_, ?_, ?_⟩⟩
  · intro rate pre post r fs ok c
    exact ⟨coeffRequest_taken h rfl, fun ht => coeffRequest_rejected h rfl ht, coeffRequest_inTest h rate pre post⟩
  · intro eye skips n
    exact ⟨adaptVisit_skipped h eye, adaptVisit_visits h eye⟩
  · exact marginEnd_runs h
  · exact marginEnd_idle h
  · exact fun p hl => ⟨remoteMargin_lets h hl, remoteMargin_holds h hl, remoteMargin_refused h hl⟩
  · exact fun hl hold => remoteMargin_unconfigured h hold hl
  · intro bits errors locked counted fits
    refine ⟨fun seen hr hl => ?_, fun seen => checkerLock_idle h (bits, errors), fun hr hl he => ?_,
      checkerLockLoss_idle h bits⟩
    · obtain ⟨x, hx, h1, hc⟩ := checkerLock_runs h hr hl
      exact ⟨x, hx, h1, hc.bits, hc.errors, hc.only⟩
    · obtain ⟨x, hx, h0, hn, hc⟩ := checkerLockLoss_runs h hr hl he
      exact ⟨x, hx, h0, hn, hc.bits, hc.errors, hc.only⟩
  · exact fun i hi ha hp => laneWrite_waits l ha hp i hi
  · exact marginStart_idle ha hp
  · intro hr
    obtain ⟨x, hx, hm⟩ := marginStart_runs ha hp hr
    have hst := hm.state
    have hc := hm.cause
    rw [marginStarts_eq] at hst hc
    exact ⟨x, hx, hm.errors, hm.limitHit, ⟨hst, hc⟩, hm.only⟩
  · exact prbsChkEnable_starts ha hp
  · exact prbsChkEnable_idle ha hp
  · intro m up made live lock injects
    have h := inReset_of_answers ha
    refine ⟨fun hm => (injectGo_injects ha hp hm).clauses, injectGo_idle ha hp, fun bits => ?_⟩
    intro due
    exact ⟨fun hm hd => (injectPeriodic_injects h hm hd).clauses, injectPeriodic_idle h⟩

end Sys2Proof.Machine
end

section
namespace Sys2Proof.Machine

/-! A port's record beside its registers -/

@[simp] theorem lanePort_setLanePort_same (d : Dev) (p : Nat) (x : PortHid) : (d.setLanePort p x).lanePort p = x :=
  tab_get_set_same _ _ _ _
@[simp] theorem setLanePort_regs (d : Dev) (p : Nat) (x : PortHid) : (d.setLanePort p x).regs = d.regs := rfl
@[simp] theorem setLanePort_fuses (d : Dev) (p : Nat) (x : PortHid) : (d.setLanePort p x).fuses = d.fuses := rfl
@[simp] theorem setLanePort_tlk (d : Dev) (p : Nat) (x : PortHid) : (d.setLanePort p x).tlk = d.tlk := rfl
@[simp] theorem rd_setLanePort (d : Dev) (p : Nat) (x : PortHid) (r : Reg) : (d.setLanePort p x).rd r = d.rd r :=
  rd_congr rfl rfl r
@[simp] theorem fget_setLanePort (d : Dev) (p : Nat) (x : PortHid) (f : Fld) (i j : Nat) :
    (d.setLanePort p x).fget f i j = d.fget f i j := by rw [Dev.fget, rd_setLanePort, Dev.fget]
@[simp] theorem now_setLanePort (d : Dev) (p : Nat) (x : PortHid) : (d.setLanePort p x).now = d.now :=
  fget_setLanePort _ _ _ _ _ _
@[simp] theorem lanePort_fset (d : Dev) (f : Fld) (n i j p : Nat) : (d.fset f n i j).lanePort p = d.lanePort p := by
  rw [Dev.lanePort, fset_ports, Dev.lanePort]

theorem portsAs_setLanePort (d : Dev) (p : Nat) (x : PortHid) : d.portsAs (d.setLanePort p x) :=
  ⟨fun _ => rd_setLanePort _ _ _ _, fun _ => rd_setLanePort _ _ _ _⟩

theorem fallowRuns_setLanePort (d : Dev) (p : Nat) {x : PortHid} (hx : x.notice = (d.lanePort p).notice) :
    (d.setLanePort p x).fallowRuns p = d.fallowRuns p := by
  simp only [Dev.fallowRuns, (portsAs_setLanePort d p x).portUp, (portsAs_setLanePort d p x).portMode, Dev.fon, fget_setLanePort,
    lanePort_setLanePort_same, hx]

/-! The state of a transmit direction (R197 to R199) -/

/-- The register of a port's transmit direction. -/
def fallowRegs (p : Nat) : List Reg := [⟨.LAN_FALLOW_STAT, 4 * p, 0⟩]

theorem OnlyRegs.fallowRegs_portsAs {d e : Dev} {p : Nat} (h : OnlyRegs (fallowRegs p) d e) : d.portsAs e :=
  h.portsAs (by simp [fallowRegs])

section
variable (d : Dev) (p k w : Nat)

theorem fallow_onlyRegs : OnlyRegs (fallowRegs p) d (d.fallow p k) := by
  unfold Dev.fallow
  split
  · exact onlyRegs_refl _ d
  · exact ((onlyRegs_refl _ d).fset LAN_FALLOW_STAT.STATE _ _ _ (List.mem_singleton_self _)).fset LAN_FALLOW_STAT.CHANGES _ _ _
      (List.mem_singleton_self _)

theorem fallowTo_onlyRegs : OnlyRegs (fallowRegs p) d ((d.fallow p k).fallowWidth p w) :=
  (fallow_onlyRegs d p k).fset LAN_FALLOW_STAT.WIDTH _ _ _ (List.mem_singleton_self _)

@[simp] theorem fallow_fuses : (d.fallow p k).fuses = d.fuses := (fallow_onlyRegs d p k).state Dev.fuses fun _ _ => rfl
@[simp] theorem fallow_ports : (d.fallow p k).ports = d.ports := (fallow_onlyRegs d p k).state Dev.ports fun _ _ => rfl

theorem fallow_state (hk : k < 4) : (d.fallow p k).fget LAN_FALLOW_STAT.STATE (4 * p) = k := by
  unfold Dev.fallow
  split
  · assumption
  · simp [Dev.finc, fget_fset_other, fget_fset_same, Nat.mod_eq_of_lt hk]

theorem fallow_changes (hk : k ≠ d.fget LAN_FALLOW_STAT.STATE (4 * p)) : (d.fallow p k).fget LAN_FALLOW_STAT.CHANGES (4 * p) =
    (d.fget LAN_FALLOW_STAT.CHANGES (4 * p) + 1) % 2 ^ 32 := by
  rw [Dev.fallow, if_neg (Ne.symm hk)]
  simp [Dev.finc, fget_fset_other, fget_fset_same]

theorem lanePort_fallow (q : Nat) : (d.fallow p k).lanePort q = d.lanePort q := by rw [Dev.lanePort, fallow_ports, Dev.lanePort]

end

/-- A lane of a port that is up. -/
theorem txState_of_up {d : Dev} {j p : Nat} (hl : d.fon LAN_CTRL.LANE_EN j = true) (hp : d.portOfLane j = some p)
    (hu : d.portUp p = true) : d.txState j = if !(d.fon LAN_STATUS.ACTIVE j) || d.inL1 p then 0
      else if d.fget LAN_STATUS.LOGICAL j < d.txWidth p then 1 else 2 := by
  have hs : d.portState p = poUp := by simpa [Dev.portUp, Dev.portState] using hu
  unfold Dev.txState
  simp only [hl, hp, hs]
  rfl

/-- What a direction's entry in a state at a width shows. -/
structure Dev.movedTo (d : Dev) (p k w : Nat) (x : Dev) : Prop where
  state : x.fget LAN_FALLOW_STAT.STATE (4 * p) = k
  width : x.fget LAN_FALLOW_STAT.WIDTH (4 * p) = w
  changes : k ≠ d.fget LAN_FALLOW_STAT.STATE (4 * p) →
    x.fget LAN_FALLOW_STAT.CHANGES (4 * p) = (d.fget LAN_FALLOW_STAT.CHANGES (4 * p) + 1) % 2 ^ 32
  lane : d.portMode p = 4 → ∀ j, x.portOfLane j = some p → d.fon LAN_CTRL.LANE_EN j = true → d.fon LAN_STATUS.ACTIVE j = true →
    (d.lanePort p).l1 = 0 → x.txState j = if d.fget LAN_STATUS.LOGICAL j < w then 1 else 2

/-- A direction of a port that is up, once its notice, if it had one, is spent. -/
theorem fallowTo_moved {d : Dev} {p k w : Nat} {x : PortHid} (hu : d.portUp p = true) (hk : k < 4) (hw : w < 32)
    (hx : x.l1 = (d.lanePort p).l1) : d.movedTo p k w (((d.setLanePort p x).fallow p k).fallowWidth p w) := by
  set b := d.setLanePort p x with hb
  have only := fallowTo_onlyRegs b p k w
  have hpa := only.fallowRegs_portsAs
  have hrd : ∀ r, r.k ≠ .LAN_FALLOW_STAT → ((b.fallow p k).fallowWidth p w).rd r = d.rd r := fun r hr => by
    rw [only.2 r (by simp only [fallowRegs, List.mem_singleton]; exact fun h => hr (congrArg Reg.k h)), hb, rd_setLanePort]
  have hst : (b.fallow p k).fget LAN_FALLOW_STAT.STATE (4 * p) = k := fallow_state b p k hk
  have hch : k ≠ d.fget LAN_FALLOW_STAT.STATE (4 * p) → (b.fallow p k).fget LAN_FALLOW_STAT.CHANGES (4 * p) =
      (d.fget LAN_FALLOW_STAT.CHANGES (4 * p) + 1) % 2 ^ 32 := by
    simpa [hb] using fallow_changes b p k
  have hwd : ((b.fallow p k).fallowWidth p w).fget LAN_FALLOW_STAT.WIDTH (4 * p) = w := by
    simp [Dev.fallowWidth, fget_fset_same, Nat.mod_eq_of_lt hw]
  have hf : ∀ f : Fld, f.k ≠ .LAN_FALLOW_STAT → ∀ i, ((b.fallow p k).fallowWidth p w).fget f i = d.fget f i := fun f hf i => by
    rw [Dev.fget, hrd _ hf, Dev.fget]
  have hl1 : ((b.fallow p k).fallowWidth p w).inL1 p = ((d.lanePort p).l1 != 0) := by
    have hp : ((b.fallow p k).fallowWidth p w).ports = b.ports := only.state Dev.ports fun _ _ => rfl
    rw [Dev.inL1, hp, ← hx]
    exact congrArg (·.l1 != 0) (lanePort_setLanePort_same d p x)
  refine ⟨?_, hwd, fun h => ?_, fun hm j hj he ha h1 => ?_⟩
  · simp [Dev.fallowWidth, fget_fset_other, hst]
  · simp [Dev.fallowWidth, fget_fset_other, hch h]
  · rw [txState_of_up ((congrArg (· != 0) (hf _ (by decide) j)).trans he) hj
      ((hpa.portUp p).trans ((portsAs_setLanePort d p x).portUp p |>.trans hu)), hl1, h1, Dev.fon, hf _ (by decide),
      hf _ (by decide), Dev.txWidth, hpa.portMode, (portsAs_setLanePort d p x).portMode, hm, if_pos rfl, hwd,
      show (d.fget LAN_STATUS.ACTIVE j != 0) = true from ha]
    rfl

end Sys2Proof.Machine
end

section
namespace Sys2Proof.Machine

/-! The end of a fallow window (R197) -/

@[simp] theorem toSwath_fuses (d : Dev) : d.toSwath.fuses = d.fuses := by unfold Dev.toSwath; split <;> simp
@[simp] theorem toSwath_ports (d : Dev) : d.toSwath.ports = d.ports := by unfold Dev.toSwath; split <;> simp

theorem toSwath_rd (d : Dev) (r : Reg) (h : r ≠ ⟨.TIM_NOW, 0, 0⟩) : d.toSwath.rd r = d.rd r := by
  unfold Dev.toSwath
  split
  · rfl
  · exact upTo_rd _ _ _ h

/-- NOW is at a swath boundary. -/
theorem toSwath_now (d : Dev) : d.toSwath.now % 1024 = 0 := by
  unfold Dev.toSwath
  split
  · assumption
  · have hlt : d.now < nextMultiple d.now 1024 := by unfold nextMultiple; omega
    rw [Dev.upTo, if_pos hlt, Dev.now, fget_fset_same _ TIM_NOW.NOW _ _ _ (by decide), nextMultiple]
    show (d.now / 1024 + 1) * 1024 % 2 ^ 64 % 1024 = 0
    omega

/-- The device at the end of a port's fallow window. -/
def Dev.windowEnded (d : Dev) (p : Nat) : Dev :=
  (d.upTo ((d.lanePort p).windowAt + min 1024 (max 1 (d.fget LAN_FALLOW_CFG.WINDOW (4 * p))) * 1024)).toSwath

/-- Its record with a new window. -/
def Dev.newWindow (d : Dev) (p : Nat) : PortHid :=
  { d.lanePort p with used := 0, slots := 0, windowAt := (d.windowEnded p).now }

/-- May the policy narrow a direction to half its width? -/
abbrev Dev.narrows (d : Dev) (p : Nat) : Prop :=
  d.fget LAN_FALLOW_STAT.STATE (4 * p) ≤ 1 ∧
    (d.lanePort p).used * 100 ≤ d.fget LAN_FALLOW_CFG.LOW_PCT (4 * p) * (d.lanePort p).slots ∧
    (if d.fon LAN_FALLOW_CFG.MIN_WIDTH (4 * p) then 8 else 4) * 2 ≤ d.fget LAN_FALLOW_STAT.WIDTH (4 * p) ∧
    (2 * (d.lanePort p).used * 100 < d.fget LAN_FALLOW_CFG.HIGH_PCT (4 * p) * (d.lanePort p).slots ∨ (d.lanePort p).slots = 0)

/-- Does it wake the lanes that are shed? -/
abbrev Dev.widens (d : Dev) (p : Nat) : Prop :=
  d.fget LAN_FALLOW_STAT.STATE (4 * p) = 1 ∧
    d.fget LAN_FALLOW_CFG.HIGH_PCT (4 * p) * (d.lanePort p).slots ≤ (d.lanePort p).used * 100 ∧ (d.lanePort p).slots ≠ 0

theorem windowEnded_fget (d : Dev) (p : Nat) {f : Fld} (hf : f.k ≠ .TIM_NOW) (i : Nat) : (d.windowEnded p).fget f i = d.fget f i := by
  have hr : (⟨f.k, i, 0⟩ : Reg) ≠ ⟨.TIM_NOW, 0, 0⟩ := fun h => hf (congrArg Reg.k h)
  rw [Dev.fget, Dev.windowEnded, toSwath_rd _ _ hr, upTo_rd _ _ _ hr, Dev.fget]

theorem windowEnded_portsAs (d : Dev) (p : Nat) : d.portsAs (d.windowEnded p) :=
  ⟨fun _ => (toSwath_rd _ _ (by simp)).trans (upTo_rd _ _ _ (by simp)),
    fun _ => (toSwath_rd _ _ (by simp)).trans (upTo_rd _ _ _ (by simp))⟩

@[simp] theorem windowEnded_ports (d : Dev) (p : Nat) : (d.windowEnded p).ports = d.ports := by simp [Dev.windowEnded]

theorem windowEnded_fallowRuns (d : Dev) (p : Nat) : (d.windowEnded p).fallowRuns p = d.fallowRuns p := by
  have h := windowEnded_portsAs d p
  simp only [Dev.fallowRuns, h.portUp, h.portMode, Dev.fon, windowEnded_fget d p (f := LAN_FALLOW_CFG.FALLOW_EN) (by decide),
    windowEnded_fget d p (f := LAN_FALLOW_STAT.HELD) (by decide), Dev.lanePort, windowEnded_ports]

/-- The device at the window's end, its counts anew. -/
def Dev.windowCleared (d : Dev) (p : Nat) : Dev := (d.windowEnded p).setLanePort p (d.newWindow p)

/-- The device after the window's end. -/
def Dev.windowDone (d : Dev) (p : Nat) : Dev :=
  if d.fallowRuns p = false then d.windowCleared p
  else if d.narrows p then (d.windowCleared p).sendNotice p (d.fget LAN_FALLOW_STAT.WIDTH (4 * p) / 2)
  else if d.widens p then (d.windowCleared p).wake p false
  else d.windowCleared p

theorem windowCleared_fallowRuns (d : Dev) (p : Nat) : (d.windowCleared p).fallowRuns p = d.fallowRuns p := by
  rw [Dev.windowCleared, fallowRuns_setLanePort _ _ (by rw [Dev.lanePort, windowEnded_ports]; rfl), windowEnded_fallowRuns]

section
variable {s : State} {p : Fin 128} (h : s.dev.inReset = false)
include h

theorem fallowWindowEnd_ends : Ends (.fallowWindowEnd p) s (s.dev.windowDone p) := by
  unfold Ends exec execFallowWindowEnd
  refine onDev_to h ?_ ?_ ?_
  · dsimp only
    change (if !((s.dev.windowCleared p).fallowRuns p) then _ else _) = _
    rw [windowCleared_fallowRuns]
    simp only [← Dev.windowEnded.eq_1, windowEnded_fget s.dev p (f := LAN_FALLOW_STAT.STATE) (by decide), Dev.windowDone,
      windowEnded_fget s.dev p (f := LAN_FALLOW_STAT.WIDTH) (by decide), Bool.not_eq_true',
      windowEnded_fget s.dev p (f := LAN_FALLOW_CFG.LOW_PCT) (by decide), Dev.fon,
      windowEnded_fget s.dev p (f := LAN_FALLOW_CFG.HIGH_PCT) (by decide), Dev.narrows, Dev.widens,
      windowEnded_fget s.dev p (f := LAN_FALLOW_CFG.MIN_WIDTH) (by decide)]
    rfl
  · unfold Dev.windowDone
    simp -implicitDefEqProofs [Dev.windowCleared, Dev.windowEnded, Dev.sendNotice, Dev.wake, Dev.fallow]
  · unfold Dev.windowDone
    simp -implicitDefEqProofs [Dev.windowCleared, Dev.windowEnded, Dev.sendNotice, Dev.wake]

end

section
variable {d : Dev} {p : Nat}

theorem windowDone_now : (d.windowDone p).now % 1024 = 0 := by
  have hc : (d.windowCleared p).now % 1024 = 0 := by
    rw [Dev.windowCleared, now_setLanePort]
    exact toSwath_now _
  have hw : ((d.windowCleared p).fallow p 3).now = (d.windowCleared p).now :=
    congrArg (bitsOf · 0 64) ((fallow_onlyRegs _ p 3).2 _ (by simp [fallowRegs]))
  unfold Dev.windowDone Dev.sendNotice Dev.wake
  split_ifs <;> simp only [now_setLanePort, hw, hc]

theorem windowDone_clear (h : d.fallowRuns p = false ∨ ¬ d.narrows p ∧ ¬ d.widens p) : d.windowDone p = d.windowCleared p := by
  unfold Dev.windowDone
  rcases h with h | ⟨hn, hw⟩
  · rw [if_pos h]
  · rw [if_neg hn, if_neg hw, ite_self]

theorem windowDone_narrow (hr : d.fallowRuns p = true) (hn : d.narrows p) :
    d.windowDone p = (d.windowCleared p).sendNotice p (d.fget LAN_FALLOW_STAT.WIDTH (4 * p) / 2) := by
  rw [Dev.windowDone, if_neg (by simp [hr]), if_pos hn]

theorem windowDone_widen (hr : d.fallowRuns p = true) (hn : ¬ d.narrows p) (hw : d.widens p) :
    d.windowDone p = (d.windowCleared p).wake p false := by
  rw [Dev.windowDone, if_neg (by simp [hr]), if_neg hn, if_pos hw]

theorem wake_state (d : Dev) (p : Nat) (b : Bool) : (d.wake p b).fget LAN_FALLOW_STAT.STATE (4 * p) = 3 := by
  rw [Dev.wake, fget_setLanePort, fallow_state _ _ _ (by omega)]

theorem wake_fromSleep (d : Dev) (p : Nat) (b : Bool) : ((d.wake p b).lanePort p).fromSleep = b := by
  rw [Dev.wake, lanePort_setLanePort_same]

end

end Sys2Proof.Machine
end

section
namespace Sys2Proof.Machine

/-! Sleep, waking and notices (R198, R199, R270, R295) -/

/-- What is due arrives: NOW is that instant, or as it was where the instant is past. -/
theorem upTo_now_mod (d : Dev) (n : Nat) : (d.upTo n).now = max d.now n % 2 ^ 64 := by
  have hd : d.now < 2 ^ 64 := fget_lt d TIM_NOW.NOW 0 0
  unfold Dev.upTo
  split
  · rw [Dev.now, fget_fset_same _ TIM_NOW.NOW _ _ _ (by decide)]
    rw [Nat.max_eq_right (by omega)]
  · rw [Nat.max_eq_left (by omega), Nat.mod_eq_of_lt hd]

/-- No message is queued in the core for a port. -/
theorem inBuffer_free {d : Dev} {p : Nat} (h : ∀ m ∈ d.inBuffer, m.egress ≠ p) : (d.inBuffer.any fun m => m.egress == p) = false := by
  rw [List.any_eq_false]
  exact fun m hm => by simpa using h m hm

section
variable {s : State} {p : Fin 128} (h : s.dev.inReset = false)
include h

theorem fallowIdle_runs (hr : s.dev.fallowRuns p = true) (hs : s.dev.fon LAN_FALLOW_CFG.SLEEP_EN (4 * p) = true)
    (hst : s.dev.fget LAN_FALLOW_STAT.STATE (4 * p) ≤ 1) (hrep : (s.dev.tlkPort p).replay = []) (hn : (s.dev.tlkPort p).naks = [])
    (hd : (s.dev.tlkPort p).due = []) (hb : ∀ m ∈ s.dev.inBuffer, m.egress ≠ p.val) : Runs (.fallowIdle p) s fun x =>
      (x.lanePort p).notice = some 0 ∧ (x.lanePort p).count = 16 ∧
        (x.lanePort p).before = s.dev.fget LAN_FALLOW_STAT.WIDTH (4 * p) ∧
        x.now = max s.dev.now ((s.dev.lanePort p).lastFlit + max 1 (s.dev.fget LAN_FALLOW_CFG.IDLE (4 * p)) * 1024) % 2 ^ 64 := by
  unfold Runs Ends exec execFallowIdle
  refine ⟨_, onDev_to h (if_pos ?_) ?_ ?_, ?_⟩
  · simp [hr, hs, hst, hrep, hn, hd, inBuffer_free hb]
  · simp -implicitDefEqProofs [Dev.sendNotice]
  · simp -implicitDefEqProofs [Dev.sendNotice]
  · have hw : ∀ t, (s.dev.upTo t).fget LAN_FALLOW_STAT.WIDTH (4 * p) = s.dev.fget LAN_FALLOW_STAT.WIDTH (4 * p) := fun t =>
      congrArg (bitsOf · 2 5) (upTo_rd _ _ _ (by simp))
    simp only [Dev.sendNotice, lanePort_setLanePort_same, now_setLanePort, hw, upTo_now_mod, and_self]

theorem fallowIdle_idle (hr : s.dev.fallowRuns p = false) : exec (.fallowIdle p) s = .next s := by
  unfold exec execFallowIdle
  exact onDev_idle h (if_neg (by simp [hr]))

theorem fallowWake_runs (hu : s.dev.portUp p = true) (hm : s.dev.portMode p = 4)
    (hst : s.dev.fget LAN_FALLOW_STAT.STATE (4 * p) = 2) : Runs (.fallowWake p) s fun x =>
      x.fget LAN_FALLOW_STAT.STATE (4 * p) = 3 ∧ (x.lanePort p).fromSleep = true ∧ RegsBut (fallowRegs p) s.dev x := by
  unfold Runs Ends exec execFallowWake
  refine ⟨s.dev.wake p true, onDev_to h (if_pos (by simp [hu, hm, hst])) ?_ ?_, wake_state _ _ _, wake_fromSleep _ _ _, ?_⟩
  · simp -implicitDefEqProofs [Dev.wake, Dev.fallow]
  · simp -implicitDefEqProofs [Dev.wake]
  · exact fun r hr => (rd_setLanePort _ _ _ _).trans ((fallow_onlyRegs _ _ _).2 r hr)

theorem fallowWake_idle (hn : ¬ s.dev.portUp p = true ∨ ¬ s.dev.portMode p = 4 ∨
    s.dev.fget LAN_FALLOW_STAT.STATE (4 * p) ≠ 2) : exec (.fallowWake p) s = .next s := by
  unfold exec execFallowWake
  refine onDev_idle h (if_neg ?_)
  simp only [Bool.and_eq_true, beq_iff_eq]
  tauto

theorem lanesReady_fromSleep (hu : s.dev.portUp p = true) (hst : s.dev.fget LAN_FALLOW_STAT.STATE (4 * p) = 3)
    (hf : (s.dev.lanePort p).fromSleep = true) (hb : (s.dev.lanePort p).before < 32) : Runs (.lanesReady p) s fun x =>
      s.dev.movedTo p (if (s.dev.lanePort p).before = s.dev.fget CXP_LINK_STAT.WIDTH p then 0 else 1) (s.dev.lanePort p).before x ∧
      (x.lanePort p).fromSleep = false := by
  unfold Runs Ends exec execLanesReady
  refine ⟨_, onDev_to h ((if_neg (by simp [hu, hst])).trans (if_pos hf)) ?_ ?_, fallowTo_moved hu ?_ hb rfl, ?_⟩
  · simp -implicitDefEqProofs [Dev.fallowWidth, Dev.fallow]
  · simp -implicitDefEqProofs [Dev.fallowWidth]
  · split <;> omega
  · rw [Dev.fallowWidth, lanePort_fset, lanePort_fallow, lanePort_setLanePort_same]

theorem lanesReady_announces (hu : s.dev.portUp p = true) (hst : s.dev.fget LAN_FALLOW_STAT.STATE (4 * p) = 3)
    (hf : (s.dev.lanePort p).fromSleep = false) (hn : (s.dev.lanePort p).notice = none) : Ends (.lanesReady p) s
      (s.dev.setLanePort p { s.dev.lanePort p with notice := some (s.dev.fget CXP_LINK_STAT.WIDTH p), count := 16 }) := by
  unfold Ends exec execLanesReady
  exact onDev_to h ((if_neg (by simp [hu, hst])).trans ((if_neg (by simp [hf])).trans (if_pos (by simp [hn])))) rfl rfl

theorem lanesReady_idle (hn : ¬ s.dev.portUp p = true ∨ s.dev.fget LAN_FALLOW_STAT.STATE (4 * p) ≠ 3) :
    exec (.lanesReady p) s = .next s := by
  unfold exec execLanesReady
  refine onDev_idle h (if_pos ?_)
  simpa using hn

end

section
variable {d : Dev} {p n : Nat}

/-- A notice that has left in its flits, SLEEP only while nothing is unacknowledged or due. -/
theorem noticeTakes_effect (hn : (d.lanePort p).notice = some n) (hc : (d.lanePort p).count = 0)
    (hz : n = 0 → (d.tlkPort p).replay = [] ∧ (d.tlkPort p).naks = [] ∧ (d.tlkPort p).due = []) : d.noticeTakes p =
      ((d.setLanePort p { d.lanePort p with notice := none }).fallow p
        (if n = 0 then 2 else if n = d.fget CXP_LINK_STAT.WIDTH p then 0 else 1)).fallowWidth p n := by
  have hs : ¬ ((d.lanePort p).count ≠ 0 ∨
      (n = 0 ∧ !((d.tlkPort p).replay.isEmpty && (d.tlkPort p).naks.isEmpty && (d.tlkPort p).due.isEmpty))) := by
    rintro (h | ⟨h0, h⟩)
    · exact h hc
    · simp [hz h0] at h
  unfold Dev.noticeTakes
  simp only [hn, if_neg hs, fget_setLanePort]
  by_cases h0 : n = 0
  · subst h0
    rfl
  · rw [if_neg h0, if_neg h0]

theorem noticeTakes_waits (h : (d.lanePort p).notice = none ∨ (d.lanePort p).count ≠ 0) : d.noticeTakes p = d := by
  unfold Dev.noticeTakes
  cases hn : (d.lanePort p).notice with
  | none => simp only [hn]
  | some n =>
    simp only [hn]
    exact if_pos (Or.inl (h.resolve_left (by simp [hn])))

end

end Sys2Proof.Machine
end

section
namespace Sys2Proof.Machine

/-! Notices that take effect (R270), and lanes that come back (R188) -/

@[simp] theorem fastAdapt_ports (d : Dev) (l : Nat) : (d.fastAdapt l).ports = d.ports := by rw [Dev.fastAdapt, used_ports]; rfl
@[simp] theorem fastAdapt_tlk (d : Dev) (l : Nat) : (d.fastAdapt l).tlk = d.tlk := by rw [Dev.fastAdapt, used_tlk]; rfl
@[simp] theorem fastAdapt_regs (d : Dev) (l : Nat) : (d.fastAdapt l).regs = d.regs := rfl
@[simp] theorem fastAdapt_adapters (d : Dev) (l : Nat) : (d.fastAdapt l).adapters = d.adapters := rfl
@[simp] theorem fastAdapt_gable (d : Dev) (l : Nat) : (d.fastAdapt l).gable = d.gable := by
  simp -implicitDefEqProofs [Dev.fastAdapt]
@[simp] theorem fastAdapt_fuses (d : Dev) (l : Nat) : (d.fastAdapt l).fuses = d.fuses := by
  simp -implicitDefEqProofs [Dev.fastAdapt]
@[simp] theorem marginAbort_ports (d : Dev) (l c : Nat) : (d.marginAbort l c).ports = d.ports := by
  unfold Dev.marginAbort Dev.marginCut
  split <;> rfl
@[simp] theorem marginAbort_tlk (d : Dev) (l c : Nat) : (d.marginAbort l c).tlk = d.tlk := by
  unfold Dev.marginAbort Dev.marginCut
  split <;> rfl

/-- A lane back from L1 or fallow is taken up by its adapter's next lap. -/
theorem fastAdapt_fromLap (d : Dev) (l : Nat) : ((d.fastAdapt l).lane l).fromLap = d.lapOf l + 1 := by
  rw [Dev.fastAdapt, lane_used, lane_setLane_same]

theorem fastAdapt_lane_other (d : Dev) {l k : Nat} (h : k ≠ l) : (d.fastAdapt l).lane k = d.lane k := by
  rw [Dev.fastAdapt, lane_used]
  exact tab_get_set_other _ _ _ _ _ h

theorem fastAdapt_lapOf (d : Dev) (l k : Nat) : (d.fastAdapt l).lapOf k = d.lapOf k := rfl

theorem fastAdapt_foldl_fromLap (ls : List Nat) (d : Dev) {k : Nat}
    (hk : k ∈ ls ∨ (d.lane k).fromLap = d.lapOf k + 1) : ((ls.foldl Dev.fastAdapt d).lane k).fromLap = d.lapOf k + 1 := by
  induction ls generalizing d with
  | nil => exact hk.resolve_left (List.not_mem_nil)
  | cons l ls ih =>
    rw [List.foldl_cons, ih, fastAdapt_lapOf]
    rw [fastAdapt_lapOf]
    by_cases hl : k = l
    · subst hl
      exact Or.inr (fastAdapt_fromLap d k)
    · rw [fastAdapt_lane_other d hl]
      exact hk.imp_left fun hm => (List.mem_cons.mp hm).resolve_left hl

/-- The lanes of the partner's direction keep what neither an abort of margining nor a fast adaptation changes. -/
theorem rxWidth_keeps {β : Type} (g : Dev → β) (hm : ∀ e l, g (Dev.marginAbort e l 2) = g e) (hf : ∀ e l, g (Dev.fastAdapt e l) = g e)
    (d : Dev) (p w : Nat) : g (d.rxWidth p w) = g (d.setLanePort p { d.lanePort p with
      rxWidth := if d.fget CXP_LINK_STAT.WIDTH p ≤ w then none else some w }) := by
  unfold Dev.rxWidth
  dsimp only
  refine foldl_keeps g _ (fun e l => ?_) _ _
  split_ifs
  · exact hm e l
  · exact hf e l
  · rfl

section
variable {s : State} {p : Fin 128} (h : s.dev.inReset = false)
include h

section
variable (hu : s.dev.portUp p = true) (hm : s.dev.portMode p = 4)
include hu hm

theorem noticeEffect_runs {n : Nat} (hn : (s.dev.lanePort p).notice = some n) (hw : n < 32) (hc : (s.dev.lanePort p).count = 0)
    (hz : n = 0 → (s.dev.tlkPort p).replay = [] ∧ (s.dev.tlkPort p).naks = [] ∧ (s.dev.tlkPort p).due = []) :
    Runs (.noticeEffect p false) s fun x =>
      s.dev.movedTo p (if n = 0 then 2 else if n = s.dev.fget CXP_LINK_STAT.WIDTH p then 0 else 1) n x ∧
        (x.lanePort p).notice = none := by
  unfold Runs Ends exec execNoticeEffect
  refine ⟨_, onDev_to h ((if_neg (by simp [hu, hm])).trans (noticeTakes_effect hn hc hz)) ?_ ?_, fallowTo_moved hu ?_ hw rfl, ?_⟩
  · simp -implicitDefEqProofs [Dev.fallowWidth, Dev.fallow]
  · simp -implicitDefEqProofs [Dev.fallowWidth]
  · split_ifs <;> omega
  · rw [Dev.fallowWidth, lanePort_fset, lanePort_fallow, lanePort_setLanePort_same]

theorem noticeEffect_waits (hw : (s.dev.lanePort p).notice = none ∨ (s.dev.lanePort p).count ≠ 0) :
    exec (.noticeEffect p false) s = .next s := by
  unfold exec execNoticeEffect
  exact onDev_idle h ((if_neg (by simp [hu, hm])).trans (noticeTakes_waits hw))

theorem noticeEffect_unannounced (hn : (s.dev.tlkPort p).noticeRx = none) :
    Ends (.noticeEffect p true) s (s.dev.tlkRecovery p) := by
  unfold Ends exec execNoticeEffect
  refine onDev_to h ((if_neg (by simp [hu, hm])).trans ?_) ?_ ?_
  · simp only [hn]
    rfl
  · unfold Dev.tlkRecovery
    simp -implicitDefEqProofs
  · unfold Dev.tlkRecovery
    split <;> rfl

/-- The width that a partner's notice names (R270). -/
def noticeLanes (n : Nat) : Nat := if n = 1 then 4 else if n = 2 then 8 else if n = 3 then 16 else 0

theorem noticeEffect_partner {n : Nat} (hn : (s.dev.tlkPort p).noticeRx = some n) : Runs (.noticeEffect p true) s fun x =>
    (x.tlkPort p).noticeRx = none ∧ (x.lanePort p).rxWidth =
      if s.dev.fget CXP_LINK_STAT.WIDTH p ≤ noticeLanes n then none else some (noticeLanes n) := by
  unfold Runs Ends exec execNoticeEffect
  refine ⟨(s.dev.setTlk p { s.dev.tlkPort p with noticeRx := none }).rxWidth p (noticeLanes n),
    onDev_to h ((if_neg (by simp [hu, hm])).trans ?_) ?_ ?_, ?_, ?_⟩
  · simp only [hn, noticeLanes]
    rcases n with _ | _ | _ | _ | n <;> rfl
  · rw [rxWidth_keeps Dev.gable (fun e l => by simp) (fun e l => by simp)]
    simp -implicitDefEqProofs
  · rw [rxWidth_keeps Dev.fuses (fun e l => by simp) (fun e l => by simp)]
    rfl
  · rw [Dev.tlkPort, rxWidth_keeps Dev.tlk (fun e l => by simp) (fun e l => by simp), setLanePort_tlk]
    exact congrArg TlkPort.noticeRx (tab_get_set_same _ _ _ _)
  · rw [Dev.lanePort, rxWidth_keeps Dev.ports (fun e l => by simp) (fun e l => by simp)]
    exact congrArg PortHid.rxWidth (lanePort_setLanePort_same _ _ _)

end

theorem noticeEffect_idle (hn : ¬ s.dev.portUp p = true ∨ ¬ s.dev.portMode p = 4) (b : Bool) :
    exec (.noticeEffect p b) s = .next s := by
  unfold exec execNoticeEffect
  exact onDev_idle h (if_pos (by simpa using hn))

end

/-! L0p and L1 (R203, R204) -/

/-- A port in an L1: its lanes idle, no register of its own changed. -/
structure Dev.idlesIn (d : Dev) (p k : Nat) (x : Dev) : Prop where
  l1 : (x.lanePort p).l1 = k
  lane : ∀ j, x.portOfLane j = some p → x.txState j = 0
  regs : RegsBut [⟨.TIM_NOW, 0, 0⟩] d x

theorem enterL1_idlesIn {d e : Dev} {p k : Nat} (hu : d.portUp p = true) (hk : k ≠ 0) (he : RegsBut [⟨.TIM_NOW, 0, 0⟩] d e) :
    d.idlesIn p k (e.enterL1 p k) := by
  have hr : RegsBut [⟨.TIM_NOW, 0, 0⟩] d (e.enterL1 p k) := fun r h => (rd_setLanePort _ _ _ _).trans (he r h)
  have hpa : d.portsAs (e.enterL1 p k) := ⟨fun _ => hr _ (by simp), fun _ => hr _ (by simp)⟩
  have hl : ((e.enterL1 p k).lanePort p).l1 = k := by rw [Dev.enterL1, lanePort_setLanePort_same]
  refine ⟨hl, fun j hj => ?_, hr⟩
  by_cases hen : (e.enterL1 p k).fon LAN_CTRL.LANE_EN j = true
  · have hin : (e.enterL1 p k).inL1 p = true := (congrArg (· != 0) hl).trans (bne_iff_ne.mpr hk)
    rw [txState_of_up hen hj (by rw [hpa.portUp, hu]), hin, Bool.or_true, if_pos rfl]
  · unfold Dev.txState
    rw [if_pos (by simpa using hen)]

/-- A width that L0p takes next (R203). -/
theorem l0pStep_iff (full cur n : Nat) : l0pStep full cur n = true ↔
    (n = full ∨ (n = 4 ∨ n = 8) ∧ n < full) ∧ (2 * n = cur ∨ cur ≤ n) := by
  simp only [l0pStep, Bool.and_eq_true, Bool.or_eq_true, beq_iff_eq, decide_eq_true_eq]
  omega

/-- R203: when a request for L0p at `n` lanes is granted. -/
abbrev Dev.l0pGranted (d : Dev) (p n : Nat) : Prop :=
  d.fon LAN_PORT_CFG.L0P_EN (4 * p) = true ∧ 2 ≤ d.fget CXP_LINK_STAT.FLIT p ∧ 5 ≤ d.fget CXP_LINK_STAT.RATE p ∧
    (n = d.fget CXP_LINK_STAT.WIDTH p ∨ ((n = 4 ∨ n = 8) ∧ n < d.fget CXP_LINK_STAT.WIDTH p ∧ d.ridgeHeld p = false)) ∧
    (2 * n = d.txWidth p ∨ d.txWidth p ≤ n)

theorem l0pGranted_iff (d : Dev) (p n : Nat) : (d.fon LAN_PORT_CFG.L0P_EN (4 * p) && decide (2 ≤ d.fget CXP_LINK_STAT.FLIT p) &&
    decide (5 ≤ d.fget CXP_LINK_STAT.RATE p) && l0pStep (d.fget CXP_LINK_STAT.WIDTH p) (d.txWidth p) n &&
    (n == d.fget CXP_LINK_STAT.WIDTH p || !(d.ridgeHeld p))) = true ↔ d.l0pGranted p n := by
  simp only [Bool.and_eq_true, Bool.or_eq_true, beq_iff_eq, decide_eq_true_eq, l0pStep_iff, Bool.not_eq_true']
  tauto

/-- R204: when a host's request for ASPM L1 is granted. -/
abbrev Dev.aspmGranted (d : Dev) (p : Nat) : Prop :=
  d.portMode p = 2 ∧ d.fon LAN_PORT_CFG.ASPM_L1_EN (4 * p) = true ∧ d.ridgeHeld p = false

section
variable {s : State} {p : Fin 128} (h : s.dev.inReset = false)
include h

section
variable (hu : s.dev.portUp p = true) (hm : ¬ s.dev.portMode p = 4)
include hu hm

theorem l0pRequest_granted {n : Nat} (hg : s.dev.l0pGranted p n) : Ends (.l0pRequest p (.l0p n)) s
    (s.dev.setLanePort p { s.dev.lanePort p with l0p := if n = s.dev.fget CXP_LINK_STAT.WIDTH p then 0 else n }) := by
  unfold Ends exec execL0pRequest
  exact onDev_to h ((if_neg (by simp [hu, hm])).trans (if_pos ((l0pGranted_iff _ _ _).mpr hg))) rfl rfl

theorem l0pRequest_refused {n : Nat} (hg : ¬ s.dev.l0pGranted p n) :
    Ends (.l0pRequest p (.l0p n)) s (s.dev.send (.log "link power request refused" p)) := by
  unfold Ends exec execL0pRequest
  exact onDev_to h ((if_neg (by simp [hu, hm])).trans (if_neg (mt (l0pGranted_iff _ _ _).mp hg))) rfl rfl

theorem aspmL1_granted (hg : s.dev.aspmGranted p) : Runs (.l0pRequest p .aspmL1) s (s.dev.idlesIn p 1) := by
  unfold Runs Ends exec execL0pRequest
  refine ⟨s.dev.enterL1 p 1, onDev_to h ((if_neg (by simp [hu, hm])).trans (if_pos ?_)) rfl rfl,
    enterL1_idlesIn hu one_ne_zero fun _ _ => rfl⟩
  obtain ⟨hm, hen, hr⟩ := hg
  simp [hm, hen, hr]

theorem aspmL1_refused (hg : ¬ s.dev.aspmGranted p) :
    Ends (.l0pRequest p .aspmL1) s (s.dev.send (.log "link power request refused" p)) := by
  unfold Ends exec execL0pRequest
  refine onDev_to h ((if_neg (by simp [hu, hm])).trans (if_neg (mt (fun hb => ?_) hg))) rfl rfl
  simpa [and_assoc] using hb

theorem pciPmL1_runs : Runs (.l0pRequest p .pciPmL1) s (s.dev.idlesIn p 2) := by
  unfold Runs Ends exec execL0pRequest
  exact ⟨s.dev.enterL1 p 2, onDev_to h (if_neg (by simp [hu, hm])) rfl rfl, enterL1_idlesIn hu two_ne_zero fun _ _ => rfl⟩

end

theorem aspmL1Entry_runs (hu : s.dev.portUp p = true) (hm : s.dev.portMode p = 1)
    (hen : s.dev.fon LAN_PORT_CFG.ASPM_L1_EN (4 * p) = true) (hr : s.dev.ridgeHeld p = false) (hl : (s.dev.lanePort p).l1 = 0)
    (hb : ∀ m ∈ s.dev.inBuffer, m.egress ≠ p.val) : Runs (.aspmL1Entry p true) s fun x => s.dev.idlesIn p 1 x ∧
      x.now = max s.dev.now ((s.dev.lanePort p).lastFlit + (s.dev.fget LAN_PORT_CFG.L1_IDLE (4 * p) + 1) * 1000) % 2 ^ 64 := by
  unfold Runs Ends exec execAspmL1Entry
  refine ⟨_, onDev_to h (if_pos (by simp [hu, hm, hen, hr, hl, inBuffer_free hb])) ?_ ?_,
    enterL1_idlesIn hu one_ne_zero fun r hr => upTo_rd _ _ _ (by simpa using hr), ?_⟩
  · simp -implicitDefEqProofs [Dev.enterL1]
  · simp -implicitDefEqProofs [Dev.enterL1]
  · rw [Dev.enterL1, now_setLanePort, upTo_now_mod]

theorem aspmL1Entry_disabled : exec (.aspmL1Entry p false) s = .next s := by
  unfold exec execAspmL1Entry
  exact onDev_idle h (if_neg (by simp))

theorem l1Exit_runs (hu : s.dev.portUp p = true) (hl : (s.dev.lanePort p).l1 ≠ 0) : Runs (.l1Exit p) s fun x =>
    (x.lanePort p).l1 = 0 ∧ x.regs = s.dev.regs ∧
      ∀ k ∈ s.dev.lanesOf p, s.dev.fon LAN_STATUS.ACTIVE k = true → (x.lane k).fromLap = s.dev.lapOf k + 1 := by
  have hin : s.dev.inL1 p = true := bne_iff_ne.mpr hl
  unfold Runs Ends exec execL1Exit
  refine ⟨_, onDev_to h (if_pos (by simp [hu, hin])) ?_ ?_, ?_, ?_, fun k hk ha => ?_⟩
  · rw [foldl_keeps Dev.gable _ fastAdapt_gable]
    simp -implicitDefEqProofs
  · rw [foldl_keeps Dev.fuses _ fastAdapt_fuses]
    rfl
  · rw [Dev.lanePort, foldl_keeps Dev.ports _ fastAdapt_ports]
    exact congrArg PortHid.l1 (lanePort_setLanePort_same _ _ _)
  · rw [foldl_keeps Dev.regs _ fastAdapt_regs]
    rfl
  · exact fastAdapt_foldl_fromLap _ _ (Or.inl (List.mem_filter.mpr ⟨hk, ha⟩))

theorem l1Exit_idle (hn : ¬ s.dev.portUp p = true ∨ (s.dev.lanePort p).l1 = 0) : exec (.l1Exit p) s = .next s := by
  have hin : s.dev.inL1 p = ((s.dev.lanePort p).l1 != 0) := rfl
  unfold exec execL1Exit
  refine onDev_idle h (if_neg ?_)
  rw [hin, Bool.and_eq_true, bne_iff_ne]
  tauto

end

end Sys2Proof.Machine
end

section
namespace Sys2Proof.Machine

theorem windowCleared_shown (d : Dev) (p : Nat) :
    (d.windowCleared p).lanePort p = d.newWindow p ∧ (d.windowCleared p).regs = (d.windowEnded p).regs :=
  ⟨lanePort_setLanePort_same _ _ _, setLanePort_regs _ _ _⟩

/-- Settles O45, a command at a time. -/
theorem linkPower : Obligations.LinkPower := by
  intro s p h d l hid st w full up link moved
  have hmoved : ∀ {k n x}, d.movedTo p k n x → moved k n x := fun hx => ⟨hx.state, hx.width, hx.changes, hx.lane⟩
  refine ⟨?_, fallowIdle_runs h, fallowIdle_idle h, fallowWake_runs h, fallowWake_idle h, fun hu hst hf hb => ?_,
    lanesReady_announces h, lanesReady_idle h, fun n hu hm hn hw hc hz => ?_, noticeEffect_waits h, noticeEffect_unannounced h,
    fun n hu hm hn => noticeEffect_partner h hu hm hn, noticeEffect_idle h,
    fun n hu hm => ⟨fun hg => ⟨_, l0pRequest_granted h hu hm hg, ?_⟩, l0pRequest_refused h hu hm⟩, fun hu hm => ?_,
    l1Exit_runs h, l1Exit_idle h⟩
  · intro low high least narrow widen ended clear
    refine ⟨_, fallowWindowEnd_ends h, windowDone_now, fun hr => ?_, fun hr hn => ?_, fun hr hn hw => ?_, fun hr hn hw => ?_⟩
    · exact windowDone_clear (.inl hr) ▸ windowCleared_shown _ _
    · rw [windowDone_narrow hr hn, Dev.sendNotice, lanePort_setLanePort_same, setLanePort_regs, (windowCleared_shown _ _).1]
      exact ⟨rfl, (windowCleared_shown _ _).2⟩
    · exact windowDone_widen hr hn hw ▸ ⟨wake_state _ _ _, wake_fromSleep _ _ _⟩
    · exact windowDone_clear (.inr ⟨hn, hw⟩) ▸ windowCleared_shown _ _
  · obtain ⟨x, hx, hx', hs⟩ := lanesReady_fromSleep h hu hst hf hb
    exact ⟨x, hx, hmoved hx', hs⟩
  · obtain ⟨x, hx, hx', hs⟩ := noticeEffect_runs h hu hm hn hw hc hz
    exact ⟨x, hx, hmoved hx', hs⟩
  · exact congrArg PortHid.l0p (lanePort_setLanePort_same _ _ _)
  · intro granted idles
    have hidles : ∀ {k x}, d.idlesIn p k x → idles k x := fun hx => ⟨hx.l1, hx.lane, hx.regs⟩
    refine ⟨fun hg => ?_, aspmL1_refused h hu hm, ?_, fun hm hen hr hl hb => ?_, aspmL1Entry_disabled h⟩
    · obtain ⟨x, hx, hi⟩ := aspmL1_granted h hu hm hg
      exact ⟨x, hx, hidles hi⟩
    · obtain ⟨x, hx, hi⟩ := pciPmL1_runs h hu hm
      exact ⟨x, hx, hidles hi⟩
    · obtain ⟨x, hx, hi, ht⟩ := aspmL1Entry_runs h hu hm hen hr hl hb
      exact ⟨x, hx, hidles hi, ht⟩

end Sys2Proof.Machine
end

section
namespace Sys2Proof.Machine

/-! What the traffic of a device leaves of its links: what CXP_LINK_STAT shows of every port, the link layer's state of every
Thatchlink but one, the lanes marked by a reference that stopped, and the references that are stopped. The functions that drop a
port's traffic leave all of it, for every port; the view is written over the registers, so that a step on any other part of the
device shows at once that it leaves it. -/

/-- A register of a kind whose reset value no fuse gives. -/
def wordOf (regs : List RegCell) (r : Reg) : Word := (regFind regs r).getD r.k.base

/-- What the links show, but for the link layer of port `own`. -/
def linksOf (own : Nat) (regs : List RegCell) (stopped : List Nat) : List Nat × (Nat → Word × Nat × Nat) :=
  (stopped, fun u => (wordOf regs ⟨.CXP_LINK_STAT, u, 0⟩,
    if u = own then 0 else bitsOf (wordOf regs ⟨.TLK_STATUS, u, 0⟩) TLK_STATUS.LL_STATE.lo TLK_STATUS.LL_STATE.w,
    bitsOf (wordOf regs ⟨.LAN_STATUS, u, 0⟩) LAN_STATUS.REFCLK_LOST.lo LAN_STATUS.REFCLK_LOST.w))

/-- A field that the links do not show. -/
@[simp] def Fld.offLinks (f : Fld) : Bool :=
  f.k != .CXP_LINK_STAT && (f.k != .TLK_STATUS || decide (2 ≤ f.lo)) && (f.k != .LAN_STATUS || decide (f.lo + f.w ≤ 12 ∨ 13 ≤ f.lo))

section
variable {own : Nat} {d e : Dev}

theorem linksOf_eq (hl : ∀ u, e.rd ⟨.CXP_LINK_STAT, u, 0⟩ = d.rd ⟨.CXP_LINK_STAT, u, 0⟩)
    (ht : ∀ u, u ≠ own → e.fget TLK_STATUS.LL_STATE u = d.fget TLK_STATUS.LL_STATE u)
    (hm : ∀ l, e.fget LAN_STATUS.REFCLK_LOST l = d.fget LAN_STATUS.REFCLK_LOST l) (rs : List Nat) :
    linksOf own e.regs rs = linksOf own d.regs rs := by
  refine Prod.ext rfl (funext fun u => Prod.ext (hl u) (Prod.ext ?_ (hm u)))
  dsimp only [linksOf]
  split
  · rfl
  · exact ht u ‹_›

variable (h : linksOf own e.regs e.refStopped = linksOf own d.regs d.refStopped)
include h

theorem stopped_of_links : e.refStopped = d.refStopped := congrArg Prod.fst h

theorem link_of_links (u : Nat) : e.rd ⟨.CXP_LINK_STAT, u, 0⟩ = d.rd ⟨.CXP_LINK_STAT, u, 0⟩ :=
  congrArg Prod.fst (congrFun (congrArg Prod.snd h) u)

theorem ll_of_links {u : Nat} (hu : u ≠ own) : e.fget TLK_STATUS.LL_STATE u = d.fget TLK_STATUS.LL_STATE u := by
  have hu' := congrArg (·.2.1) (congrFun (congrArg Prod.snd h) u)
  simp only [linksOf, if_neg hu] at hu'
  exact hu'

theorem lost_of_links (l : Nat) : e.fget LAN_STATUS.REFCLK_LOST l = d.fget LAN_STATUS.REFCLK_LOST l :=
  congrArg (·.2.2) (congrFun (congrArg Prod.snd h) l)

end

section
variable {own : Nat} (d : Dev) (rs : List Nat)

@[simp] theorem fset_links (f : Fld) (n i j : Nat) (h : f.offLinks = true) : linksOf own (d.fset f n i j).regs rs = linksOf own d.regs rs := by
  simp only [Fld.offLinks, Bool.and_eq_true, Bool.or_eq_true, bne_iff_ne, ne_eq, decide_eq_true_eq] at h
  obtain ⟨⟨hl, ht⟩, hm⟩ := h
  refine linksOf_eq (fun u => rd_fset_other _ _ _ _ _ _ fun he => hl (congrArg Reg.k he).symm) (fun u _ => fget_fset_other _ _ _ _ _ _ _ _ ?_)
    (fun l => fget_fset_other _ _ _ _ _ _ _ _ ?_) rs
  · exact ht.imp_right fun ht => .inr (.inr (.inr ht))
  · exact hm.imp_right fun hm => .inr (.inr hm)

@[simp] theorem fadd_links (f : Fld) (n i j : Nat) (h : f.offLinks = true) : linksOf own (d.fadd f n i j).regs rs = linksOf own d.regs rs :=
  fset_links d rs f _ i j h
@[simp] theorem finc_links (f : Fld) (n i j : Nat) (h : f.offLinks = true) : linksOf own (d.finc f n i j).regs rs = linksOf own d.regs rs :=
  fset_links d rs f _ i j h
@[simp] theorem fsub_links (f : Fld) (n i j : Nat) (h : f.offLinks = true) : linksOf own (d.fsub f n i j).regs rs = linksOf own d.regs rs :=
  fset_links d rs f _ i j h
@[simp] theorem fputBit_links (f : Fld) (b : Nat) (on : Bool) (i j : Nat) (h : f.offLinks = true)
    (hm : f.k ≠ .LAN_STATUS) :
    linksOf own (d.fputBit f b on i j).regs rs = linksOf own d.regs rs :=
  fset_links d rs ⟨f.k, f.lo + b, 1⟩ _ i j (by
    simp only [Fld.offLinks, Bool.and_eq_true, Bool.or_eq_true, bne_iff_ne, ne_eq, decide_eq_true_eq] at h ⊢
    exact ⟨⟨h.1.1, h.1.2.imp_right (Nat.le_add_right_of_le ·)⟩, .inl hm⟩)

@[simp] theorem wr_links (r : Reg) (v : Word) (hl : r.k ≠ .CXP_LINK_STAT) (ht : r.k ≠ .TLK_STATUS) (hm : r.k ≠ .LAN_STATUS) :
    linksOf own (d.wr r v).regs rs = linksOf own d.regs rs :=
  linksOf_eq (fun _ => rd_wr_other _ _ _ _ fun he => hl (congrArg Reg.k he).symm)
    (fun _ _ => congrArg (bitsOf · 0 2) (rd_wr_other _ _ _ _ fun he => ht (congrArg Reg.k he).symm))
    (fun _ => congrArg (bitsOf · 12 1) (rd_wr_other _ _ _ _ fun he => hm (congrArg Reg.k he).symm)) rs

@[simp] theorem clearSlot_links (k : Nat) : linksOf own (d.clearSlot k).regs rs = linksOf own d.regs rs := by
  have hk := (clearSlot_keptBut (ks := [.TMP_SWARD]) d k (List.mem_singleton_self _)).rd
  exact linksOf_eq (fun _ => hk _ (by simp)) (fun _ _ => congrArg (bitsOf · 0 2) (hk _ (by simp)))
    (fun _ => congrArg (bitsOf · 12 1) (hk _ (by simp))) rs

@[simp] theorem upTo_links (n : Nat) : linksOf own (d.upTo n).regs rs = linksOf own d.regs rs := by
  unfold Dev.upTo
  split
  · exact fset_links d rs _ _ _ _ rfl
  · rfl

@[simp] theorem raise_links (u : Nat) (x : FaultRec) : linksOf own (d.raise u x).regs rs = linksOf own d.regs rs :=
  linksOf_eq (fun _ => rd_raise_other _ _ _ _ (by simp)) (fun _ _ => raise_fget _ _ _ _ _ _ (.inl (by decide)))
    (fun _ => raise_fget _ _ _ _ _ _ (.inl (by decide))) rs

end

@[simp] theorem clearSlot_refStopped (d : Dev) (k : Nat) : (d.clearSlot k).refStopped = d.refStopped := rfl
@[simp] theorem setLane_refStopped (d : Dev) (l : Nat) (x : LaneHid) : (d.setLane l x).refStopped = d.refStopped := rfl
@[simp] theorem setLanePort_refStopped (d : Dev) (p : Nat) (x : PortHid) : (d.setLanePort p x).refStopped = d.refStopped := rfl

section
variable {own : Nat}

@[simp] theorem ite_links (c : Prop) [Decidable c] (a b : Dev) :
    linksOf own (if c then a else b).regs (if c then a else b).refStopped =
      if c then linksOf own a.regs a.refStopped else linksOf own b.regs b.refStopped :=
  apply_ite (fun x : Dev => linksOf own x.regs x.refStopped) c a b

@[simp] theorem foldl_links {α : Type} (f : Dev → α → Dev)
    (h : ∀ d x, linksOf own (f d x).regs (f d x).refStopped = linksOf own d.regs d.refStopped) (l : List α) (d : Dev) :
    linksOf own (l.foldl f d).regs (l.foldl f d).refStopped = linksOf own d.regs d.refStopped :=
  foldl_keeps (fun x : Dev => linksOf own x.regs x.refStopped) f h l d

theorem foldl_fst_links {α β : Type} (f : Dev × β → α → Dev × β)
    (h : ∀ p x, linksOf own (f p x).1.regs (f p x).1.refStopped = linksOf own p.1.regs p.1.refStopped) (l : List α) (p : Dev × β) :
    linksOf own (l.foldl f p).1.regs (l.foldl f p).1.refStopped = linksOf own p.1.regs p.1.refStopped := by
  induction l generalizing p with
  | nil => rfl
  | cons x l ih => rw [List.foldl_cons, ih, h]

end

end Sys2Proof.Machine
end

section
namespace Sys2Proof.Machine

/-! What drops, moves or answers the traffic of a port leaves the links as they are. A step is on other parts of the device, or sets a
field that the links do not show; so each function shows it from those that it calls. -/

section
variable {own : Nat}

@[simp] theorem marginCut_links (d : Dev) (l cause : Nat) :
    linksOf own (d.marginCut l cause).regs (d.marginCut l cause).refStopped = linksOf own d.regs d.refStopped := by
  simp [Dev.marginCut]
@[simp] theorem marginAbort_links (d : Dev) (l cause : Nat) :
    linksOf own (d.marginAbort l cause).regs (d.marginAbort l cause).refStopped = linksOf own d.regs d.refStopped := by
  simp [Dev.marginAbort]
@[simp] theorem laneDown_links (d : Dev) (l : Nat) :
    linksOf own (d.laneDown l).regs (d.laneDown l).refStopped = linksOf own d.regs d.refStopped := by
  simp [Dev.laneDown]
@[simp] theorem walkForLost_links (d : Dev) :
    linksOf own d.walkForLost.regs d.walkForLost.refStopped = linksOf own d.regs d.refStopped := by
  simp [Dev.walkForLost]
@[simp] theorem dropFlights_links (d : Dev) (sel : FlightSrc → Bool) :
    linksOf own (d.dropFlights sel).regs (d.dropFlights sel).refStopped = linksOf own d.regs d.refStopped := by
  simp [Dev.dropFlights]
@[simp] theorem migrSlotFree_links (d : Dev) (k : Nat) :
    linksOf own (d.migrSlotFree k).regs (d.migrSlotFree k).refStopped = linksOf own d.regs d.refStopped := by
  simp [Dev.migrSlotFree]
@[simp] theorem setSFrame_links (d : Dev) (dev f2m : Nat) (st : SFrameState) :
    linksOf own (d.setSFrame dev f2m st).regs (d.setSFrame dev f2m st).refStopped = linksOf own d.regs d.refStopped := by
  simp [Dev.setSFrame]
@[simp] theorem fillDrop_links (d : Dev) (key : Nat) :
    linksOf own (d.fillDrop key).regs (d.fillDrop key).refStopped = linksOf own d.regs d.refStopped := by
  simp [Dev.fillDrop]
@[simp] theorem sframeLeft_links (d : Dev) (dev f2m : Nat) :
    linksOf own (d.sframeLeft dev f2m).regs (d.sframeLeft dev f2m).refStopped = linksOf own d.regs d.refStopped := by
  simp [Dev.sframeLeft]
@[simp] theorem fsetBoth_links (d : Dev) (f : Fld) (n : Nat) (i : Nat) (j : Nat) (h : f.offLinks = true) :
    linksOf own (d.fsetBoth f n i j).regs (d.fsetBoth f n i j).refStopped = linksOf own d.regs d.refStopped := by
  exact fset_links d d.refStopped f n i j h
@[simp] theorem fieldMigrating_links (d : Dev) (f : Nat) :
    linksOf own (d.fieldMigrating f).regs (d.fieldMigrating f).refStopped = linksOf own d.regs d.refStopped := by
  simp [Dev.fieldMigrating]
@[simp] theorem stallEnd_links (d : Dev) (m : Migration) :
    linksOf own (d.stallEnd m).regs (d.stallEnd m).refStopped = linksOf own d.regs d.refStopped := by
  simp [Dev.stallEnd]
@[simp] theorem setFrame_links (d : Dev) (dev frame : Nat) (st : FrameState) :
    linksOf own (d.setFrame dev frame st).regs (d.setFrame dev frame st).refStopped = linksOf own d.regs d.refStopped := by
  simp [Dev.setFrame]
@[simp] theorem dropSFrames_links (d : Dev) (dev frame : Nat) :
    linksOf own (d.dropSFrames dev frame).regs (d.dropSFrames dev frame).refStopped = linksOf own d.regs d.refStopped := by
  simp [Dev.dropSFrames]
@[simp] theorem uncarve_links (d : Dev) (dev frame : Nat) :
    linksOf own (d.uncarve dev frame).regs (d.uncarve dev frame).refStopped = linksOf own d.regs d.refStopped := by
  simp [Dev.uncarve]
@[simp] theorem gatherRest_links (d : Dev) (f dev fr : Nat) :
    linksOf own (d.gatherRest f dev fr).regs (d.gatherRest f dev fr).refStopped = linksOf own d.regs d.refStopped := by
  simp [Dev.gatherRest]
@[simp] theorem gatherPartial_links (d : Dev) (g : Gather) :
    linksOf own (d.gatherPartial g).regs (d.gatherPartial g).refStopped = linksOf own d.regs d.refStopped := by
  simp [Dev.gatherPartial]
@[simp] theorem gatherMoved_links (d : Dev) (m : Migration) (ok : Bool) :
    linksOf own (d.gatherMoved m ok).regs (d.gatherMoved m ok).refStopped = linksOf own d.regs d.refStopped := by
  unfold Dev.gatherMoved; split <;> simp
@[simp] theorem setWork_links (d : Dev) (id : Nat) (f : Work → Work) :
    linksOf own (d.setWork id f).regs (d.setWork id f).refStopped = linksOf own d.regs d.refStopped := by
  simp [Dev.setWork]
@[simp] theorem dropWork_links (d : Dev) (id : Nat) :
    linksOf own (d.dropWork id).regs (d.dropWork id).refStopped = linksOf own d.regs d.refStopped := by
  simp [Dev.dropWork]
@[simp] theorem freeSlotOf_links (d : Dev) (f : Nat) :
    linksOf own (d.freeSlotOf f).regs (d.freeSlotOf f).refStopped = linksOf own d.regs d.refStopped := by
  simp [Dev.freeSlotOf]
@[simp] theorem scratchStore_links (d : Dev) (a : Nat) (bs : List Byte) :
    linksOf own (d.scratchStore a bs).regs (d.scratchStore a bs).refStopped = linksOf own d.regs d.refStopped := by
  simp [Dev.scratchStore]
@[simp] theorem jobDone_links (d : Dev) (raw : List Byte) (handle thread cpl status result gen : Nat) :
    linksOf own (d.jobDone raw handle thread cpl status result gen).regs
      (d.jobDone raw handle thread cpl status result gen).refStopped = linksOf own d.regs d.refStopped := by
  simp [Dev.jobDone]
@[simp] theorem workEnd_links (d : Dev) (id status result : Nat) :
    linksOf own (d.workEnd id status result).regs (d.workEnd id status result).refStopped = linksOf own d.regs d.refStopped := by
  unfold Dev.workEnd
  split
  · rfl
  · split
    · simp
    · simp only [jobDone_links]; split <;> simp
@[simp] theorem migrJobEnd_links (d : Dev) (m : Migration) (status result : Nat) :
    linksOf own (d.migrJobEnd m status result).regs (d.migrJobEnd m status result).refStopped = linksOf own d.regs d.refStopped := by
  unfold Dev.migrJobEnd; split <;> simp
@[simp] theorem abortMigration_links (d : Dev) (k cause : Nat) :
    linksOf own (d.abortMigration k cause).regs (d.abortMigration k cause).refStopped = linksOf own d.regs d.refStopped := by
  unfold Dev.abortMigration; split <;> simp
@[simp] theorem setPlaced_links (d : Dev) (v n : Nat) :
    linksOf own (d.setPlaced v n).regs (d.setPlaced v n).refStopped = linksOf own d.regs d.refStopped := by
  simp [Dev.setPlaced]
@[simp] theorem unplaced_links (d : Dev) (v n : Nat) :
    linksOf own (d.unplaced v n).regs (d.unplaced v n).refStopped = linksOf own d.regs d.refStopped := by
  simp [Dev.unplaced]
@[simp] theorem gatherDrop_links (d : Dev) (sel : Gather → Bool) :
    linksOf own (d.gatherDrop sel).regs (d.gatherDrop sel).refStopped = linksOf own d.regs d.refStopped := by
  unfold Dev.gatherDrop; split <;> simp
@[simp] theorem setMode_links (d : Dev) (f m : Nat) :
    linksOf own (d.setMode f m).regs (d.setMode f m).refStopped = linksOf own d.regs d.refStopped := by
  simp [Dev.setMode]
@[simp] theorem endRelease_links (d : Dev) (f : Nat) :
    linksOf own (d.endRelease f).regs (d.endRelease f).refStopped = linksOf own d.regs d.refStopped := by
  simp -implicitDefEqProofs [Dev.endRelease]
@[simp] theorem toSwath_links (d : Dev) :
    linksOf own d.toSwath.regs d.toSwath.refStopped = linksOf own d.regs d.refStopped := by
  simp [Dev.toSwath]
@[simp] theorem releaseStep_links (d : Dev) (gone : Nat → Bool) :
    linksOf own (d.releaseStep gone).regs (d.releaseStep gone).refStopped = linksOf own d.regs d.refStopped := by
  simp [Dev.releaseStep]
@[simp] theorem loseDevice_links (d : Dev) (v : Nat) :
    linksOf own (d.loseDevice v).regs (d.loseDevice v).refStopped = linksOf own d.regs d.refStopped := by
  simp [Dev.loseDevice]
@[simp] theorem setTlk_links (d : Dev) (p : Nat) (x : TlkPort) :
    linksOf own (d.setTlk p x).regs (d.setTlk p x).refStopped = linksOf own d.regs d.refStopped := by
  simp [Dev.setTlk]
@[simp] theorem tlkXoff_links (d : Dev) (p : Nat) :
    linksOf own (d.tlkXoff p).regs (d.tlkXoff p).refStopped = linksOf own d.regs d.refStopped := by
  simp [Dev.tlkXoff]
@[simp] theorem tlkFreed_links (d : Dev) (p : Nat) (f : TlkFlit) :
    linksOf own (d.tlkFreed p f).regs (d.tlkFreed p f).refStopped = linksOf own d.regs d.refStopped := by
  simp [Dev.tlkFreed]
@[simp] theorem tlkAdmitted_links (d : Dev) (p c : Nat) :
    linksOf own (d.tlkAdmitted p c).regs (d.tlkAdmitted p c).refStopped = linksOf own d.regs d.refStopped := by
  unfold Dev.tlkAdmitted; dsimp only; rw [tlkXoff_links, foldl_links _ fun d f => tlkFreed_links d p f, setTlk_links]
@[simp] theorem slotDone_links (d : Dev) (ingress vc : Option Nat) :
    linksOf own (d.slotDone ingress vc).regs (d.slotDone ingress vc).refStopped = linksOf own d.regs d.refStopped := by
  unfold Dev.slotDone; split <;> simp
@[simp] theorem depth_links (d : Dev) (m : QMsg) (up : Bool) :
    linksOf own (d.depth m up).regs (d.depth m up).refStopped = linksOf own d.regs d.refStopped := by
  simp [Dev.depth]
@[simp] theorem takeCells_links (d : Dev) (m : QMsg) :
    linksOf own (d.takeCells m).regs (d.takeCells m).refStopped = linksOf own d.regs d.refStopped := by
  unfold Dev.takeCells; split <;> simp
@[simp] theorem tagHead_links (d : Dev) (m : QMsg) :
    linksOf own (d.tagHead m).regs (d.tagHead m).refStopped = linksOf own d.regs d.refStopped := by
  simp [Dev.tagHead]
@[simp] theorem enqueue_links (d : Dev) (m : QMsg) (part : BufPart) :
    linksOf own (d.enqueue m part).regs (d.enqueue m part).refStopped = linksOf own d.regs d.refStopped := by
  simp [Dev.enqueue]
@[simp] theorem offer_links (d : Dev) (m : QMsg) :
    linksOf own (d.offer m).regs (d.offer m).refStopped = linksOf own d.regs d.refStopped := by
  unfold Dev.offer
  split
  · rfl
  · split <;> simp
@[simp] theorem sendLease_links (d : Dev) (p typ : Nat) (body : List Byte) :
    linksOf own (d.sendLease p typ body).regs (d.sendLease p typ body).refStopped = linksOf own d.regs d.refStopped := by
  simp [Dev.sendLease]
@[simp] theorem sendDevLost_links (d : Dev) (v cause : Nat) :
    linksOf own (d.sendDevLost v cause).regs (d.sendDevLost v cause).refStopped = linksOf own d.regs d.refStopped := by
  unfold Dev.sendDevLost; split <;> simp
@[simp] theorem lose_links (d : Dev) (v cause : Nat) :
    linksOf own (d.lose v cause).regs (d.lose v cause).refStopped = linksOf own d.regs d.refStopped := by
  simp [Dev.lose]
@[simp] theorem loseBehind_links (d : Dev) (p : Nat) :
    linksOf own (d.loseBehind p).regs (d.loseBehind p).refStopped = linksOf own d.regs d.refStopped := by
  simp [Dev.loseBehind]
@[simp] theorem bridgeGone_links (d : Dev) (x : Nat × Nat) :
    linksOf own (d.bridgeGone x).regs (d.bridgeGone x).refStopped = linksOf own d.regs d.refStopped := by
  simp [Dev.bridgeGone]
@[simp] theorem bridgeLost_links (d : Dev) (p : Nat) :
    linksOf own (d.bridgeLost p).regs (d.bridgeLost p).refStopped = linksOf own d.regs d.refStopped := by
  simp [Dev.bridgeLost]
@[simp] theorem abortField_links (d : Dev) (f : Nat) :
    linksOf own (d.abortField f).regs (d.abortField f).refStopped = linksOf own d.regs d.refStopped := by
  simp [Dev.abortField]
@[simp] theorem frameLeft_links (d : Dev) (dev frame : Nat) :
    linksOf own (d.frameLeft dev frame).regs (d.frameLeft dev frame).refStopped = linksOf own d.regs d.refStopped := by
  simp [Dev.frameLeft]
@[simp] theorem releaseField_links (d : Dev) (f : Nat) :
    linksOf own (d.releaseField f).regs (d.releaseField f).refStopped = linksOf own d.regs d.refStopped := by
  simp [Dev.releaseField]
@[simp] theorem releaseUnbound_links (d : Dev) (f : Nat) :
    linksOf own (d.releaseUnbound f).regs (d.releaseUnbound f).refStopped = linksOf own d.regs d.refStopped := by
  simp [Dev.releaseUnbound]
@[simp] theorem withdraw_links (d : Dev) (xs : List Extent) :
    linksOf own (d.withdraw xs).regs (d.withdraw xs).refStopped = linksOf own d.regs d.refStopped := by
  simp [Dev.withdraw]
@[simp] theorem setPool_links (d : Dev) (v : Nat) (p : PoolDev) :
    linksOf own (d.setPool v p).regs (d.setPool v p).refStopped = linksOf own d.regs d.refStopped := by
  simp [Dev.setPool]
@[simp] theorem closeOffer_links (d : Dev) (v : Nat) (xs : List Extent) :
    linksOf own (d.closeOffer v xs).regs (d.closeOffer v xs).refStopped = linksOf own d.regs d.refStopped := by
  simp [Dev.closeOffer]
@[simp] theorem mailboxReset_links (d : Dev) (v : Nat) :
    linksOf own (d.mailboxReset v).regs (d.mailboxReset v).refStopped = linksOf own d.regs d.refStopped := by
  unfold Dev.mailboxReset; split <;> simp
@[simp] theorem dropUnstarted_links (d : Dev) (f : Nat) (q : Option Nat) :
    linksOf own (d.dropUnstarted f q).regs (d.dropUnstarted f q).refStopped = linksOf own d.regs d.refStopped := by
  unfold Dev.dropUnstarted; dsimp only; rw [foldl_links]; simp
@[simp] theorem setFold_links (d : Dev) (f : Nat) (x : Fold) :
    linksOf own (d.setFold f x).regs (d.setFold f x).refStopped = linksOf own d.regs d.refStopped := by
  simp [Dev.setFold]
@[simp] theorem drainCheck_links (d : Dev) (e : Nat) :
    linksOf own (d.drainCheck e).regs (d.drainCheck e).refStopped = linksOf own d.regs d.refStopped := by
  simp [Dev.drainCheck]
@[simp] theorem drainAll_links (d : Dev) :
    linksOf own d.drainAll.regs d.drainAll.refStopped = linksOf own d.regs d.refStopped := by
  simp [Dev.drainAll]
@[simp] theorem freeFoldImage_links (d : Dev) (f : Nat) :
    linksOf own (d.freeFoldImage f).regs (d.freeFoldImage f).refStopped = linksOf own d.regs d.refStopped := by
  simp [Dev.freeFoldImage]
@[simp] theorem dropImage_links (d : Dev) (id : Nat) (fold : Option Nat) :
    linksOf own (d.dropImage id fold).regs (d.dropImage id fold).refStopped = linksOf own d.regs d.refStopped := by
  simp [Dev.dropImage]
@[simp] theorem reply_links (d : Dev) (port typ seq : Nat) (r : Reply) :
    linksOf own (d.reply port typ seq r).regs (d.reply port typ seq r).refStopped = linksOf own d.regs d.refStopped := by
  simp [Dev.reply]
@[simp] theorem keep_links (d : Dev) (typ seq : Nat) (r : Reply) :
    linksOf own (d.keep typ seq r).regs (d.keep typ seq r).refStopped = linksOf own d.regs d.refStopped := by
  simp [Dev.keep]
@[simp] theorem finish_links (d : Dev) (port typ seq : Nat) (r : Reply) :
    linksOf own (d.finish port typ seq r).regs (d.finish port typ seq r).refStopped = linksOf own d.regs d.refStopped := by
  simp [Dev.finish]
@[simp] theorem loadDone_links (d : Dev) (status id : Nat) :
    linksOf own (d.loadDone status id).regs (d.loadDone status id).refStopped = linksOf own d.regs d.refStopped := by
  simp [Dev.loadDone]
@[simp] theorem trySwitch_links (d : Dev) :
    linksOf own d.trySwitch.regs d.trySwitch.refStopped = linksOf own d.regs d.refStopped := by
  unfold Dev.trySwitch; split <;> simp
@[simp] theorem release_links (d : Dev) (t : Nat) :
    linksOf own (d.release t).regs (d.release t).refStopped = linksOf own d.regs d.refStopped := by
  simp [Dev.release]
@[simp] theorem endThread_links (d : Dev) (t : Nat) :
    linksOf own (d.endThread t).regs (d.endThread t).refStopped = linksOf own d.regs d.refStopped := by
  simp [Dev.endThread]
@[simp] theorem orphanWrite_links (d : Dev) (t : Nat) :
    linksOf own (d.orphanWrite t).regs (d.orphanWrite t).refStopped = linksOf own d.regs d.refStopped := by
  unfold Dev.orphanWrite; split <;> simp
@[simp] theorem kill_links (d : Dev) (t : Nat) :
    linksOf own (d.kill t).regs (d.kill t).refStopped = linksOf own d.regs d.refStopped := by
  simp [Dev.kill]
@[simp] theorem foldReset_links (d : Dev) (f : Nat) :
    linksOf own (d.foldReset f).regs (d.foldReset f).refStopped = linksOf own d.regs d.refStopped := by
  unfold Dev.foldReset
  split
  · rfl
  · dsimp only; split <;> simp
@[simp] theorem walkHost_links (d : Dev) (v : Nat) :
    linksOf own (d.walkHost v).regs (d.walkHost v).refStopped = linksOf own d.regs d.refStopped := by
  simp [Dev.walkHost]
@[simp] theorem setSnoops_links (d : Dev) (ss : List Snoop) :
    linksOf own (d.setSnoops ss).regs (d.setSnoops ss).refStopped = linksOf own d.regs d.refStopped := by
  simp [Dev.setSnoops]
@[simp] theorem setSweeps_links (d : Dev) (ss : List (Nat × List Nat)) :
    linksOf own (d.setSweeps ss).regs (d.setSweeps ss).refStopped = linksOf own d.regs d.refStopped := by
  simp [Dev.setSweeps]
@[simp] theorem launch_links (d : Dev) (f : Flight) :
    linksOf own (d.launch f).1.regs (d.launch f).1.refStopped = linksOf own d.regs d.refStopped := by
  simp [Dev.launch]
@[simp] theorem workCheck_links (d : Dev) (id : Nat) :
    linksOf own (d.workCheck id).regs (d.workCheck id).refStopped = linksOf own d.regs d.refStopped := by
  unfold Dev.workCheck
  split
  · rfl
  · split
    · split
      · rfl
      · split <;> simp
    · rfl
@[simp] theorem chunkFailed_links (d : Dev) (fl : Flight) (status : Nat) :
    linksOf own (d.chunkFailed fl status).regs (d.chunkFailed fl status).refStopped = linksOf own d.regs d.refStopped := by
  unfold Dev.chunkFailed; split <;> simp
@[simp] theorem dropFlight_links (d : Dev) (tag : Nat) :
    linksOf own (d.dropFlight tag).regs (d.dropFlight tag).refStopped = linksOf own d.regs d.refStopped := by
  simp [Dev.dropFlight]
@[simp] theorem setFlight_links (d : Dev) (tag : Nat) (f : Flight → Flight) :
    linksOf own (d.setFlight tag f).regs (d.setFlight tag f).refStopped = linksOf own d.regs d.refStopped := by
  simp [Dev.setFlight]
@[simp] theorem charge_links (d : Dev) (e : Bool) (n len : Nat) :
    linksOf own (d.charge e n len).regs (d.charge e n len).refStopped = linksOf own d.regs d.refStopped := by
  simp [Dev.charge]
@[simp] theorem ridgeResponse_links (d : Dev) (e : Bool) (pe pr j len : Nat) :
    linksOf own (d.ridgeResponse e pe pr j len).1.regs
      (d.ridgeResponse e pe pr j len).1.refStopped = linksOf own d.regs d.refStopped := by
  unfold Dev.ridgeResponse; dsimp only; split <;> simp
@[simp] theorem respondPort_links (d : Dev) (fl : Flight) (p : Nat) (a : Answer) :
    linksOf own (d.respondPort fl p a).regs (d.respondPort fl p a).refStopped = linksOf own d.regs d.refStopped := by
  unfold Dev.respondPort
  split
  split
  · rfl
  · split
    · simp
    · dsimp only; rw [offer_links]; split <;> simp
@[simp] theorem lenderSend_links (d : Dev) (e : Bool) (p c flow tag lender borrower dpa status : Nat) (write : Bool)
    (data : Option (Nat × Bool)) :
    linksOf own (d.lenderSend e p c flow tag lender borrower dpa status write data).regs
      (d.lenderSend e p c flow tag lender borrower dpa status write data).refStopped = linksOf own d.regs d.refStopped := by
  simp [Dev.lenderSend]
@[simp] theorem lenderAnswer_links (d : Dev) (fl : Flight) (status : Nat) (data : Option (Nat × Bool)) :
    linksOf own (d.lenderAnswer fl status data).regs (d.lenderAnswer fl status data).refStopped = linksOf own d.regs d.refStopped := by
  unfold Dev.lenderAnswer
  split
  · dsimp only; rw [lenderSend_links]; split <;> simp
  · rfl
@[simp] theorem answer_links (d : Dev) (fl : Flight) (a : Answer) :
    linksOf own (d.answer fl a).regs (d.answer fl a).refStopped = linksOf own d.regs d.refStopped := by
  unfold Dev.answer
  dsimp only
  split
  · simp
  · split <;> simp
  · split <;> simp
  · split <;> simp
  · split <;> simp
  · split <;> simp
  · simp
  · split <;> simp
  · simp
@[simp] theorem lostWrite_links (d : Dev) (p : Nat) :
    linksOf own (d.lostWrite p).regs (d.lostWrite p).refStopped = linksOf own d.regs d.refStopped := by
  simp [Dev.lostWrite]
@[simp] theorem lostAnswer_links (d : Dev) (fl : Flight) :
    linksOf own (d.lostAnswer fl).regs (d.lostAnswer fl).refStopped = linksOf own d.regs d.refStopped := by
  simp [Dev.lostAnswer]
@[simp] theorem postFailed_links (d : Dev) (t : Nat) :
    linksOf own (d.postFailed t).regs (d.postFailed t).refStopped = linksOf own d.regs d.refStopped := by
  simp [Dev.postFailed]
@[simp] theorem synthRead_links (d : Dev) (status : Nat) :
    linksOf own (d.synthRead status).regs (d.synthRead status).refStopped = linksOf own d.regs d.refStopped := by
  simp [Dev.synthRead]
@[simp] theorem setMigr_links (d : Dev) (k : Nat) (m : Migration) :
    linksOf own (d.setMigr k m).regs (d.setMigr k m).refStopped = linksOf own d.regs d.refStopped := by
  simp [Dev.setMigr]
@[simp] theorem recopy_links (d : Dev) (k i : Nat) :
    linksOf own (d.recopy k i).regs (d.recopy k i).refStopped = linksOf own d.regs d.refStopped := by
  unfold Dev.recopy; split <;> simp
@[simp] theorem setFill_links (d : Dev) (key : Nat) (x : Nat × List Nat) :
    linksOf own (d.setFill key x).regs (d.setFill key x).refStopped = linksOf own d.regs d.refStopped := by
  simp [Dev.setFill]
@[simp] theorem refill_links (d : Dev) (key chunk : Nat) :
    linksOf own (d.refill key chunk).regs (d.refill key chunk).refStopped = linksOf own d.regs d.refStopped := by
  simp [Dev.refill]
@[simp] theorem endRequest_links (d : Dev) (fl : Flight) (status : Nat) :
    linksOf own (d.endRequest fl status).regs (d.endRequest fl status).refStopped = linksOf own d.regs d.refStopped := by
  unfold Dev.endRequest
  split
  · split <;> simp
  all_goals simp
@[simp] theorem unplacedAnswer_links (d : Dev) (fl : Flight) :
    linksOf own (d.unplacedAnswer fl).regs (d.unplacedAnswer fl).refStopped = linksOf own d.regs d.refStopped := by
  unfold Dev.unplacedAnswer; split <;> simp
@[simp] theorem ridgeRequest_links (d : Dev) (e : Bool) (p : Nat) (ingress : Option Nat) (len : Nat) :
    linksOf own (d.ridgeRequest e p ingress len).1.regs
      (d.ridgeRequest e p ingress len).1.refStopped = linksOf own d.regs d.refStopped := by
  unfold Dev.ridgeRequest
  split
  · simp
  · extract_lets rs
    split
    · simp
    · split <;> simp
@[simp] theorem classify_links (d : Dev) (fl : Flight) (egress len : Nat) :
    linksOf own (d.classify fl egress len).1.regs (d.classify fl egress len).1.refStopped = linksOf own d.regs d.refStopped := by
  unfold Dev.classify
  dsimp only
  split
  · split
    · simp
    · rfl
  · split
    · split <;> simp
    · split <;> simp
@[simp] theorem queueFlight_links (d : Dev) (fl : Flight) (egress ld dpa len : Nat) (body : QBody) :
    linksOf own (d.queueFlight fl egress ld dpa len body).regs
      (d.queueFlight fl egress ld dpa len body).refStopped = linksOf own d.regs d.refStopped := by
  simp [Dev.queueFlight]
@[simp] theorem toDevice_links (d : Dev) (fl : Flight) (v dpa : Nat) :
    linksOf own (d.toDevice fl v dpa).regs (d.toDevice fl v dpa).refStopped = linksOf own d.regs d.refStopped := by
  simp [Dev.toDevice]
@[simp] theorem writeCopied_links (d : Dev) (pool : Nat) :
    linksOf own (d.writeCopied pool).regs (d.writeCopied pool).refStopped = linksOf own d.regs d.refStopped := by
  unfold Dev.writeCopied; split <;> simp
@[simp] theorem routeMem_links (d : Dev) (tag : Nat) :
    linksOf own (d.routeMem tag).regs (d.routeMem tag).refStopped = linksOf own d.regs d.refStopped := by
  unfold Dev.routeMem
  split
  · rfl
  · split <;> simp
@[simp] theorem poisonLine_links (d : Dev) (line : Nat) :
    linksOf own (d.poisonLine line).regs (d.poisonLine line).refStopped = linksOf own d.regs d.refStopped := by
  simp [Dev.poisonLine]
@[simp] theorem queueSnoop_links (d : Dev) (ep : Bool) (v hpa kind : Nat) :
    linksOf own (d.queueSnoop ep v hpa kind).regs (d.queueSnoop ep v hpa kind).refStopped = linksOf own d.regs d.refStopped := by
  simp [Dev.queueSnoop]
@[simp] theorem snoopAll_links (d : Dev) (ep : Bool) (line kind : Nat) (why : SnoopWhy) (vs : List Nat) :
    linksOf own (d.snoopAll ep line kind why vs).1.regs
      (d.snoopAll ep line kind why vs).1.refStopped = linksOf own d.regs d.refStopped := by
  unfold Dev.snoopAll
  rw [foldl_fst_links]
  intro p v
  dsimp only
  split <;> simp
@[simp] theorem setEntry_links (d : Dev) (i : Nat) (e : DirEntry) :
    linksOf own (d.setEntry i e).regs (d.setEntry i e).refStopped = linksOf own d.regs d.refStopped := by
  unfold Dev.setEntry
  simp -implicitDefEqProofs
@[simp] theorem evict_links (d : Dev) (i : Nat) (why : SnoopWhy) :
    linksOf own (d.evict i why).1.regs (d.evict i why).1.refStopped = linksOf own d.regs d.refStopped := by
  generalize hp : d.evict i why = p
  generalize hF : Dev.evict = F at hp
  delta Dev.evict at hF
  subst hF
  beta_reduce at hp
  extract_lets e line d1 d2 at hp
  have h2 : linksOf own d2.regs d2.refStopped = linksOf own d.regs d.refStopped := by simp [d2, d1]
  split at hp
  next d3 vs h =>
    have h3 : linksOf own d3.regs d3.refStopped = linksOf own d2.regs d2.refStopped := by
      simpa using (congrArg (fun x => linksOf own x.1.regs x.1.refStopped) h).symm
    split at hp <;> simp [← hp, h3, h2]
@[simp] theorem leaveBank_links (d : Dev) (i : Nat) :
    linksOf own (d.leaveBank i).regs (d.leaveBank i).refStopped = linksOf own d.regs d.refStopped := by
  simp [Dev.leaveBank]
@[simp] theorem toMemory_links (d : Dev) (tag : Nat) :
    linksOf own (d.toMemory tag).regs (d.toMemory tag).refStopped = linksOf own d.regs d.refStopped := by
  unfold Dev.toMemory; split <;> simp
@[simp] theorem record_links (d : Dev) (i : Nat) (old new : DirEntry) (fl : Flight) :
    linksOf own (d.record i old new fl).regs (d.record i old new fl).refStopped = linksOf own d.regs d.refStopped := by
  unfold Dev.record; split <;> simp
@[simp] theorem waitIn_links (d : Dev) (tag : Nat) (p : FPhase) :
    linksOf own (d.waitIn tag p).regs (d.waitIn tag p).refStopped = linksOf own d.regs d.refStopped := by
  simp [Dev.waitIn]
@[simp] theorem lastAnswer_links (d : Dev) (i : Nat) (e : DirEntry) (why : SnoopWhy) (poisoned : Bool) :
    linksOf own (d.lastAnswer i e why poisoned).regs (d.lastAnswer i e why poisoned).refStopped = linksOf own d.regs d.refStopped := by
  unfold Dev.lastAnswer
  dsimp only
  split
  · split
    · simp
    · simp
  · simp
  · simp
@[simp] theorem snoopDone_links (d : Dev) (s : Snoop) (r : BIRsp) (died : Bool) :
    linksOf own (d.snoopDone s r died).regs (d.snoopDone s r died).refStopped = linksOf own d.regs d.refStopped := by
  unfold Dev.snoopDone
  dsimp only
  split
  · simp
  · split <;> simp
@[simp] theorem lenderGo_links (d : Dev) (tag : Nat) :
    linksOf own (d.lenderGo tag).regs (d.lenderGo tag).refStopped = linksOf own d.regs d.refStopped := by
  unfold Dev.lenderGo
  split
  · rfl
  · split <;> simp
@[simp] theorem settle_links (d : Dev) :
    linksOf own d.settle.regs d.settle.refStopped = linksOf own d.regs d.refStopped := by
  unfold Dev.settle
  rw [foldl_links, foldl_links]
  · simp
  · intro d t
    split <;> simp
@[simp] theorem fillSlots_links (d : Dev) :
    linksOf own d.fillSlots.regs d.fillSlots.refStopped = linksOf own d.regs d.refStopped := by
  simp [Dev.fillSlots]
@[simp] theorem setWait_links (d : Dev) (fl : Flight) :
    linksOf own (d.setWait fl).regs (d.setWait fl).refStopped = linksOf own d.regs d.refStopped := by
  unfold Dev.setWait
  split
  · simp
  · split
    · split <;> simp
    · simp
@[simp] theorem needWay_links (d : Dev) (fl : Flight) (s : Nat) :
    linksOf own (d.needWay fl s).1.regs (d.needWay fl s).1.refStopped = linksOf own d.regs d.refStopped := by
  fun_cases Dev.needWay d fl s with
  | case1 => rfl
  | case2 => simp
  | case3 _ i is _ cold d1 pick d2 h =>
    have h1 : linksOf own d1.regs d1.refStopped = linksOf own d.regs d.refStopped := by simp [d1]
    simpa [h1] using (congrArg (fun x => linksOf own x.1.regs x.1.refStopped) h).symm
  | case4 _ i is _ cold d1 pick d2 h =>
    have h1 : linksOf own d1.regs d1.refStopped = linksOf own d.regs d.refStopped := by simp [d1]
    simpa [h1] using (congrArg (fun x => linksOf own x.1.regs x.1.refStopped) h).symm
@[simp] theorem serveMiss_links (d : Dev) (fl : Flight) (k : AccKind) :
    linksOf own (d.serveMiss fl k).regs (d.serveMiss fl k).refStopped = linksOf own d.regs d.refStopped := by
  unfold Dev.serveMiss
  split
  · simp
  · split
    · split
      · split
        next h => simpa using (congrArg (fun x => linksOf own x.1.regs x.1.refStopped) h).symm
        next h => simpa using (congrArg (fun x => linksOf own x.1.regs x.1.refStopped) h).symm
      · simp
    · simp
@[simp] theorem serveHit_links (d : Dev) (fl : Flight) (i : Nat) (e : DirEntry) (k : AccKind) :
    linksOf own (d.serveHit fl i e k).regs (d.serveHit fl i e k).refStopped = linksOf own d.regs d.refStopped := by
  have hs := snoopAll_links (own := own)
  generalize hF : Dev.serveHit = F
  delta Dev.serveHit at hF
  generalize Dev.snoopAll = S at hF hs
  subst hF
  dsimp only
  split <;> simp [hs]
@[simp] theorem dirServe_links (d : Dev) (tag : Nat) :
    linksOf own (d.dirServe tag).regs (d.dirServe tag).refStopped = linksOf own d.regs d.refStopped := by
  unfold Dev.dirServe
  split
  · rfl
  · split
    · simp
    · extract_lets i? e? owner k returned v
      clear_value v returned k owner e? i?
      split
      · rw [toMemory_links]; split <;> simp
      · split
        · simp
        · split
          · split
            · simp
            · split <;> simp
          · simp
@[simp] theorem dirStep_links (n : Nat) (d : Dev) :
    linksOf own (Dev.dirStep n d).regs (Dev.dirStep n d).refStopped = linksOf own d.regs d.refStopped := by
  induction n generalizing d with
  | zero => rfl
  | succ n ih => simp only [Dev.dirStep]; split <;> simp [ih]
@[simp] theorem dirSettle_links (d : Dev) :
    linksOf own d.dirSettle.regs d.dirSettle.refStopped = linksOf own d.regs d.refStopped := by
  unfold Dev.dirSettle
  simp -implicitDefEqProofs
@[simp] theorem hostDead_links (d : Dev) (v cause : Nat) :
    linksOf own (d.hostDead v cause).regs (d.hostDead v cause).refStopped = linksOf own d.regs d.refStopped := by
  unfold Dev.hostDead
  simp -implicitDefEqProofs
@[simp] theorem hostLost_links (d : Dev) (v : Nat) (how : Leave) :
    linksOf own (d.hostLost v how).regs (d.hostLost v how).refStopped = linksOf own d.regs d.refStopped := by
  simp [Dev.hostLost]
@[simp] theorem orphan_links (d : Dev) (fl : Flight) :
    linksOf own (d.orphan fl).regs (d.orphan fl).refStopped = linksOf own d.regs d.refStopped := by
  simp [Dev.orphan]
@[simp] theorem snoopLeft_links (d : Dev) (m : QMsg) :
    linksOf own (d.snoopLeft m).regs (d.snoopLeft m).refStopped = linksOf own d.regs d.refStopped := by
  unfold Dev.snoopLeft; split <;> simp
@[simp] theorem freeCells_links (d : Dev) (m : QMsg) :
    linksOf own (d.freeCells m).regs (d.freeCells m).refStopped = linksOf own d.regs d.refStopped := by
  unfold Dev.freeCells; split <;> simp
@[simp] theorem retag_links (d : Dev) (old : List QMsg) :
    linksOf own (d.retag old).regs (d.retag old).refStopped = linksOf own d.regs d.refStopped := by
  simp [Dev.retag]
@[simp] theorem haltFold_links (d : Dev) (f cause q index : Nat) :
    linksOf own (d.haltFold f cause q index).regs (d.haltFold f cause q index).refStopped = linksOf own d.regs d.refStopped := by
  unfold Dev.haltFold
  simp -implicitDefEqProofs
@[simp] theorem fetchBad_links (d : Dev) (id f q i : Nat) :
    linksOf own (d.fetchBad id f q i).regs (d.fetchBad id f q i).refStopped = linksOf own d.regs d.refStopped := by
  unfold Dev.fetchBad
  simp -implicitDefEqProofs
@[simp] theorem progBad_links (d : Dev) (f : Nat) :
    linksOf own (d.progBad f).regs (d.progBad f).refStopped = linksOf own d.regs d.refStopped := by
  simp [Dev.progBad]
@[simp] theorem migResult_links (d : Dev) (f r : Nat) :
    linksOf own (d.migResult f r).regs (d.migResult f r).refStopped = linksOf own d.regs d.refStopped := by
  simp [Dev.migResult]
@[simp] theorem hostReadLost_links (d : Dev) (f a : Nat) :
    linksOf own (d.hostReadLost f a).regs (d.hostReadLost f a).refStopped = linksOf own d.regs d.refStopped := by
  unfold Dev.hostReadLost; split <;> simp
@[simp] theorem saveEnd_links (d : Dev) (f r : Nat) :
    linksOf own (d.saveEnd f r).regs (d.saveEnd f r).refStopped = linksOf own d.regs d.refStopped := by
  simp -implicitDefEqProofs [Dev.saveEnd]
@[simp] theorem hostWriteLost_links (d : Dev) (f a : Nat) :
    linksOf own (d.hostWriteLost f a).regs (d.hostWriteLost f a).refStopped = linksOf own d.regs d.refStopped := by
  simp [Dev.hostWriteLost]
@[simp] theorem hostMsgEnded_links (d : Dev) (m : QMsg) :
    linksOf own (d.hostMsgEnded m).regs (d.hostMsgEnded m).refStopped = linksOf own d.regs d.refStopped := by
  unfold Dev.hostMsgEnded; split <;> simp
@[simp] theorem flushQueues_links (d : Dev) (p : Nat) :
    linksOf own (d.flushQueues p).regs (d.flushQueues p).refStopped = linksOf own d.regs d.refStopped := by
  simp [Dev.flushQueues]
@[simp] theorem reAnswer_links (d : Dev) (m : QMsg) :
    linksOf own (d.reAnswer m).regs (d.reAnswer m).refStopped = linksOf own d.regs d.refStopped := by
  unfold Dev.reAnswer; split <;> simp
@[simp] theorem flush_links (d : Dev) (p : Nat) :
    linksOf own (d.flush p).regs (d.flush p).refStopped = linksOf own d.regs d.refStopped := by
  simp [Dev.flush]
@[simp] theorem fcpEvent_links (d : Dev) (kind : Nat) (ws : List Word) :
    linksOf own (d.fcpEvent kind ws).regs (d.fcpEvent kind ws).refStopped = linksOf own d.regs d.refStopped := by
  simp [Dev.fcpEvent]
@[simp] theorem portEvent_links (d : Dev) (p : Nat) :
    linksOf own (d.portEvent p).regs (d.portEvent p).refStopped = linksOf own d.regs d.refStopped := by
  simp [Dev.portEvent]

end

end Sys2Proof.Machine
end

section
namespace Sys2Proof.Machine

/-! A port that leaves UP leaves the links of the others -/

section
variable {own : Nat}

theorem fset_llState_links (d : Dev) (n : Nat) (rs : List Nat) :
    linksOf own (d.fset TLK_STATUS.LL_STATE n own).regs rs = linksOf own d.regs rs :=
  linksOf_eq (fun _ => rd_fset_other _ _ _ _ _ _ (by simp)) (fun _ hu => fget_fset_other _ _ _ _ _ _ _ _ (.inr (.inl (Ne.symm hu))))
    (fun _ => fget_fset_other _ _ _ _ _ _ _ _ (.inl (by decide))) _

@[simp] theorem tlkClear_links (d : Dev) :
    linksOf own (d.tlkClear own).regs (d.tlkClear own).refStopped = linksOf own d.regs d.refStopped := by
  simp [Dev.tlkClear, fset_llState_links]

/-- A port reset restores no field of CXP_LINK_STAT. -/
theorem restored_linkStat (fu : Fuses) (u : Nat) (v : Word) : (⟨.CXP_LINK_STAT, u, 0⟩ : Reg).restored fu .port v = v := rfl

theorem restoreReg_links (d : Dev) (r : Reg) (ht : r.k = .TLK_STATUS → r.i = own) (hm : r.k ≠ .LAN_STATUS) :
    linksOf own (d.restoreReg .port r).regs (d.restoreReg .port r).refStopped = linksOf own d.regs d.refStopped := by
  refine linksOf_eq (fun u => ?_) (fun u hu => ?_) (fun l => ?_) _
  · rw [rd_restoreReg]
    split
    next he => rw [← he, restored_linkStat]
    next => rfl
  · refine congrArg (bitsOf · 0 2) ((rd_restoreReg _ _ _ _).trans (if_neg fun he => hu ?_))
    exact (congrArg Reg.i he).trans (ht (congrArg Reg.k he).symm)
  · exact congrArg (bitsOf · 12 1) ((rd_restoreReg _ _ _ _).trans (if_neg fun he => hm (congrArg Reg.k he).symm))

theorem restore_links (sel : Reg → Bool) (ht : ∀ r, sel r = true → r.k = .TLK_STATUS → r.i = own)
    (hm : ∀ r, sel r = true → r.k ≠ .LAN_STATUS) (d : Dev) :
    linksOf own (d.restore .port sel).regs (d.restore .port sel).refStopped = linksOf own d.regs d.refStopped := by
  unfold Dev.restore
  generalize hrs : (d.regs.map (·.1)).filter sel = rs
  have hsel : ∀ r ∈ rs, sel r = true := fun r hr => (List.mem_filter.mp (hrs ▸ hr)).2
  clear hrs
  induction rs generalizing d with
  | nil => rfl
  | cons r rs ih =>
    have hr := hsel r List.mem_cons_self
    rw [List.foldl_cons, ih _ fun r' h => hsel r' (List.mem_cons_of_mem _ h), restoreReg_links d r (ht r hr) (hm r hr)]

@[simp] theorem portReset_links (d : Dev) :
    linksOf own (d.portReset own).regs (d.portReset own).refStopped = linksOf own d.regs d.refStopped := by
  unfold Dev.portReset
  dsimp only
  rw [restore_links]
  · intro r hr hk
    simp only [hk, RK.place] at hr
    simpa using hr
  · intro r hr hk
    simp only [hk, RK.place] at hr
    simp at hr

end

/-- The port shown out of UP: its state and cause, one more loss, its figures cleared. -/
def Dev.leftShown (d : Dev) (p cause next : Nat) : Dev :=
  (((((((d.fset CXP_LINK_STAT.STATE next p).fset CXP_LINK_STAT.CAUSE cause p).fadd CXP_LINK_STAT.DOWN_COUNT 1 p).fset
    CXP_LINK_STAT.WIDTH 0 p).fset CXP_LINK_STAT.RATE 0 p).fset CXP_LINK_STAT.FLIT 0 p).fset CXP_LINK_STAT.PARTNER 0 p)

/-- What the links show of a port that leaves UP is what it is given first. -/
theorem leaveUp_links (d : Dev) (p cause next : Nat) (how : Leave) :
    linksOf p (d.leaveUp p cause next how).regs (d.leaveUp p cause next how).refStopped =
      linksOf p (d.leftShown p cause next).regs d.refStopped := by
  rw [show linksOf p (d.leftShown p cause next).regs d.refStopped =
    linksOf p (d.leftShown p cause next).regs (d.leftShown p cause next).refStopped by simp [Dev.leftShown]]
  unfold Dev.leaveUp
  simp only [← Dev.leftShown.eq_1]
  generalize d.leftShown p cause next = e
  simp -implicitDefEqProofs

end Sys2Proof.Machine
end

section
namespace Sys2Proof.Machine

/-! A reference that stops (R173) -/

/-- A command's effect, for what is read from the registers alone. -/
theorem onDev_registers {s : State} {c : Instr} {f : Dev → Dev} {P : Dev → Prop} (h : s.dev.inReset = false)
    (hc : exec c s = onDev s f)
    (hp : ∀ x : Dev, x.regs = (f s.dev).regs → x.refStopped = (f s.dev).refStopped → P x) : Runs c s P := by
  refine ⟨{ f s.dev with gable := { (f s.dev).gable with boot := s.dev.gable.boot }, fuses := s.dev.fuses }, hc.trans ?_,
    hp _ rfl rfl⟩
  unfold onDev onAny onReset
  simp [h]

/-- The quadrant's lanes marked. -/
def Dev.lanesMarked (d : Dev) (q : Nat) : Dev :=
  (List.range 16).foldl (fun d k => d.fset LAN_STATUS.REFCLK_LOST 1 (16 * q + k)) d

/-- The quadrant's lanes marked, its reference stopped. -/
def Dev.refMarked (d : Dev) (q : Nat) : Dev :=
  let d := d.lanesMarked q
  { d with refStopped := if d.refStopped.contains q then d.refStopped else d.refStopped ++ [q] }

/-- A port's loss of its link as its reference stops. -/
def Dev.refLoses (q : Nat) (d : Dev) (p : Nat) : Dev := (d.leaveUp p 4 poDown .surprise).raise (128 + q) (recPort 0x21 p q)

section
variable (d : Dev) (q : Nat)

theorem foldl_lost (ks : List Nat) {k : Nat} (h : k ∈ ks ∨ d.fget LAN_STATUS.REFCLK_LOST (16 * q + k) = 1) :
    (ks.foldl (fun d k => d.fset LAN_STATUS.REFCLK_LOST 1 (16 * q + k)) d).fget LAN_STATUS.REFCLK_LOST (16 * q + k) = 1 := by
  induction ks generalizing d with
  | nil => exact h.resolve_left List.not_mem_nil
  | cons j ks ih =>
    refine ih _ ?_
    by_cases hj : k = j
    · subst hj
      exact Or.inr (fget_fset_same _ _ _ _ _ (by decide))
    · rw [fget_fset_other _ _ _ _ _ _ _ _ (.inr (.inl (by omega)))]
      exact h.imp_left fun hm => (List.mem_cons.mp hm).resolve_left hj

theorem lanesMarked_lost {k : Nat} (hk : k < 16) : (d.lanesMarked q).fget LAN_STATUS.REFCLK_LOST (16 * q + k) = 1 :=
  foldl_lost d q _ (.inl (List.mem_range.mpr hk))

theorem lanesMarked_rd {r : Reg} (hr : r.k ≠ .LAN_STATUS) : (d.lanesMarked q).rd r = d.rd r :=
  foldl_keeps (·.rd r) _ (fun _ _ => rd_fset_other _ _ _ _ _ _ fun h => hr (congrArg Reg.k h)) _ d

theorem rd_withStopped (l : List Nat) (r : Reg) : ({ d with refStopped := l } : Dev).rd r = d.rd r := rd_congr rfl rfl r

theorem refMarked_rd (r : Reg) : (d.refMarked q).rd r = (d.lanesMarked q).rd r := rd_withStopped _ _ r

theorem refMarked_stopped : q ∈ (d.refMarked q).refStopped := by
  unfold Dev.refMarked
  dsimp only
  split
  next h => simpa using h
  next => simp

/-- The registers of a link layer cleared. -/
def Dev.llCleared (d : Dev) (p : Nat) : Dev :=
  ((((((d.fset TLK_STATUS.LL_STATE 0 p).fset TLK_STATUS.UNACKED 0 p).fset TLK_STATUS.TX_NEXT 0 p).fset TLK_STATUS.RX_EXPECT 0 p).fset
    TLK_STATUS.XOFF_RX 0 p).fset TLK_STATUS.XOFF_TX 0 p).fset TLK_STATUS.STALLED 0 p

theorem rd_withTlk (x : Tlk) (r : Reg) : ({ d with tlk := x } : Dev).rd r = d.rd r := rd_congr rfl rfl r

theorem rd_withThatch (x : Thatch) (r : Reg) : ({ d with thatch := x } : Dev).rd r = d.rd r := rd_congr rfl rfl r

theorem tlkClear_rd (p : Nat) (r : Reg) : (d.tlkClear p).rd r = (d.llCleared p).rd r := by
  unfold Dev.tlkClear
  dsimp only
  rw [rd_withThatch]
  simp only [Dev.llCleared, rd_fset, rd_withTlk]

theorem tlkClear_rd_other (p : Nat) {r : Reg} (hr : r.k ≠ .TLK_STATUS) : (d.tlkClear p).rd r = d.rd r := by
  have hne : ∀ i, r ≠ ⟨.TLK_STATUS, i, 0⟩ := fun _ h => hr (congrArg Reg.k h)
  simp only [tlkClear_rd, Dev.llCleared, rd_fset, hne, if_false]

theorem tlkClear_ll (p u : Nat) : (d.tlkClear p).fget TLK_STATUS.LL_STATE u = if u = p then 0 else d.fget TLK_STATUS.LL_STATE u := by
  split
  next h =>
    subst h
    rw [Dev.fget, tlkClear_rd]
    change (d.llCleared u).fget TLK_STATUS.LL_STATE u = 0
    simp [Dev.llCleared, fget_fset_other, fget_fset_same]
  next h => exact ll_of_links (tlkClear_links d) h

theorem foldl_tlkClear_ll (ts : List Nat) {u : Nat} (h : u ∈ ts ∨ d.fget TLK_STATUS.LL_STATE u = 0) :
    (ts.foldl Dev.tlkClear d).fget TLK_STATUS.LL_STATE u = 0 := by
  induction ts generalizing d with
  | nil => exact h.resolve_left List.not_mem_nil
  | cons t ts ih =>
    refine ih _ ?_
    rw [tlkClear_ll]
    by_cases ht : u = t
    · exact Or.inr (if_pos ht)
    · rw [if_neg ht]
      exact h.imp_left fun hm => (List.mem_cons.mp hm).resolve_left ht

theorem refLoses_links (p : Nat) : linksOf p (d.refLoses q p).regs (d.refLoses q p).refStopped =
    linksOf p (d.leftShown p 4 poDown).regs (d.leftShown p 4 poDown).refStopped := by
  rw [Dev.refLoses, raise_links, raise_refStopped, leaveUp_links]
  simp [Dev.leftShown]

/-- A port that lost its link with its reference. -/
def Dev.refDown (d : Dev) (p : Nat) : Prop := d.portState p = poDown ∧ d.fget CXP_LINK_STAT.CAUSE p = 4

theorem leftShown_refDown (p : Nat) : (d.leftShown p 4 poDown).refDown p := by
  constructor <;> simp [Dev.leftShown, Dev.portState, Dev.fadd, poDown, fget_fset_other, fget_fset_same]

theorem leftShown_rd (p c n : Nat) {r : Reg} (hr : r ≠ ⟨.CXP_LINK_STAT, p, 0⟩) : (d.leftShown p c n).rd r = d.rd r := by
  simp only [Dev.leftShown, Dev.fadd, rd_fset, if_neg hr]

end

end Sys2Proof.Machine
end

section
namespace Sys2Proof.Machine

section
variable (d : Dev) (q p : Nat)

theorem refLoses_stopped : (d.refLoses q p).refStopped = d.refStopped := by
  rw [stopped_of_links (refLoses_links d q p)]
  simp [Dev.leftShown]

theorem refLoses_lost (l : Nat) : (d.refLoses q p).fget LAN_STATUS.REFCLK_LOST l = d.fget LAN_STATUS.REFCLK_LOST l :=
  (lost_of_links (refLoses_links d q p) l).trans (congrArg (bitsOf · 12 1) (leftShown_rd _ _ _ _ (by simp)))

theorem refLoses_link {u : Nat} (hu : u ≠ p) : (d.refLoses q p).rd ⟨.CXP_LINK_STAT, u, 0⟩ = d.rd ⟨.CXP_LINK_STAT, u, 0⟩ :=
  (link_of_links (refLoses_links d q p) u).trans (leftShown_rd _ _ _ _ (by simpa using hu))

theorem refLoses_ll {u : Nat} (hu : u ≠ p) : (d.refLoses q p).fget TLK_STATUS.LL_STATE u = d.fget TLK_STATUS.LL_STATE u :=
  (ll_of_links (refLoses_links d q p) hu).trans (congrArg (bitsOf · 0 2) (leftShown_rd _ _ _ _ (by simp)))

/-- A port is down with its reference where CXP_LINK_STAT shows it so. -/
theorem refDown_congr {d e : Dev} {p : Nat} (h : e.rd ⟨.CXP_LINK_STAT, p, 0⟩ = d.rd ⟨.CXP_LINK_STAT, p, 0⟩) (hd : d.refDown p) : e.refDown p :=
  ⟨(congrArg (bitsOf · 0 3) h).trans hd.1, (congrArg (bitsOf · 16 4) h).trans hd.2⟩

theorem refLoses_down : (d.refLoses q p).refDown p :=
  refDown_congr (link_of_links (refLoses_links d q p) p) (leftShown_refDown d p)

variable (us : List Nat)

theorem foldl_refLoses_down {u : Nat} (h : u ∈ us ∨ d.refDown u) : (us.foldl (Dev.refLoses q) d).refDown u := by
  induction us generalizing d with
  | nil => exact h.resolve_left List.not_mem_nil
  | cons v us ih =>
    rw [List.foldl_cons]
    refine ih _ ?_
    by_cases hv : u = v
    · subst hv
      exact Or.inr (refLoses_down d q u)
    · exact h.imp (fun hm => (List.mem_cons.mp hm).resolve_left hv) (refDown_congr (refLoses_link d q v hv))

theorem foldl_refLoses_other {u : Nat} (h : u ∉ us) :
    (us.foldl (Dev.refLoses q) d).rd ⟨.CXP_LINK_STAT, u, 0⟩ = d.rd ⟨.CXP_LINK_STAT, u, 0⟩ ∧
      (us.foldl (Dev.refLoses q) d).fget TLK_STATUS.LL_STATE u = d.fget TLK_STATUS.LL_STATE u := by
  induction us generalizing d with
  | nil => exact ⟨rfl, rfl⟩
  | cons v us ih =>
    obtain ⟨hv, hus⟩ := not_or.mp (mt List.mem_cons.mpr h)
    obtain ⟨hl, ht⟩ := ih (d.refLoses q v) hus
    rw [List.foldl_cons]
    exact ⟨hl.trans (refLoses_link d q v hv), ht.trans (refLoses_ll d q v hv)⟩

end

/-- The bring-ups in the quadrant abandoned. -/
def Dev.refCut (d : Dev) (q : Nat) : Dev :=
  (((d.refMarked q).portsIn q).filter fun p => (d.refMarked q).portState p == poTraining).foldl Dev.tlkClear (d.refMarked q)

/-- The device whose quadrant's reference has stopped. -/
def Dev.refLost (d : Dev) (q : Nat) : Dev :=
  (((d.refCut q).portsIn q).filter (d.refCut q).portUp).foldl (Dev.refLoses q) (d.refCut q)

section
variable {d e : Dev} (h : d.portsAs e)
include h

theorem Dev.portsAs.portsIn (q : Nat) : e.portsIn q = d.portsIn q := by
  rw [Dev.portsIn, Dev.portsIn, show e.configured = d.configured from funext h.configured]

end

section
variable (d : Dev) (q : Nat)

theorem refMarked_portsAs : d.portsAs (d.refMarked q) :=
  ⟨fun _ => (refMarked_rd _ _ _).trans (lanesMarked_rd _ _ (by simp)), fun _ => (refMarked_rd _ _ _).trans (lanesMarked_rd _ _ (by simp))⟩

theorem refCut_rd {r : Reg} (hr : r.k ≠ .TLK_STATUS) : (d.refCut q).rd r = (d.refMarked q).rd r :=
  foldl_keeps (·.rd r) _ (fun e p => tlkClear_rd_other e p hr) _ _

theorem refCut_portsAs : d.portsAs (d.refCut q) :=
  ⟨fun p => (refCut_rd d q (by simp)).trans ((refMarked_portsAs d q).cfg p),
    fun p => (refCut_rd d q (by simp)).trans ((refMarked_portsAs d q).link p)⟩

theorem refCut_ll {u : Nat} (hu : u ∈ d.portsIn q) (ht : d.portState u = poTraining) :
    (d.refCut q).fget TLK_STATUS.LL_STATE u = 0 := by
  refine foldl_tlkClear_ll _ _ (.inl (List.mem_filter.mpr ⟨?_, ?_⟩))
  · rwa [(refMarked_portsAs d q).portsIn]
  · rw [(refMarked_portsAs d q).portState, ht]
    rfl

theorem refLost_stopped : q ∈ (d.refLost q).refStopped := by
  rw [Dev.refLost, foldl_keeps Dev.refStopped _ fun e p => refLoses_stopped e q p, Dev.refCut,
    foldl_keeps Dev.refStopped _ fun e p => stopped_of_links (tlkClear_links (own := p) e)]
  exact refMarked_stopped d q

theorem refLost_lost {k : Nat} (hk : k < 16) : (d.refLost q).fget LAN_STATUS.REFCLK_LOST (16 * q + k) = 1 := by
  rw [Dev.refLost, foldl_keeps (fun e => e.fget LAN_STATUS.REFCLK_LOST (16 * q + k)) _ fun e p => refLoses_lost e q p _, Dev.fget,
    refCut_rd _ _ (by simp), refMarked_rd]
  exact lanesMarked_lost d q hk

theorem mem_lost {u : Nat} : u ∈ ((d.refCut q).portsIn q).filter (d.refCut q).portUp ↔ u ∈ d.portsIn q ∧ d.portUp u = true := by
  rw [List.mem_filter, (refCut_portsAs d q).portsIn, (refCut_portsAs d q).portUp]

theorem refLost_down {u : Nat} (hu : u ∈ d.portsIn q) (hup : d.portUp u = true) : (d.refLost q).refDown u :=
  foldl_refLoses_down _ _ _ (.inl ((mem_lost d q).mpr ⟨hu, hup⟩))

theorem refLost_training {u : Nat} (hu : u ∈ d.portsIn q) (ht : d.portState u = poTraining) :
    (d.refLost q).portState u = poTraining ∧ (d.refLost q).fget TLK_STATUS.LL_STATE u = 0 := by
  have hn : u ∉ ((d.refCut q).portsIn q).filter (d.refCut q).portUp := by
    rw [mem_lost]
    rintro ⟨-, hup⟩
    rw [Dev.portUp, show d.fget CXP_LINK_STAT.STATE u = 1 from ht] at hup
    exact absurd hup (by decide)
  obtain ⟨hl, hll⟩ := foldl_refLoses_other (d.refCut q) q _ hn
  exact ⟨(congrArg (bitsOf · 0 3) hl).trans (((refCut_portsAs d q).portState u).trans ht), hll.trans (refCut_ll d q hu ht)⟩

end

theorem refclkLoss_eq (q : Fin 32) (s : State) : exec (.refclkLoss q) s = onDev s fun d => d.refLost q := by
  unfold exec
  rfl

section
variable {s : State} {q : Fin 32} (h : s.dev.inReset = false)
include h

theorem refclkLoss_runs : Runs (.refclkLoss q) s fun x => q.val ∈ x.refStopped ∧
    (∀ k < 16, x.fget LAN_STATUS.REFCLK_LOST (16 * q + k) = 1) ∧
    ∀ u ∈ s.dev.portsIn q, (s.dev.portUp u = true → x.refDown u) ∧
      (s.dev.portState u = poTraining → x.portState u = poTraining ∧ x.fget TLK_STATUS.LL_STATE u = 0) := by
  refine onDev_registers h (refclkLoss_eq q s) fun x hr hs => ?_
  have hl : ∀ own, linksOf own x.regs x.refStopped = linksOf own (s.dev.refLost q).regs (s.dev.refLost q).refStopped := fun own => by
    rw [hr, hs]
  refine ⟨hs.symm ▸ refLost_stopped s.dev q.val, fun k hk => (lost_of_links (hl 0) _).trans (refLost_lost s.dev q.val hk),
    fun u hu => ⟨fun hup => ?_, fun ht => ?_⟩⟩
  · exact refDown_congr (link_of_links (hl 0) u) (refLost_down s.dev q.val hu hup)
  · obtain ⟨hst, hll⟩ := refLost_training s.dev q.val hu ht
    exact ⟨(congrArg (bitsOf · 0 3) (link_of_links (hl 0) u)).trans hst, (ll_of_links (hl (u + 1)) (by omega)).trans hll⟩

theorem refclkRestored_ends : ∃ l, Ends (.refclkRestored q) s { s.dev with refStopped := l } ∧
    ∀ k, k ∈ l ↔ k ∈ s.dev.refStopped ∧ k ≠ q.val := by
  refine ⟨s.dev.refStopped.filter (· != (q : Nat)), ?_, fun k => by simp [List.mem_filter]⟩
  unfold Ends exec execRefclkRestored
  exact onDev_to h rfl rfl rfl

end

end Sys2Proof.Machine
end

section
namespace Sys2Proof.Machine

/-! Bring-up starts (R178, R193, R245) -/

/-- The registers that bring-up is told by. No fuse gives the reset value of one. -/
def bringUpRegs : List RK := [.CXP_LINK_STAT, .LAN_STATUS, .LAN_TXEQ, .LAN_PRBS_CTRL, .LAN_PRBS_STAT, .CXP_IDE_CFG]

theorem resetVal_bringUp (fu fu' : Fuses) {r : Reg} (h : r.k ∈ bringUpRegs) : r.resetVal fu = r.resetVal fu' := by
  obtain ⟨k, i, j⟩ := r
  simp only [bringUpRegs, List.mem_cons, List.not_mem_nil, or_false] at h
  rcases h with rfl | rfl | rfl | rfl | rfl | rfl <;> rfl

/-- A command's effect, for what these registers show. -/
theorem onDev_shows {s : State} {c : Instr} {g : Dev → Dev} {P : Dev → Prop} (h : s.dev.inReset = false)
    (hc : exec c s = onDev s g)
    (hp : ∀ x : Dev, (∀ f : Fld, f.k ∈ bringUpRegs → ∀ i, x.fget f i = (g s.dev).fget f i) → P x) : Runs c s P := by
  refine onDev_registers h hc fun x hr _ => hp x fun f hf i => congrArg (bitsOf · f.lo f.w) ?_
  rw [Dev.rd, hr, resetVal_bringUp x.fuses (g s.dev).fuses hf, Dev.rd]

/-- Steps that leave what is seen leave it all together. -/
theorem foldl_unseen {β : Type} (view : Dev → β) (step : Dev → Nat → Dev) {ks : List Nat} {k : Nat} (hk : k ∉ ks)
    (ho : ∀ e j, j ≠ k → view (step e j) = view e) (d : Dev) : view (ks.foldl step d) = view d := by
  induction ks generalizing d with
  | nil => rfl
  | cons j ks ih =>
    obtain ⟨hj, hks⟩ := not_or.mp (mt List.mem_cons.mpr hk)
    rw [List.foldl_cons, ih hks, ho d j (Ne.symm hj)]

/-- Of steps that each but one leave what is seen, that one finds it as it was before all, and what it leaves stays. -/
theorem foldl_once {β : Type} (view : Dev → β) (step : Dev → Nat → Dev) {ks : List Nat} {k : Nat} (hn : ks.Nodup) (hk : k ∈ ks)
    (ho : ∀ e j, j ≠ k → view (step e j) = view e) (d : Dev) : ∃ e, view e = view d ∧ view (ks.foldl step d) = view (step e k) := by
  induction ks generalizing d with
  | nil => exact absurd hk List.not_mem_nil
  | cons j ks ih =>
    obtain ⟨hj, hn⟩ := List.nodup_cons.mp hn
    rw [List.foldl_cons]
    by_cases hjk : j = k
    · subst hjk
      exact ⟨d, rfl, foldl_unseen view step hj ho _⟩
    · obtain ⟨e, he, hf⟩ := ih hn ((List.mem_cons.mp hk).resolve_left (Ne.symm hjk)) (step d j)
      exact ⟨e, he.trans (ho d j hjk), hf⟩

theorem lanesOf_nodup (d : Dev) (p : Nat) : (d.lanesOf p).Nodup :=
  (List.nodup_range).map fun _ _ h => Nat.add_left_cancel h

/-- A lane's generator and checker preempted. -/
def Dev.preemptLane (d : Dev) (l : Nat) : Dev :=
  if d.fon LAN_PRBS_CTRL.GEN_EN l || d.fon LAN_PRBS_CTRL.CHK_EN l then
    (((d.fset LAN_PRBS_CTRL.GEN_EN 0 l).fset LAN_PRBS_CTRL.CHK_EN 0 l).fset LAN_PRBS_STAT.PREEMPTED 1 l).fset LAN_PRBS_STAT.LOCKED 0 l
  else d

theorem preempt_eq (d : Dev) (p : Nat) : d.preempt p = (d.lanesOf p).foldl Dev.preemptLane d := rfl

theorem preemptLane_rd_other (d : Dev) {l : Nat} {r : Reg} (h : (r.k ≠ .LAN_PRBS_CTRL ∧ r.k ≠ .LAN_PRBS_STAT) ∨ r.i ≠ l) :
    (d.preemptLane l).rd r = d.rd r := by
  have hne : ∀ k, k = .LAN_PRBS_CTRL ∨ k = .LAN_PRBS_STAT → r ≠ ⟨k, l, 0⟩ := by
    rintro k hk rfl
    rcases h with ⟨h1, h2⟩ | h
    · exact hk.elim h1 h2
    · exact h rfl
  unfold Dev.preemptLane
  split
  · simp only [rd_fset, hne _ (.inl rfl), hne _ (.inr rfl), if_false]
  · rfl

/-- The PRBS of a lane is off, and where it was on in `d` it is marked. -/
def Dev.prbsOff (d : Dev) (l : Nat) (x : Dev) : Prop :=
  x.fget LAN_PRBS_CTRL.GEN_EN l = 0 ∧ x.fget LAN_PRBS_CTRL.CHK_EN l = 0 ∧
    (d.fon LAN_PRBS_CTRL.GEN_EN l = true ∨ d.fon LAN_PRBS_CTRL.CHK_EN l = true → x.fget LAN_PRBS_STAT.PREEMPTED l = 1)

theorem preemptLane_off (d : Dev) (l : Nat) : d.prbsOff l (d.preemptLane l) := by
  unfold Dev.preemptLane
  split
  · refine ⟨?_, ?_, fun _ => ?_⟩ <;> simp [fget_fset_other, fget_fset_same]
  next hoff =>
    have h := Bool.or_eq_false_iff.mp (Bool.eq_false_iff.mpr hoff)
    exact ⟨by simpa [Dev.fon] using h.1, by simpa [Dev.fon] using h.2, fun ho => absurd (by simpa using ho) hoff⟩

/-- What a lane's PRBS shows. -/
def Dev.prbsView (l : Nat) (d : Dev) : Word × Word := (d.rd ⟨.LAN_PRBS_CTRL, l, 0⟩, d.rd ⟨.LAN_PRBS_STAT, l, 0⟩)

theorem prbsOff_congr {d d' x x' : Dev} {l : Nat} (hd : d'.prbsView l = d.prbsView l) (hx : x'.prbsView l = x.prbsView l)
    (h : d.prbsOff l x) : d'.prbsOff l x' := by
  obtain ⟨hdc, -⟩ := Prod.mk.inj hd
  obtain ⟨hxc, hxs⟩ := Prod.mk.inj hx
  simpa only [Dev.prbsOff, Dev.fon, Dev.fget, hdc, hxc, hxs] using h

theorem preempt_off {d : Dev} {p l : Nat} (hl : l ∈ d.lanesOf p) : d.prbsOff l (d.preempt p) := by
  obtain ⟨e, he, hf⟩ := foldl_once (Dev.prbsView l) Dev.preemptLane (lanesOf_nodup d p) hl (fun e j hj =>
    Prod.ext (preemptLane_rd_other e (.inr (Ne.symm hj))) (preemptLane_rd_other e (.inr (Ne.symm hj)))) d
  exact prbsOff_congr he.symm hf (preemptLane_off e l)

theorem preempt_rd (d : Dev) (p : Nat) {r : Reg} (h1 : r.k ≠ .LAN_PRBS_CTRL) (h2 : r.k ≠ .LAN_PRBS_STAT) :
    (d.preempt p).rd r = d.rd r :=
  preempt_eq d p ▸ foldl_keeps (·.rd r) _ (fun e _ => preemptLane_rd_other e (.inl ⟨h1, h2⟩)) _ d

/-! The coefficients that a lane starts with (R182 to R185) -/

theorem setCoeff_onlyRegs (d : Dev) (l rate pre post : Nat) : OnlyRegs [⟨.LAN_TXEQ, l, 0⟩] d (d.setCoeff l rate pre post) := by
  unfold Dev.setCoeff
  split
  · exact (((onlyRegs_refl _ d).fset LAN_TXEQ.PRE _ _ _ (by simp)).fset LAN_TXEQ.POST _ _ _ (by simp)).fset LAN_TXEQ.MAIN _ _ _ (by simp)
  · exact (((onlyRegs_refl _ d).fset LAN_TXEQ.PRE _ _ _ (by simp)).fset LAN_TXEQ.POST _ _ _ (by simp)).fset LAN_TXEQ.MAIN _ _ _ (by simp)

/-- A lane's first coefficients are some that its rate takes. -/
theorem laneCoeff_setCoeff (d : Dev) (l rate : Nat) : ∃ a b, d.laneCoeff l rate = d.setCoeff l rate a b := by
  unfold Dev.laneCoeff
  dsimp only
  split_ifs
  · exact ⟨_, _, rfl⟩
  · exact ⟨_, _, rfl⟩

theorem laneCoeff_onlyRegs (d : Dev) (l rate : Nat) : OnlyRegs [⟨.LAN_TXEQ, l, 0⟩] d (d.laneCoeff l rate) := by
  obtain ⟨a, b, h⟩ := laneCoeff_setCoeff d l rate
  exact h ▸ setCoeff_onlyRegs d l rate a b

theorem laneTrains_rd (d : Dev) (l : Nat) {r : Reg} (hs : r.k ≠ .LAN_STATUS) (ht : r.k ≠ .LAN_TXEQ) : (d.laneTrains l).rd r = d.rd r := by
  rw [Dev.laneTrains, rd_setLane, (laneCoeff_onlyRegs _ l 0).2 r (by simpa using fun h => ht (congrArg Reg.k h)),
    rd_fset_other _ _ _ _ _ _ fun h => hs (congrArg Reg.k h)]

theorem train_rd (d : Dev) (p : Nat) {r : Reg} (hs : r.k ≠ .LAN_STATUS) (ht : r.k ≠ .LAN_TXEQ) :
    (d.train p).rd r = ((d.fset CXP_LINK_STAT.STATE poTraining p).preempt p).rd r :=
  foldl_keeps (·.rd r) _ (fun e l => laneTrains_rd e l hs ht) _ _

theorem train_prbsView (d : Dev) (p l : Nat) :
    (d.train p).prbsView l = ((d.fset CXP_LINK_STAT.STATE poTraining p).preempt p).prbsView l := by
  simp only [Dev.prbsView, train_rd d p (r := ⟨.LAN_PRBS_CTRL, l, 0⟩) (by simp) (by simp),
    train_rd d p (r := ⟨.LAN_PRBS_STAT, l, 0⟩) (by simp) (by simp)]

/-- The lanes of a port are those of its configuration. -/
theorem lanesOf_congr {d e : Dev} {p : Nat} (h : e.rd ⟨.CXP_PORT_CFG, p, 0⟩ = d.rd ⟨.CXP_PORT_CFG, p, 0⟩) : e.lanesOf p = d.lanesOf p := by
  unfold Dev.lanesOf Dev.cfgLanes Dev.configured Dev.fon Dev.fget
  simp only [h]

/-- What bring-up shows as it starts. -/
def Dev.trainsTo (d : Dev) (p : Nat) (x : Dev) : Prop := x.portState p = poTraining ∧ ∀ l ∈ d.lanesOf p, d.prbsOff l x

theorem train_trainsTo (d : Dev) (p : Nat) : d.trainsTo p (d.train p) := by
  set e := d.fset CXP_LINK_STAT.STATE poTraining p with he
  have hrd : ∀ r : Reg, r.k ≠ .CXP_LINK_STAT → e.rd r = d.rd r := fun r hr =>
    rd_fset_other _ _ _ _ _ _ fun h => hr (congrArg Reg.k h)
  refine ⟨?_, fun l hl => ?_⟩
  · refine (congrArg (bitsOf · 0 3) ((train_rd d p (by simp) (by simp)).trans (preempt_rd e p (by simp) (by simp)))).trans ?_
    exact fget_fset_same d CXP_LINK_STAT.STATE _ _ _ (by decide)
  · refine prbsOff_congr ?_ (train_prbsView d p l) (preempt_off (d := e) (p := p) (l := l) (by rwa [lanesOf_congr (hrd _ (by simp))]))
    simp only [Dev.prbsView, hrd ⟨.LAN_PRBS_CTRL, l, 0⟩ (by simp), hrd ⟨.LAN_PRBS_STAT, l, 0⟩ (by simp)]

theorem preempt_trainsTo {d : Dev} {p : Nat} (h : d.portState p = poTraining) : d.trainsTo p (d.preempt p) :=
  ⟨(congrArg (bitsOf · 0 3) (preempt_rd d p (by simp) (by simp))).trans h, fun _ => preempt_off⟩

/-- What bring-up shows, the registers show. -/
theorem trainsTo_of_shows {d e x : Dev} {p : Nat} (hx : ∀ f : Fld, f.k ∈ bringUpRegs → ∀ i, x.fget f i = e.fget f i)
    (h : d.trainsTo p e) : d.trainsTo p x := by
  refine ⟨(hx CXP_LINK_STAT.STATE (by simp [bringUpRegs]) p).trans h.1, fun l hl => ?_⟩
  unfold Dev.prbsOff
  rw [hx LAN_PRBS_CTRL.GEN_EN (by simp [bringUpRegs]), hx LAN_PRBS_CTRL.CHK_EN (by simp [bringUpRegs]),
    hx LAN_PRBS_STAT.PREEMPTED (by simp [bringUpRegs])]
  exact h.2 l hl

section
variable {s : State} {p : Fin 128} (h : s.dev.inReset = false)
include h

theorem partnerDetected_runs (hs : s.dev.portState p = poDown) (hr : s.dev.refOk p = true) :
    Runs (.partnerDetected p) s (s.dev.trainsTo p) := by
  refine onDev_shows h (g := fun d => if d.portState p = poDown && d.refOk p then d.train p else d) ?_ fun x hx => ?_
  · unfold exec
    rfl
  · exact trainsTo_of_shows hx (by rw [if_pos (by simp [hs, hr])]; exact train_trainsTo s.dev p)

theorem partnerDetected_idle (hn : s.dev.portState p ≠ poDown ∨ s.dev.refOk p = false) : exec (.partnerDetected p) s = .next s := by
  unfold exec execPartnerDetected
  refine onDev_idle h (if_neg ?_)
  rw [Bool.and_eq_true, decide_eq_true_eq]
  rintro ⟨hs, hr⟩
  exact hn.elim (· hs) fun hf => Bool.noConfusion (hf.symm.trans hr)

theorem receiverDetection_runs (hs : s.dev.portState p = poTraining) : Runs (.receiverDetection p) s (s.dev.trainsTo p) := by
  refine onDev_shows h (g := fun d => if d.portState p = poTraining then d.preempt p else d) ?_ fun x hx => ?_
  · unfold exec
    rfl
  · exact trainsTo_of_shows hx (by rw [if_pos hs]; exact preempt_trainsTo hs)

theorem receiverDetection_idle (hs : s.dev.portState p ≠ poTraining) : exec (.receiverDetection p) s = .next s := by
  unfold exec execReceiverDetection
  exact onDev_idle h (if_neg hs)

end

end Sys2Proof.Machine
end

section
namespace Sys2Proof.Machine

/-! What training comes to (R173, R174, R177, R219, R223, R224) -/

/-- Does a link of `w` lanes form: is it as wide as the port, and do its logical lanes all train? -/
def Dev.widthTrains (d : Dev) (p : Nat) (t : LinkTraining) (w : Nat) : Bool :=
  decide (w ≤ d.cfgLanes p) && (List.range w).all (d.logicalTrains p t)

section
variable {d : Dev} {p : Nat} {t : LinkTraining} {w : Nat}

theorem widthTrains_iff : d.widthTrains p t w = true ↔ w ≤ d.cfgLanes p ∧ ∀ k < w, d.logicalTrains p t k = true := by
  simp only [Dev.widthTrains, Bool.and_eq_true, decide_eq_true_eq, List.all_eq_true, List.mem_range]

theorem not_widthTrains (h : w ≤ d.cfgLanes p → ∃ k < w, d.logicalTrains p t k = false) : d.widthTrains p t w = false := by
  rw [Bool.eq_false_iff]
  intro hw
  obtain ⟨hn, hk⟩ := widthTrains_iff.mp hw
  obtain ⟨k, hkw, hf⟩ := h hn
  exact Bool.noConfusion (hf.symm.trans (hk k hkw))

theorem lane_of_not_widthTrains (h : d.widthTrains p t w = false) (hn : w ≤ d.cfgLanes p) : ∃ k < w, d.logicalTrains p t k = false := by
  by_contra hc
  push Not at hc
  exact Bool.eq_false_iff.mp h (widthTrains_iff.mpr ⟨hn, fun k hk => Bool.eq_true_of_not_eq_false (hc k hk)⟩)

theorem trainWidth_eq : d.trainWidth p t = ([16, 8, 4, 2, 1].find? (d.widthTrains p t)).getD 0 := rfl

theorem trainWidth_none (h : ∀ w ∈ [1, 2, 4, 8, 16], d.widthTrains p t w = false) : d.trainWidth p t = 0 := by
  simp only [List.mem_cons, List.not_mem_nil, or_false, forall_eq_or_imp, forall_eq] at h
  obtain ⟨h1, h2, h4, h8, h16⟩ := h
  simp [trainWidth_eq, List.find?, h1, h2, h4, h8, h16]

/-- The widest width that trains. -/
theorem trainWidth_widest (h : d.trainWidth p t ≠ 0) : d.trainWidth p t ∈ [1, 2, 4, 8, 16] ∧ d.widthTrains p t (d.trainWidth p t) = true ∧
    ∀ w ∈ [2, 4, 8, 16], d.trainWidth p t < w → d.widthTrains p t w = false := by
  revert h
  rw [trainWidth_eq]
  cases h16 : d.widthTrains p t 16 with
  | true => simp [List.find?, h16]
  | false =>
    cases h8 : d.widthTrains p t 8 with
    | true => simp [List.find?, h16, h8]
    | false =>
      cases h4 : d.widthTrains p t 4 with
      | true => simp [List.find?, h16, h8, h4]
      | false =>
        cases h2 : d.widthTrains p t 2 with
        | true => simp [List.find?, h16, h8, h4, h2]
        | false =>
          cases h1 : d.widthTrains p t 1 with
          | true => simp [List.find?, h16, h8, h4, h2, h1]
          | false => simp [List.find?, h16, h8, h4, h2, h1]

/-- The greatest number below `n` of which a test holds. -/
theorem find?_reverse_range {q : Nat → Bool} {n r : Nat} (h : (List.range n).reverse.find? q = some r) :
    r < n ∧ q r = true ∧ ∀ r', r < r' → r' < n → q r' = false := by
  induction n with
  | zero => exact absurd h (by simp)
  | succ n ih =>
    rw [List.range_succ, List.reverse_append, List.reverse_singleton, List.singleton_append, List.find?_cons] at h
    cases hq : q n with
    | true =>
      simp only [hq, Option.some.injEq] at h
      subst h
      exact ⟨Nat.lt_succ_self _, hq, fun r' h1 h2 => absurd h1 (by omega)⟩
    | false =>
      simp only [hq] at h
      obtain ⟨hr, hqr, hlast⟩ := ih h
      refine ⟨by omega, hqr, fun r' h1 h2 => ?_⟩
      by_cases he : r' = n
      · exact he ▸ hq
      · exact hlast r' h1 (by omega)

theorem trainRate_highest {r : Nat} (h : d.trainRate p t = some r) : r ≤ d.rateCap p ∧ r ≤ t.rate.toNat ∧ d.reachesRate p t r = true ∧
    ∀ r', r < r' → r' ≤ d.rateCap p → r' ≤ t.rate.toNat → d.reachesRate p t r' = false := by
  obtain ⟨hr, hreach, hlast⟩ := find?_reverse_range h
  exact ⟨by omega, by omega, hreach, fun r' h1 h2 h3 => hlast r' h1 (by omega)⟩

theorem skew_of_reachesRate {r : Nat} (h : d.reachesRate p t r = true) : t.skew ≤ if r ≤ 3 then 20 else if r = 4 then 8 else 6 := by
  rw [Dev.reachesRate, Bool.and_eq_true, decide_eq_true_eq] at h
  exact h.1

theorem trainEnd_noRef (h : d.refOk p = false) : d.trainEnd p t = .on := by simp [Dev.trainEnd, h]

theorem trainEnd_noWidth (hr : d.refOk p = true) (hw : d.trainWidth p t = 0) : d.trainEnd p t = .down 9 := by
  simp [Dev.trainEnd, hr, hw]

theorem trainEnd_partner (hr : d.refOk p = true) (hw : d.trainWidth p t ≠ 0) (hm : d.portMode p ≠ 4) (hp : d.partnerOk p t = false) :
    d.trainEnd p t = .down 6 := by simp [Dev.trainEnd, hr, hw, hm, hp]

theorem trainEnd_slow {r : Nat} (hr : d.refOk p = true) (hw : d.trainWidth p t ≠ 0) (hm : d.portMode p = 3) (hp : d.partnerOk p t = true)
    (ht : d.trainRate p t = some r) (h5 : r < 5) : d.trainEnd p t = .down 5 := by simp [Dev.trainEnd, hr, hw, hm, hp, ht, h5]

/-- What a bring-up that gives a link has found. -/
structure Dev.linkFound (d : Dev) (p : Nat) (t : LinkTraining) (w r : Nat) : Prop where
  width : d.trainWidth p t = w
  some : w ≠ 0
  partner : d.partnerOk p t = true
  rate : d.trainRate p t = .some r
  fast : d.portMode p = 3 → 5 ≤ r

theorem trainEnd_link {r : Nat} (h : d.trainEnd p t = .link w r) : d.linkFound p t w r := by
  revert h
  fun_cases Dev.trainEnd d p t with
  | case1 => simp
  | case2 => simp
  | case3 => simp
  | case4 => simp
  | case5 => simp
  | case6 w' href hw hp r' ht h5 =>
    intro h
    simp only [TrainEnd.link.injEq] at h
    obtain ⟨rfl, rfl⟩ := h
    exact ⟨rfl, fun h0 => hw (.inl h0), by simpa using hp, ht, fun hm => by omega⟩

theorem trainEnd_down {c : Nat} (h : d.trainEnd p t = .down c) : c < 16 := by
  revert h
  fun_cases Dev.trainEnd d p t with
  | case1 => simp
  | case2 => simp; omega
  | case3 => simp; omega
  | case4 => simp
  | case5 => simp; omega
  | case6 => simp

/-- A link forms only where the mode takes the partner. -/
theorem mode_of_partnerOk (h : d.partnerOk p t = true) : d.portMode p = 1 ∨ d.portMode p = 2 ∨ d.portMode p = 3 ∨ d.portMode p = 4 := by
  unfold Dev.partnerOk at h
  split at h
  · exact .inl ‹_›
  · exact .inr (.inl ‹_›)
  · exact .inr (.inr (.inl ‹_›))
  · exact .inr (.inr (.inr ‹_›))
  · exact Bool.noConfusion h

theorem partnerOk_upstream (hm : d.portMode p = 1) (h2 : t.partner ≠ 2) (h3 : t.partner ≠ 3) : d.partnerOk p t = false := by
  simp only [Dev.partnerOk, hm, Bool.or_eq_false_iff, beq_eq_false_iff_ne]
  exact ⟨h2, h3⟩

theorem partnerOk_interSwitch (hm : d.portMode p = 3) (h3 : t.partner = 3) : d.partnerOk p t = true := by
  simp [Dev.partnerOk, hm, h3]

end

end Sys2Proof.Machine
end

section
namespace Sys2Proof.Machine

/-! A bring-up that fails (R245) -/

theorem portEvent_rd (d : Dev) (p : Nat) (r : Reg) : (d.portEvent p).rd r = d.rd r := (fcpEvent_keptBut (ks := []) d _ _).rd r (by simp)

/-- A port DOWN with its cause. -/
def Dev.downWith (c p : Nat) (d : Dev) : Prop := d.portState p = poDown ∧ d.fget CXP_LINK_STAT.CAUSE p = c

theorem trainDown_rd (d : Dev) (p c u : Nat) : (d.trainDown p c).rd ⟨.CXP_LINK_STAT, u, 0⟩ =
    ((d.fset CXP_LINK_STAT.STATE poDown p).fset CXP_LINK_STAT.CAUSE c p).rd ⟨.CXP_LINK_STAT, u, 0⟩ :=
  (portEvent_rd _ _ _).trans (tlkClear_rd_other _ _ (by simp))

theorem trainDown_downWith (d : Dev) (p : Nat) {c : Nat} (hc : c < 16) : (d.trainDown p c).downWith c p := by
  have hf : ∀ f : Fld, f.k = .CXP_LINK_STAT → (d.trainDown p c).fget f p =
      ((d.fset CXP_LINK_STAT.STATE poDown p).fset CXP_LINK_STAT.CAUSE c p).fget f p := by
    rintro ⟨k, lo, w⟩ rfl
    exact congrArg (bitsOf · lo w) (trainDown_rd d p c p)
  refine ⟨(hf CXP_LINK_STAT.STATE rfl).trans ?_, (hf CXP_LINK_STAT.CAUSE rfl).trans ?_⟩
  · simp [poDown, fget_fset_other, fget_fset_same]
  · simp [fget_fset_same, Nat.mod_eq_of_lt hc]

/-- What bring-up makes of a device: a link's, one that is down, or the same. -/
def Dev.trainDone (d : Dev) (p : Nat) (t : LinkTraining) : Dev :=
  if d.portState p ≠ poTraining ∨ d.portMode p = 4 then d
  else match d.trainEnd p t with
    | .link w r => (d.trained p w r t).comeUp p
    | .down c => d.trainDown p c
    | .on => d

def Dev.trainFailed (d : Dev) (p : Nat) (t : LinkTraining) : Dev :=
  if d.portState p ≠ poTraining ∨ !(d.refOk p) then d
  else match d.trainEnd p t with
    | .down c => d.trainDown p c
    | _ => (d.trainDown p (bitsOf d.free 0 4)).used

theorem downWith_of_shows {e x : Dev} {p c : Nat} (hx : ∀ f : Fld, f.k ∈ bringUpRegs → ∀ i, x.fget f i = e.fget f i)
    (h : e.downWith c p) : x.downWith c p :=
  ⟨(hx CXP_LINK_STAT.STATE (by simp [bringUpRegs]) p).trans h.1, (hx CXP_LINK_STAT.CAUSE (by simp [bringUpRegs]) p).trans h.2⟩

section
variable {s : State} {p : Fin 128} (t : LinkTraining) (h : s.dev.inReset = false)

theorem trainingDone_eq : exec (.trainingDone p t.toLaneTraining t.rate t.bypass t.reuse t.eqFailed t.lowMerit t.toPartnerKind t.toAltProtocol) s =
    onDev s fun d => d.trainDone p t := by
  unfold exec
  rfl

theorem trainingFailed_eq : exec (.trainingFailed p t) s = onDev s fun d => d.trainFailed p t := by
  unfold exec
  rfl

include h

theorem trainingDone_idle (hn : s.dev.portState p ≠ poTraining ∨ s.dev.portMode p = 4 ∨ s.dev.trainEnd p t = .on) :
    exec (.trainingDone p t.toLaneTraining t.rate t.bypass t.reuse t.eqFailed t.lowMerit t.toPartnerKind t.toAltProtocol) s = .next s := by
  rw [trainingDone_eq]
  refine onDev_idle h ?_
  by_cases hg : s.dev.portState p ≠ poTraining ∨ s.dev.portMode p = 4
  · exact if_pos hg
  · have hon : s.dev.trainEnd p t = .on := by tauto
    rw [Dev.trainDone, if_neg hg, hon]

theorem trainingFailed_idle (hn : s.dev.portState p ≠ poTraining ∨ s.dev.refOk p = false) :
    exec (.trainingFailed p t) s = .next s := by
  rw [trainingFailed_eq]
  exact onDev_idle h (if_pos (by simpa using hn))

theorem trainingDone_down (hs : s.dev.portState p = poTraining) (hm : s.dev.portMode p ≠ 4) {c : Nat}
    (he : s.dev.trainEnd p t = .down c) :
    Runs (.trainingDone p t.toLaneTraining t.rate t.bypass t.reuse t.eqFailed t.lowMerit t.toPartnerKind t.toAltProtocol) s
      (Dev.downWith c p) := by
  refine onDev_shows h (trainingDone_eq t) fun x hx => downWith_of_shows hx ?_
  rw [Dev.trainDone, if_neg (by simp [hs, hm]), he]
  exact trainDown_downWith _ _ (trainEnd_down he)

theorem trainingFailed_runs (hs : s.dev.portState p = poTraining) (hr : s.dev.refOk p = true) :
    Runs (.trainingFailed p t) s fun x => x.portState p = poDown ∧
      ∀ c, s.dev.trainEnd p t = .down c → x.fget CXP_LINK_STAT.CAUSE p = c := by
  have hg : ¬ (s.dev.portState p ≠ poTraining ∨ (!(s.dev.refOk p)) = true) := by simp [hs, hr]
  have hd : ∃ c, (s.dev.trainFailed p t).downWith c p ∧ ∀ c', s.dev.trainEnd p t = .down c' → c' = c := by
    rw [Dev.trainFailed, if_neg hg]
    split
    next c he =>
      refine ⟨c, trainDown_downWith _ _ (trainEnd_down he), fun c' h' => ?_⟩
      rw [he] at h'
      exact (TrainEnd.down.inj h').symm
    next hne =>
      obtain ⟨h1, h2⟩ := trainDown_downWith s.dev p (bitsOf_lt s.dev.free 0 4)
      exact ⟨_, ⟨(fget_used _ _ _ _).trans h1, (fget_used _ _ _ _).trans h2⟩, fun c' h' => absurd h' (hne c')⟩
  obtain ⟨c, hdc, hc⟩ := hd
  refine onDev_shows h (trainingFailed_eq t) fun x hx => ?_
  obtain ⟨h1, h2⟩ := downWith_of_shows hx hdc
  exact ⟨h1, fun c' h' => h2.trans (hc c' h').symm⟩

end

end Sys2Proof.Machine
end

section
namespace Sys2Proof.Machine

/-! A lane at the end of training (R176, R180 to R182, R184) -/

/-- What a lane shows and keeps of its training. -/
def Dev.laneView (l : Nat) (d : Dev) : Word × Word × LaneHid := (d.rd ⟨.LAN_TXEQ, l, 0⟩, d.rd ⟨.LAN_STATUS, l, 0⟩, d.lane l)

/-- The coefficients of a lane at the end of training. -/
def Dev.trainedCoeff (d : Dev) (rate : Nat) (t : LinkTraining) (l : Nat) : Dev :=
  if d.fon LAN_TXEQ.FORCE l then d.laneCoeff l rate
  else if d.reuses t rate l then match (d.lane l).stored with | some (_, a, b) => d.setCoeff l rate a b | none => d
  else if (d.lane l).eqRate = some rate then d
  else d.laneCoeff l rate

/-- The coefficients in use stored with their rate. -/
def Dev.coeffStored (d : Dev) (h : LaneHid) (rate l : Nat) : Dev :=
  d.setLane l { h with stored := some (rate, d.fget LAN_TXEQ.PRE l, d.fget LAN_TXEQ.POST l), eqRate := none }

/-- What training found of a lane. -/
def Dev.laneFound (d : Dev) (p : Nat) (t : LinkTraining) (k : Nat) : Dev :=
  let d := (d.fset LAN_STATUS.POL_INV (t.polInv.getLsbD k).toNat (4 * p + k)).fset LAN_STATUS.REVERSED t.reversed.toNat (4 * p + k)
  if t.lowMerit.getLsbD k then d.fset LAN_STATUS.EQ_FAIL 1 (4 * p + k) else d

theorem laneTrained_eq (d : Dev) (p rate : Nat) (t : LinkTraining) (k : Nat) : d.laneTrained p rate t k =
    ((d.trainedCoeff rate t (4 * p + k)).coeffStored (d.lane (4 * p + k)) rate (4 * p + k)).laneFound p t k := rfl

section
variable (d : Dev) (p rate : Nat) (t : LinkTraining) (l k : Nat)

theorem trainedCoeff_onlyRegs : OnlyRegs [⟨.LAN_TXEQ, l, 0⟩] d (d.trainedCoeff rate t l) := by
  unfold Dev.trainedCoeff
  split
  · exact laneCoeff_onlyRegs d l rate
  · split
    · split
      · exact setCoeff_onlyRegs d l rate _ _
      · exact onlyRegs_refl _ d
    · split
      · exact onlyRegs_refl _ d
      · exact laneCoeff_onlyRegs d l rate

/-- Coefficients agreed at the rate are those in use. -/
theorem trainedCoeff_agreed (hf : d.fon LAN_TXEQ.FORCE l = false) (hr : d.reuses t rate l = false)
    (he : (d.lane l).eqRate = some rate) : d.trainedCoeff rate t l = d := by
  simp [Dev.trainedCoeff, hf, hr, he]

/-- Without any agreed, a lane takes coefficients of its rate. -/
theorem trainedCoeff_setCoeff (he : (d.lane l).eqRate = none) : ∃ a b, d.trainedCoeff rate t l = d.setCoeff l rate a b := by
  unfold Dev.trainedCoeff
  split
  · exact laneCoeff_setCoeff d l rate
  · split
    next hr =>
      split
      · exact ⟨_, _, rfl⟩
      next hs => simp [Dev.reuses, hs] at hr
    · rw [if_neg (by simp [he])]
      exact laneCoeff_setCoeff d l rate

theorem setCoeff_low_pre {rate : Nat} (h : rate < 2) (a b : Nat) : (d.setCoeff l rate a b).fget LAN_TXEQ.PRE l = 0 := by
  rw [setCoeff_low _ _ _ _ h]
  simp [fget_fset_other, fget_fset_same]

theorem laneFound_rd {r : Reg} (hr : r ≠ ⟨.LAN_STATUS, 4 * p + k, 0⟩) : (d.laneFound p t k).rd r = d.rd r := by
  unfold Dev.laneFound
  dsimp only
  split
  · simp only [rd_fset, if_neg hr]
  · simp only [rd_fset, if_neg hr]

theorem laneFound_shown : (d.laneFound p t k).fget LAN_STATUS.POL_INV (4 * p + k) = (t.polInv.getLsbD k).toNat ∧
    (d.laneFound p t k).fget LAN_STATUS.REVERSED (4 * p + k) = t.reversed.toNat ∧
    (t.lowMerit.getLsbD k = true → (d.laneFound p t k).fget LAN_STATUS.EQ_FAIL (4 * p + k) = 1) := by
  have hb : ∀ b : Bool, b.toNat ≤ 1 := by decide
  unfold Dev.laneFound
  dsimp only
  split
  · simp [fget_fset_other, fget_fset_same, hb]
  next h => simp [fget_fset_other, fget_fset_same, hb, h]

theorem laneFound_lane (j : Nat) : (d.laneFound p t k).lane j = d.lane j := by
  unfold Dev.laneFound
  dsimp only
  split <;> simp only [lane_fset]

theorem laneTrained_rd_other {r : Reg} (h : (r.k ≠ .LAN_TXEQ ∧ r.k ≠ .LAN_STATUS) ∨ r.i ≠ 4 * p + k) :
    (d.laneTrained p rate t k).rd r = d.rd r := by
  have hne : ∀ c, c = .LAN_TXEQ ∨ c = .LAN_STATUS → r ≠ ⟨c, 4 * p + k, 0⟩ := by
    rintro c hc rfl
    rcases h with ⟨h1, h2⟩ | h
    · exact hc.elim h1 h2
    · exact h rfl
  rw [laneTrained_eq, laneFound_rd _ _ _ _ (hne _ (.inr rfl)), Dev.coeffStored, rd_setLane,
    (trainedCoeff_onlyRegs d rate t (4 * p + k)).2 r (by simpa using hne _ (.inl rfl))]

theorem lane_setLane_other {l j : Nat} (h : j ≠ l) (x : LaneHid) : (d.setLane l x).lane j = d.lane j := tab_get_set_other _ _ _ _ _ h

theorem laneTrained_view_other {j : Nat} (h : j ≠ k) :
    (d.laneTrained p rate t j).laneView (4 * p + k) = d.laneView (4 * p + k) := by
  have hl : (d.laneTrained p rate t j).lane (4 * p + k) = d.lane (4 * p + k) := by
    have hi : 4 * p + k ≠ 4 * p + j := by omega
    rw [laneTrained_eq, laneFound_lane, Dev.coeffStored, lane_setLane_other _ hi, Dev.lane,
      (trainedCoeff_onlyRegs d rate t (4 * p + j)).state Dev.lanes fun _ _ => rfl, Dev.lane]
  have hi : 4 * p + k ≠ 4 * p + j := by omega
  simp only [Dev.laneView, hl, laneTrained_rd_other d p rate t j (r := ⟨.LAN_TXEQ, 4 * p + k, 0⟩) (.inr hi),
    laneTrained_rd_other d p rate t j (r := ⟨.LAN_STATUS, 4 * p + k, 0⟩) (.inr hi)]

/-- What the end of training leaves of a lane. -/
structure Dev.laneDone (d : Dev) (p rate : Nat) (t : LinkTraining) (k : Nat) (x : Dev) : Prop where
  polInv : x.fget LAN_STATUS.POL_INV (4 * p + k) = (t.polInv.getLsbD k).toNat
  reversed : x.fget LAN_STATUS.REVERSED (4 * p + k) = t.reversed.toNat
  eqFail : t.lowMerit.getLsbD k = true → x.fget LAN_STATUS.EQ_FAIL (4 * p + k) = 1
  agreed : d.fon LAN_TXEQ.FORCE (4 * p + k) = false → d.reuses t rate (4 * p + k) = false →
    (d.lane (4 * p + k)).eqRate = some rate → x.rd ⟨.LAN_TXEQ, 4 * p + k, 0⟩ = d.rd ⟨.LAN_TXEQ, 4 * p + k, 0⟩
  low : rate < 2 → (d.lane (4 * p + k)).eqRate = none → x.fget LAN_TXEQ.PRE (4 * p + k) = 0

theorem laneTrained_done : d.laneDone p rate t k (d.laneTrained p rate t k) := by
  obtain ⟨hpol, hrev, heq⟩ := laneFound_shown ((d.trainedCoeff rate t (4 * p + k)).coeffStored (d.lane (4 * p + k)) rate (4 * p + k)) p t k
  have htx : (d.laneTrained p rate t k).rd ⟨.LAN_TXEQ, 4 * p + k, 0⟩ =
      (d.trainedCoeff rate t (4 * p + k)).rd ⟨.LAN_TXEQ, 4 * p + k, 0⟩ := by
    rw [laneTrained_eq, laneFound_rd _ _ _ _ (by simp), Dev.coeffStored, rd_setLane]
  refine ⟨hpol, hrev, heq, fun hf hr he => ?_, fun hlow he => ?_⟩
  · rw [htx, trainedCoeff_agreed d rate t _ hf hr he]
  · obtain ⟨a, b, hc⟩ := trainedCoeff_setCoeff d rate t (4 * p + k) he
    rw [Dev.fget, htx, hc]
    exact setCoeff_low_pre d _ hlow a b

theorem laneDone_congr {d d' x x' : Dev} {p rate k : Nat} {t : LinkTraining} (hd : d'.laneView (4 * p + k) = d.laneView (4 * p + k))
    (hx : x'.laneView (4 * p + k) = x.laneView (4 * p + k)) (h : d.laneDone p rate t k x) : d'.laneDone p rate t k x' := by
  simp only [Dev.laneView, Prod.mk.injEq] at hd hx
  obtain ⟨hdt, hds, hdl⟩ := hd
  obtain ⟨hxt, hxs, hxl⟩ := hx
  have hf : d'.fon LAN_TXEQ.FORCE (4 * p + k) = d.fon LAN_TXEQ.FORCE (4 * p + k) := by simp only [Dev.fon, Dev.fget, hdt]
  have hr : d'.reuses t rate (4 * p + k) = d.reuses t rate (4 * p + k) := by simp only [Dev.reuses, Dev.fon, Dev.fget, hdt, hdl]
  refine ⟨?_, ?_, fun hl => ?_, fun h1 h2 h3 => ?_, fun h1 h2 => ?_⟩
  · rw [Dev.fget, hxs]
    exact h.polInv
  · rw [Dev.fget, hxs]
    exact h.reversed
  · rw [Dev.fget, hxs]
    exact h.eqFail hl
  · rw [hxt, hdt]
    exact h.agreed (hf ▸ h1) (hr ▸ h2) (hdl ▸ h3)
  · rw [Dev.fget, hxt]
    exact h.low h1 (hdl ▸ h2)

end

/-! The figures of a trained link (R222, R245) -/

/-- The figures of a link, before its lanes are done. -/
def Dev.figured (d : Dev) (p w rate : Nat) (t : LinkTraining) : Dev :=
  let partner := if d.portMode p = 4 then 4 else t.partner.toNat
  let d := ((d.fset CXP_LINK_STAT.WIDTH w p).fset CXP_LINK_STAT.RATE rate p).fset CXP_LINK_STAT.PARTNER partner p
  let d := d.fset CXP_LINK_STAT.FLIT (d.flitOf p rate partner t.lo) p
  d.setLanePort p { d.lanePort p with cacheDev := t.cache }

theorem trained_eq (d : Dev) (p w rate : Nat) (t : LinkTraining) : d.trained p w rate t =
    (List.range ((d.figured p w rate t).cfgLanes p)).foldl (fun d k => d.laneTrained p rate t k) (d.figured p w rate t) := rfl

section
variable (d : Dev) (p w rate : Nat) (t : LinkTraining)

theorem figured_rd {r : Reg} (h : r.k ≠ .CXP_LINK_STAT) : (d.figured p w rate t).rd r = d.rd r := by
  have hne : r ≠ ⟨.CXP_LINK_STAT, p, 0⟩ := fun he => h (congrArg Reg.k he)
  unfold Dev.figured
  dsimp only
  simp only [rd_setLanePort, rd_fset, if_neg hne]

theorem figured_lane (l : Nat) : (d.figured p w rate t).lane l = d.lane l := by
  have hl : ∀ (e : Dev) (x : PortHid), (e.setLanePort p x).lane l = e.lane l := fun _ _ => rfl
  unfold Dev.figured
  dsimp only
  simp only [hl, lane_fset]

theorem figured_cfgLanes : (d.figured p w rate t).cfgLanes p = d.cfgLanes p := by
  unfold Dev.cfgLanes Dev.configured Dev.fon Dev.fget
  simp only [figured_rd d p w rate t (r := ⟨.CXP_PORT_CFG, p, 0⟩) (by simp)]

theorem figured_view (l : Nat) : (d.figured p w rate t).laneView l = d.laneView l := by
  simp only [Dev.laneView, figured_lane, figured_rd d p w rate t (r := ⟨.LAN_TXEQ, l, 0⟩) (by simp),
    figured_rd d p w rate t (r := ⟨.LAN_STATUS, l, 0⟩) (by simp)]

theorem trained_rd {r : Reg} (h1 : r.k ≠ .LAN_TXEQ) (h2 : r.k ≠ .LAN_STATUS) :
    (d.trained p w rate t).rd r = (d.figured p w rate t).rd r :=
  foldl_keeps (·.rd r) _ (fun e k => laneTrained_rd_other e p rate t k (.inl ⟨h1, h2⟩)) _ _

theorem trained_cfgLanes : (d.trained p w rate t).cfgLanes p = d.cfgLanes p := by
  have h := trained_rd d p w rate t (r := ⟨.CXP_PORT_CFG, p, 0⟩) (by simp) (by simp)
  rw [← figured_cfgLanes d p w rate t]
  unfold Dev.cfgLanes Dev.configured Dev.fon Dev.fget
  simp only [h]

theorem trained_lane {k : Nat} (hk : k < d.cfgLanes p) : d.laneDone p rate t k (d.trained p w rate t) := by
  obtain ⟨e, he, hf⟩ := foldl_once (Dev.laneView (4 * p + k)) (fun d j => d.laneTrained p rate t j) (ks := List.range (d.cfgLanes p))
    (k := k) List.nodup_range (List.mem_range.mpr hk) (fun e j hj => laneTrained_view_other e p rate t k hj) (d.figured p w rate t)
  rw [trained_eq, figured_cfgLanes]
  exact laneDone_congr ((he.trans (figured_view d p w rate t _)).symm) hf (laneTrained_done e p rate t k)

/-- R222. -/
def flitCode (d : Dev) (p rate : Nat) (t : LinkTraining) : Nat :=
  if t.partner = 1 ∨ t.partner = 5 then (if rate ≤ 4 then 0 else 2)
  else if rate ≤ 4 then 1 else if t.lo = true ∧ d.fon CXP_PORT_CFG.FLIT_LO p = true then 3 else 2

theorem flitOf_eq (hm : d.portMode p ≠ 4) : d.flitOf p rate t.partner.toNat t.lo = flitCode d p rate t := by
  have hb : ∀ n : Nat, n < 8 → (t.partner.toNat = n ↔ t.partner = BitVec.ofNat 3 n) := fun n hn => by
    rw [BitVec.toNat_eq, BitVec.toNat_ofNat, Nat.mod_eq_of_lt hn]
  simp only [Dev.flitOf, flitCode, if_neg hm, hb 1 (by omega), hb 5 (by omega), Bool.and_eq_true]
  rfl

theorem flitCode_lt : flitCode d p rate t < 4 := by
  unfold flitCode
  split_ifs <;> omega

/-- What CXP_LINK_STAT shows of a link. -/
structure Dev.linkIs (d : Dev) (p w r : Nat) (t : LinkTraining) (x : Dev) : Prop where
  width : x.fget CXP_LINK_STAT.WIDTH p = w
  rate : x.fget CXP_LINK_STAT.RATE p = r
  partner : x.fget CXP_LINK_STAT.PARTNER p = t.partner.toNat
  flit : x.fget CXP_LINK_STAT.FLIT p = flitCode d p r t

theorem figured_linkIs (hm : d.portMode p ≠ 4) (hw : w < 32) (hr : rate < 8) : d.linkIs p w rate t (d.figured p w rate t) := by
  have hp : t.partner.toNat < 8 := t.partner.isLt
  have hfl : ∀ e : Dev, e.rd ⟨.CXP_PORT_CFG, p, 0⟩ = d.rd ⟨.CXP_PORT_CFG, p, 0⟩ → e.flitOf p rate t.partner.toNat t.lo = flitCode d p rate t := by
    intro e he
    rw [← flitOf_eq d p rate t hm]
    unfold Dev.flitOf Dev.portMode Dev.fon Dev.fget
    simp only [he]
  unfold Dev.figured
  dsimp only
  rw [if_neg hm, hfl _ (by simp only [rd_fset]; simp)]
  have hf4 := Nat.mod_eq_of_lt (flitCode_lt d p rate t)
  refine ⟨?_, ?_, ?_, ?_⟩
  · simp [fget_fset_other, fget_fset_same, Nat.mod_eq_of_lt hw]
  · simp [fget_fset_other, fget_fset_same, Nat.mod_eq_of_lt hr]
  · simp [fget_fset_other, fget_fset_same, hp]
  · simp [fget_fset_same, hf4]

end

end Sys2Proof.Machine
end

section
namespace Sys2Proof.Machine

/-! A link that comes up (R178, R222, R241, R245) -/

/-- The logical lane that rides on lane `k` of `n`. -/
def logicalOf (n : Nat) (reversed : Bool) (k : Nat) : Nat := if reversed then n - 1 - k else k

/-- A lane of a link that comes up, active below the link's width. -/
def Dev.laneUp (p n : Nat) (reversed : Bool) (d : Dev) (k : Nat) : Dev :=
  if logicalOf n reversed k < d.fget CXP_LINK_STAT.WIDTH p then
    (((d.fset LAN_STATUS.ACTIVE 1 (4 * p + k)).fset LAN_STATUS.RATE (d.fget CXP_LINK_STAT.RATE p) (4 * p + k)).fset
      LAN_STATUS.LOGICAL (logicalOf n reversed k) (4 * p + k)).fset LAN_STATUS.REVERSED reversed.toNat (4 * p + k)
  else d

theorem lanesUp_eq (d : Dev) (p : Nat) : d.lanesUp p =
    (List.range (d.cfgLanes p)).foldl (Dev.laneUp p (d.cfgLanes p) (d.fon LAN_STATUS.REVERSED (4 * p))) d := rfl

/-- What a lane and its port's link show. -/
def Dev.upView (p l : Nat) (d : Dev) : Word × Word := (d.rd ⟨.LAN_STATUS, l, 0⟩, d.rd ⟨.CXP_LINK_STAT, p, 0⟩)

section
variable (d : Dev) (p n : Nat) (reversed : Bool) (k : Nat)

theorem laneUp_rd {r : Reg} (h : r ≠ ⟨.LAN_STATUS, 4 * p + k, 0⟩) : (d.laneUp p n reversed k).rd r = d.rd r := by
  unfold Dev.laneUp
  split
  · simp only [rd_fset, if_neg h]
  · rfl

/-- A lane below the width is active; what training found of it stays. -/
structure Dev.laneIsUp (d : Dev) (p n : Nat) (reversed : Bool) (k : Nat) (x : Dev) : Prop where
  active : logicalOf n reversed k < d.fget CXP_LINK_STAT.WIDTH p → x.fget LAN_STATUS.ACTIVE (4 * p + k) = 1 ∧
    x.fget LAN_STATUS.LOGICAL (4 * p + k) = logicalOf n reversed k ∧
    x.fget LAN_STATUS.RATE (4 * p + k) = d.fget CXP_LINK_STAT.RATE p
  polInv : x.fget LAN_STATUS.POL_INV (4 * p + k) = d.fget LAN_STATUS.POL_INV (4 * p + k)
  eqFail : x.fget LAN_STATUS.EQ_FAIL (4 * p + k) = d.fget LAN_STATUS.EQ_FAIL (4 * p + k)

theorem laneUp_isUp : d.laneIsUp p n reversed k (d.laneUp p n reversed k) := by
  unfold Dev.laneUp
  split
  next hk =>
    have hl : logicalOf n reversed k < 32 := hk.trans (fget_lt _ _ _ _)
    have hr : d.fget CXP_LINK_STAT.RATE p < 8 := fget_lt _ _ _ _
    refine ⟨fun _ => ⟨?_, ?_, ?_⟩, ?_, ?_⟩ <;> simp [fget_fset_other, fget_fset_same, hl, hr]
  next hk => exact ⟨fun h => absurd h hk, rfl, rfl⟩

theorem laneIsUp_congr {d d' x x' : Dev} {p n k : Nat} {reversed : Bool} (hd : d'.upView p (4 * p + k) = d.upView p (4 * p + k))
    (hx : x'.upView p (4 * p + k) = x.upView p (4 * p + k)) (h : d.laneIsUp p n reversed k x) : d'.laneIsUp p n reversed k x' := by
  obtain ⟨hds, hdl⟩ := Prod.mk.inj hd
  obtain ⟨hxs, -⟩ := Prod.mk.inj hx
  obtain ⟨ha, hp, he⟩ := h
  constructor <;> simp only [Dev.fget, hds, hdl, hxs]
  · exact ha
  · exact hp
  · exact he

theorem lanesUp_rd {r : Reg} (h : r.k ≠ .LAN_STATUS) : (d.lanesUp p).rd r = d.rd r :=
  lanesUp_eq d p ▸ foldl_keeps (·.rd r) _ (fun e k => laneUp_rd e p _ _ k fun he => h (congrArg Reg.k he)) _ d

theorem lanesUp_isUp {k : Nat} (hk : k < d.cfgLanes p) :
    d.laneIsUp p (d.cfgLanes p) (d.fon LAN_STATUS.REVERSED (4 * p)) k (d.lanesUp p) := by
  obtain ⟨e, he, hf⟩ := foldl_once (Dev.upView p (4 * p + k)) (Dev.laneUp p (d.cfgLanes p) (d.fon LAN_STATUS.REVERSED (4 * p)))
    List.nodup_range (List.mem_range.mpr hk) (fun e j hj => by
      have hi : 4 * p + k ≠ 4 * p + j := by omega
      simp only [Dev.upView, laneUp_rd e p _ _ j (r := ⟨.LAN_STATUS, 4 * p + k, 0⟩) (by simpa using hi),
        laneUp_rd e p _ _ j (r := ⟨.CXP_LINK_STAT, p, 0⟩) (by simp)]) d
  exact laneIsUp_congr he.symm hf (laneUp_isUp e p _ _ k)

end

/-- The port UP, its lanes active, its direction full, and whether it is narrower or slower than configured. -/
def Dev.upShown (d : Dev) (p : Nat) : Dev :=
  let w := d.fget CXP_LINK_STAT.WIDTH p
  let d := (d.fset CXP_LINK_STAT.STATE poUp p).lanesUp p
  let d := d.fallowFull p
  let d := d.setLanePort p { d.lanePort p with lastFlit := d.now }
  d.fset SCH_PORT_STAT.DEGRADED
    (d.carriesRidge p && (decide (w < d.cfgLanes p) || decide (d.fget CXP_LINK_STAT.RATE p < d.fget CXP_PORT_CFG.RATE p))).toNat p

/-- IDE starts where it is enabled (R241). -/
def Dev.ideStarts (d : Dev) (p : Nat) : Dev :=
  if d.fon CXP_IDE_CFG.EN p then
    if d.portMode p = 2 ∨ d.portMode p = 3 then (d.fset CXP_IDE_CFG.STREAM 2 p).drawKeys p else d.fset CXP_IDE_CFG.STREAM 1 p
  else d

/-- A downstream port shows that its link changed. -/
def Dev.linkShown (d : Dev) (p : Nat) : Dev := if d.portMode p = 2 then d.fset CXP_HP_STAT.DLLSC 1 p else d

theorem comeUp_eq (d : Dev) (p : Nat) : d.comeUp p = (((d.upShown p).ideStarts p).linkShown p).portEvent p := rfl

section
variable (d : Dev) (p : Nat)

theorem fallowFull_rd {r : Reg} (h : r.k ≠ .LAN_FALLOW_STAT) : (d.fallowFull p).rd r = d.rd r := by
  unfold Dev.fallowFull
  rw [(fallowTo_onlyRegs _ p 0 _).2 r (by simpa [fallowRegs] using fun he => h (congrArg Reg.k he)), rd_setLanePort]

theorem upShown_rd {r : Reg} (h1 : r.k ≠ .LAN_FALLOW_STAT) (h2 : r.k ≠ .SCH_PORT_STAT) :
    (d.upShown p).rd r = ((d.fset CXP_LINK_STAT.STATE poUp p).lanesUp p).rd r := by
  unfold Dev.upShown
  dsimp only
  rw [rd_fset_other _ _ _ _ _ _ fun h => h2 (congrArg Reg.k h), rd_setLanePort, fallowFull_rd _ _ h1]

theorem drawKeys_rd (r : Reg) : (d.drawKeys p).rd r = d.rd r := rd_congr rfl rfl r

theorem ideStarts_rd {r : Reg} (h : r.k ≠ .CXP_IDE_CFG) : (d.ideStarts p).rd r = d.rd r := by
  have hf : ∀ n, (d.fset CXP_IDE_CFG.STREAM n p).rd r = d.rd r := fun n => rd_fset_other _ _ _ _ _ _ fun he => h (congrArg Reg.k he)
  unfold Dev.ideStarts
  split_ifs
  · rw [drawKeys_rd, hf]
  · exact hf 1
  · rfl

theorem ideStarts_stream (he : d.fon CXP_IDE_CFG.EN p = true) : (d.ideStarts p).fget CXP_IDE_CFG.STREAM p =
    if d.portMode p = 2 ∨ d.portMode p = 3 then 2 else 1 := by
  have hd : ∀ e : Dev, (e.drawKeys p).fget CXP_IDE_CFG.STREAM p = e.fget CXP_IDE_CFG.STREAM p := fun e => congrArg (bitsOf · 4 2) (drawKeys_rd e p _)
  rw [Dev.ideStarts, if_pos he]
  split_ifs
  · exact (hd _).trans (fget_fset_same d CXP_IDE_CFG.STREAM 2 _ _ (by decide))
  · exact fget_fset_same d CXP_IDE_CFG.STREAM 1 _ _ (by decide)

theorem linkShown_rd {r : Reg} (h : r.k ≠ .CXP_HP_STAT) : (d.linkShown p).rd r = d.rd r := by
  unfold Dev.linkShown
  split
  · exact rd_fset_other _ _ _ _ _ _ fun he => h (congrArg Reg.k he)
  · rfl

theorem comeUp_rd {r : Reg} (h1 : r.k ≠ .LAN_FALLOW_STAT) (h2 : r.k ≠ .SCH_PORT_STAT) (h3 : r.k ≠ .CXP_IDE_CFG) (h4 : r.k ≠ .CXP_HP_STAT) :
    (d.comeUp p).rd r = ((d.fset CXP_LINK_STAT.STATE poUp p).lanesUp p).rd r := by
  rw [comeUp_eq, portEvent_rd, linkShown_rd _ _ h4, ideStarts_rd _ _ h3, upShown_rd _ _ h1 h2]

theorem comeUp_rd_other {r : Reg} (h1 : r.k ≠ .LAN_FALLOW_STAT) (h2 : r.k ≠ .SCH_PORT_STAT) (h3 : r.k ≠ .CXP_IDE_CFG) (h4 : r.k ≠ .CXP_HP_STAT)
    (h5 : r.k ≠ .LAN_STATUS) : (d.comeUp p).rd r = (d.fset CXP_LINK_STAT.STATE poUp p).rd r := by
  rw [comeUp_rd d p h1 h2 h3 h4, lanesUp_rd _ _ h5]

theorem comeUp_stream (he : d.fon CXP_IDE_CFG.EN p = true) : (d.comeUp p).fget CXP_IDE_CFG.STREAM p =
    if d.portMode p = 2 ∨ d.portMode p = 3 then 2 else 1 := by
  have hr : ∀ k, k ≠ .LAN_FALLOW_STAT → k ≠ .SCH_PORT_STAT → k ≠ .LAN_STATUS → k ≠ .CXP_LINK_STAT →
      (d.upShown p).rd ⟨k, p, 0⟩ = d.rd ⟨k, p, 0⟩ := fun k h1 h2 h3 h4 => by
    rw [upShown_rd _ _ h1 h2, lanesUp_rd _ _ h3, rd_fset_other _ _ _ _ _ _ (by simpa using h4)]
  have hen : (d.upShown p).fon CXP_IDE_CFG.EN p = true :=
    (congrArg (fun v => bitsOf v 0 1 != 0) (hr .CXP_IDE_CFG (by simp) (by simp) (by simp) (by simp))).trans he
  have hm : (d.upShown p).portMode p = d.portMode p := by
    unfold Dev.portMode Dev.fget
    rw [hr .CXP_PORT_CFG (by simp) (by simp) (by simp) (by simp)]
  have hs : (d.comeUp p).fget CXP_IDE_CFG.STREAM p = ((d.upShown p).ideStarts p).fget CXP_IDE_CFG.STREAM p := by
    rw [comeUp_eq, Dev.fget, portEvent_rd, linkShown_rd _ _ (by simp), Dev.fget]
  rw [hs, ideStarts_stream _ _ hen, hm]

end

end Sys2Proof.Machine
end

section
namespace Sys2Proof.Machine

/-- What a bring-up that gives a link comes to. -/
structure Dev.linkUp (d : Dev) (p w r : Nat) (t : LinkTraining) (x : Dev) : Prop where
  state : x.portState p = poUp
  link : d.linkIs p w r t x
  active : ∀ k < d.cfgLanes p, logicalOf (d.cfgLanes p) t.reversed k < w → x.fget LAN_STATUS.ACTIVE (4 * p + k) = 1 ∧
    x.fget LAN_STATUS.LOGICAL (4 * p + k) = logicalOf (d.cfgLanes p) t.reversed k ∧ x.fget LAN_STATUS.RATE (4 * p + k) = r
  polInv : ∀ k < d.cfgLanes p, x.fget LAN_STATUS.POL_INV (4 * p + k) = (t.polInv.getLsbD k).toNat
  eqFail : ∀ k < d.cfgLanes p, t.lowMerit.getLsbD k = true → x.fget LAN_STATUS.EQ_FAIL (4 * p + k) = 1
  agreed : ∀ k < d.cfgLanes p, d.fon LAN_TXEQ.FORCE (4 * p + k) = false → d.reuses t r (4 * p + k) = false →
    (d.lane (4 * p + k)).eqRate = some r → ∀ f : Fld, f.k = .LAN_TXEQ → x.fget f (4 * p + k) = d.fget f (4 * p + k)
  low : ∀ k < d.cfgLanes p, r < 2 → (d.lane (4 * p + k)).eqRate = none → x.fget LAN_TXEQ.PRE (4 * p + k) = 0
  stream : d.fon CXP_IDE_CFG.EN p = true → x.fget CXP_IDE_CFG.STREAM p = if d.portMode p = 2 ∨ d.portMode p = 3 then 2 else 1

section
variable {d : Dev} {p w r : Nat} {t : LinkTraining}

/-- The figures are the fields above the state. -/
theorem linkIs_congr {x y : Dev} (h : d.linkIs p w r t x)
    (hf : ∀ f : Fld, f.k = .CXP_LINK_STAT → 3 ≤ f.lo → y.fget f p = x.fget f p) : d.linkIs p w r t y := by
  obtain ⟨hw, hr, hp, hl⟩ := h
  exact ⟨(hf CXP_LINK_STAT.WIDTH rfl (by decide)).trans hw, (hf CXP_LINK_STAT.RATE rfl (by decide)).trans hr,
    (hf CXP_LINK_STAT.PARTNER rfl (by decide)).trans hp, (hf CXP_LINK_STAT.FLIT rfl (by decide)).trans hl⟩

theorem linkUp_of_shows {x y : Dev} (hx : ∀ f : Fld, f.k ∈ bringUpRegs → ∀ i, y.fget f i = x.fget f i) (h : d.linkUp p w r t x) :
    d.linkUp p w r t y := by
  have hl := fun (f : Fld) (hf : f.k = .LAN_STATUS) i => hx f (by simp [hf, bringUpRegs]) i
  have hp := fun (f : Fld) (hf : f.k = .CXP_LINK_STAT) i => hx f (by simp [hf, bringUpRegs]) i
  have ht := fun (f : Fld) (hf : f.k = .LAN_TXEQ) i => hx f (by simp [hf, bringUpRegs]) i
  refine ⟨(hp CXP_LINK_STAT.STATE rfl p).trans h.state, linkIs_congr h.link fun f hf _ => hp f hf p, fun k hk hw => ?_,
    fun k hk => (hl _ rfl _).trans (h.polInv k hk), fun k hk hm => (hl _ rfl _).trans (h.eqFail k hk hm),
    fun k hk h1 h2 h3 f hf => (ht f hf _).trans (h.agreed k hk h1 h2 h3 f hf), fun k hk h1 h2 => (ht _ rfl _).trans (h.low k hk h1 h2),
    fun he => (hx CXP_IDE_CFG.STREAM (by simp [bringUpRegs]) p).trans (h.stream he)⟩
  obtain ⟨ha, hlg, hr⟩ := h.active k hk hw
  exact ⟨(hl _ rfl _).trans ha, (hl _ rfl _).trans hlg, (hl _ rfl _).trans hr⟩

/-- The trained port, UP before its lanes are. -/
def Dev.upFirst (d : Dev) (p w r : Nat) (t : LinkTraining) : Dev := (d.trained p w r t).fset CXP_LINK_STAT.STATE poUp p

theorem upFirst_rd {g : Reg} (h : g.k ≠ .CXP_LINK_STAT) : (d.upFirst p w r t).rd g = (d.trained p w r t).rd g :=
  rd_fset_other _ _ _ _ _ _ fun he => h (congrArg Reg.k he)

theorem upFirst_linkIs (hm : d.portMode p ≠ 4) (hw : w < 32) (hr : r < 8) : d.linkIs p w r t (d.upFirst p w r t) := by
  refine linkIs_congr (figured_linkIs d p w r t hm hw hr) fun f hf h3 => ?_
  have hst : (d.upFirst p w r t).fget f p = (d.trained p w r t).fget f p :=
    fget_fset_other _ CXP_LINK_STAT.STATE f _ _ _ _ _ (.inr (.inr (.inr (.inl h3))))
  rw [hst, Dev.fget, hf, trained_rd d p w r t (by simp) (by simp), Dev.fget, hf]

theorem upFirst_cfgLanes : (d.upFirst p w r t).cfgLanes p = d.cfgLanes p := by
  rw [← trained_cfgLanes d p w r t]
  unfold Dev.cfgLanes Dev.configured Dev.fon Dev.fget
  simp only [upFirst_rd (d := d) (p := p) (w := w) (r := r) (t := t) (g := ⟨.CXP_PORT_CFG, p, 0⟩) (by simp)]

/-- The order of a link's lanes is the one that training found. -/
theorem upFirst_reversed (hn : 0 < d.cfgLanes p) : (d.upFirst p w r t).fon LAN_STATUS.REVERSED (4 * p) = t.reversed := by
  have h := (trained_lane d p w r t hn).reversed
  rw [Dev.fon, Dev.fget, upFirst_rd (by simp)]
  change ((d.trained p w r t).fget LAN_STATUS.REVERSED (4 * p + 0) != 0) = t.reversed
  rw [h]
  cases t.reversed <;> rfl

theorem upFirst_lane {k : Nat} (hk : k < d.cfgLanes p) :
    (d.upFirst p w r t).laneIsUp p (d.cfgLanes p) t.reversed k ((d.upFirst p w r t).lanesUp p) := by
  have h := lanesUp_isUp (d.upFirst p w r t) p (k := k) (upFirst_cfgLanes.symm ▸ hk)
  rwa [upFirst_cfgLanes, upFirst_reversed (by omega)] at h

theorem comeUp_lane_fget {f : Fld} (hf : f.k = .LAN_STATUS) (l : Nat) :
    ((d.trained p w r t).comeUp p).fget f l = ((d.upFirst p w r t).lanesUp p).fget f l := by
  rw [Dev.fget, comeUp_rd _ _ (by simp [hf]) (by simp [hf]) (by simp [hf]) (by simp [hf]), Dev.fget, Dev.upFirst]

theorem comeUp_coeff_rd (l : Nat) :
    ((d.trained p w r t).comeUp p).rd ⟨.LAN_TXEQ, l, 0⟩ = (d.trained p w r t).rd ⟨.LAN_TXEQ, l, 0⟩ := by
  rw [comeUp_rd_other _ _ (by simp) (by simp) (by simp) (by simp) (by simp), rd_fset_other _ _ _ _ _ _ (by simp)]

theorem comeUp_link_fget {f : Fld} (hf : f.k = .CXP_LINK_STAT) :
    ((d.trained p w r t).comeUp p).fget f p = (d.upFirst p w r t).fget f p := by
  rw [Dev.fget, comeUp_rd_other _ _ (by simp [hf]) (by simp [hf]) (by simp [hf]) (by simp [hf]) (by simp [hf]), Dev.fget, Dev.upFirst]

theorem trained_port_fget {f : Fld} (h : f.k = .CXP_PORT_CFG ∨ f.k = .CXP_IDE_CFG) : (d.trained p w r t).fget f p = d.fget f p := by
  have h1 : f.k ≠ .CXP_LINK_STAT ∧ f.k ≠ .LAN_TXEQ ∧ f.k ≠ .LAN_STATUS := by rcases h with h | h <;> simp [h]
  obtain ⟨hl, ht, hs⟩ := h1
  rw [Dev.fget, trained_rd d p w r t ht hs, figured_rd d p w r t hl, Dev.fget]

theorem comeUp_linkUp (hm : d.portMode p ≠ 4) (hw : w < 32) (hr : r < 8) : d.linkUp p w r t ((d.trained p w r t).comeUp p) := by
  have hlink := upFirst_linkIs (t := t) hm hw hr
  refine ⟨?_, linkIs_congr hlink fun f hf _ => comeUp_link_fget hf, fun k hk hkw => ?_, fun k hk => ?_, fun k hk hl => ?_,
    fun k hk h1 h2 h3 f hf => ?_, fun k hk h1 h2 => ?_, fun he => ?_⟩
  · exact (comeUp_link_fget rfl).trans (fget_fset_same _ CXP_LINK_STAT.STATE _ _ _ (by decide))
  · obtain ⟨ha, hlg, hra⟩ := (upFirst_lane (t := t) hk).active (hlink.width.symm ▸ hkw)
    exact ⟨(comeUp_lane_fget rfl _).trans ha, (comeUp_lane_fget rfl _).trans hlg,
      (comeUp_lane_fget rfl _).trans (hra.trans hlink.rate)⟩
  · refine (comeUp_lane_fget rfl _).trans ((upFirst_lane hk).polInv.trans ?_)
    rw [Dev.fget, upFirst_rd (by simp)]
    exact (trained_lane d p w r t hk).polInv
  · refine (comeUp_lane_fget rfl _).trans ((upFirst_lane hk).eqFail.trans ?_)
    rw [Dev.fget, upFirst_rd (by simp)]
    exact (trained_lane d p w r t hk).eqFail hl
  · rw [Dev.fget, hf, comeUp_coeff_rd, (trained_lane d p w r t hk).agreed h1 h2 h3, Dev.fget, hf]
  · rw [Dev.fget, comeUp_coeff_rd]
    exact (trained_lane d p w r t hk).low h1 h2
  · have hmode : (d.trained p w r t).portMode p = d.portMode p := trained_port_fget (.inl rfl)
    rw [comeUp_stream _ _ ((congrArg (· != 0) (trained_port_fget (.inr rfl))).trans he), hmode]

end

section
variable {s : State} {p : Fin 128} (t : LinkTraining) (h : s.dev.inReset = false)
include h

theorem trainingDone_link (hs : s.dev.portState p = poTraining) (hm : s.dev.portMode p ≠ 4) {w r : Nat}
    (he : s.dev.trainEnd p t = .link w r) :
    Runs (.trainingDone p t.toLaneTraining t.rate t.bypass t.reuse t.eqFailed t.lowMerit t.toPartnerKind t.toAltProtocol) s
      (s.dev.linkUp p w r t) := by
  refine onDev_shows h (trainingDone_eq t) fun x hx => linkUp_of_shows hx ?_
  rw [Dev.trainDone, if_neg (by simp [hs, hm]), he]
  obtain ⟨hwd, h0, -, hrate, -⟩ := trainEnd_link he
  obtain ⟨hmem, -, -⟩ := trainWidth_widest (hwd.symm ▸ h0)
  rw [hwd] at hmem
  have hw : w < 32 := by
    simp only [List.mem_cons, List.not_mem_nil, or_false] at hmem
    omega
  have hr : r < 8 := (trainRate_highest hrate).2.1.trans_lt t.rate.isLt
  exact comeUp_linkUp hm hw hr

end

end Sys2Proof.Machine
end

section
namespace Sys2Proof.Machine

/-- The link that training comes to: the widest that trains, at the highest rate that it reaches. -/
theorem trainEnd_link_spec {d : Dev} {p w r : Nat} {t : LinkTraining} (h : d.trainEnd p t = .link w r) :
    w ∈ [1, 2, 4, 8, 16] ∧ w ≤ d.cfgLanes p ∧ (∀ k < w, d.logicalTrains p t k = true) ∧
      (∀ w' ∈ [2, 4, 8, 16], w < w' → w' ≤ d.cfgLanes p → ∃ k < w', d.logicalTrains p t k = false) ∧
      r ≤ d.rateCap p ∧ r ≤ t.rate.toNat ∧ t.skew ≤ (if r ≤ 3 then 20 else if r = 4 then 8 else 6) ∧
      (∀ r', r < r' → r' ≤ d.rateCap p → r' ≤ t.rate.toNat → d.reachesRate p t r' = false) ∧ (d.portMode p = 3 → 5 ≤ r) := by
  obtain ⟨hwd, h0, -, hrate, hfast⟩ := trainEnd_link h
  subst hwd
  obtain ⟨hmem, hfits, hwidest⟩ := trainWidth_widest h0
  obtain ⟨hn, hall⟩ := widthTrains_iff.mp hfits
  obtain ⟨hcap, hpart, hreach, hhighest⟩ := trainRate_highest hrate
  exact ⟨hmem, hn, hall, fun w' hw' hlt hle => lane_of_not_widthTrains (hwidest w' hw' hlt) hle, hcap, hpart, skew_of_reachesRate hreach,
    hhighest, hfast⟩

/-- IDE of an upstream port waits for its host's key; the other ports of a link draw their own (R241). -/
theorem ideCode_of_mode {m : Nat} (h : m = 1 ∨ m = 2 ∨ m = 3 ∨ m = 4) (h4 : m ≠ 4) :
    (if m = 1 then 1 else 2) = if m = 2 ∨ m = 3 then 2 else 1 := by split_ifs <;> omega

/-- Settles O42, a command at a time. -/
theorem portBringUp : Obligations.PortBringUp := by
  intro s p q h d st mode trains down
  refine ⟨partnerDetected_runs h, partnerDetected_idle h, receiverDetection_runs h, receiverDetection_idle h, fun t => ?_,
    refclkRestored_ends h, refclkLoss_runs h⟩
  intro ends n order done
  refine ⟨trainEnd_noRef, fun hr hw => trainEnd_noWidth hr (trainWidth_none fun w hm => not_widthTrains (hw w hm)),
    fun hr hw hm h2 h3 => trainEnd_partner hr hw (by omega) (partnerOk_upstream hm h2 h3),
    fun hr hw hm h3 r ht h5 => trainEnd_slow hr hw hm (partnerOk_interSwitch hm h3) ht h5,
    fun w r => trainEnd_link_spec, trainingDone_idle t h, trainingFailed_idle t h, fun hs hm c => trainingDone_down t h hs hm,
    trainingFailed_runs t h, fun hs hm w r he => ?_⟩
  obtain ⟨x, hx, hup⟩ := trainingDone_link t h hs hm he
  refine ⟨x, hx, hup.state, hup.link.width, hup.link.rate, hup.link.partner, hup.link.flit, hup.active, fun k hk => ?_, fun hen => ?_⟩
  · refine ⟨hup.polInv k hk, hup.eqFail k hk, fun _ hf hre heq c hc => ?_, hup.low k hk⟩
    refine hup.agreed k hk hf hre heq c ?_
    simp only [List.mem_cons, List.not_mem_nil, or_false] at hc
    rcases hc with rfl | rfl | rfl <;> rfl
  · rw [hup.stream hen]
    exact (ideCode_of_mode (mode_of_partnerOk (trainEnd_link he).partner) hm).symm

end Sys2Proof.Machine
end
